-- ==== Sys2Proof/Word.lean ====
section
/-! DEFINITION. The word types of the Civolor C4 model (spec/00 R5, R6: little-endian bytes, 64-bit registers). -/

namespace Sys2Proof

/-- One byte of any memory. -/
abbrev Byte := BitVec 8

/-- A 16-bit status or fault code (R12). -/
abbrev Code := BitVec 16

/-- A 32-bit lane word. -/
abbrev W32 := BitVec 32

/-- A 64-bit register (R6). -/
abbrev W64 := BitVec 64

end Sys2Proof
end

