-- ==== Sys2Proof/Syntax.lean ====
section
/-! DEFINITION. The commands of the block: one constructor per row of spec/opcode_table.json, with its operands. No row of the
table has bits; an operand is what tells one occurrence of the row from another: the tile, port, queue or panel it happens at,
a host command packet, or what arrives from outside. -/

namespace Sys2Proof

/-- A host command as the decoder takes it (R422): the issuing function (0 the PF, p + 1 the VF of panel p), the submission
queue, the header fields after OPCODE, and the 48 parameter bytes (byte 0 in bits 7..0). -/
structure Cmd where
  fn : Nat := 0
  sq : Nat := 0
  flags : BitVec 16 := 0
  panel : BitVec 8 := 0xFF
  len : BitVec 8 := 0
  cq : BitVec 16 := 0xFFFF
  tag : BitVec 32 := 0
  rsv : BitVec 32 := 0
  par : BitVec 384 := 0
  deriving DecidableEq, Repr

/-- Which address space a bus access names (R404 to R406). -/
inductive BarSpace where
  | bar0 | bar2
  deriving DecidableEq, Repr

/-- A register access: the function whose BAR it reaches, the space, the byte offset and the width in bytes (R6). -/
structure RegAccess where
  fn : Nat := 0
  space : BarSpace := .bar0
  off : Nat := 0
  bytes : Nat := 8
  deriving DecidableEq, Repr

/-- A received timing frame (R232). -/
structure TimeFrame where
  tseq : BitVec 16 := 0
  peerTseq : BitVec 16 := 0
  prevTx : W64 := 0
  peerRx : W64 := 0
  peerTxEcho : W64 := 0
  master : BitVec 10 := 0
  hops : BitVec 8 := 0
  sstate : BitVec 8 := 0
  deriving DecidableEq, Repr

/-- A flit as the receiver sees it (R219): its type, virtual lane, sequence and acknowledge fields, returned credits, packet starts
and payload bytes; `corrupt` when its check or a field is bad, `uncorr` when its codeword was uncorrectable; `cws` the uncorrectable
codewords that first show with it; `corr` the lanes of the symbols FEC corrected in the codeword it completes. -/
structure Flit where
  ftype : BitVec 2 := 0
  vl : BitVec 2 := 0
  fseq : BitVec 12 := 0
  ack : BitVec 12 := 0
  nak : Bool := false
  start : BitVec 15 := 0
  cr0 : BitVec 8 := 0
  cr1 : BitVec 8 := 0
  cr2 : BitVec 8 := 0
  corrupt : Bool := false
  uncorr : Bool := false
  cws : Nat := 0
  corr : List (BitVec 3) := []
  body : List Byte := []
  deriving DecidableEq, Repr

/-- A packet that is to advance: its place in the list of packets in flight, and whether its header fails its CRC, or a flit its parity,
where it waits (R195). -/
structure Advance where
  flight : Nat
  damaged : Bool := false
  deriving DecidableEq, Repr

/-- What a TRAIN flit says (R227, R229): the parameters of its sender, its expected FSEQ, its free buffers, a probe (the stitch it left
at), the echo of a probe of the other side, a request to retrain, and PARAM_DONE. -/
structure TrainFlit where
  expect : BitVec 12 := 0
  cr0 : BitVec 9 := 0
  cr1 : BitVec 9 := 0
  cr2 : BitVec 9 := 0
  probe : Option (BitVec 16) := none
  echo : Option (BitVec 16) := none
  retrain : Bool := false
  done : Bool := false
  deriving DecidableEq, Repr

/-- A received identity frame (R255). -/
structure IdentFrame where
  role : BitVec 8 := 0xFF
  member : BitVec 8 := 0
  port : BitVec 8 := 0
  pos : BitVec 4 := 0
  boardDims : BitVec 3 := 0
  coord : BitVec 10 := 0
  valid : Bool := false
  serial : W64 := 0
  rootSerial : W64 := 0
  hops : BitVec 8 := 0xFF
  dims : BitVec 8 := 0
  rootCoord : BitVec 16 := 0
  epoch : BitVec 32 := 0
  deriving DecidableEq, Repr

/-- What the power manager measures at a decision (R430, R437 to R445): VIN in mV, VIN current in 10 mA, input power in W, stored rail
energy and input energy since the last decision in mJ, the readings of the 83 temperature sensors in the order of PWR_TEMP.SENSOR, the
draw of each panel in W, and the margin of each row in ps. -/
structure PowerSample where
  vin : Nat := 48000
  iin : Nat := 0
  pin : Nat := 0
  rail : Nat := 0
  energy : Nat := 0
  temps : List Nat := []
  draws : List Nat := []
  margins : List Nat := []
  deriving DecidableEq, Repr

/-- What the peer reports of one of its panels when a pair is made (R467). -/
structure TwinPanel where
  tenant : Nat := 0
  qBase : Nat := 0
  qCount : Nat := 0
  spoolBase : Nat := 0
  spoolCount : Nat := 0
  histPages : Nat := 0
  parkPages : Nat := 0
  enabled : Bool := false
  deriving DecidableEq, Repr

/-- What the peer on the twin port reports when a pair is made (R467): its grade, its coordinate, whether PAIR_STANDBY has been written
to it, the coordinate it names as its twin, and its panels. -/
structure TwinPeer where
  grade : Nat := 0
  coord : Nat := 0
  standby : Bool := false
  names : Nat := 0
  panels : List TwinPanel := []
  deriving DecidableEq, Repr

/-- A configuration request: a read of a doubleword of configuration space; a write of Bus Master Enable, of NumVFs, of MSI-X enable, of Max
Payload Size or Max Read Request Size in bytes, or of ECRC generation and checking in the AER capability (R400 to R403). -/
inductive CfgOp where
  | read (off : Nat)
  | busMaster (on : Bool)
  | numVfs (n : Nat)
  | msix (on : Bool)
  | maxPayload (bytes : Nat)
  | maxRead (bytes : Nat)
  | ecrc (gen check : Bool)
  deriving DecidableEq, Repr

/-- What the JTAG port is asked for (R457, R506): the IDCODE, a boundary scan, or the debug module of the Thimble cores with an
instruction of its own. -/
inductive JtagOp where
  | idcode
  | boundaryScan
  | debugModule (w : Nat)
  deriving DecidableEq, Repr

/-- The commands of the block: one constructor per row of spec/opcode_table.json. -/
inductive Instr where
  /-- STITCH_ROLE (R22): Administration command that sets STI_CTL.ROLE, refusing values above 2 with 0x0101. -/
  | stitchRole (c : Cmd)
  /-- STITCH_SET (R25): Writes a 64-bit value into STI_COUNT on a FREERUN master with no armed event, or completes with 0x0964. -/
  | stitchSet (c : Cmd)
  /-- TIME_FRAME (R232): A received TIME flit supplies stamps for offset and delay measurement and names the master being followed. -/
  | timeFrame (port : Nat) (f : TimeFrame)
  /-- TIME_FRAME_SEND (R19): Every 4 µs the device sends a timing frame on every trained port. -/
  | timeFrameSend
  /-- ACQUIRE_CONVERGED (R21): After 64 consecutive frames within ±0.5 st, the device enters LOCKED, stepping its count once only if ACQUIRE began in FREERUN. -/
  | acquireConverged
  /-- MASTER_PATH_LOST (R21): After 100 µs with no port reaching the master, a follower enters HOLDOVER. -/
  | masterPathLost
  /-- BACKUP_PROMOTE (R23): A backup master with no path to the master for 100 µs promotes itself without stepping its count and logs 0x0962. -/
  | backupPromote
  /-- HOLDOVER_EXPIRY (R21): After HOLD_MS ms without a path to the master, the device enters FREERUN and logs 0x0962. -/
  | holdoverExpiry
  /-- CLOCK_CHANGE_WINDOW (R35): At stitch W the PLLs relock, the stored delay-line settings are applied and verified, and tile clocks stop for the change. -/
  | clockChangeWindow
  /-- CHANGE_WINDOW_END (R35): The 1,500 st window ends, PEND clears and the new clock point is in force. -/
  | changeWindowEnd
  /-- TRIM_WINDOW (R34): On A0, a 200 st window at least every 50 ms retrains the crossings. -/
  | trimWindow
  /-- MARGIN_WARN (R37): A row's margin falls below WARN_PS, which logs 0x0D10 and asks for a voltage step or a lower clock point. -/
  | marginWarn (row ps : Nat)
  /-- MARGIN_VOLTAGE_STEP (R37): At the next stitch at which the owning panel is between steps, the row voltage rises by 10 mV. -/
  | marginVoltageStep (row : Nat)
  /-- MARGIN_CRIT (R38): A row's margin falls below CRIT_PS during a step, which logs 0x0D11 and taints the step for replay. -/
  | marginCrit (row ps : Nat)
  /-- STEP_LAUNCH (R29): At launch stitch L the stitch-scheduled launch reaches every tile of the panel, and cycle 0 begins 16 cy later. -/
  | stepLaunch (panel : Nat)
  /-- MNOP (R142): M-slot no-operation. -/
  | mnop (t : Nat)
  /-- MWARM (R48): Starts the array activity ramp from COLD or DOWN toward WARM. -/
  | mwarm (t : Nat)
  /-- MPASS (R42): Array pass that captures A, B and scale operands and accumulates into a Saffron set. -/
  | mpass (t : Nat)
  /-- MSWAP (R50): Axis-swapped 8-bit pass that reads the latched B block along its other axis. -/
  | mswap (t : Nat)
  /-- MREAD (R45): Readout that converts an accumulator set into a tile register format. -/
  | mread (t : Nat)
  /-- ARRAY_WARM_DONE (R48): 32 cy after MWARM, the ramp state becomes WARM. -/
  | arrayWarmDone (t : Nat)
  /-- ARRAY_RAMP_DOWN (R48): 1 cy after the last pass the array enters DOWN and, 32 cy later, COLD. -/
  | arrayRampDown (t : Nat)
  /-- VNOP (R144): Vector no-operation. -/
  | vnop (t : Nat) (pipe : Bool)
  /-- VADD (R144): Lane-wise addition. -/
  | vadd (t : Nat) (pipe : Bool)
  /-- VSUB (R144): Lane-wise subtraction. -/
  | vsub (t : Nat) (pipe : Bool)
  /-- VMUL (R144): Lane-wise multiplication. -/
  | vmul (t : Nat) (pipe : Bool)
  /-- VFMA (R144): Lane-wise fused multiply-add with one rounding. -/
  | vfma (t : Nat) (pipe : Bool)
  /-- VMIN (R144): Lane-wise minimum with the stated NaN and signed-zero rules. -/
  | vmin (t : Nat) (pipe : Bool)
  /-- VMAX (R144): Lane-wise maximum with the stated NaN and signed-zero rules. -/
  | vmax (t : Nat) (pipe : Bool)
  /-- VABS (R144): Lane-wise magnitude. -/
  | vabs (t : Nat) (pipe : Bool)
  /-- VNEG (R144): Lane-wise negation. -/
  | vneg (t : Nat) (pipe : Bool)
  /-- VADDS (R144): INT32 saturating add. -/
  | vadds (t : Nat) (pipe : Bool)
  /-- VSUBS (R144): INT32 saturating subtract. -/
  | vsubs (t : Nat) (pipe : Bool)
  /-- VAND (R144): Bitwise AND. -/
  | vand (t : Nat) (pipe : Bool)
  /-- VOR (R144): Bitwise OR. -/
  | vor (t : Nat) (pipe : Bool)
  /-- VXOR (R144): Bitwise XOR. -/
  | vxor (t : Nat) (pipe : Bool)
  /-- VANDN (R144): Bitwise AND with the complement of VB. -/
  | vandn (t : Nat) (pipe : Bool)
  /-- VSHL (R144): Shift left. -/
  | vshl (t : Nat) (pipe : Bool)
  /-- VSHR (R144): Logical shift right. -/
  | vshr (t : Nat) (pipe : Bool)
  /-- VSRA (R144): Arithmetic shift right. -/
  | vsra (t : Nat) (pipe : Bool)
  /-- VCMP (R144): Lane-wise compare into a predicate register. -/
  | vcmp (t : Nat) (pipe : Bool)
  /-- VSEL (R144): Selects lanes by predicate. -/
  | vsel (t : Nat) (pipe : Bool)
  /-- VMOV (R144): Register move, or scalar broadcast. -/
  | vmov (t : Nat) (pipe : Bool)
  /-- VINS (R144): Inserts a scalar into one lane. -/
  | vins (t : Nat) (pipe : Bool)
  /-- VEXTS (R144): Extracts one lane into a scalar. -/
  | vexts (t : Nat) (pipe : Bool)
  /-- VIOTA (R144): Writes each lane's index. -/
  | viota (t : Nat) (pipe : Bool)
  /-- VPERM (R144): Permutes lanes by index. -/
  | vperm (t : Nat) (pipe : Bool)
  /-- VPLOG (R144): Predicate logic by truth table. -/
  | vplog (t : Nat) (pipe : Bool)
  /-- VRSUM (R58): Sum of the 64 lanes in the fixed reduction tree. -/
  | vrsum (t : Nat) (pipe : Bool)
  /-- VRMAX (R58): Lane maximum in the fixed tree. -/
  | vrmax (t : Nat) (pipe : Bool)
  /-- VRMIN (R58): Lane minimum in the fixed tree. -/
  | vrmin (t : Nat) (pipe : Bool)
  /-- VCVT (R145): Lane type conversion. -/
  | vcvt (t : Nat) (pipe : Bool)
  /-- VPACK (R146): Packs FP32 lanes into elements, with MX block scales where the format has them. -/
  | vpack (t : Nat) (pipe : Bool)
  /-- VUNPACK (R146): Unpacks elements into FP32 lanes. -/
  | vunpack (t : Nat) (pipe : Bool)
  /-- VEXP (R57): Exponential in base e or base 2. -/
  | vexp (t : Nat)
  /-- VRCP (R57): Reciprocal. -/
  | vrcp (t : Nat)
  /-- VRSQRT (R57): Reciprocal square root. -/
  | vrsqrt (t : Nat)
  /-- VTANH (R57): Hyperbolic tangent. -/
  | vtanh (t : Nat)
  /-- VERF (R57): Error function. -/
  | verf (t : Nat)
  /-- LNOP (R148): L-slot no-operation. -/
  | lnop (t : Nat)
  /-- LLDS (R148): Scalar load from scratchpad. -/
  | llds (t : Nat)
  /-- LSTS (R148): Scalar store through the merge buffer. -/
  | lsts (t : Nat)
  /-- LLDV (R148): Vector load of 256 bytes. -/
  | lldv (t : Nat)
  /-- LSTV (R148): Vector store. -/
  | lstv (t : Nat)
  /-- LLDT (R148): Tile register load of 4 KiB. -/
  | lldt (t : Nat)
  /-- LLDTL (R148): Load of the low half of a tile register. -/
  | lldtl (t : Nat)
  /-- LLDTH (R148): Load of the high half of a tile register. -/
  | lldth (t : Nat)
  /-- LSTT (R148): Tile register store. -/
  | lstt (t : Nat)
  /-- LSTTL (R148): Store of the low half of a tile register. -/
  | lsttl (t : Nat)
  /-- LSTTH (R148): Store of the high half of a tile register. -/
  | lstth (t : Nat)
  /-- LLDTT4 (R66): Transposed load of 4-bit elements. -/
  | lldtt4 (t : Nat)
  /-- LLDTT8 (R66): Transposed load of 8-bit elements. -/
  | lldtt8 (t : Nat)
  /-- LLDTT16 (R66): Transposed load of 16-bit elements. -/
  | lldtt16 (t : Nat)
  /-- LMVTV (R148): Moves a tile register slice into a vector register. -/
  | lmvtv (t : Nat)
  /-- LMVVT (R148): Moves a vector register into a tile register slice. -/
  | lmvvt (t : Nat)
  /-- LRAW0 (R46): Raw readout of set 0 to scratchpad. -/
  | lraw0 (t : Nat)
  /-- LRAW1 (R46): Raw readout of set 1 to scratchpad. -/
  | lraw1 (t : Nat)
  /-- LSADD (R149): Adds two arrays of Saffron lanes in scratchpad. -/
  | lsadd (t : Nat)
  /-- LSCVT (R150): Converts 64 Saffron lanes into a vector register. -/
  | lscvt (t : Nat)
  /-- LBOB (R103): Posts a descriptor to the step queue of a bobbin of the tile's own site. -/
  | lbob (t : Nat)
  /-- NNOP (R152): N-slot no-operation. -/
  | nnop (t : Nat)
  /-- SLI (R152): Loads a sign-extended immediate into a scalar. -/
  | sli (t : Nat)
  /-- SLIH (R152): Loads the high 32 bits of a scalar. -/
  | slih (t : Nat)
  /-- SADDI (R152): Scalar add immediate. -/
  | saddi (t : Nat)
  /-- SADD (R152): Scalar add. -/
  | sadd (t : Nat)
  /-- SSUB (R152): Scalar subtract. -/
  | ssub (t : Nat)
  /-- SMUL (R152): Scalar multiply. -/
  | smul (t : Nat)
  /-- SAND (R152): Scalar AND. -/
  | sand (t : Nat)
  /-- SOR (R152): Scalar OR. -/
  | sor (t : Nat)
  /-- SXOR (R152): Scalar XOR. -/
  | sxor (t : Nat)
  /-- SSHL (R152): Scalar shift left. -/
  | sshl (t : Nat)
  /-- SSHR (R152): Scalar logical shift right. -/
  | sshr (t : Nat)
  /-- SSRA (R152): Scalar arithmetic shift right. -/
  | ssra (t : Nat)
  /-- SCMP (R152): Scalar compare into a predicate. -/
  | scmp (t : Nat)
  /-- SRFEAT (R161): Reads a feature register into a scalar. -/
  | srfeat (t : Nat)
  /-- SRPOS (R162): Reads a step or position item into a scalar. -/
  | srpos (t : Nat)
  /-- SRCNT (R162): Reads a free-running counter into a scalar. -/
  | srcnt (t : Nat)
  /-- NJMP (R153): Unconditional branch. -/
  | njmp (t : Nat)
  /-- NBRP (R153): Branch on a predicate bit. -/
  | nbrp (t : Nat)
  /-- NLOOP (R153): Decrements a scalar and branches while it is not zero. -/
  | nloop (t : Nat)
  /-- NEND (R153): Ends the tile's step program and stops fetch. -/
  | nend (t : Nat)
  /-- NSEND (R155): Sends register bytes as a sequence of packets using a send slot. -/
  | nsend (t : Nat)
  /-- NRECV (R157): Opens a receive window. -/
  | nrecv (t : Nat)
  /-- NCLOSE (R160): Closes a receive window. -/
  | nclose (t : Nat)
  /-- NSIG (R267): Sends SIGNAL(N) to a knot. -/
  | nsig (t : Nat)
  /-- NWAIT (R154): Sends WAIT(N) to a knot, with the grant to a predicate. -/
  | nwait (t : Nat)
  /-- NWALL (R154): Sends WAITALL to a knot, with the grant to a predicate. -/
  | nwall (t : Nat)
  /-- NBCAST (R270): Sends BROADCAST to a knot. -/
  | nbcast (t : Nat)
  /-- RESULT_WRITEBACK (R133): A fixed-latency result completes into its register and sets its presence bit, and a same-cycle collision faults the panel with 0x040D. -/
  | resultWriteback (t : Nat)
  /-- TILE_HOLD_CYCLE (R181): On a cycle on which a tile is held by a late item or by the hold tree, it issues nothing and counts the hold. -/
  | tileHoldCycle (t : Nat)
  /-- FREEZE_TIMEOUT (R186): A tile held longer than LIMIT_US logs 0x0320 and faults the panel. -/
  | freezeTimeout (t : Nat)
  /-- STEP_OVERRUN (R185): STEP_CY exceeds MAX_CY, which logs 0x0321 and faults the panel. -/
  | stepOverrun (t : Nat)
  /-- STEP_CYCLE_LIMIT (R68): STEP_CY reaches its maximum, which logs 0x0404 and faults the panel. -/
  | stepCycleLimit (t : Nat)
  /-- STEP_END (R184): All tiles are IDLE, bobbin results are present and T has stopped rising, so merge buffers write back and the step end is reported. -/
  | stepEnd (panel : Nat)
  /-- SLOT_MASK_UPDATE (R55): A new slot mask arriving at a tile or bobbin takes effect on the next physical edge. -/
  | slotMaskUpdate (t : Nat)
  /-- BUFFERED_WRITE_PERFORM (R61): A vertical-port or network-port write leaves its buffer into its bank, taking precedence after 16 cy of waiting. -/
  | bufferedWritePerform (t : Nat) (vert : Bool) (bank : Nat)
  /-- SP_MERGE_WRITEBACK (R286): A scratchpad merge-buffer entry is written back, by read-merge-write when it is partial. -/
  | spMergeWriteback (t word : Nat)
  /-- WINDOW_PACKET_ARRIVAL (R158): A packet ejected to a tile is placed into the open window whose knot it names, and its arrival is then counted. -/
  | windowPacketArrival (t : Nat)
  /-- SEND_SLOT_FREE (R156): The last flit of an NSEND leaves the router, which frees the slot and sets the predicate present. -/
  | sendSlotFree (t slot : Nat)
  /-- TILE_MEM_ACCESS (R523): Writing GO to TILE_MEM_CMD performs a checked window read or write of a tile store or register. -/
  | tileMemAccess
  /-- TILE_CNT_CLR (R54): Writing 1 to TILE_CTL.CNT_CLR clears the tile's late, cold-start, port-wait and bank-conflict counters. -/
  | tileCntClr (t : Nat)
  /-- XFER_UP (R110): Bobbin descriptor that moves stack bytes up to the tile. -/
  | xferUp (b : Nat)
  /-- XFER_DOWN (R110): Bobbin descriptor that moves tile bytes down into stack pages. -/
  | xferDown (b : Nat)
  /-- APPEND (R123): Bobbin descriptor that writes bytes at any offset through the merge buffer. -/
  | append (b : Nat)
  /-- ACT_LOAD (R111): Bobbin descriptor that loads the activation buffer. -/
  | actLoad (b : Nat)
  /-- LIST_LOAD (R111): Bobbin descriptor that loads list-store entries. -/
  | listLoad (b : Nat)
  /-- DECODE (R112): Bobbin descriptor that decodes stored weights into one B operand. -/
  | decodeOp (b : Nat)
  /-- CB_LOAD (R114): Bobbin descriptor that loads a Nutmeg codebook and its tag. -/
  | cbLoad (b : Nat) (svc : Bool)
  /-- GEMV (R116): Bobbin matrix-vector product into Saffron lanes, with optional output. -/
  | gemv (b : Nat)
  /-- ATTN (R120): Bobbin attention walk over listed KV pages. -/
  | attn (b : Nat)
  /-- COPY (R121): Bobbin descriptor that copies a range of words. -/
  | copyOp (b : Nat) (svc : Bool)
  /-- FILL (R121): Bobbin descriptor that writes zero words with valid check fields. -/
  | fillOp (b : Nat) (svc : Bool)
  /-- SEND (R121): Service descriptor that emits a page range as elastic packets. -/
  | sendOp (b : Nat)
  /-- FLUSH (R123): Bobbin descriptor that writes back the merge buffer. -/
  | flush (b : Nat) (svc : Bool)
  /-- BOB_RESULT_PRESENT (R106): At its stated time a descriptor's result becomes present, sets its flags and optionally signals its knot. -/
  | bobResultPresent (b : Nat)
  /-- BOBBIN_WRITE_PACKET (R122): An inbound WRITE packet to a bobbin endpoint is checked and its data written to stack words. -/
  | bobbinWritePacket (b : Nat)
  /-- BOB_MERGE_WRITEBACK (R123): A bobbin merge-buffer entry is written back or evicted, by read-merge-write when it is partial. -/
  | bobMergeWriteback (b word : Nat)
  /-- BOB_MEM_ACCESS (R128): Writing GO to BOB_MEM_CMD performs a checked window access of a bobbin store. -/
  | bobMemAccess
  /-- PATROL_PASS (R293): Each period, a bobbin reads every weight page it holds in idle read cycles. -/
  | patrolPass (b : Nat)
  /-- PACKET_INJECTION (R199): A packet enters its first lane after the directory lookup, once the entry buffer has two free slots. -/
  | packetInjection (ep : Nat)
  /-- PACKET_FORWARD (R205): A router or bypass stage advances a packet into the next stage or turns it under the arbitration rules. -/
  | packetForward (a : Advance)
  /-- PACKET_EJECT (R200): At the destination router a packet is checked against the endpoint's FEID and tenant, and delivered or dropped. -/
  | packetEject (n : Nat)
  /-- ECN_ECHO_RECEIVE (R252): An echo consumed at the source halves its elastic rate. -/
  | ecnEchoReceive (n : Nat)
  /-- ELASTIC_RATE_RESTORE (R252): At each RESTORE_US multiple, every injecting endpoint raises its elastic rate. -/
  | elasticRateRestore
  /-- RDIR_WRITE (R201): Applies a list of directory entries to the shadow bank. -/
  | rdirWrite (c : Cmd)
  /-- RDIR_COPY (R201): Copies the active directory bank into the shadow bank. -/
  | rdirCopy (c : Cmd)
  /-- RDIR_SWAP (R202): Arms or cancels a directory bank swap at a stitch. -/
  | rdirSwap (c : Cmd)
  /-- RDIR_UPDATE_DONE (R201): An RDIR_WRITE or RDIR_COPY in progress finishes and completes. -/
  | rdirUpdateDone
  /-- ROUTE_DIRECTORY_BANK_SWAP (R202): At the armed stitch the lookup points switch banks, and the arming command completes. -/
  | routeDirectoryBankSwap
  /-- FLIT_RECEIVE (R223): A DATA flit from FEC decoding is accepted or refused, and its ACK, NAK and credit fields are applied. -/
  | flitReceive (port : Nat) (f : Flit)
  /-- REPLAY_START (R224): After a NAK arrives, the transmitter resends buffered flits from ACK + 1. -/
  | replayStart (port : Nat)
  /-- NAK_REPEAT (R223): The expected flit has not arrived within 2 × RTT, so the NAK is repeated. -/
  | nakRepeat (port : Nat)
  /-- SIGNAL_LOSS (R225): Loss of signal or of pair markers on a lane in use starts a retrain with cause ALIGN. -/
  | signalLoss (port : Nat)
  /-- LINK_ELEC_ADAPTED (R226): All lanes, or four under R228, adapt on both ends, and the port enters ALIGN. -/
  | linkElecAdapted (port : Nat) (lanes inverted : BitVec 8) (peerX4 : Bool)
  /-- LINK_ALIGN_LOCKED (R226): Marker lock on every lane in use moves the port to PARAM. -/
  | linkAlignLocked (port : Nat) (order : BitVec 24)
  /-- TRAIN_FLIT (R229): A received TRAIN flit exchanges parameters, credits and round-trip probes. -/
  | trainFlit (port : Nat) (f : TrainFlit)
  /-- LINK_PARAM_DONE (R227): Both ends exchange PARAM_DONE, and the port enters ACTIVE with replay resumed. -/
  | linkParamDone (port : Nat)
  /-- LINK_TRAIN_TIMEOUT (R226): A first-training state exceeds its limit, so the port enters DOWN with 0x0804. -/
  | linkTrainTimeout (port : Nat)
  /-- RETRAIN_TIMEOUT (R230): A retrain exceeds 100 ms, so the port enters DOWN and its packets are discarded with 0x0802. -/
  | retrainTimeout (port : Nat)
  /-- DOWN_RETRY (R226): Every RETRY_MS a DOWN port retries full training. -/
  | downRetry (port : Nat)
  /-- DOWN_NOTICE (R231): A received DOWN_NOTICE starts a retrain with cause PEER. -/
  | downNotice (port : Nat)
  /-- LINK_PACKET_INGRESS (R222): A packet whose last byte has been accepted is forwarded from the link die into its selvedge router. -/
  | linkPacketIngress (port vl : Nat)
  /-- PORT_SET (R235): Sets a port OFF, ENABLE, OFFLINE or RETRAIN. -/
  | portSet (c : Cmd)
  /-- PORT_OFFLINE_DONE (R231): After the replay buffer empties, the port sends DOWN_NOTICE, enters OFF and PORT_SET completes. -/
  | portOfflineDone (port : Nat)
  /-- SEAM_OPEN (R235): Splices two OFF ports of one link die into an express seam. -/
  | seamOpen (c : Cmd)
  /-- SEAM_CLOSE (R235): Opens every seam of a job and returns its ports to OFF. -/
  | seamClose (c : Cmd)
  /-- FAB_DISCOVER (R263): Sets fabric parameters and becomes root or restarts discovery. -/
  | fabDiscover (c : Cmd)
  /-- FAB_PORT_ROLE (R263): Sets a port's role and member index. -/
  | fabPortRole (c : Cmd)
  /-- FAB_PORT_SERVICE (R263): Removes a port from service or restores it. -/
  | fabPortService (c : Cmd)
  /-- IDENT_SEND (R255): Every IDENT_US, or on a field change, each trained port sends an identity frame. -/
  | identSend (port : Nat)
  /-- IDENT_FRAME (R257): A received identity frame offers candidates, adopts a lower root, or checks the neighbour under R258. -/
  | identFrame (port : Nat) (f : IdentFrame)
  /-- STRAP_ROOT_START (R256): 1 ms after its first port is ACTIVE, a device strapped with ROOT_SEL_N low becomes root. -/
  | strapRootStart
  /-- COORD_ASSIGN (R257): 20 µs after the first acceptable candidate, the device takes a coordinate and enters ASSIGNED. -/
  | coordAssign
  /-- DISCOVERY_VERIFIED (R258): No port check changes for 1 ms, so the device enters VERIFIED and writes its FEIDs. -/
  | discoveryVerified
  /-- DISCOVERY_TIMEOUT (R257): 10 ms without a coordinate or a root logs 0x0903. -/
  | discoveryTimeout
  /-- SIGNAL (R267): Knot home adds n to the count and runs the release rule. -/
  | signalOp (home : Nat)
  /-- ARRIVE (R272): Knot home counts NPKT packet arrivals, as a SIGNAL. -/
  | arrive (home : Nat)
  /-- WAIT (R268): Knot home appends a WAIT waiter and runs the release rule. -/
  | waitOp (home : Nat)
  /-- WAITALL (R269): Knot home counts a barrier participant and releases N waiters when the count reaches N. -/
  | waitall (home : Nat)
  /-- BROADCAST (R270): Knot home grants every listed waiter. -/
  | broadcast (home : Nat)
  /-- SET (R271): Knot home sets the count, clears STUCK and runs the release rule. -/
  | setOp (home : Nat)
  /-- GRANT (R274): A grant reaching its waiter sets the predicate, completes the host wait, or goes to the core or engine. -/
  | grant (ep : Nat)
  /-- REFUSE (R275): A refusal reaching its waiter faults the tile's panel or completes the host command. -/
  | refuse (ep : Nat)
  /-- KNOT_SIGNAL (R276): Host command that signals a knot. -/
  | knotSignal (c : Cmd)
  /-- KNOT_WAIT (R276): Host command that waits on a knot, with an optional timeout. -/
  | knotWait (c : Cmd)
  /-- KNOT_WAITALL (R276): Host command that joins a knot barrier. -/
  | knotWaitall (c : Cmd)
  /-- KNOT_BROADCAST (R276): Host command that broadcasts on a knot. -/
  | knotBroadcast (c : Cmd)
  /-- KNOT_SET (R271): Host command that sets a knot's count, subject to authorisation. -/
  | knotSet (c : Cmd)
  /-- KNOT_READ (R276): Host command that returns a knot's count, waiters and STUCK. -/
  | knotRead (c : Cmd)
  /-- HOST_KNOT_WAIT_TIMEOUT (R276): A host wait's timeout stitch is reached, and removal of the waiter is queued at the home. -/
  | hostKnotWaitTimeout (knot job : Nat)
  /-- KNOT_WAITER_REMOVE (R276): The home removes a timed-out host waiter, which completes with 0x0A07 unless the grant came first. -/
  | knotWaiterRemove (home : Nat)
  /-- KNOT_LEND_REPORT (R281): A tile waiter listed for LEND_US reports its row to the power manager for lending. -/
  | knotLendReport (knot n : Nat)
  /-- MEM_FILL (R285): Fills a page range, panel or device with zero words carrying valid checks. -/
  | memFill (c : Cmd)
  /-- MEM_FILL_DONE (R285): The last word of a fill is written, and MEM_FILL completes. -/
  | memFillDone (job : Nat)
  /-- MEM_RETIRE (R297): Retires or restores a page, bobbin or tile. -/
  | memRetire (c : Cmd)
  /-- MODEL_LOAD (R313): Checks a model manifest and starts fetching the device's shard. -/
  | modelLoad (c : Cmd)
  /-- MODEL_UNLOAD (R317): Cancels fetches and sets the weight state to NONE. -/
  | modelUnload (c : Cmd)
  /-- MODEL_REFIT (R321): Accepts a refit manifest with a barrier stitch and enters REFIT. -/
  | modelRefit (c : Cmd)
  /-- REFIT_RESUME (R329): Resumes a stopped refit for the layers not yet done. -/
  | refitResume (c : Cmd)
  /-- WGT_RELEASE (R318): Installs a release table for a pattern entry. -/
  | wgtRelease (c : Cmd)
  /-- MODEL_SOURCE (R319): Replaces the panel's source list. -/
  | modelSource (c : Cmd)
  /-- REFIT_JOURNAL (R327): Writes the panel's refit journal to host memory. -/
  | refitJournal (c : Cmd)
  /-- INGEST_REQUEST (R306): The ingest engine sends a page request to a source once the window has room. -/
  | ingestRequest (panel : Nat)
  /-- INGEST_REPLY (R308): A source reply is accepted and written to the segment's pages, or dropped. -/
  | ingestReply (panel : Nat) (req : Option Nat)
  /-- INGEST_REQUEST_TIMEOUT (R309): A request incomplete after REQ_TIMEOUT_US is reissued to the next source. -/
  | ingestRequestTimeout (panel req : Nat)
  /-- SEGMENT_VERIFY (R309): A fetched segment is read back and checked against its digest, then verified or refetched. -/
  | segmentVerify (panel seg : Nat)
  /-- PAGE_REFETCH_DONE (R310): A SUSPECT page's refetch finishes with its segment verified, so the replay may proceed. -/
  | pageRefetchDone (page : Nat)
  /-- LOAD_TIMEOUT (R314): TIMEOUT_MS elapses before verification, so the shard becomes BAD with 0x0B07. -/
  | loadTimeout (panel : Nat)
  /-- VERIFIED_REPORT (R315): The head counts a device's VERIFIED report and sends READY when all have reported. -/
  | verifiedReport (panel dev coord : Nat) (model : W64) (gen : W32)
  /-- READY_MESSAGE (R315): A device receives READY from the head and sets its weight state READY. -/
  | readyMessage (panel : Nat) (model : W64) (gen : W32)
  /-- REFIT_BARRIER (R324): Barrier stitch B is reached, and layers become eligible for the refit wave. -/
  | refitBarrier (panel : Nat)
  /-- LAYER_RELEASE (R320): Every tile passes a layer's RELEASE_CY, which releases the layer to the refit wave. -/
  | layerRelease (panel layer : Nat)
  /-- REFIT_DONE_REPORT (R325): The head collects REFIT_DONE from all devices, sets READY at the new generation and resumes launches. -/
  | refitDoneReport (panel dev coord : Nat) (model : W64) (gen : W32)
  /-- SPOOL_SUBMIT (R341): Tokenises a request and allocates a spool entry. -/
  | spoolSubmit (c : Cmd)
  /-- SPOOL_APPEND (R365): Appends text to a conversation and starts a new turn. -/
  | spoolAppend (c : Cmd)
  /-- SPOOL_CANCEL (R352): Cancels a spool and masks its slot in running and announced steps. -/
  | spoolCancel (c : Cmd)
  /-- SPOOL_CLOSE (R340): Ends a conversation. -/
  | spoolClose (c : Cmd)
  /-- SPOOL_READ (R340): Writes a spool entry to host memory. -/
  | spoolRead (c : Cmd)
  /-- BUCKET_SET (R342): Writes an entry of the bucket table. -/
  | bucketSet (c : Cmd)
  /-- TOKENIZER_LOAD (R357): Reads and checks a tokenizer image and installs it for the panel. -/
  | tokenizerLoad (c : Cmd)
  /-- PARK_AREA_SET (R378): Registers or removes the panel's park area. -/
  | parkAreaSet (c : Cmd)
  /-- SPOOL_ACK (R375): Advances a spool's ACKED output position, freeing ring space for pending bytes. -/
  | spoolAck (c : Cmd)
  /-- STEP_ANNOUNCE (R343): The head engine selects a batch and bucket, chooses L and announces the step. -/
  | stepAnnounce (panel : Nat)
  /-- FW_BATCH_RETURN (R344): Firmware returns a batch choice, which is checked and used or replaced. -/
  | fwBatchReturn (panel bucket : Nat) (picks : List (Nat × Nat × Nat))
  /-- FW_BATCH_TIMEOUT (R344): Firmware misses FW_BUDGET_US, so the hardware selection is used and 0x0C08 is logged. -/
  | fwBatchTimeout (panel : Nat)
  /-- ANNOUNCE (R346): A device receives a step announcement with L, c and geometry, and arms the launch. -/
  | announce (panel : Nat)
  /-- SLOTS (R349): A device receives slot records for an announced step. -/
  | slots (panel : Nat)
  /-- BLOCKS (R346): A device receives block IDs for an announced step. -/
  | blocks (panel : Nat)
  /-- TOKENS (R346): A device receives input token IDs for an announced step. -/
  | tokens (panel : Nat)
  /-- MASK_MESSAGE (R347): A device receives a launch mask, or a mid-step mask that it delivers to the panel's tiles and bobbins. -/
  | maskMessage (panel : Nat)
  /-- REPORT (R350): The head receives a STEP_END or refusal from a device and keeps or discards the step. -/
  | report (panel : Nat)
  /-- STEP_INPUT_DEADLINE (R346): At L − TABLE_ST a device with incomplete step inputs refuses the launch with 0x0C0C. -/
  | stepInputDeadline (panel q : Nat)
  /-- DECODE_INPUT_DEADLINE (R346): A decode slot whose input is uncommitted by L − TABLE_ST − 2,000 is masked. -/
  | decodeInputDeadline (panel q : Nat)
  /-- CANDIDATE_PACKET (R366): The head engine receives part of a slot's candidate list and samples once the list is complete. -/
  | candidatePacket (panel : Nat)
  /-- CANDIDATE_TIMEOUT (R367): A list still incomplete TIMEOUT_US after STEP_END cancels the spool with 0x0C15. -/
  | candidateTimeout (panel : Nat)
  /-- STEP_COMMIT (R351): The sequencer commits a good step: tokens are appended and streamed, states move and the step counter advances. -/
  | stepCommit (panel : Nat)
  /-- REQUEST_DEADLINE (R354): A spool's deadline stitch applies DROP, FINISH or CONTINUE. -/
  | requestDeadline (spool : Nat)
  /-- FINAL_RECORD_POST (R377): Once pending bytes are written, the final record is posted and the spool goes from DONE to FREE. -/
  | finalRecordPost (spool : Nat)
  /-- IDLE_TEST (R379): Once per µs the engine starts parking of IDLE spools past their threshold. -/
  | idleTest
  /-- PARK_COMPLETE (R380): All park SENDs and their DMA finish, so the spool becomes PARKED and its blocks are released. -/
  | parkComplete (spool : Nat)
  /-- PARK_MOVE_FAIL (R381): A failed park move abandons the moves, and the spool goes PARKED with immediate expiry. -/
  | parkMoveFail (spool : Nat)
  /-- PARK_TTL_EXPIRY (R382): At PARK_EXPIRY a PARKED spool becomes COLD and frees its park pages. -/
  | parkTtlExpiry (spool : Nat)
  /-- UNPARK_COMPLETE (R383): The last unpark word is written, so park pages are freed and the spool becomes ADMITTED. -/
  | unparkComplete (spool : Nat)
  /-- PANEL_START (R393): Moves a STOPPED panel to RUNNING. -/
  | panelStart (c : Cmd)
  /-- PANEL_STOP (R395): Drains or immediately stops a panel. -/
  | panelStop (c : Cmd)
  /-- DRAIN_COMPLETE (R395): The last accepted step of a DRAINING panel ends, so the panel is STOPPED and PANEL_STOP completes. -/
  | drainComplete (panel : Nat)
  /-- PANEL_RESET (R394): Resets a panel to STOPPED, clearing its knots and spools. -/
  | panelReset (c : Cmd)
  /-- PANEL_SUSPEND (R398): Saves the panel context to park pages and enters SUSPENDED. -/
  | panelSuspend (c : Cmd)
  /-- PANEL_RESTORE (R399): Checks a saved context and restores registers, knots, queues and the step counter. -/
  | panelRestore (c : Cmd)
  /-- PANEL_CTX_RELEASE (R393): Frees the park pages of a saved context. -/
  | panelCtxRelease (c : Cmd)
  /-- PATTERN_LOAD (R169): Reads, lays out, patches, checks and writes a pattern, or only verifies it. -/
  | patternLoad (c : Cmd)
  /-- PATTERN_UNLOAD (R170): Removes a resident pattern and frees its resources. -/
  | patternUnload (c : Cmd)
  /-- DOORBELL (R413): A doorbell write sets a queue's HOST index if its test passes. -/
  | doorbell (fn q : Nat) (v : BitVec 32)
  /-- QUEUE_ENABLE (R419): Writing ENABLE = 1 to QCFG_CFG checks the configuration and starts the queue. -/
  | queueEnable (fn q : Nat)
  /-- QUEUE_DISABLE (R419): Writing ENABLE = 0 stops the queue's producer and consumer after the packet in progress. -/
  | queueDisable (fn q : Nat)
  /-- RING_FETCH (R413): The fetcher takes an entry from a host-fed ring into the queue while it is not FULL. -/
  | ringFetch (q : Nat)
  /-- RING_WRITE (R413): The writer writes a queued completion or packet to a host-drained ring when the ring has room. -/
  | ringWrite (q : Nat)
  /-- COMMAND_DECODE (R423): The decoder takes the next command, checks it, reserves a completion slot and starts it. -/
  | commandDecode
  /-- QUEUE_PACKET_ARRIVAL (R415): A network packet for a queue endpoint is written into slots, or dropped with 0x0114. -/
  | queuePacketArrival (q : Nat)
  /-- IRQ_DELAY_EXPIRY (R427): DELAY_US after the first unsignalled entry, the queue's vector is signalled. -/
  | irqDelayExpiry (q : Nat)
  /-- QUEUE_CTL (R428): Host command that performs a consumer operation on a queue. -/
  | queueCtl (c : Cmd)
  /-- QUEUE_TAKE (R416): READ passes the packet that starts at READ. -/
  | queueTake (q : Nat)
  /-- QUEUE_DROP (R416): READ skips past the current packet. -/
  | queueDrop (q : Nat)
  /-- QUEUE_MARK (R416): Saves READ as MARK. -/
  | queueMark (q : Nat)
  /-- QUEUE_REWIND (R416): Sets READ back to MARK. -/
  | queueRewind (q : Nat)
  /-- QUEUE_RELEASE (R416): Sets RELEASE to T, freeing slots. -/
  | queueRelease (q : Nat) (v : BitVec 32)
  /-- QUEUE_RESET (R416): Sets all indices to n and clears STOPPED. -/
  | queueReset (q : Nat) (v : BitVec 32)
  /-- PERST (R401): PERST_N resets the PCIe interface and disables every queue that has a ring. -/
  | perst
  /-- VF_FLR (R402): A VF function-level reset resets its panel and its queues. -/
  | vfFlr (panel : Nat)
  /-- PF_FLR (R402): A PF function-level reset performs a warm reset. -/
  | pfFlr
  /-- DEV_RESET (R459): Host command that schedules a warm or cold reset 100 µs after its completion. -/
  | devReset (c : Cmd)
  /-- DEV_RESET_FIRE (R458): 100 µs after the DEV_RESET completion, the named reset begins. -/
  | devResetFire
  /-- VIN_LOW (R430): VIN falls into 40–42 V, which sets VIN_LOW and logs 0x0D01. -/
  | vinLow (mv : Nat)
  /-- VIN_HIGH (R430): VIN rises into 58–59 V, which sets VIN_HIGH and logs 0x0D02. -/
  | vinHigh (mv : Nat)
  /-- INPUT_LOSS (R430): VIN below 40 V for 10 µs, or above 59 V for 1 µs, shuts the rails down. -/
  | inputLoss (mv ns : Nat)
  /-- PWR_EN_RISE (R431): PWR_EN going high in range starts the soft start. -/
  | pwrEnRise (sinceFall : Nat)
  /-- POWER_OK_RISE (R431): The rails are up, POWER_OK rises and the host die begins boot. -/
  | powerOkRise
  /-- PWR_EN_FALL (R431): PWR_EN going low shuts the rails down in reverse order. -/
  | pwrEnFall
  /-- THERMAL_TRIP (R446): A sensor at 115 °C drives THERM_TRIP_N low and shuts the rails down. -/
  | thermalTrip (celsius : Nat)
  /-- POWER_GOVERNOR_DECISION (R437): At each decision stitch the power manager sets domain states, envelopes, throttle, boost and brake release. -/
  | powerGovernorDecision (m : PowerSample)
  /-- PRE_WAKE (R436): At L − W the domains of a launching panel begin to wake. -/
  | preWake (panel : Nat)
  /-- DOMAIN_WAKE_COMPLETE (R436): A woken domain becomes Active, and its queued demands are performed. -/
  | domainWakeComplete (d : Nat)
  /-- POWER_BRAKE (R441): Rail energy falls to BRAKE_MJ, so panels are braked in order and 0x0D04 is logged. -/
  | powerBrake (mj : Nat) (draws : List Nat)
  /-- PWR_ENVELOPE (R447): Sets a panel's envelope and borrow flag from its next launch. -/
  | pwrEnvelope (c : Cmd)
  /-- PWR_HOLD (R447): Holds a domain Active, or returns it to automatic control. -/
  | pwrHold (c : Cmd)
  /-- BOOT_ROM_START (R449): On release from a cold or warm reset, core 0 runs the boot ROM and loads and verifies the flash image. -/
  | bootRomStart
  /-- BOOT_PUSH_GO (R450): Writing DEV_BOOT_PUSH_GO in WAIT_PUSH reads and verifies a pushed image. -/
  | bootPushGo
  /-- BOOT_FIRMWARE_START (R452): Verified boot firmware trains clocks, spares sites, takes the partition, fills, locks and reports ready. -/
  | bootFirmwareStart (failed : List Nat) (low nominal boost : Bool)
  /-- WATCHDOG_KICK (R448): A core writing its own DEV_WDT_KICK bit restarts its watchdog. -/
  | watchdogKick (core : Option Nat) (mask : BitVec 4)
  /-- WATCHDOG_EXPIRY (R448): A core's watchdog expires, which causes a warm reset. -/
  | watchdogExpiry (core : Nat)
  /-- CORE_PARITY_FAIL (R448): A core SRAM parity failure halts the core and causes a warm reset. -/
  | coreParityFail (core : Nat)
  /-- RST_N_ASSERT (R458): RST_N low for 1 µs begins a warm or cold reset. -/
  | rstNAssert (ns : Nat)
  /-- RST_N_RISE (R458): The rising edge of RST_N begins boot. -/
  | rstNRise
  /-- FW_UPDATE (R462): Verifies, programs and reads back a firmware image in the flash slot. -/
  | fwUpdate (c : Cmd)
  /-- ATTEST (R465): Writes a signed attestation report. -/
  | attest (c : Cmd)
  /-- ATTEST_CERT (R464): Writes the identity certificate. -/
  | attestCert (c : Cmd)
  /-- PART_STAGE (R463): Stages a checked partition manifest, optionally persisting it to flash. -/
  | partStage (c : Cmd)
  /-- FW_SVN_COMMIT (R463): Fuses SVN_MIN to the running image's SVN. -/
  | fwSvnCommit (c : Cmd)
  /-- OWNER_KEY_FUSE (R463): Fuses the owner key hash. -/
  | ownerKeyFuse (c : Cmd)
  /-- SMBUS_BLOCK_READ (R506): An SMBus Block Read with command 0x10 to 0x17 returns eight bytes of a status register. -/
  | smbusBlockRead (cmd : BitVec 8)
  /-- SMBUS_WRITE_BYTE (R506): An SMBus Write Byte with command 0x20 clears PWR_EVT bits. -/
  | smbusWriteByte (cmd data : BitVec 8)
  /-- SMBUS_ALERT_RESPONSE (R506): The device answers the SMBus Alert Response Address. -/
  | smbusAlertResponse
  /-- TIME_IN_LOSS (R509): TIME_IN absent for 10 µs clears TIME_IN_OK, holds the cleaner frequency and logs 0x0965. -/
  | timeInLoss
  /-- TIME_IN_RETURN (R509): TIME_IN appears or returns, the cleaner locks to it and TIME_IN_OK is set. -/
  | timeInReturn
  /-- PAIR_ACTIVE (R467): FAB_TWIN_CTL action that checks the pairing and sends the resync image. -/
  | pairActive (peer : Option TwinPeer)
  /-- PAIR_STANDBY (R467): FAB_TWIN_CTL action that prepares the device as standby. -/
  | pairStandby
  /-- UNPAIR (R478): FAB_TWIN_CTL action that leaves the pair with a LEAVE heartbeat. -/
  | unpair
  /-- SOLO (R474): FAB_TWIN_CTL action that releases a FENCED device to serve alone. -/
  | solo
  /-- PROMOTE (R475): FAB_TWIN_CTL action that promotes a waiting standby to head. -/
  | promote
  /-- MIRROR_RECORD (R470): The standby receives a mirror record and applies each complete group in MSEQ order. -/
  | mirrorRecord
  /-- MIRROR_ACK (R471): The active device receives an ACK and releases the output held for the acknowledged groups. -/
  | mirrorAck
  /-- MIRROR_LAG (R471): A group unacknowledged after 2 µs logs 0x0F04. -/
  | mirrorLag
  /-- TWIN_HEARTBEAT (R474): At each 10,000 st multiple a device sends a heartbeat and counts a miss, fencing or promoting at the third. -/
  | twinHeartbeat
  /-- HEARTBEAT_RECEIVE (R474): A received heartbeat clears the miss count, and a LEAVE moves the peer to SOLO or UNPAIRED. -/
  | heartbeatReceive
  /-- HEAD_MOVE (R475): A follower receives HEAD_MOVE, discards unlaunched steps of the former head and answers. -/
  | headMove (panel : Nat)
  /-- DBG_AUTH (R483): Grants debug authorisation for a panel. -/
  | dbgAuth (c : Cmd)
  /-- DBG_DEAUTH (R484): Withdraws debug authorisation. -/
  | dbgDeauth (c : Cmd)
  /-- DBG_HALT (R485): Halts a panel immediately or at a step cycle. -/
  | dbgHalt (c : Cmd)
  /-- HALT_AT_CYCLE (R485): A tile reaches the armed halt step cycle and stops. -/
  | haltAtCycle (t : Nat)
  /-- DBG_RESUME (R486): Releases a halted panel, optionally for N cycles. -/
  | dbgResume (c : Cmd)
  /-- DBG_SNAP (R494): Writes a snapshot of the panel's tile counters. -/
  | dbgSnap (c : Cmd)
  /-- REPLAY_SET (R490): Enters or leaves replay mode. -/
  | replaySet (c : Cmd)
  /-- REPLAY_INJECT (R491): Creates a replay spool from an image. -/
  | replayInject (c : Cmd)
  /-- REPLAY_RUN (R492): Rebuilds a spool's KV and replays one step with dumps. -/
  | replayRun (c : Cmd)
  /-- REGISTER_WRITE (R7): A register write without behaviour of its own is applied by the field's access code. -/
  | registerWrite (a : RegAccess) (v : W64)
  /-- RC_REGISTER_READ (R7): A read of clear-on-read fields returns them and resets them in the same access. -/
  | rcRegisterRead (a : RegAccess)
  /-- LINK_CYCLE (R218): In every 1.28 ns link cycle the port transmitter sends one DATA, CTRL or IDLE flit, taking a VL credit, keeping DATA flits in the replay buffer and serving VLs in the order of R250. -/
  | linkCycle (port : Nat)
  /-- SEAM_PASSIVE_MONITOR (R234): A codeword pair passing through a seam is FEC-decoded passively, and an uncorrectable codeword is counted in LNK_ERR_n.UNCORR of the receiving port. -/
  | seamPassiveMonitor (port : Nat) (bad : Bool)
  /-- VIN_RETURN (R430): VIN rises to 40 V, which powers the standby section and makes SB_3V3 valid within 5 ms, or to 42 V, which ends a VIN_LOW episode and releases a soft start deferred by R510. -/
  | vinReturn (mv : Nat)
  /-- UNPARK_READ_FAIL (R383): A DMA read of a park page fails, so the unpark completes at once with REPREFILL = 1 and KV_TOKENS = 0. -/
  | unparkReadFail (spool : Nat)
  /-- CONFIGURATION_REQUEST (R402): A PCIe configuration request is answered with Configuration Request Retry Status before boot is ready, or is performed, setting fields such as Bus Master Enable and NumVFs. -/
  | configurationRequest (fn : Nat) (op : CfgOp)
  /-- JTAG_ACCESS (R457): A JTAG TAP operation performs boundary scan or IDCODE at any time, and reaches the Thimble debug module only while JTAG_DBG_DIS is 0. -/
  | jtagAccess (op : JtagOp)
  deriving DecidableEq, Repr

end Sys2Proof
end

