-- ==== Sys2Proof/Machine/Codes.lean ====
section
/-! DEFINITION. Status and fault codes (spec/22 R519, R520), one name each. -/

namespace Sys2Proof.Machine.St

/-- Success (R12). -/
abbrev OK : Code := 0x0000
/-- 0x0101 (R519, R520). -/
abbrev CMD_FORMAT : Code := 0x0101
/-- 0x0102 (R519, R520). -/
abbrev CMD_OPCODE : Code := 0x0102
/-- 0x0103 (R519, R520). -/
abbrev CMD_DENIED : Code := 0x0103
/-- 0x0104 (R519, R520). -/
abbrev CQ_INVALID : Code := 0x0104
/-- 0x0105 (R519, R520). -/
abbrev ENGINE_ABSENT : Code := 0x0105
/-- 0x0106 (R519, R520). -/
abbrev DMA_ERROR : Code := 0x0106
/-- 0x0107 (R519, R520). -/
abbrev CMD_ABORTED : Code := 0x0107
/-- 0x0110 (R519, R520). -/
abbrev QUEUE_CONFIG : Code := 0x0110
/-- 0x0111 (R519, R520). -/
abbrev QUEUE_ENABLED : Code := 0x0111
/-- 0x0112 (R519, R520). -/
abbrev QUEUE_OP : Code := 0x0112
/-- 0x0113 (R519, R520). -/
abbrev DOORBELL_INVALID : Code := 0x0113
/-- 0x0114 (R519, R520). -/
abbrev QUEUE_OVERRUN : Code := 0x0114
/-- 0x0201 (R519, R520). -/
abbrev PANEL_NOT_RUNNING : Code := 0x0201
/-- 0x0202 (R519, R520). -/
abbrev PANEL_NOT_STOPPED : Code := 0x0202
/-- 0x0203 (R519, R520). -/
abbrev IMEM_IN_USE : Code := 0x0203
/-- 0x0204 (R519, R520). -/
abbrev PANEL_EMPTY : Code := 0x0204
/-- 0x0205 (R519, R520). -/
abbrev CTX_INVALID : Code := 0x0205
/-- 0x0206 (R519, R520). -/
abbrev CTX_NO_SPACE : Code := 0x0206
/-- 0x0207 (R519, R520). -/
abbrev STEP_COUNTER_LIMIT : Code := 0x0207
/-- 0x0210 (R519, R520). -/
abbrev PARTITION_SIGNATURE : Code := 0x0210
/-- 0x0211 (R519, R520). -/
abbrev PARTITION_FORMAT : Code := 0x0211
/-- 0x0212 (R519, R520). -/
abbrev PARTITION_OVERLAP : Code := 0x0212
/-- 0x0213 (R519, R520). -/
abbrev PARTITION_BUDGET : Code := 0x0213
/-- 0x0301 (R519, R520). -/
abbrev PAT_FORMAT : Code := 0x0301
/-- 0x0302 (R519, R520). -/
abbrev PAT_ISA : Code := 0x0302
/-- 0x0303 (R519, R520). -/
abbrev PAT_GRID : Code := 0x0303
/-- 0x0304 (R519, R520). -/
abbrev PAT_PLACEMENT : Code := 0x0304
/-- 0x0305 (R519, R520). -/
abbrev PAT_NO_SPACE : Code := 0x0305
/-- 0x0306 (R519, R520). -/
abbrev PAT_SCRATCH_SPACE : Code := 0x0306
/-- 0x0307 (R519, R520). -/
abbrev PAT_ENCODING : Code := 0x0307
/-- 0x0308 (R519, R520). -/
abbrev PAT_RESOURCE_RANGE : Code := 0x0308
/-- 0x0309 (R519, R520). -/
abbrev PAT_REGION : Code := 0x0309
/-- 0x030A (R519, R520). -/
abbrev PAT_FOREIGN : Code := 0x030A
/-- 0x030B (R519, R520). -/
abbrev PAT_ND_STRICT : Code := 0x030B
/-- 0x030C (R519, R520). -/
abbrev PAT_ND_UNDECLARED : Code := 0x030C
/-- 0x030D (R519, R520). -/
abbrev PAT_QUEUE_OVERFLOW : Code := 0x030D
/-- 0x030E (R519, R520). -/
abbrev PAT_LATENCY : Code := 0x030E
/-- 0x030F (R519, R520). -/
abbrev PAT_WRITE_HAZARD : Code := 0x030F
/-- 0x0310 (R519, R520). -/
abbrev PAT_NO_WARM : Code := 0x0310
/-- 0x0311 (R519, R520). -/
abbrev PAT_SWAP_LATCH : Code := 0x0311
/-- 0x0312 (R519, R520). -/
abbrev PAT_PATCH : Code := 0x0312
/-- 0x0313 (R519, R520). -/
abbrev PAT_BINDING : Code := 0x0313
/-- 0x0314 (R519, R520). -/
abbrev PAT_TABLE_FULL : Code := 0x0314
/-- 0x0315 (R519, R520). -/
abbrev PAT_HANDLE : Code := 0x0315
/-- 0x0320; the panel enters FAULTED (R519, R520). -/
abbrev FREEZE_TIMEOUT : Code := 0x0320
/-- 0x0321; the panel enters FAULTED (R519, R520). -/
abbrev STEP_OVERRUN : Code := 0x0321
/-- 0x0322 (R519, R520). -/
abbrev STEP_OVERLAP : Code := 0x0322
/-- 0x0401; the panel enters FAULTED (R519, R520). -/
abbrev SP_WRITE_COLLISION : Code := 0x0401
/-- 0x0402; the panel enters FAULTED (R519, R520). -/
abbrev IMEM_CHECK_FAIL : Code := 0x0402
/-- 0x0403; the panel enters FAULTED (R519, R520). -/
abbrev FETCH_RANGE : Code := 0x0403
/-- 0x0404; the panel enters FAULTED (R519, R520). -/
abbrev STEP_CYCLE_LIMIT : Code := 0x0404
/-- 0x0405; the panel enters FAULTED (R519, R520). -/
abbrev SAFFRON_ANCHOR_MISMATCH : Code := 0x0405
/-- 0x0406; the panel enters FAULTED (R519, R520). -/
abbrev DEST_PENDING : Code := 0x0406
/-- 0x0407; the panel enters FAULTED (R519, R520). -/
abbrev NO_WINDOW : Code := 0x0407
/-- 0x0408; the panel enters FAULTED (R519, R520). -/
abbrev WINDOW_RANGE : Code := 0x0408
/-- 0x0409; the panel enters FAULTED (R519, R520). -/
abbrev WINDOW_MODE : Code := 0x0409
/-- 0x040A; the panel enters FAULTED (R519, R520). -/
abbrev ILLEGAL_BUNDLE : Code := 0x040A
/-- 0x040B; the panel enters FAULTED (R519, R520). -/
abbrev WINDOW_DUP : Code := 0x040B
/-- 0x040C; the panel enters FAULTED (R519, R520). -/
abbrev SEND_OVERRUN : Code := 0x040C
/-- 0x040D; the panel enters FAULTED (R519, R520). -/
abbrev REG_WRITE_COLLISION : Code := 0x040D
/-- 0x0410 (R519, R520). -/
abbrev TILE_WINDOW_BUSY : Code := 0x0410
/-- 0x0411 (R519, R520). -/
abbrev TILE_WINDOW_SITE : Code := 0x0411
/-- 0x0412 (R519, R520). -/
abbrev TILE_WINDOW_INDEX : Code := 0x0412
/-- 0x0501; the panel enters FAULTED (R519, R520). -/
abbrev BOB_QUEUE_FULL : Code := 0x0501
/-- 0x0502; the panel enters FAULTED when its own (R519, R520). -/
abbrev BOB_BAD_DESC : Code := 0x0502
/-- 0x0503; the panel enters FAULTED when its own (R519, R520). -/
abbrev BOB_FOREIGN : Code := 0x0503
/-- 0x0504; the panel enters FAULTED when its own (R519, R520). -/
abbrev BOB_PAGE_REMOTE : Code := 0x0504
/-- 0x0505; the panel enters FAULTED when its own (R519, R520). -/
abbrev BOB_LIST_RANGE : Code := 0x0505
/-- 0x0506; the panel enters FAULTED when its own (R519, R520). -/
abbrev BOB_WEIGHT_WRITE : Code := 0x0506
/-- 0x0507; the panel enters FAULTED when its own (R519, R520). -/
abbrev BOB_TIER_ABSENT : Code := 0x0507
/-- 0x0508; the panel enters FAULTED when its own (R519, R520). -/
abbrev BOB_CODEBOOK_MISMATCH : Code := 0x0508
/-- 0x0510 (R519, R520). -/
abbrev BOB_WINDOW_BUSY : Code := 0x0510
/-- 0x0511 (R519, R520). -/
abbrev BOB_WINDOW_SITE : Code := 0x0511
/-- 0x0512 (R519, R520). -/
abbrev BOB_WINDOW_INDEX : Code := 0x0512
/-- 0x0601; the step is discarded (R519, R520). -/
abbrev CHECK_DATA : Code := 0x0601
/-- 0x0602; the panel enters FAULTED (R519, R520). -/
abbrev CHECK_UNWRITTEN : Code := 0x0602
/-- 0x0603; the step is discarded (R519, R520). -/
abbrev CHECK_POISON : Code := 0x0603
/-- 0x0604 (R519, R520). -/
abbrev SVC_CHECK_FAIL : Code := 0x0604
/-- 0x0605 (R519, R520). -/
abbrev PAGE_RETIRED : Code := 0x0605
/-- 0x0606 (R519, R520). -/
abbrev BOBBIN_RETIRED : Code := 0x0606
/-- 0x0607 (R519, R520). -/
abbrev TILE_SPARE_PENDING : Code := 0x0607
/-- 0x0608; the panel enters FAULTED (R519, R520). -/
abbrev REPLAY_LIMIT : Code := 0x0608
/-- 0x0609 (R519, R520). -/
abbrev QUEUE_AREA_DETECT : Code := 0x0609
/-- 0x060A (R519, R520). -/
abbrev RETIRED_TARGET : Code := 0x060A
/-- 0x060B (R519, R520). -/
abbrev INTEGRITY_REFUSED : Code := 0x060B
/-- 0x0701 (R519, R520). -/
abbrev NOC_INTEGRITY : Code := 0x0701
/-- 0x0702; the panel enters FAULTED (R519, R520). -/
abbrev UNKNOWN_FEID : Code := 0x0702
/-- 0x0703; the panel enters FAULTED (R519, R520). -/
abbrev FOREIGN_FEID : Code := 0x0703
/-- 0x0704 (R519, R520). -/
abbrev TENANT_MISMATCH : Code := 0x0704
/-- 0x0705 (R519, R520). -/
abbrev STALE_ROUTE : Code := 0x0705
/-- 0x0706 (R519, R520). -/
abbrev RDIR_SWAP_TOO_SOON : Code := 0x0706
/-- 0x0707 (R519, R520). -/
abbrev RDIR_BUSY : Code := 0x0707
/-- 0x0708 (R519, R520). -/
abbrev RDIR_SET_FULL : Code := 0x0708
/-- 0x0709; the panel enters FAULTED when its own (R519, R520). -/
abbrev ENDPOINT_ABSENT : Code := 0x0709
/-- 0x070A (R519, R520). -/
abbrev RDIR_SWAP_CANCELLED : Code := 0x070A
/-- 0x0802 (R519, R520). -/
abbrev LINK_DOWN : Code := 0x0802
/-- 0x0803 (R519, R520). -/
abbrev CREDIT_VIOLATION : Code := 0x0803
/-- 0x0804 (R519, R520). -/
abbrev LINK_TRAIN_FAIL : Code := 0x0804
/-- 0x0805 (R519, R520). -/
abbrev LINK_DEGRADED : Code := 0x0805
/-- 0x0806 (R519, R520). -/
abbrev LINK_LANE_MAP : Code := 0x0806
/-- 0x0807 (R519, R520). -/
abbrev PORT_EGRESS_DROP : Code := 0x0807
/-- 0x0810 (R519, R520). -/
abbrev SEAM_PORT_STATE : Code := 0x0810
/-- 0x0811 (R519, R520). -/
abbrev SEAM_PORTS : Code := 0x0811
/-- 0x0812 (R519, R520). -/
abbrev SEAM_LIMIT : Code := 0x0812
/-- 0x0813 (R519, R520). -/
abbrev SEAM_JOB : Code := 0x0813
/-- 0x0814 (R519, R520). -/
abbrev PORT_SEAMED : Code := 0x0814
/-- 0x0901 (R519, R520). -/
abbrev FAB_MISWIRE : Code := 0x0901
/-- 0x0902 (R519, R520). -/
abbrev FAB_POS_MISMATCH : Code := 0x0902
/-- 0x0903 (R519, R520). -/
abbrev FAB_DISCOVERY_TIMEOUT : Code := 0x0903
/-- 0x0904 (R519, R520). -/
abbrev FAB_NO_ROUTE : Code := 0x0904
/-- 0x0905 (R519, R520). -/
abbrev FAB_ROOT_CONFLICT : Code := 0x0905
/-- 0x0906 (R519, R520). -/
abbrev FAB_BAD_PARAM : Code := 0x0906
/-- 0x0907 (R519, R520). -/
abbrev FAB_BUSY : Code := 0x0907
/-- 0x0908; the panel enters FAULTED (R519, R520). -/
abbrev FAB_COORD_CHANGED : Code := 0x0908
/-- 0x0909 (R519, R520). -/
abbrev LOADER_CLASS : Code := 0x0909
/-- 0x0960 (R519, R520). -/
abbrev STITCH_UNLOCKED : Code := 0x0960
/-- 0x0961 (R519, R520). -/
abbrev LAUNCH_TOO_SOON : Code := 0x0961
/-- 0x0962 (R519, R520). -/
abbrev STITCH_MASTER_LOST : Code := 0x0962
/-- 0x0963 (R519, R520). -/
abbrev STITCH_MASTER_CONFLICT : Code := 0x0963
/-- 0x0964 (R519, R520). -/
abbrev STITCH_SET_REFUSED : Code := 0x0964
/-- 0x0965 (R519, R520). -/
abbrev TIME_REF_LOST : Code := 0x0965
/-- 0x0A01; the panel enters FAULTED (R519, R520). -/
abbrev KNOT_SATURATED : Code := 0x0A01
/-- 0x0A02; the panel enters FAULTED when its own (R519, R520). -/
abbrev KNOT_FOREIGN : Code := 0x0A02
/-- 0x0A03 (R519, R520). -/
abbrev KNOT_NOT_OWNED : Code := 0x0A03
/-- 0x0A04; the panel enters FAULTED when its own (R519, R520). -/
abbrev KNOT_WAITERS_FULL : Code := 0x0A04
/-- 0x0A05; the panel enters FAULTED when its own (R519, R520). -/
abbrev KNOT_MISUSE : Code := 0x0A05
/-- 0x0A06 (R519, R520). -/
abbrev KNOT_WAIT_ABORTED : Code := 0x0A06
/-- 0x0A07 (R519, R520). -/
abbrev KNOT_WAIT_TIMEOUT : Code := 0x0A07
/-- 0x0A08 (R519, R520). -/
abbrev KNOT_SET_DENIED : Code := 0x0A08
/-- 0x0B01 (R519, R520). -/
abbrev MANIFEST_SIGNATURE : Code := 0x0B01
/-- 0x0B02 (R519, R520). -/
abbrev MANIFEST_FORMAT : Code := 0x0B02
/-- 0x0B03 (R519, R520). -/
abbrev MANIFEST_PLACEMENT : Code := 0x0B03
/-- 0x0B04 (R519, R520). -/
abbrev SEGMENT_DIGEST : Code := 0x0B04
/-- 0x0B06 (R519, R520). -/
abbrev SHARD_BAD : Code := 0x0B06
/-- 0x0B07 (R519, R520). -/
abbrev LOAD_TIMEOUT : Code := 0x0B07
/-- 0x0B08 (R519, R520). -/
abbrev WEIGHTS_BUSY : Code := 0x0B08
/-- 0x0B09 (R519, R520). -/
abbrev REFIT_BARRIER_TOO_SOON : Code := 0x0B09
/-- 0x0B0A (R519, R520). -/
abbrev REFIT_MODEL_MISMATCH : Code := 0x0B0A
/-- 0x0B0B (R519, R520). -/
abbrev MANIFEST_DIGEST_MISMATCH : Code := 0x0B0B
/-- 0x0B0C (R519, R520). -/
abbrev INGEST_TENANT : Code := 0x0B0C
/-- 0x0B10 (R519, R520). -/
abbrev WEIGHTS_NOT_READY : Code := 0x0B10
/-- 0x0B11 (R519, R520). -/
abbrev MIXED_GENERATION : Code := 0x0B11
/-- 0x0B12 (R519, R520). -/
abbrev RELEASE_TABLE : Code := 0x0B12
/-- 0x0C01 (R519, R520). -/
abbrev GSE_NOT_HEAD : Code := 0x0C01
/-- 0x0C02 (R519, R520). -/
abbrev SPOOL_RANGE : Code := 0x0C02
/-- 0x0C03 (R519, R520). -/
abbrev SPOOL_STATE : Code := 0x0C03
/-- 0x0C04 (R519, R520). -/
abbrev SPOOL_TABLE_FULL : Code := 0x0C04
/-- 0x0C05 (R519, R520). -/
abbrev SPOOL_TOO_LONG : Code := 0x0C05
/-- 0x0C06 (R519, R520). -/
abbrev BUCKET_INVALID : Code := 0x0C06
/-- 0x0C07 (R519, R520). -/
abbrev KV_GEOMETRY : Code := 0x0C07
/-- 0x0C08 (R519, R520). -/
abbrev FW_BATCH_LATE : Code := 0x0C08
/-- 0x0C09 (R519, R520). -/
abbrev FW_BATCH_INVALID : Code := 0x0C09
/-- 0x0C0A (R519, R520). -/
abbrev BATCH_DEP_STRICT : Code := 0x0C0A
/-- 0x0C0B (R519, R520). -/
abbrev CHAIN_FULL : Code := 0x0C0B
/-- 0x0C0C (R519, R520). -/
abbrev INPUT_LATE : Code := 0x0C0C
/-- 0x0C10 (R519, R520). -/
abbrev SPOOL_CANCELLED : Code := 0x0C10
/-- 0x0C11 (R519, R520). -/
abbrev SPOOL_DEADLINE : Code := 0x0C11
/-- 0x0C12 (R519, R520). -/
abbrev SPOOL_LATE : Code := 0x0C12
/-- 0x0C13 (R519, R520). -/
abbrev SPOOL_ABORTED : Code := 0x0C13
/-- 0x0C14 (R519, R520). -/
abbrev STOP_STORE_FULL : Code := 0x0C14
/-- 0x0C15 (R519, R520). -/
abbrev SAMPLER_INPUT : Code := 0x0C15
/-- 0x0C16 (R519, R520). -/
abbrev HISTORY_FULL : Code := 0x0C16
/-- 0x0C17 (R519, R520). -/
abbrev HISTORY_LOST : Code := 0x0C17
/-- 0x0C18 (R519, R520). -/
abbrev TOKENIZER_FORMAT : Code := 0x0C18
/-- 0x0C19 (R519, R520). -/
abbrev TOKENIZER_SPACE : Code := 0x0C19
/-- 0x0C1A (R519, R520). -/
abbrev PARK_AREA_INVALID : Code := 0x0C1A
/-- 0x0C1B (R519, R520). -/
abbrev NO_TOKENIZER : Code := 0x0C1B
/-- 0x0D01 (R519, R520). -/
abbrev VIN_LOW : Code := 0x0D01
/-- 0x0D02 (R519, R520). -/
abbrev VIN_HIGH : Code := 0x0D02
/-- 0x0D04 (R519, R520). -/
abbrev POWER_BRAKE : Code := 0x0D04
/-- 0x0D05 (R519, R520). -/
abbrev THERMAL_THROTTLE : Code := 0x0D05
/-- 0x0D08 (R519, R520). -/
abbrev POWER_PARAM : Code := 0x0D08
/-- 0x0D10 (R519, R520). -/
abbrev MARGIN_WARN : Code := 0x0D10
/-- 0x0D11; the step is discarded (R519, R520). -/
abbrev MARGIN_CRIT : Code := 0x0D11
/-- 0x0D12 (R519, R520). -/
abbrev BOOST_UNTRAINED : Code := 0x0D12
/-- 0x0E01 (R519, R520). -/
abbrev FW_FORMAT : Code := 0x0E01
/-- 0x0E02 (R519, R520). -/
abbrev FW_KEY : Code := 0x0E02
/-- 0x0E03 (R519, R520). -/
abbrev FW_SIGNATURE : Code := 0x0E03
/-- 0x0E04 (R519, R520). -/
abbrev FW_ROLLBACK : Code := 0x0E04
/-- 0x0E05 (R519, R520). -/
abbrev FW_DIGEST : Code := 0x0E05
/-- 0x0E06 (R519, R520). -/
abbrev FW_PUSH_DMA : Code := 0x0E06
/-- 0x0E10 (R519, R520). -/
abbrev LOCK_VIOLATION : Code := 0x0E10
/-- 0x0E11 (R519, R520). -/
abbrev FLASH_ERROR : Code := 0x0E11
/-- 0x0E12 (R519, R520). -/
abbrev SEC_BUSY : Code := 0x0E12
/-- 0x0E13 (R519, R520). -/
abbrev FUSE_REFUSED : Code := 0x0E13
/-- 0x0E20 (R519, R520). -/
abbrev CLOCK_TRAIN_FAIL : Code := 0x0E20
/-- 0x0E21 (R519, R520). -/
abbrev SPARE_EXHAUSTED : Code := 0x0E21
/-- 0x0E22 (R519, R520). -/
abbrev SPARE_CHANGED : Code := 0x0E22
/-- 0x0E30 (R519, R520). -/
abbrev CORE_PARITY : Code := 0x0E30
/-- 0x0E31 (R519, R520). -/
abbrev CORE_WATCHDOG : Code := 0x0E31
/-- 0x0F01 (R519, R520). -/
abbrev TWIN_PAIR_REFUSED : Code := 0x0F01
/-- 0x0F02 (R519, R520). -/
abbrev TWIN_HEARTBEAT_LOST : Code := 0x0F02
/-- 0x0F03 (R519, R520). -/
abbrev TWIN_PROMOTED : Code := 0x0F03
/-- 0x0F04 (R519, R520). -/
abbrev TWIN_MIRROR_LAG : Code := 0x0F04
/-- 0x0F05 (R519, R520). -/
abbrev TWIN_STALE_HEAD : Code := 0x0F05
/-- 0x0F06 (R519, R520). -/
abbrev TWIN_QUEUE_OP : Code := 0x0F06
/-- 0x1001 (R519, R520). -/
abbrev DBG_NOT_AUTHORISED : Code := 0x1001
/-- 0x1002 (R519, R520). -/
abbrev DBG_STATE : Code := 0x1002
/-- 0x1003; the step is discarded (R519, R520). -/
abbrev DBG_ALTERED : Code := 0x1003
/-- 0x1004 (R519, R520). -/
abbrev DBG_HALTED_LAUNCH : Code := 0x1004
/-- 0x1005 (R519, R520). -/
abbrev REPLAY_MODE : Code := 0x1005
/-- 0x1006 (R519, R520). -/
abbrev REPLAY_PARAM : Code := 0x1006
/-- 0x1007 (R519, R520). -/
abbrev REPLAY_HISTORY : Code := 0x1007
/-- 0x1008 (R519, R520). -/
abbrev STEPLOG_OVERRUN : Code := 0x1008

/-- The codes with the mark that sends the panel to FAULTED (R520). -/
def faultsPanel : List Code := [FREEZE_TIMEOUT, STEP_OVERRUN, SP_WRITE_COLLISION, IMEM_CHECK_FAIL, FETCH_RANGE, STEP_CYCLE_LIMIT, SAFFRON_ANCHOR_MISMATCH, DEST_PENDING, NO_WINDOW, WINDOW_RANGE, WINDOW_MODE, ILLEGAL_BUNDLE, WINDOW_DUP, SEND_OVERRUN, REG_WRITE_COLLISION, BOB_QUEUE_FULL, CHECK_UNWRITTEN, REPLAY_LIMIT, UNKNOWN_FEID, FOREIGN_FEID, FAB_COORD_CHANGED, KNOT_SATURATED]

/-- The codes that fault a panel when the condition arises from its own tiles, queues or endpoints (R520). -/
def faultsOwn : List Code := [BOB_BAD_DESC, BOB_FOREIGN, BOB_PAGE_REMOTE, BOB_LIST_RANGE, BOB_WEIGHT_WRITE, BOB_TIER_ABSENT, BOB_CODEBOOK_MISMATCH, ENDPOINT_ABSENT, KNOT_FOREIGN, KNOT_WAITERS_FULL, KNOT_MISUSE]

/-- The codes that discard the running step (R520). -/
def discardsStep : List Code := [CHECK_DATA, CHECK_POISON, MARGIN_CRIT, DBG_ALTERED]

end Sys2Proof.Machine.St
end

