-- ==== Sys2Proof/Config.lean ====
section
/-! DEFINITION. The free values of the model: constants with no body, so no proof can see what they are. Each stands for a
value the spec leaves open; each has an entry in the assumption log. -/

namespace Sys2Proof.Config

/-- Which of the two FP32 neighbours of the exact result a transcendental operation returns (R57: within 1 ulp, one fixed
algorithm, so a function of the operation and the input bits alone). `false` is the neighbour toward zero. -/
opaque transAway : Nat → W32 → Bool

/-- The syndrome a word nothing has written since a cold reset fails its check with (R282, R288: every check field is random
after a cold reset): a function of the store and the word. -/
opaque randomSyndrome : Nat → Nat → BitVec 16

/-- Lanes of an LSADD destination that overlaps an operand without equalling it (R149 defines none there): a function of what the
operation reads, and of the lane. -/
opaque overlapLane : Nat → Nat → Int

/-- The list-store entries, as (entry, value), that the serving engine writes into a bobbin before a step (R111 gives neither occasion nor
contents): a function of the step counter and the bobbin. -/
opaque engineList : Nat → Nat → List (Nat × BitVec 32)

/-- A fresh free value: applied to the counter of `State.free`. -/
opaque freeValue : Nat → W64

/-- The fused seed of the identity key (R464 gives no value: every device has its own). -/
opaque identitySeed : BitVec 384

/-- The nonce of a signature the device makes, by the counter of `State.free` (R465 does not say how it is chosen). -/
opaque signatureNonce : Nat → Nat

/-- The answer of a private JTAG instruction (R457, R506 give no effect of one). -/
opaque jtagPrivate : Nat → W64

/-- SHA-384 of the boot ROM, whose contents the spec does not give (R465). -/
opaque romMeasByte : Nat → Byte

/-- The certificate the device CA has signed for a FAB_SERIAL and a public key: its bytes, and its length, which is at most 1,536 (R464 gives
no other contents). -/
opaque certByte : Nat → List Byte → Nat → Byte
opaque certLength : Nat → List Byte → Nat

/-- Stands in for the count of step 6 of R370 where its sums are NaN: a function of what the sampler takes in. -/
opaque nanCount : List Nat → Nat

end Sys2Proof.Config
end

