-- ==== Sys2Proof/Machine/Numbers.lean ====
section
/-! DEFINITION. Number formats and Saffron accumulation (spec/03): decoding and rounding of every element format, FP32
arithmetic, Saffron lanes, block scales, stochastic rounding. Values are exact until the one rounding. -/

namespace Sys2Proof.Machine

/-- An exact value: NaN, an infinity, or (−1)^neg · m · 2^e. A zero has `m = 0`. -/
inductive Num where
  | nan
  | inf (neg : Bool)
  | fin (neg : Bool) (m : Nat) (e : Int)
  deriving DecidableEq, Repr

/-- The special codes of a floating-point format (R71). -/
inductive FpSpecial where
  | ieee   -- E all ones: infinity and NaN
  | e4m3   -- only S.1111.111 is NaN
  | none   -- every code is finite
  deriving DecidableEq, Repr

/-- A floating-point element layout (R71): exponent width, fraction width, bias, special codes. -/
structure FpFmt where
  ew : Nat
  mw : Nat
  bias : Nat
  sp : FpSpecial
  deriving DecidableEq, Repr

def fp32 : FpFmt := ⟨8, 23, 127, .ieee⟩
def bf16 : FpFmt := ⟨8, 7, 127, .ieee⟩
def fp16 : FpFmt := ⟨5, 10, 15, .ieee⟩
def e4m3 : FpFmt := ⟨4, 3, 7, .e4m3⟩
def e5m2 : FpFmt := ⟨5, 2, 15, .ieee⟩
def e3m2 : FpFmt := ⟨3, 2, 3, .none⟩
def e2m3 : FpFmt := ⟨2, 3, 1, .none⟩
def e2m1 : FpFmt := ⟨2, 1, 1, .none⟩

/-- Decode an element (R71). -/
def fpDecode (f : FpFmt) (bits : Nat) : Num :=
  let m := bits % 2 ^ f.mw
  let e := bits / 2 ^ f.mw % 2 ^ f.ew
  let neg := bits / 2 ^ (f.mw + f.ew) % 2 = 1
  let top := e = 2 ^ f.ew - 1
  match f.sp with
  | .ieee =>
    if top then (if m = 0 then .inf neg else .nan)
    else if e = 0 then .fin neg m (1 - (f.bias : Int) - f.mw)
    else .fin neg (2 ^ f.mw + m) ((e : Int) - f.bias - f.mw)
  | .e4m3 =>
    if top && decide (m = 2 ^ f.mw - 1) then .nan
    else if e = 0 then .fin neg m (1 - (f.bias : Int) - f.mw)
    else .fin neg (2 ^ f.mw + m) ((e : Int) - f.bias - f.mw)
  | .none =>
    if e = 0 then .fin neg m (1 - (f.bias : Int) - f.mw)
    else .fin neg (2 ^ f.mw + m) ((e : Int) - f.bias - f.mw)

/-- The canonical NaN of a format (R72). -/
def fpNan (f : FpFmt) : Nat :=
  match f.sp with
  | .ieee => if f.mw = 2 then 0x7F else (2 ^ f.ew - 1) * 2 ^ f.mw + 2 ^ (f.mw - 1)
  | .e4m3 => 0x7F
  | .none => 0

/-- The magnitude code of the largest finite value (R71). -/
def fpMax (f : FpFmt) : Nat :=
  match f.sp with
  | .ieee => (2 ^ f.ew - 1) * 2 ^ f.mw - 1
  | .e4m3 => 2 ^ (f.ew + f.mw) - 2
  | .none => 2 ^ (f.ew + f.mw) - 1

/-- The magnitude code of infinity, where the format has one. -/
def fpInf (f : FpFmt) : Nat := (2 ^ f.ew - 1) * 2 ^ f.mw

/-- Put a sign on a magnitude code. -/
def fpSign (f : FpFmt) (neg : Bool) (mag : Nat) : Nat := if neg then 2 ^ (f.ew + f.mw) + mag else mag

/-- Rounding modes (R92); stochastic rounding carries its 16-bit draw (R96). -/
inductive RMode where
  | rne | rtz
  | sr (draw : Nat)
  deriving DecidableEq, Repr

/-- Round m · 2^e to an integer multiple of 2^q: the two candidates of R92, R96. -/
def roundTo (r : RMode) (m : Nat) (e q : Int) : Nat :=
  if q ≤ e then m * 2 ^ (e - q).toNat
  else
    let sh := (q - e).toNat
    let lo := m / 2 ^ sh
    let rem := m % 2 ^ sh
    if rem = 0 then lo
    else match r with
      | .rtz => lo
      | .rne =>
        if 2 * rem > 2 ^ sh then lo + 1
        else if 2 * rem < 2 ^ sh then lo
        else lo + lo % 2
      | .sr d => if d < rem * 65536 / 2 ^ sh then lo + 1 else lo

/-- The magnitude code of m · 2^e (m > 0) rounded to a format with unbounded exponent range above (subnormals below). -/
def fpRoundMag (f : FpFmt) (r : RMode) (m : Nat) (e : Int) : Nat :=
  let top := e + (Nat.log2 m : Int)
  let emin : Int := 1 - (f.bias : Int)
  let q := (if top < emin then emin else top) - f.mw
  let n := roundTo r m e q
  -- n counts units of 2^q; q + bias + mw is the biased exponent of a normal with n in [2^mw, 2^(mw+1))
  let be := (q + f.bias + f.mw).toNat
  if n < 2 ^ f.mw then n else (be - 1) * 2 ^ f.mw + n

/-- Round an exact value to a format (R92, R93; saturated lanes arrive as infinities). -/
def fpRound (f : FpFmt) (r : RMode) (x : Num) : Nat :=
  match x with
  | .nan => fpNan f
  | .inf neg => fpSign f neg (match f.sp with | .ieee => fpInf f | _ => fpMax f)
  | .fin neg m e =>
    if m = 0 then fpSign f neg 0
    else
      let mag := fpRoundMag f r m e
      if mag ≤ fpMax f then fpSign f neg mag
      else match f.sp, r with
        | .ieee, .rne => fpSign f neg (fpInf f)
        | .ieee, .rtz => fpSign f neg (fpMax f)
        | .ieee, .sr _ =>
          -- the chosen candidate lies beyond the largest finite value: infinity only if it is the one away from zero
          if fpRoundMag f .rtz m e < mag then fpSign f neg (fpInf f) else fpSign f neg (fpMax f)
        | _, _ => fpSign f neg (fpMax f)

/-- Is the value a zero (either sign)? -/
def Num.isZero : Num → Bool
  | .fin _ m _ => m = 0
  | _ => false

/-- The sign of a value. -/
def Num.neg? : Num → Bool
  | .nan => false
  | .inf n => n
  | .fin n _ _ => n

/-- Multiply by 2^k. -/
def Num.scale (k : Int) : Num → Num
  | .fin n m e => .fin n m (e + k)
  | x => x

/-- Change the sign. -/
def Num.negate : Num → Num
  | .nan => .nan
  | .inf n => .inf (!n)
  | .fin n m e => .fin (!n) m e

/-- IEEE product, exact (R56: inf × 0 is NaN). -/
def Num.mulIeee : Num → Num → Num
  | .nan, _ => .nan
  | _, .nan => .nan
  | .inf a, y => if y.isZero then .nan else .inf (a != y.neg?)
  | x, .inf b => if x.isZero then .nan else .inf (x.neg? != b)
  | .fin a m e, .fin b n g => .fin (a != b) (m * n) (e + g)

/-- Signed integer m of an exact finite value in units of 2^q, q at most its exponent. -/
def finInt (neg : Bool) (m : Nat) (e q : Int) : Int :=
  let v : Int := (m * 2 ^ (e - q).toNat : Nat)
  if neg then -v else v

/-- IEEE sum, exact; an exact zero sum is +0 unless both operands are −0 (round to nearest even). -/
def Num.addIeee : Num → Num → Num
  | .nan, _ => .nan
  | _, .nan => .nan
  | .inf a, .inf b => if a = b then .inf a else .nan
  | .inf a, _ => .inf a
  | _, .inf b => .inf b
  | .fin a m e, .fin b n g =>
    let q := if e ≤ g then e else g
    let v := finInt a m e q + finInt b n g q
    if v = 0 then .fin (a && b && decide (m = 0) && decide (n = 0)) 0 0
    else .fin (decide (v < 0)) v.natAbs q

/-- Compare two finite or infinite values: the sign of x − y (NaN: 0). -/
def Num.cmp : Num → Num → Int
  | .fin a m e, .fin b n g =>
    let q := if e ≤ g then e else g
    let v := finInt a m e q - finInt b n g q
    if v < 0 then -1 else if v = 0 then 0 else 1
  | .inf a, .inf b => if a = b then 0 else if a then -1 else 1
  | .inf a, .fin _ _ _ => if a then -1 else 1
  | .fin _ _ _, .inf b => if b then 1 else -1
  | _, _ => 0

/-! ## FP32 helpers -/

def f32 (w : W32) : Num := fpDecode fp32 w.toNat
def toF32 (x : Num) : W32 := BitVec.ofNat 32 (fpRound fp32 .rne x)

/-! ## Element formats of tile and bobbin operations (R135) -/

/-- The value of one packed element by its format code, without block scale (R71, R73, R76). -/
def elemDecode (code : Nat) (bits : Nat) : Num :=
  let sint (w : Nat) (e : Int) : Num :=
    let b := bits % 2 ^ w
    if b < 2 ^ (w - 1) then .fin false b e else .fin true (2 ^ w - b) e
  match code with
  | 0 | 3 => fpDecode e4m3 bits
  | 1 | 4 => fpDecode e5m2 bits
  | 2 => sint 8 0
  | 5 => sint 8 (-6)
  | 6 => fpDecode e3m2 bits
  | 7 => fpDecode e2m3 bits
  | 8 | 9 => fpDecode e2m1 bits
  | 10 => sint 4 0
  | 11 => fpDecode bf16 bits
  | _ => .nan

/-- Bits of one element by format code (R40). -/
def elemBits (code : Nat) : Nat :=
  match code with
  | 0 | 1 | 2 | 3 | 4 | 5 => 8
  | 6 | 7 => 6
  | 8 | 9 | 10 => 4
  | 11 => 16
  | _ => 8

/-- Is the format one with block scales (R74 to R78)? -/
def elemScaled (code : Nat) : Bool := 3 ≤ code && code ≤ 9

/-- Apply an E8M0 scale (R74, R75): 0xFF makes the element NaN. -/
def applyScale (s : Nat) (x : Num) : Num := if s = 0xFF then .nan else x.scale ((s : Int) - 127)

/-! ## Products (R81) -/

/-- A product by the four rules of R81, in order. -/
def saffProduct (x y : Num) : Num :=
  if x.isZero || y.isZero then .fin false 0 0
  else match x, y with
    | .nan, _ => .nan
    | _, .nan => .nan
    | .inf a, b => .inf (a != b.neg?)
    | a, .inf b => .inf (a.neg? != b)
    | .fin a m e, .fin b n g => .fin (a != b) (m * n) (e + g)

/-! ## Saffron lanes (R82 to R91): a lane is the 144-bit integer W -/

def satPos : Int := 2 ^ 143 - 1
def satNeg : Int := -(2 ^ 143 - 1)
def laneNan : Int := -(2 ^ 143)
def finMax : Int := 2 ^ 143 - 2

/-- Is the lane finite (R83)? -/
def laneFinite (w : Int) : Bool := -finMax ≤ w && w ≤ finMax

/-- Clamp an exact sum to the window (R84, R85). -/
def laneClamp (v : Int) : Int := if v > finMax then satPos else if v < -finMax then satNeg else v

/-- A product turned into a term (R84), and whether it sets the overflow flag. -/
def laneTerm (anchor : Int) (p : Num) : Int × Bool :=
  match p with
  | .nan => (laneNan, true)
  | .inf neg => (if neg then satNeg else satPos, true)
  | .fin neg m e =>
    let k := e - anchor
    let mag : Nat := if 0 ≤ k then m * 2 ^ k.toNat else m / 2 ^ (-k).toNat
    let v : Int := if neg then -(mag : Int) else mag
    let t := laneClamp v
    (t, !laneFinite t)

/-- Add a term or a second lane into a lane (R85), and whether the result is saturated or NaN. -/
def laneAdd (l x : Int) : Int × Bool :=
  let r :=
    if l = laneNan || x = laneNan then laneNan
    else if laneFinite l && laneFinite x then laneClamp (l + x)
    else if laneFinite l then x
    else if laneFinite x then l
    else if l = x then l
    else laneNan
  (r, !laneFinite r)

/-- The anchor in bits [9:0] of a scalar register (R82). -/
def anchorOf (v : W64) : Int := (v.extractLsb' 0 10).toInt

/-- The exact value of a lane under an anchor, special lanes as NaN and infinities (R83, R93). -/
def laneNum (anchor : Int) (w : Int) : Num :=
  if w = laneNan then .nan
  else if w = satPos then .inf false
  else if w = satNeg then .inf true
  else .fin (decide (w < 0)) w.natAbs anchor

/-- A lane in 18 little-endian bytes (R89): its two's-complement pattern. -/
def laneBits (w : Int) : Nat := (w % 2 ^ 144).toNat

/-- A lane from its 144-bit pattern (R89). -/
def laneOfBits (n : Nat) : Int := if n < 2 ^ 143 then (n : Int) else (n : Int) - 2 ^ 144

/-! ## Conversions out of Saffron and to packed elements (R92 to R98) -/

/-- Output shift of R95: bits [8:0] as a signed number. -/
def shiftOf (v : W64) : Int := (v.extractLsb' 0 9).toInt

/-- Clamp a signed magnitude into [lo, hi] and give its bits in `w` bits. -/
def intBits (w : Nat) (lo hi : Int) (neg : Bool) (n : Nat) : Nat :=
  let v : Int := if neg then -(n : Int) else n
  let v := if v < lo then lo else if v > hi then hi else v
  (v % 2 ^ w).toNat

/-- Conversion to INT8 with output shift q (R93, R95). -/
def toInt8 (r : RMode) (q : Int) (x : Num) : Nat :=
  match x with
  | .nan => 0
  | .inf neg => if neg then 0x80 else 0x7F
  | .fin neg m e => intBits 8 (-128) 127 neg (roundTo r m (e - q) 0)

/-- The block scale of 32 values (R93, R94), 0xFF when any is NaN or infinite. -/
def blockScale (emax : Int) (xs : List Num) : Nat :=
  if xs.any (fun x => match x with | .fin _ _ _ => false | _ => true) then 0xFF
  else
    let tops := xs.filterMap (fun x => match x with
      | .fin _ m e => if m = 0 then none else some (e + (Nat.log2 m : Int))
      | _ => none)
    match tops with
    | [] => 0x7F
    | t :: ts =>
      let e := ts.foldl max t
      let s := e - emax + 127
      if s < 0 then 0 else if s > 254 then 254 else s.toNat

/-- e_max of R94 by element format code. -/
def emaxOf (code : Nat) : Int :=
  match code with
  | 3 => 8 | 4 => 15 | 6 => 4 | 7 => 2 | 8 => 2 | _ => 0

/-- One element of an MX block under its block scale (R93, R94). -/
def mxElem (code : Nat) (r : RMode) (s : Nat) (x : Num) : Nat :=
  if s = 0xFF then 0
  else
    let y := x.scale (127 - (s : Int))
    let cl (f : FpFmt) : Nat :=
      match y with
      | .fin neg m e =>
        if m = 0 then fpSign f neg 0
        else let mag := fpRoundMag f r m e; fpSign f neg (if mag ≤ fpMax f then mag else fpMax f)
      | _ => 0
    match code with
    | 3 => cl e4m3
    | 4 => cl e5m2
    | 5 => match y with
      | .fin neg m e => intBits 8 (-127) 127 neg (roundTo r m (e + 6) 0)
      | _ => 0
    | 6 => cl e3m2
    | 7 => cl e2m3
    | 8 => cl e2m1
    | _ => 0

/-! ## The rounding stream (R97): ChaCha8 -/

def rotl32 (x : W32) (k : Nat) : W32 := x.rotateLeft k

/-- The ChaCha quarter round on words a b c d of a 16-word state. -/
def quarter (v : List W32) (a b c d : Nat) : List W32 :=
  let va := v.getD a 0; let vb := v.getD b 0; let vc := v.getD c 0; let vd := v.getD d 0
  let va := va + vb; let vd := rotl32 (vd ^^^ va) 16
  let vc := vc + vd; let vb := rotl32 (vb ^^^ vc) 12
  let va := va + vb; let vd := rotl32 (vd ^^^ va) 8
  let vc := vc + vd; let vb := rotl32 (vb ^^^ vc) 7
  (((v.set a va).set b vb).set c vc).set d vd

/-- One double round: four column rounds, four diagonal rounds. -/
def doubleRound (v : List W32) : List W32 :=
  let v := quarter v 0 4 8 12
  let v := quarter v 1 5 9 13
  let v := quarter v 2 6 10 14
  let v := quarter v 3 7 11 15
  let v := quarter v 0 5 10 15
  let v := quarter v 1 6 11 12
  let v := quarter v 2 7 8 13
  quarter v 3 4 9 14

/-- The ChaCha8 block function with its final addition (R97). -/
def chacha8 (w : List W32) : List W32 :=
  List.zipWith (· + ·) (doubleRound (doubleRound (doubleRound (doubleRound w)))) w

/-- The 16 input words of a rounding or sampling stream (R97; R370 with its own w8 to w11). -/
def streamWords (seed step : W64) (w8 w9 w10 w11 : W32) (blk : W64) : List W32 :=
  [0x61707865, 0x3320646E, 0x79622D32, 0x6B206574,
   seed.extractLsb' 0 32, seed.extractLsb' 32 32, step.extractLsb' 0 32, (step.extractLsb' 32 16).setWidth 32,
   w8, w9, w10, w11, blk.extractLsb' 0 32, blk.extractLsb' 32 32, 0, 0]

/-- Where the draws of a conversion come from (R97). -/
structure SrCtx where
  seed : W64
  step : W64
  gx : Nat
  gy : Nat
  tier : Nat
  q : Nat
  deriving DecidableEq, Repr

/-- The 16-bit draw of element e (R97). -/
def srDraw (c : SrCtx) (e : Nat) : Nat :=
  let out := chacha8 (streamWords c.seed c.step (BitVec.ofNat 32 (c.gx % 65536 + 65536 * (c.gy % 65536))) 1
    (BitVec.ofNat 32 (c.tier % 256)) 0 (BitVec.ofNat 64 (c.q * 64 + e / 32)))
  let j := e % 32
  let w := (out.getD (j / 2) 0).toNat
  if j % 2 = 0 then w % 65536 else w / 65536

/-- The rounding mode of element e: code 0 RNE, 1 RTZ, 2 SR (R136). -/
def rmodeOf (code : Nat) (c : SrCtx) (e : Nat) : RMode :=
  match code with
  | 1 => .rtz
  | 2 => .sr (srDraw c e)
  | _ => .rne

end Sys2Proof.Machine
end

