-- ==== Sys2Proof/Machine/Store.lean ====
section
/-! DEFINITION. Sparse storage in one canonical form: a list of (key, value) pairs, keys strictly rising, no value equal
to what an unlisted key reads as. Every memory, register file and array of records of the machine is held so. -/

namespace Sys2Proof

/-- A sparse array: what is not listed reads as the default its user names. -/
abbrev Store (α : Type) := List (Nat × α)

namespace Machine

/-- Read key `k`; `d` is what an unlisted key reads as. -/
def sget {α : Type} (d : α) : Store α → Nat → α
  | [], _ => d
  | (k, v) :: r, i => if i = k then v else sget d r i

/-- Remove key `k`. -/
def sdel {α : Type} : Store α → Nat → Store α
  | [], _ => []
  | (k, v) :: r, i => if i = k then sdel r i else (k, v) :: sdel r i

/-- Insert before the first larger key. -/
def sins {α : Type} (i : Nat) (x : α) : Store α → Store α
  | [] => [(i, x)]
  | (k, v) :: r => if i < k then (i, x) :: (k, v) :: r else (k, v) :: sins i x r

/-- Write key `k`, keeping the canonical form: writing the default removes the entry. -/
def sset {α : Type} [DecidableEq α] (d : α) (m : Store α) (k : Nat) (v : α) : Store α :=
  if v = d then sdel m k else sins k v (sdel m k)

/-- Change the value at key `k` by a function. -/
def supd {α : Type} [DecidableEq α] (d : α) (m : Store α) (k : Nat) (f : α → α) : Store α :=
  sset d m k (f (sget d m k))

/-- Remove every key in [lo, hi). -/
def seraseRange {α : Type} : Store α → Nat → Nat → Store α
  | [], _, _ => []
  | (k, v) :: r, lo, hi =>
    if lo ≤ k ∧ k < hi then seraseRange r lo hi else (k, v) :: seraseRange r lo hi

/-- Change every listed value by a function of its key and value; values that become the default are dropped. -/
def smap {α : Type} [DecidableEq α] (d : α) (f : Nat → α → α) : Store α → Store α
  | [] => []
  | (k, v) :: r => if f k v = d then smap d f r else (k, f k v) :: smap d f r

/-- The entries of a block of values at successive keys from `k`, without the default. -/
def sblock {α : Type} [DecidableEq α] (d : α) (k : Nat) : List α → Store α
  | [] => []
  | v :: vs => if v = d then sblock d (k + 1) vs else (k, v) :: sblock d (k + 1) vs

/-- Write a list of values at successive keys from `k`. -/
def ssetList {α : Type} [DecidableEq α] (d : α) (m : Store α) (k : Nat) (l : List α) : Store α :=
  m.filter (fun e => e.1 < k) ++ sblock d k l ++ m.filter (fun e => k + l.length ≤ e.1)

/-- Read `n` successive keys from `k`. -/
def sgetList {α : Type} (d : α) (m : Store α) (k n : Nat) : List α :=
  let r := m.filter (fun e => k ≤ e.1 && e.1 < k + n)
  (List.range n).map (fun i => sget d r (k + i))

/-- Every key of the list exceeds `lo`, keys rise, and no value is the default. -/
def swfFrom {α : Type} [DecidableEq α] (d : α) : Option Nat → Store α → Bool
  | _, [] => true
  | none, (k, v) :: r => decide (v ≠ d) && swfFrom d (some k) r
  | some lo, (k, v) :: r => decide (lo < k) && decide (v ≠ d) && swfFrom d (some k) r

/-- The canonical form of a sparse array. -/
def swf {α : Type} [DecidableEq α] (d : α) (m : Store α) : Bool := swfFrom d none m

/-- A set of numbers held as disjoint runs [lo, hi), rising. -/
abbrev Runs := List (Nat × Nat)

/-- Is `k` in the set? -/
def runsMem (r : Runs) (k : Nat) : Bool := r.any (fun p => p.1 ≤ k && k < p.2)

/-- Take [lo, hi) out of the set. -/
def runsDel : Runs → Nat → Nat → Runs
  | [], _, _ => []
  | (a, b) :: r, lo, hi =>
    (if a < min b lo then [(a, min b lo)] else []) ++
    (if max a hi < b then [(max a hi, b)] else []) ++ runsDel r lo hi

/-- Put a run into its place, joining it with a run it touches. -/
def runsIns (lo hi : Nat) : Runs → Runs
  | [] => [(lo, hi)]
  | (a, b) :: r =>
    if hi < a then (lo, hi) :: (a, b) :: r
    else if b < lo then (a, b) :: runsIns lo hi r
    else runsIns (min a lo) (max b hi) r

/-- Add [lo, hi) to the set. -/
def runsAdd (r : Runs) (lo hi : Nat) : Runs := if lo < hi then runsIns lo hi r else r

/-- Are all of [lo, hi) in the set? (The runs are joined, so one run holds them.) -/
def runsCover (r : Runs) (lo hi : Nat) : Bool := lo ≥ hi || r.any (fun p => p.1 ≤ lo && hi ≤ p.2)

/-- Put a number into a rising list of numbers, once. -/
def nins (i : Nat) : List Nat → List Nat
  | [] => [i]
  | k :: r => if i < k then i :: k :: r else if i = k then k :: r else k :: nins i r

/-- Take a number out of a list of numbers. -/
def ndel (i : Nat) (l : List Nat) : List Nat := l.filter (· ≠ i)

/-- Insert before the first element it may stand before. -/
def insBy {α : Type} (le : α → α → Bool) (x : α) : List α → List α
  | [] => [x]
  | y :: r => if le x y then x :: y :: r else y :: insBy le x r

/-- Sort a list, keeping equals in order. -/
def sortBy {α : Type} (le : α → α → Bool) : List α → List α
  | [] => []
  | x :: r => insBy le x (sortBy le r)

/-- Replace element `i` of a list by a function of it (out of range: no change). -/
def lmod {α : Type} : List α → Nat → (α → α) → List α
  | [], _, _ => []
  | x :: xs, 0, f => f x :: xs
  | x :: xs, i + 1, f => x :: lmod xs i f

end Machine
end Sys2Proof
end

