-- ==== Sys2Proof/Machine/Regs.lean ====
section
/-! DEFINITION. The register fields of the device, from the register tables of spec/00 to spec/20: each field's offset, place,
width, access code (R7) and reset value (R9), and the table of registers a bus access goes through. A field marked
`fused` has here its value on the flagship at stepping A1 (log entry 1); one marked `by boot` has 0 until boot writes it. -/

namespace Sys2Proof.Machine

/-- Access codes of register fields (R7). -/
inductive Access where
  | ro | rw | rws | w1c | wo | rc
  deriving DecidableEq, Repr

/-- One register field: `off` the register's key (its BAR0 offset, plus 2^26 for each instance behind a window), `lo` its
lowest bit, `w` its width. -/
structure Fld where
  off : Nat
  lo : Nat
  w : Nat
  acc : Access
  reset : Nat
  deriving DecidableEq, Repr

/-- Default role of a port in the 24-port map (R242). -/
def portRole24 (i : Nat) : Nat :=
  [0, 1, 2, 3, 0, 1, 2, 4, 0, 1, 2, 3, 0, 1, 2, 4, 5, 6, 7, 8, 9, 0x80, 0x81, 0x82].getD i 0xFF

/-- Default member index of a port in the 24-port map: its place in the order the map lists the role's ports (R242). -/
def portMember24 (i : Nat) : Nat := [0, 0, 0, 0, 1, 1, 1, 0, 2, 2, 2, 1, 3, 3, 3, 1].getD i 0

/-- Default role and member index of a port in the 16-port map (R242). -/
def portRole16 (i : Nat) : Nat := [0, 1, 2, 3, 4, 5, 6, 7, 0, 1, 2, 8, 9, 0x80, 0x81, 0x82].getD i 0xFF
def portMember16 (i : Nat) : Nat := [0, 0, 0, 0, 0, 0, 0, 0, 1, 1, 1].getD i 0

/-- Where a field's value is held. -/
def Fld.key (f : Fld) : Nat := f.off * 64 + f.lo

/-- The key of a register behind the tile window, for tile `t` (R68). -/
def tileInst (t : Nat) : Nat := 0x4000000 * (t + 1)

/-- The key of a register behind the bobbin window, for bobbin `b` (R129). -/
def bobInst (b : Nat) : Nat := 0x4000000 * (b + 4096)

/-! ## Fused values: the flagship at stepping A1 (log entry 1) -/

/-- Device latency values at A1 (R178). -/
def latDevice (i : Nat) : Nat :=
  [6, 72, 36, 2, 4, 8, 8, 12, 6, 9, 10, 2, 10, 3, 4, 4, 4, 6, 12, 24, 4, 2, 2, 4, 6, 16].getD i 0

/-- Kinds of the latency items: 0 hold, 1 fixed, 2 minimum (R178). -/
def latKind (i : Nat) : Nat := if i = 15 ∨ i = 24 ∨ i = 25 then 1 else if 20 ≤ i ∧ i ≤ 23 then 2 else 0

/-- Largest permitted hold (R178). -/
def latMaxHold (i : Nat) : Nat := if latKind i ≠ 0 then 0 else if 16 ≤ i then 7 else 15

/-- Is the item's unit bcy (R178)? -/
def latBcy (i : Nat) : Nat := if 16 ≤ i ∧ i ≤ 19 then 1 else 0

/-- Capacity of a power domain in units of 0.5 W (R433). -/
def domCap (i : Nat) : Nat :=
  if i < 64 then 50 else if i < 76 then 75 else if i < 82 then 150 else if i = 82 then 30 else 220

namespace Reg

def DEV_ID_VENDOR : Fld := ⟨0x0, 0, 16, .ro, 7994⟩
def DEV_ID_DEVICE : Fld := ⟨0x0, 16, 16, .ro, 50176⟩
def DEV_ID_STEPPING : Fld := ⟨0x0, 32, 4, .ro, 1⟩
def DEV_ID_FIELDS : Fld := ⟨0x0, 36, 3, .ro, 4⟩
def DEV_GRADE_GRADE_CODE : Fld := ⟨0x8, 0, 8, .ro, 1⟩
def DEV_GRADE_ROW_SALVAGE : Fld := ⟨0x8, 8, 1, .ro, 0⟩
def DEV_FEAT_TILE_ROWS_PER_FIELD : Fld := ⟨0x10, 0, 5, .ro, 16⟩
def DEV_FEAT_TILE_SITES_PER_ROW : Fld := ⟨0x10, 5, 5, .ro, 17⟩
def DEV_FEAT_TILE_ACTIVE_TILES : Fld := ⟨0x10, 10, 11, .ro, 1024⟩
def DEV_FEAT_TILE_GRID_W : Fld := ⟨0x10, 21, 6, .ro, 32⟩
def DEV_FEAT_TILE_GRID_H : Fld := ⟨0x10, 27, 6, .ro, 32⟩
def DEV_FEAT_TILE_DISABLED_ROWS : Fld := ⟨0x10, 33, 3, .ro, 0⟩
def DEV_ROW_MAP_DISABLED : Fld := ⟨0x18, 0, 64, .ro, 0⟩
def DEV_FEAT_MEM_STACK_PAGES : Fld := ⟨0x20, 0, 20, .ro, 393216⟩
def DEV_FEAT_MEM_TIERS : Fld := ⟨0x20, 20, 2, .ro, 3⟩
def DEV_FEAT_MEM_BOBBIN_MIB : Fld := ⟨0x20, 22, 6, .ro, 8⟩
def DEV_FEAT_MEM_SCRATCH_MIB : Fld := ⟨0x20, 28, 4, .ro, 2⟩
def DEV_FEAT_LINK_LINK_DIES : Fld := ⟨0x28, 0, 3, .ro, 6⟩
def DEV_FEAT_LINK_FABRIC_PORTS : Fld := ⟨0x28, 3, 5, .ro, 24⟩
def DEV_FEAT_LINK_PORTS_PER_DIE : Fld := ⟨0x28, 8, 4, .ro, 4⟩
def DEV_FEAT_LINK_LANES_PER_PORT : Fld := ⟨0x28, 12, 4, .ro, 8⟩
def DEV_FEAT_LINK_MAX_SEAMS : Fld := ⟨0x28, 16, 4, .ro, 12⟩
def DEV_FEAT_SVC_KNOTS : Fld := ⟨0x30, 0, 17, .ro, 65536⟩
def DEV_FEAT_SVC_QUEUES : Fld := ⟨0x30, 17, 15, .ro, 16384⟩
def DEV_FEAT_SVC_SPOOLS : Fld := ⟨0x30, 32, 15, .ro, 16384⟩
def DEV_FEAT_SVC_PANELS : Fld := ⟨0x30, 47, 5, .ro, 16⟩
def DEV_FEAT_SVC_MAX_BATCH : Fld := ⟨0x30, 52, 10, .ro, 512⟩
def DEV_FEAT_PWR_MAX_INPUT_W : Fld := ⟨0x38, 0, 16, .ro, 2400⟩
def DEV_FEAT_PWR_POWER_DOMAINS : Fld := ⟨0x38, 16, 7, .ro, 84⟩
def STI_COUNT_COUNT : Fld := ⟨0x200000, 0, 64, .ro, 0⟩
def STI_STATUS_STATE : Fld := ⟨0x200008, 0, 3, .ro, 0⟩
def STI_STATUS_IS_MASTER : Fld := ⟨0x200008, 3, 1, .ro, 0⟩
def STI_STATUS_MASTER_COORD : Fld := ⟨0x200008, 4, 10, .ro, 0⟩
def STI_STATUS_UPSTREAM_PORT : Fld := ⟨0x200008, 14, 5, .ro, 31⟩
def STI_STATUS_HOPS : Fld := ⟨0x200008, 19, 3, .ro, 0⟩
def STI_STATUS_TIME_IN_OK : Fld := ⟨0x200008, 22, 1, .ro, 0⟩
def STI_CTL_ROLE : Fld := ⟨0x200010, 0, 2, .rw, 0⟩
def STI_CTL_HOLD_MS : Fld := ⟨0x200010, 2, 8, .rw, 10⟩
def STI_OFFSET_OFFSET : Fld := ⟨0x200018, 0, 32, .ro, 0⟩
def STI_OFFSET_FREQ_ADJ : Fld := ⟨0x200018, 32, 16, .ro, 0⟩
def STI_FRAME_LOSS_COUNT : Fld := ⟨0x200020, 0, 32, .rc, 0⟩
def STI_LOCK_CNT_COUNT : Fld := ⟨0x200028, 0, 16, .ro, 0⟩
def STI_NEXT_LAUNCH_STITCH : Fld := ⟨0x200030, 0, 64, .ro, 0⟩
def STI_CLK_POINT : Fld := ⟨0x200038, 0, 2, .ro, 0⟩
def STI_CLK_PEND_POINT : Fld := ⟨0x200038, 2, 2, .ro, 0⟩
def STI_CLK_PEND : Fld := ⟨0x200038, 4, 1, .ro, 0⟩
def STI_CLK_TRAINED : Fld := ⟨0x200038, 5, 1, .ro, 0⟩
def STI_CLK_LAUNCH_ARMED : Fld := ⟨0x200038, 6, 1, .ro, 0⟩
def STI_CLK_BOOST_OK : Fld := ⟨0x200038, 7, 1, .ro, 0⟩
def STI_CLK_CHANGES : Fld := ⟨0x200038, 16, 16, .ro, 0⟩
def STI_CLK_WIN_WIN_START : Fld := ⟨0x200040, 0, 64, .ro, 0⟩
def STI_SKEW_MAX_PS : Fld := ⟨0x200048, 0, 8, .rc, 0⟩
def STI_SKEW_RETRAINS : Fld := ⟨0x200048, 8, 16, .ro, 0⟩
def STI_MARGIN_MARGIN_PS (i : Nat) : Fld := ⟨0x200100 + 8 * i, 0, 8, .ro, 0⟩
def STI_MARGIN_LOW_PS (i : Nat) : Fld := ⟨0x200100 + 8 * i, 8, 8, .rc, 255⟩
def STI_MARGIN_WARN_PS (i : Nat) : Fld := ⟨0x200100 + 8 * i, 16, 8, .rw, 20⟩
def STI_MARGIN_CRIT_PS (i : Nat) : Fld := ⟨0x200100 + 8 * i, 24, 8, .rw, 8⟩
def STI_MARGIN_WARN_CNT (i : Nat) : Fld := ⟨0x200100 + 8 * i, 32, 16, .ro, 0⟩
def STI_MARGIN_VSTEPS (i : Nat) : Fld := ⟨0x200100 + 8 * i, 48, 4, .ro, 0⟩
def TILE_SEL_FIELD : Fld := ⟨0x3C00000, 0, 2, .rw, 0⟩
def TILE_SEL_ROW : Fld := ⟨0x3C00000, 2, 4, .rw, 0⟩
def TILE_SEL_SITE : Fld := ⟨0x3C00000, 6, 5, .rw, 0⟩
def TILE_SEL_VALID : Fld := ⟨0x3C00000, 63, 1, .ro, 1⟩
def TILE_ID_GRID_X (t : Nat) : Fld := ⟨tileInst t + 0x3C00008, 0, 5, .ro, 0⟩
def TILE_ID_GRID_Y (t : Nat) : Fld := ⟨tileInst t + 0x3C00008, 5, 5, .ro, 0⟩
def TILE_ID_ROLE (t : Nat) : Fld := ⟨tileInst t + 0x3C00008, 10, 2, .ro, 0⟩
def TILE_ID_PANEL (t : Nat) : Fld := ⟨tileInst t + 0x3C00008, 12, 4, .ro, 0⟩
def TILE_ID_OWNED (t : Nat) : Fld := ⟨tileInst t + 0x3C00008, 16, 1, .ro, 0⟩
def TILE_ID_TENANT (t : Nat) : Fld := ⟨tileInst t + 0x3C00008, 24, 8, .ro, 0⟩
def TILE_STATUS_STATE (t : Nat) : Fld := ⟨tileInst t + 0x3C00010, 0, 3, .ro, 5⟩
def TILE_STATUS_PC (t : Nat) : Fld := ⟨tileInst t + 0x3C00010, 3, 13, .ro, 0⟩
def TILE_STATUS_STEP_CY (t : Nat) : Fld := ⟨tileInst t + 0x3C00010, 16, 40, .ro, 0⟩
def TILE_STATUS_CHECK_ERR (t : Nat) : Fld := ⟨tileInst t + 0x3C00010, 56, 1, .w1c, 0⟩
def TILE_ARRAY_STAT_RAMP (t : Nat) : Fld := ⟨tileInst t + 0x3C00018, 0, 2, .ro, 0⟩
def TILE_ARRAY_STAT_OVF0 (t : Nat) : Fld := ⟨tileInst t + 0x3C00018, 2, 1, .ro, 0⟩
def TILE_ARRAY_STAT_OVF1 (t : Nat) : Fld := ⟨tileInst t + 0x3C00018, 3, 1, .ro, 0⟩
def TILE_ARRAY_STAT_LATCH_B_VALID (t : Nat) : Fld := ⟨tileInst t + 0x3C00018, 4, 1, .ro, 0⟩
def TILE_ARRAY_STAT_COLD_STARTS (t : Nat) : Fld := ⟨tileInst t + 0x3C00018, 16, 16, .ro, 0⟩
def TILE_LATE_COUNT (t : Nat) : Fld := ⟨tileInst t + 0x3C00020, 0, 32, .ro, 0⟩
def TILE_LATE_LAST_CAUSE (t : Nat) : Fld := ⟨tileInst t + 0x3C00020, 32, 4, .ro, 0⟩
def TILE_LATE_LAST_CY (t : Nat) : Fld := ⟨tileInst t + 0x3C00020, 36, 28, .ro, 0⟩
def TILE_CTL_CNT_CLR (t : Nat) : Fld := ⟨tileInst t + 0x3C00028, 0, 1, .wo, 0⟩
def TILE_CTL_ZG_DIS (t : Nat) : Fld := ⟨tileInst t + 0x3C00028, 1, 1, .rw, 0⟩
def TILE_PORT_WAIT_NET_WAIT (t : Nat) : Fld := ⟨tileInst t + 0x3C00030, 0, 32, .ro, 0⟩
def TILE_PORT_WAIT_VERT_WAIT (t : Nat) : Fld := ⟨tileInst t + 0x3C00030, 32, 32, .ro, 0⟩
def TILE_FAULT_CODE (t : Nat) : Fld := ⟨tileInst t + 0x3C00038, 0, 16, .ro, 0⟩
def TILE_FAULT_CY (t : Nat) : Fld := ⟨tileInst t + 0x3C00038, 16, 40, .ro, 0⟩
def TILE_BANK_CONF_BANK_LO (t : Nat) (i : Nat) : Fld := ⟨tileInst t + 0x3C00040 + 8 * i, 0, 32, .rc, 0⟩
def TILE_BANK_CONF_BANK_HI (t : Nat) (i : Nat) : Fld := ⟨tileInst t + 0x3C00040 + 8 * i, 32, 32, .rc, 0⟩
def TILE_PERF_ARRAY_COUNT (t : Nat) : Fld := ⟨tileInst t + 0x3C00100, 0, 48, .ro, 0⟩
def TILE_PERF_ARRAY_OVF (t : Nat) : Fld := ⟨tileInst t + 0x3C00100, 48, 1, .w1c, 0⟩
def TILE_PERF_ZERO_COUNT (t : Nat) : Fld := ⟨tileInst t + 0x3C00108, 0, 48, .ro, 0⟩
def TILE_PERF_ZERO_OVF (t : Nat) : Fld := ⟨tileInst t + 0x3C00108, 48, 1, .w1c, 0⟩
def TILE_PERF_VEC_COUNT (t : Nat) : Fld := ⟨tileInst t + 0x3C00110, 0, 48, .ro, 0⟩
def TILE_PERF_VEC_OVF (t : Nat) : Fld := ⟨tileInst t + 0x3C00110, 48, 1, .w1c, 0⟩
def TILE_PERF_FROZEN_COUNT (t : Nat) : Fld := ⟨tileInst t + 0x3C00118, 0, 48, .ro, 0⟩
def TILE_PERF_FROZEN_OVF (t : Nat) : Fld := ⟨tileInst t + 0x3C00118, 48, 1, .w1c, 0⟩
def TILE_MEM_ADDR_SPACE : Fld := ⟨0x3C00200, 0, 3, .rw, 0⟩
def TILE_MEM_ADDR_INDEX : Fld := ⟨0x3C00200, 8, 16, .rw, 0⟩
def TILE_MEM_CMD_GO : Fld := ⟨0x3C00208, 0, 1, .wo, 0⟩
def TILE_MEM_CMD_WRITE : Fld := ⟨0x3C00208, 1, 1, .wo, 0⟩
def TILE_MEM_CMD_RAW_CHECK : Fld := ⟨0x3C00208, 2, 1, .wo, 0⟩
def TILE_MEM_STAT_BUSY : Fld := ⟨0x3C00210, 0, 1, .ro, 0⟩
def TILE_MEM_STAT_MISMATCH : Fld := ⟨0x3C00210, 1, 1, .ro, 0⟩
def TILE_MEM_STAT_STATUS : Fld := ⟨0x3C00210, 16, 16, .ro, 0⟩
def TILE_MEM_DATA_DATA (i : Nat) : Fld := ⟨0x3C00220 + 8 * i, 0, 64, .rw, 0⟩
def TILE_MEM_CHECK_CHECK : Fld := ⟨0x3C00240, 0, 16, .rw, 0⟩
def TILE_SLOT_MASK_MASK (t : Nat) (i : Nat) : Fld := ⟨tileInst t + 0x3C00300 + 8 * i, 0, 64, .ro, 0⟩
def BOB_SEL_FIELD : Fld := ⟨0x3E00000, 0, 2, .rw, 0⟩
def BOB_SEL_ROW : Fld := ⟨0x3E00000, 2, 4, .rw, 0⟩
def BOB_SEL_SITE : Fld := ⟨0x3E00000, 6, 5, .rw, 0⟩
def BOB_SEL_TIER : Fld := ⟨0x3E00000, 11, 2, .rw, 0⟩
def BOB_SEL_VALID : Fld := ⟨0x3E00000, 63, 1, .ro, 1⟩
def BOB_ID_INDEX (b : Nat) : Fld := ⟨bobInst b + 0x3E00008, 0, 12, .ro, 0⟩
def BOB_ID_PAGE_BASE (b : Nat) : Fld := ⟨bobInst b + 0x3E00008, 12, 20, .ro, 0⟩
def BOB_STATUS_STEP_DEPTH (b : Nat) : Fld := ⟨bobInst b + 0x3E00010, 0, 4, .ro, 0⟩
def BOB_STATUS_SVC_DEPTH (b : Nat) : Fld := ⟨bobInst b + 0x3E00010, 4, 5, .ro, 0⟩
def BOB_STATUS_OP (b : Nat) : Fld := ⟨bobInst b + 0x3E00010, 16, 8, .ro, 0⟩
def BOB_STATUS_MB_USED (b : Nat) : Fld := ⟨bobInst b + 0x3E00010, 24, 5, .ro, 0⟩
def BOB_FLAGS_OVF (b : Nat) : Fld := ⟨bobInst b + 0x3E00018, 0, 1, .ro, 0⟩
def BOB_FLAGS_DETECT (b : Nat) : Fld := ⟨bobInst b + 0x3E00018, 1, 1, .w1c, 0⟩
def BOB_FLAGS_LAST_CODE (b : Nat) : Fld := ⟨bobInst b + 0x3E00018, 16, 16, .ro, 0⟩
def BOB_CB_CB_ID (b : Nat) : Fld := ⟨bobInst b + 0x3E00020, 0, 16, .ro, 0⟩
def BOB_CB_VALID (b : Nat) : Fld := ⟨bobInst b + 0x3E00020, 16, 1, .ro, 0⟩
def BOB_PERF_READ_COUNT (b : Nat) : Fld := ⟨bobInst b + 0x3E00100, 0, 48, .ro, 0⟩
def BOB_PERF_READ_OVF (b : Nat) : Fld := ⟨bobInst b + 0x3E00100, 48, 1, .w1c, 0⟩
def BOB_PERF_MAC_COUNT (b : Nat) : Fld := ⟨bobInst b + 0x3E00108, 0, 48, .ro, 0⟩
def BOB_PERF_MAC_OVF (b : Nat) : Fld := ⟨bobInst b + 0x3E00108, 48, 1, .w1c, 0⟩
def BOB_PERF_SVC_COUNT (b : Nat) : Fld := ⟨bobInst b + 0x3E00110, 0, 48, .ro, 0⟩
def BOB_PERF_SVC_OVF (b : Nat) : Fld := ⟨bobInst b + 0x3E00110, 48, 1, .w1c, 0⟩
def BOB_MB_STAT_RMW (b : Nat) : Fld := ⟨bobInst b + 0x3E00118, 0, 32, .rc, 0⟩
def BOB_MB_STAT_EVICT (b : Nat) : Fld := ⟨bobInst b + 0x3E00118, 32, 32, .rc, 0⟩
def BOB_MEM_ADDR_SPACE : Fld := ⟨0x3E00200, 0, 3, .rw, 0⟩
def BOB_MEM_ADDR_INDEX : Fld := ⟨0x3E00200, 8, 24, .rw, 0⟩
def BOB_MEM_CMD_GO : Fld := ⟨0x3E00208, 0, 1, .wo, 0⟩
def BOB_MEM_CMD_WRITE : Fld := ⟨0x3E00208, 1, 1, .wo, 0⟩
def BOB_MEM_CMD_RAW_CHECK : Fld := ⟨0x3E00208, 2, 1, .wo, 0⟩
def BOB_MEM_STAT_BUSY : Fld := ⟨0x3E00210, 0, 1, .ro, 0⟩
def BOB_MEM_STAT_MISMATCH : Fld := ⟨0x3E00210, 1, 1, .ro, 0⟩
def BOB_MEM_STAT_STATUS : Fld := ⟨0x3E00210, 16, 16, .ro, 0⟩
def BOB_MEM_DATA_DATA (i : Nat) : Fld := ⟨0x3E00220 + 8 * i, 0, 64, .rw, 0⟩
def BOB_MEM_CHECK_CHECK : Fld := ⟨0x3E00260, 0, 16, .rw, 0⟩
def BOB_CAP_STEP_Q : Fld := ⟨0x3F00000, 0, 4, .ro, 8⟩
def BOB_CAP_SVC_Q : Fld := ⟨0x3F00000, 4, 5, .ro, 16⟩
def BOB_CAP_LIST : Fld := ⟨0x3F00000, 9, 10, .ro, 512⟩
def BOB_CAP_ACT_KIB : Fld := ⟨0x3F00000, 19, 8, .ro, 64⟩
def BOB_CAP_ACC_LANES : Fld := ⟨0x3F00000, 27, 12, .ro, 2048⟩
def BOB_CAP_UP_CH : Fld := ⟨0x3F00000, 39, 2, .ro, 2⟩
def BOB_CAP_DN_CH : Fld := ⟨0x3F00000, 41, 2, .ro, 2⟩
def BOB_PNL_SPLIT_KV_FIRST (i : Nat) : Fld := ⟨0x3F00100 + 8 * i, 0, 8, .rw, 0⟩
def DEV_FEAT_ISA_ISA_MAJOR : Fld := ⟨0x40, 0, 8, .ro, 1⟩
def DEV_FEAT_ISA_ISA_MINOR : Fld := ⟨0x40, 8, 8, .ro, 0⟩
def DEV_FEAT_ISA_TREGS : Fld := ⟨0x40, 16, 8, .ro, 32⟩
def DEV_FEAT_ISA_VLANES : Fld := ⟨0x40, 24, 8, .ro, 64⟩
def DEV_FEAT_ISA_BUNDLES : Fld := ⟨0x40, 32, 14, .ro, 8192⟩
def DEV_FEAT_ISA_AXIS_SWAP : Fld := ⟨0x40, 46, 1, .ro, 1⟩
def DEV_FEAT_ISA_CLOVE4 : Fld := ⟨0x40, 47, 1, .ro, 1⟩
def DEV_FEAT_ISA_NUTMEG : Fld := ⟨0x40, 48, 1, .ro, 1⟩
def DEV_FEAT_ISA_WINDOWS : Fld := ⟨0x40, 49, 5, .ro, 16⟩
def DEV_FEAT_ISA_SEND_SLOTS : Fld := ⟨0x40, 54, 4, .ro, 4⟩
def DEV_FEAT_ISA_TRANS_LAT : Fld := ⟨0x40, 58, 4, .ro, 12⟩
def TILE_WIN_OPEN (t : Nat) (i : Nat) : Fld := ⟨tileInst t + 0x3C00400 + 8 * i, 0, 1, .ro, 0⟩
def TILE_WIN_MODE (t : Nat) (i : Nat) : Fld := ⟨tileInst t + 0x3C00400 + 8 * i, 1, 2, .ro, 0⟩
def TILE_WIN_DK (t : Nat) (i : Nat) : Fld := ⟨tileInst t + 0x3C00400 + 8 * i, 3, 1, .ro, 0⟩
def TILE_WIN_KNOT (t : Nat) (i : Nat) : Fld := ⟨tileInst t + 0x3C00400 + 8 * i, 4, 16, .ro, 0⟩
def TILE_WIN_CHUNKS (t : Nat) (i : Nat) : Fld := ⟨tileInst t + 0x3C00400 + 8 * i, 20, 12, .ro, 0⟩
def TILE_WIN_DROPPED (t : Nat) (i : Nat) : Fld := ⟨tileInst t + 0x3C00400 + 8 * i, 32, 32, .ro, 0⟩
def TILE_SEND_STAT_OUTSTANDING (t : Nat) : Fld := ⟨tileInst t + 0x3C00480, 0, 3, .ro, 0⟩
def TILE_SEND_STAT_PACKETS (t : Nat) : Fld := ⟨tileInst t + 0x3C00480, 16, 32, .ro, 0⟩
def LAT_INFO_PROFILE : Fld := ⟨0x3A00000, 0, 8, .ro, 1⟩
def LAT_INFO_ITEMS : Fld := ⟨0x3A00000, 8, 8, .ro, 26⟩
def LAT_INFO_HOLD_TREE : Fld := ⟨0x3A00000, 16, 8, .ro, 6⟩
def LAT_FREEZE_LIMIT_LIMIT_US : Fld := ⟨0x3A00008, 0, 32, .rw, 2000⟩
def LAT_ITEM_DEVICE (i : Nat) : Fld := ⟨0x3A00100 + 8 * i, 0, 8, .ro, latDevice i⟩
def LAT_ITEM_MAX_HOLD (i : Nat) : Fld := ⟨0x3A00100 + 8 * i, 8, 8, .ro, latMaxHold i⟩
def LAT_ITEM_KIND (i : Nat) : Fld := ⟨0x3A00100 + 8 * i, 16, 2, .ro, latKind i⟩
def LAT_ITEM_BCY (i : Nat) : Fld := ⟨0x3A00100 + 8 * i, 18, 1, .ro, latBcy i⟩
def LAT_PNL_FREEZES (i : Nat) : Fld := ⟨0x3A00200 + 8 * i, 0, 32, .ro, 0⟩
def LAT_PNL_LAST_X (i : Nat) : Fld := ⟨0x3A00200 + 8 * i, 32, 5, .ro, 0⟩
def LAT_PNL_LAST_Y (i : Nat) : Fld := ⟨0x3A00200 + 8 * i, 37, 5, .ro, 0⟩
def LAT_PNL_LAST_CAUSE (i : Nat) : Fld := ⟨0x3A00200 + 8 * i, 42, 4, .ro, 0⟩
def LAT_PNL_FROZEN (i : Nat) : Fld := ⟨0x3A00200 + 8 * i, 46, 1, .ro, 0⟩
def LAT_PNL_CY_COUNT (i : Nat) : Fld := ⟨0x3A00300 + 8 * i, 0, 48, .ro, 0⟩
def LAT_PNL_CY_OVF (i : Nat) : Fld := ⟨0x3A00300 + 8 * i, 48, 1, .w1c, 0⟩
def FAB_NOC_CTL_CM_THRESH : Fld := ⟨0x2080000, 0, 3, .rw, 3⟩
def FAB_NOC_CTL_SELV_CM_THRESH : Fld := ⟨0x2080000, 3, 4, .rw, 6⟩
def FAB_NOC_CTL_INJ_LIMIT : Fld := ⟨0x2080000, 8, 7, .rw, 48⟩
def FAB_NOC_CTL_STARVE_CY : Fld := ⟨0x2080000, 16, 8, .rw, 64⟩
def FAB_NOC_CTL_COMB_DIS : Fld := ⟨0x2080000, 24, 1, .rw, 0⟩
def FAB_RDIR_STAT_ACTIVE : Fld := ⟨0x2080008, 0, 1, .ro, 0⟩
def FAB_RDIR_STAT_SWAP_ARMED : Fld := ⟨0x2080008, 1, 1, .ro, 0⟩
def FAB_RDIR_STAT_SHADOW_LOCKED : Fld := ⟨0x2080008, 2, 1, .ro, 0⟩
def FAB_RDIR_STAT_ACTIVE_USED : Fld := ⟨0x2080008, 3, 17, .ro, 0⟩
def FAB_RDIR_STAT_SHADOW_USED : Fld := ⟨0x2080008, 20, 17, .ro, 0⟩
def FAB_RDIR_STAT_SWAPS : Fld := ⟨0x2080008, 37, 16, .ro, 0⟩
def FAB_RDIR_SWAP_AT_STITCH : Fld := ⟨0x2080010, 0, 64, .ro, 0⟩
def FAB_NOC_ERR_INTEGRITY : Fld := ⟨0x2080018, 0, 16, .rc, 0⟩
def FAB_NOC_ERR_LOOKUP : Fld := ⟨0x2080018, 16, 16, .rc, 0⟩
def FAB_NOC_ERR_TENANT : Fld := ⟨0x2080018, 32, 16, .rc, 0⟩
def FAB_NOC_ERR_STALE : Fld := ⟨0x2080018, 48, 16, .rc, 0⟩
def FAB_NOC_LASTERR_CODE : Fld := ⟨0x2080020, 0, 16, .ro, 0⟩
def FAB_NOC_LASTERR_SRC : Fld := ⟨0x2080020, 16, 24, .ro, 0⟩
def FAB_NOC_LASTERR_DST : Fld := ⟨0x2080020, 40, 24, .ro, 0⟩
def FAB_NOC_COMB_COUNT : Fld := ⟨0x2080028, 0, 48, .ro, 0⟩
def FAB_NOC_COMB_OVF : Fld := ⟨0x2080028, 48, 1, .w1c, 0⟩
def FAB_SELV_ATTACH_COLUMN (i : Nat) : Fld := ⟨0x2080100 + 8 * i, 0, 1, .ro, 0⟩
def FAB_SELV_ATTACH_SITE (i : Nat) : Fld := ⟨0x2080100 + 8 * i, 1, 5, .ro, 0⟩
def FAB_SELV_ATTACH_GRID_Y (i : Nat) : Fld := ⟨0x2080100 + 8 * i, 6, 5, .ro, 0⟩
def FAB_SELV_ATTACH_ALT (i : Nat) : Fld := ⟨0x2080100 + 8 * i, 11, 1, .ro, 0⟩
def FAB_SELV_ATTACH_PRESENT (i : Nat) : Fld := ⟨0x2080100 + 8 * i, 12, 1, .ro, 1⟩
def FAB_SELV_IN_COUNT (i : Nat) : Fld := ⟨0x2080200 + 8 * i, 0, 48, .ro, 0⟩
def FAB_SELV_IN_OVF (i : Nat) : Fld := ⟨0x2080200 + 8 * i, 48, 1, .w1c, 0⟩
def FAB_SELV_OUT_COUNT (i : Nat) : Fld := ⟨0x2080300 + 8 * i, 0, 48, .ro, 0⟩
def FAB_SELV_OUT_OVF (i : Nat) : Fld := ⟨0x2080300 + 8 * i, 48, 1, .w1c, 0⟩
def FAB_SELV_STAT_FULL_CY (i : Nat) : Fld := ⟨0x2080400 + 8 * i, 0, 32, .rc, 0⟩
def FAB_SELV_STAT_LIMIT_CY (i : Nat) : Fld := ⟨0x2080400 + 8 * i, 32, 24, .rc, 0⟩
def FAB_SELV_STAT_MAX_OCC (i : Nat) : Fld := ⟨0x2080400 + 8 * i, 56, 4, .rc, 0⟩
def LNK_CTL_RETRY_MS : Fld := ⟨0x2000000, 0, 8, .rw, 100⟩
def LNK_CTL_NAK_LIMIT : Fld := ⟨0x2000000, 8, 8, .rw, 8⟩
def LNK_CTL_CM_THRESH : Fld := ⟨0x2000000, 16, 9, .rw, 96⟩
def LNK_CTL_X4_EN : Fld := ⟨0x2000000, 25, 1, .rw, 1⟩
def LNK_SEAM_VALID (i : Nat) : Fld := ⟨0x2000100 + 8 * i, 0, 1, .ro, 0⟩
def LNK_SEAM_PORT_A (i : Nat) : Fld := ⟨0x2000100 + 8 * i, 1, 5, .ro, 0⟩
def LNK_SEAM_PORT_B (i : Nat) : Fld := ⟨0x2000100 + 8 * i, 6, 5, .ro, 0⟩
def LNK_SEAM_JOB (i : Nat) : Fld := ⟨0x2000100 + 8 * i, 11, 32, .ro, 0⟩
def LNK_PCTL_MODE (i : Nat) : Fld := ⟨0x2010000 + 256 * i, 0, 2, .ro, 0⟩
def LNK_PSTAT_STATE (i : Nat) : Fld := ⟨0x2010008 + 256 * i, 0, 3, .ro, 0⟩
def LNK_PSTAT_WIDTH (i : Nat) : Fld := ⟨0x2010008 + 256 * i, 3, 1, .ro, 0⟩
def LNK_PSTAT_LANES_HI (i : Nat) : Fld := ⟨0x2010008 + 256 * i, 4, 1, .ro, 0⟩
def LNK_PSTAT_REVERSED (i : Nat) : Fld := ⟨0x2010008 + 256 * i, 5, 1, .ro, 0⟩
def LNK_PSTAT_RATE_OK (i : Nat) : Fld := ⟨0x2010008 + 256 * i, 6, 1, .ro, 0⟩
def LNK_PSTAT_POLARITY (i : Nat) : Fld := ⟨0x2010008 + 256 * i, 7, 8, .ro, 0⟩
def LNK_PSTAT_LAST_CAUSE (i : Nat) : Fld := ⟨0x2010008 + 256 * i, 15, 4, .ro, 0⟩
def LNK_PRTT_RTT_NS (i : Nat) : Fld := ⟨0x2010010 + 256 * i, 0, 16, .ro, 0⟩
def LNK_PCRED_VL0 (i : Nat) : Fld := ⟨0x2010018 + 256 * i, 0, 9, .ro, 0⟩
def LNK_PCRED_VL1 (i : Nat) : Fld := ⟨0x2010018 + 256 * i, 9, 9, .ro, 0⟩
def LNK_PCRED_VL2 (i : Nat) : Fld := ⟨0x2010018 + 256 * i, 18, 7, .ro, 0⟩
def LNK_PCRED_REPLAY (i : Nat) : Fld := ⟨0x2010018 + 256 * i, 25, 10, .ro, 0⟩
def LNK_FEC_CORR (i : Nat) : Fld := ⟨0x2010020 + 256 * i, 0, 48, .ro, 0⟩
def LNK_FEC_OVF (i : Nat) : Fld := ⟨0x2010020 + 256 * i, 48, 1, .w1c, 0⟩
def LNK_ERR_UNCORR (i : Nat) : Fld := ⟨0x2010028 + 256 * i, 0, 16, .rc, 0⟩
def LNK_ERR_CRC (i : Nat) : Fld := ⟨0x2010028 + 256 * i, 16, 16, .rc, 0⟩
def LNK_ERR_REPLAY (i : Nat) : Fld := ⟨0x2010028 + 256 * i, 32, 16, .rc, 0⟩
def LNK_ERR_RETRAIN (i : Nat) : Fld := ⟨0x2010028 + 256 * i, 48, 8, .rc, 0⟩
def LNK_ERR_CREDIT (i : Nat) : Fld := ⟨0x2010028 + 256 * i, 56, 8, .rc, 0⟩
def LNK_TXFLITS_COUNT (i : Nat) : Fld := ⟨0x2010030 + 256 * i, 0, 48, .ro, 0⟩
def LNK_TXFLITS_OVF (i : Nat) : Fld := ⟨0x2010030 + 256 * i, 48, 1, .w1c, 0⟩
def LNK_RXFLITS_COUNT (i : Nat) : Fld := ⟨0x2010038 + 256 * i, 0, 48, .ro, 0⟩
def LNK_RXFLITS_OVF (i : Nat) : Fld := ⟨0x2010038 + 256 * i, 48, 1, .w1c, 0⟩
def LNK_DROP_PACKETS (i : Nat) : Fld := ⟨0x2010040 + 256 * i, 0, 32, .rc, 0⟩
def LNK_LANE_PRESET (i : Nat) (j : Nat) : Fld := ⟨0x2010080 + 256 * i + 8 * j, 0, 4, .rw, 4⟩
def LNK_LANE_INVERTED (i : Nat) (j : Nat) : Fld := ⟨0x2010080 + 256 * i + 8 * j, 4, 1, .ro, 0⟩
def LNK_LANE_FAILED (i : Nat) (j : Nat) : Fld := ⟨0x2010080 + 256 * i + 8 * j, 5, 1, .ro, 0⟩
def LNK_LANE_SYM_ERR (i : Nat) (j : Nat) : Fld := ⟨0x2010080 + 256 * i + 8 * j, 16, 16, .rc, 0⟩
def LNK_LANE_EYE_MV (i : Nat) (j : Nat) : Fld := ⟨0x2010080 + 256 * i + 8 * j, 32, 8, .ro, 0⟩
def FAB_CTL_DIMS : Fld := ⟨0x2100000, 0, 4, .rw, 10⟩
def FAB_CTL_BOARD_DIMS : Fld := ⟨0x2100000, 4, 3, .rw, 3⟩
def FAB_CTL_ROOT_COORD : Fld := ⟨0x2100000, 7, 10, .rw, 0⟩
def FAB_CTL_AS_ROOT : Fld := ⟨0x2100000, 17, 1, .ro, 0⟩
def FAB_CTL_IDENT_US : Fld := ⟨0x2100000, 18, 8, .rw, 100⟩
def FAB_STAT_DSTATE : Fld := ⟨0x2100008, 0, 2, .ro, 0⟩
def FAB_STAT_COORD : Fld := ⟨0x2100008, 2, 10, .ro, 0⟩
def FAB_STAT_HOPS : Fld := ⟨0x2100008, 12, 8, .ro, 255⟩
def FAB_STAT_MISWIRED : Fld := ⟨0x2100008, 20, 5, .ro, 0⟩
def FAB_STAT_EPOCH : Fld := ⟨0x2100008, 32, 32, .ro, 0⟩
def FAB_SERIAL_SERIAL : Fld := ⟨0x2100010, 0, 64, .ro, 1⟩
def FAB_ROOT_SERIAL_SERIAL : Fld := ⟨0x2100018, 0, 64, .ro, 0⟩
def FAB_ECN_CTL_RESTORE_US : Fld := ⟨0x2100020, 0, 8, .rw, 10⟩
def FAB_ECN_CTL_RESTORE_STEP : Fld := ⟨0x2100020, 8, 6, .rw, 4⟩
def FAB_ECN_CTL_FLOOR_SHIFT : Fld := ⟨0x2100020, 14, 4, .rw, 8⟩
def FAB_ECN_CTL_ECHO_GAP_US : Fld := ⟨0x2100020, 18, 8, .rw, 2⟩
def FAB_ECN_CTL_E_MIN : Fld := ⟨0x2100020, 26, 6, .rw, 4⟩
def FAB_ECN_STAT_ECHO_TX : Fld := ⟨0x2100028, 0, 24, .rc, 0⟩
def FAB_ECN_STAT_ECHO_RX : Fld := ⟨0x2100028, 24, 24, .rc, 0⟩
def FAB_ECN_STAT_MIN_RATE : Fld := ⟨0x2100028, 48, 16, .rc, 65535⟩
def FAB_LDR_CTL_TENANT : Fld := ⟨0x2100030, 0, 8, .rw, 0⟩
def FAB_LDR_CTL_ENABLE : Fld := ⟨0x2100030, 8, 1, .rw, 0⟩
def FAB_DROP_NO_ROUTE : Fld := ⟨0x2100038, 0, 32, .rc, 0⟩
def FAB_DROP_LOADER : Fld := ⟨0x2100038, 32, 16, .rc, 0⟩
def FAB_PORTMAP_ROLE (i : Nat) : Fld := ⟨0x2100100 + 8 * i, 0, 8, .ro, portRole24 i⟩
def FAB_PORTMAP_MEMBER (i : Nat) : Fld := ⟨0x2100100 + 8 * i, 8, 2, .ro, portMember24 i⟩
def FAB_PORTMAP_IN_SERVICE (i : Nat) : Fld := ⟨0x2100100 + 8 * i, 10, 1, .ro, 0⟩
def FAB_PORTMAP_REMOVED (i : Nat) : Fld := ⟨0x2100100 + 8 * i, 11, 1, .ro, 0⟩
def FAB_PORTMAP_MISWIRED (i : Nat) : Fld := ⟨0x2100100 + 8 * i, 12, 1, .ro, 0⟩
def FAB_NBR_COORD (i : Nat) : Fld := ⟨0x2100200 + 8 * i, 0, 10, .ro, 0⟩
def FAB_NBR_VALID (i : Nat) : Fld := ⟨0x2100200 + 8 * i, 10, 1, .ro, 0⟩
def FAB_NBR_PORT (i : Nat) : Fld := ⟨0x2100200 + 8 * i, 11, 5, .ro, 0⟩
def FAB_NBR_ROLE (i : Nat) : Fld := ⟨0x2100200 + 8 * i, 16, 8, .ro, 255⟩
def FAB_NBR_MEMBER (i : Nat) : Fld := ⟨0x2100200 + 8 * i, 24, 2, .ro, 0⟩
def FAB_EXPECT_COORD (i : Nat) : Fld := ⟨0x2100300 + 8 * i, 0, 10, .ro, 0⟩
def FAB_EXPECT_VALID (i : Nat) : Fld := ⟨0x2100300 + 8 * i, 10, 1, .ro, 0⟩
def FAB_EXPECT_PORT (i : Nat) : Fld := ⟨0x2100300 + 8 * i, 11, 5, .ro, 0⟩
def FAB_EXPECT_ROLE (i : Nat) : Fld := ⟨0x2100300 + 8 * i, 16, 8, .ro, 255⟩
def FAB_EXPECT_MEMBER (i : Nat) : Fld := ⟨0x2100300 + 8 * i, 24, 2, .ro, 0⟩
def FAB_NBR_SER_SERIAL (i : Nat) : Fld := ⟨0x2100400 + 8 * i, 0, 64, .ro, 0⟩
def DBG_KNOT_CAP_PER_TILE : Fld := ⟨0x3900000, 0, 8, .ro, 48⟩
def DBG_KNOT_CAP_HOST_KNOTS : Fld := ⟨0x3900000, 8, 16, .ro, 16384⟩
def DBG_KNOT_CAP_TILE_WAITERS : Fld := ⟨0x3900000, 24, 8, .ro, 64⟩
def DBG_KNOT_CAP_HOST_WAITERS : Fld := ⟨0x3900000, 32, 13, .ro, 4096⟩
def DBG_KNOT_CTL_LEND_US : Fld := ⟨0x3900008, 0, 16, .rw, 20⟩
def DBG_KNOT_SEL_KNOT : Fld := ⟨0x3900010, 0, 16, .rw, 0⟩
def DBG_KNOT_STAT_COUNT : Fld := ⟨0x3900018, 0, 32, .ro, 0⟩
def DBG_KNOT_STAT_WAITERS : Fld := ⟨0x3900018, 32, 12, .ro, 0⟩
def DBG_KNOT_STAT_STUCK : Fld := ⟨0x3900018, 44, 1, .ro, 0⟩
def DBG_KNOT_STAT_OWNED : Fld := ⟨0x3900018, 45, 1, .ro, 0⟩
def DBG_KNOT_STAT_PANEL : Fld := ⟨0x3900018, 46, 4, .ro, 0⟩
def DBG_KNOT_STAT_TENANT : Fld := ⟨0x3900018, 50, 8, .ro, 0⟩
def DBG_KNOT_STAT_ALL_KIND : Fld := ⟨0x3900018, 58, 1, .ro, 0⟩
def DBG_KNOT_ERR_FOREIGN : Fld := ⟨0x3900020, 0, 16, .rc, 0⟩
def DBG_KNOT_ERR_FULL : Fld := ⟨0x3900020, 16, 16, .rc, 0⟩
def DBG_KNOT_ERR_ORPHAN : Fld := ⟨0x3900020, 32, 16, .rc, 0⟩
def DBG_KNOT_ERR_MISUSE : Fld := ⟨0x3900020, 48, 16, .rc, 0⟩
def INT_FLOG_HEAD_SEQ : Fld := ⟨0x3000000, 0, 32, .ro, 0⟩
def INT_FLOG_TAIL_SEQ : Fld := ⟨0x3000008, 0, 32, .rw, 0⟩
def INT_FLOG_STAT_LOST : Fld := ⟨0x3000010, 0, 32, .rc, 0⟩
def INT_PATROL_CTL_ENABLE : Fld := ⟨0x3000018, 0, 1, .rw, 1⟩
def INT_PATROL_CTL_PERIOD_MS : Fld := ⟨0x3000018, 1, 16, .rw, 1000⟩
def INT_PATROL_CTL_PASSES : Fld := ⟨0x3000018, 32, 32, .ro, 0⟩
def INT_RECOVER_CTL_AUTO : Fld := ⟨0x3000020, 0, 1, .rw, 1⟩
def INT_RECOVER_CTL_BANK_LIMIT : Fld := ⟨0x3000020, 1, 4, .rw, 4⟩
def INT_RECOVER_CTL_TILE_LIMIT : Fld := ⟨0x3000020, 5, 4, .rw, 4⟩
def INT_RECOVER_CTL_REPLAY_MAX : Fld := ⟨0x3000020, 9, 3, .rw, 3⟩
def INT_DETECT_CNT_DATA : Fld := ⟨0x3000028, 0, 16, .rc, 0⟩
def INT_DETECT_CNT_UNWRITTEN : Fld := ⟨0x3000028, 16, 16, .rc, 0⟩
def INT_DETECT_CNT_POISON : Fld := ⟨0x3000028, 32, 16, .rc, 0⟩
def INT_DETECT_CNT_RETIRED : Fld := ⟨0x3000028, 48, 16, .rc, 0⟩
def INT_PAGE_SEL_PAGE : Fld := ⟨0x3000030, 0, 20, .rw, 0⟩
def INT_PAGE_INFO_WRITTEN : Fld := ⟨0x3000038, 0, 1, .ro, 0⟩
def INT_PAGE_INFO_SUSPECT : Fld := ⟨0x3000038, 1, 1, .ro, 0⟩
def INT_PAGE_INFO_REFETCH : Fld := ⟨0x3000038, 2, 1, .ro, 0⟩
def INT_PAGE_INFO_RETIRED : Fld := ⟨0x3000038, 3, 1, .ro, 0⟩
def INT_PAGE_INFO_BOBBIN_RETIRED : Fld := ⟨0x3000038, 4, 1, .ro, 0⟩
def PNL_WGT_CAP_INGEST_GBS : Fld := ⟨0x380000, 0, 16, .ro, 800⟩
def PNL_WGT_CAP_PCIE_GBS : Fld := ⟨0x380000, 16, 16, .ro, 121⟩
def PNL_WGT_CAP_LDR_PORTS : Fld := ⟨0x380000, 32, 3, .ro, 4⟩
def PNL_WGT_CAP_MAX_LAYERS : Fld := ⟨0x380000, 35, 10, .ro, 512⟩
def PNL_WGT_CAP_SOURCES : Fld := ⟨0x380000, 45, 8, .ro, 8⟩
def PNL_WGT_CTL_REFETCH_MAX : Fld := ⟨0x380008, 0, 4, .rw, 3⟩
def PNL_WGT_CTL_REQ_TIMEOUT_US : Fld := ⟨0x380008, 8, 16, .rw, 2000⟩
def PNL_WGT_CTL_REQ_WINDOW : Fld := ⟨0x380008, 24, 8, .rw, 32⟩
def PNL_WGT_LSEL_PANEL : Fld := ⟨0x380010, 0, 4, .rw, 0⟩
def PNL_WGT_LSEL_LAYER : Fld := ⟨0x380010, 16, 9, .rw, 0⟩
def PNL_WGT_LTAG_GEN : Fld := ⟨0x380018, 0, 32, .ro, 0⟩
def PNL_WGT_LTAG_DONE : Fld := ⟨0x380018, 32, 1, .ro, 0⟩
def PNL_WGT_LTAG_VALID : Fld := ⟨0x380018, 33, 1, .ro, 0⟩
def PNL_WGT_STATE_STATE (i : Nat) : Fld := ⟨0x380100 + 64 * i, 0, 3, .ro, 0⟩
def PNL_WGT_STATE_HEAD (i : Nat) : Fld := ⟨0x380100 + 64 * i, 3, 1, .ro, 0⟩
def PNL_WGT_STATE_SHARD (i : Nat) : Fld := ⟨0x380100 + 64 * i, 4, 2, .ro, 0⟩
def PNL_WGT_STATE_DEV_INDEX (i : Nat) : Fld := ⟨0x380100 + 64 * i, 6, 10, .ro, 0⟩
def PNL_WGT_STATE_DEVICES (i : Nat) : Fld := ⟨0x380100 + 64 * i, 16, 11, .ro, 0⟩
def PNL_WGT_STATE_DEVS_DONE (i : Nat) : Fld := ⟨0x380100 + 64 * i, 27, 11, .ro, 0⟩
def PNL_WGT_STATE_POLICY (i : Nat) : Fld := ⟨0x380100 + 64 * i, 38, 1, .ro, 0⟩
def PNL_WGT_STATE_RELEASE_WAIT (i : Nat) : Fld := ⟨0x380100 + 64 * i, 39, 1, .ro, 0⟩
def PNL_WGT_STATE_HEAD_COORD (i : Nat) : Fld := ⟨0x380100 + 64 * i, 40, 10, .ro, 0⟩
def PNL_WGT_MODEL_MODEL_ID (i : Nat) : Fld := ⟨0x380108 + 64 * i, 0, 64, .ro, 0⟩
def PNL_WGT_GEN_GEN (i : Nat) : Fld := ⟨0x380110 + 64 * i, 0, 32, .ro, 0⟩
def PNL_WGT_GEN_NEW_GEN (i : Nat) : Fld := ⟨0x380110 + 64 * i, 32, 32, .ro, 0⟩
def PNL_WGT_PROG_LAYERS (i : Nat) : Fld := ⟨0x380118 + 64 * i, 0, 10, .ro, 0⟩
def PNL_WGT_PROG_LAYERS_DONE (i : Nat) : Fld := ⟨0x380118 + 64 * i, 10, 10, .ro, 0⟩
def PNL_WGT_PROG_SEGS (i : Nat) : Fld := ⟨0x380118 + 64 * i, 20, 21, .ro, 0⟩
def PNL_WGT_PROG_SEGS_DONE (i : Nat) : Fld := ⟨0x380118 + 64 * i, 41, 21, .ro, 0⟩
def PNL_WGT_BARRIER_STITCH (i : Nat) : Fld := ⟨0x380120 + 64 * i, 0, 64, .ro, 0⟩
def PNL_WGT_BYTES_COUNT (i : Nat) : Fld := ⟨0x380128 + 64 * i, 0, 48, .ro, 0⟩
def PNL_WGT_BYTES_OVF (i : Nat) : Fld := ⟨0x380128 + 64 * i, 48, 1, .w1c, 0⟩
def PNL_WGT_ERR_LAST_CODE (i : Nat) : Fld := ⟨0x380130 + 64 * i, 0, 16, .ro, 0⟩
def PNL_WGT_ERR_LAST_SEG (i : Nat) : Fld := ⟨0x380130 + 64 * i, 16, 21, .ro, 0⟩
def PNL_WGT_ERR_REFETCHES (i : Nat) : Fld := ⟨0x380130 + 64 * i, 37, 16, .rc, 0⟩
def GSE_CAP_CHAIN : Fld := ⟨0x1000000, 0, 16, .ro, 16384⟩
def GSE_CAP_BUCKETS : Fld := ⟨0x1000000, 16, 5, .ro, 32⟩
def GSE_CAP_AHEAD : Fld := ⟨0x1000000, 21, 3, .ro, 4⟩
def GSE_CTL_LEAD_ST : Fld := ⟨0x1000008, 0, 20, .rw, 60000⟩
def GSE_CTL_GAP_ST : Fld := ⟨0x1000008, 20, 16, .rw, 1000⟩
def GSE_CTL_TABLE_ST : Fld := ⟨0x1000008, 36, 16, .rw, 10000⟩
def GSE_CTL_MASK_ST : Fld := ⟨0x1000008, 52, 12, .ro, 200⟩
def GSE_CTL2_FW_BUDGET_US : Fld := ⟨0x1000010, 0, 16, .rw, 20⟩
def GSE_CTL2_TURN_ST : Fld := ⟨0x1000010, 16, 20, .rw, 2000⟩
def GSE_SPOOL_SEL_SPOOL : Fld := ⟨0x1000020, 0, 14, .rw, 0⟩
def GSE_SPOOL_D_DATA (i : Nat) : Fld := ⟨0x1000040 + 8 * i, 0, 64, .ro, 0⟩
def GSE_PCFG_MODE (i : Nat) : Fld := ⟨0x1001000 + 128 * i, 0, 1, .rw, 0⟩
def GSE_PCFG_ENABLE (i : Nat) : Fld := ⟨0x1001000 + 128 * i, 1, 1, .rw, 0⟩
def GSE_KV_LANES (i : Nat) : Fld := ⟨0x1001008 + 128 * i, 0, 12, .rw, 0⟩
def GSE_KV_GROUPS (i : Nat) : Fld := ⟨0x1001008 + 128 * i, 12, 12, .ro, 0⟩
def GSE_KV_TPP_CODE (i : Nat) : Fld := ⟨0x1001008 + 128 * i, 24, 8, .rw, 0⟩
def GSE_KV_FREE_BLOCKS (i : Nat) : Fld := ⟨0x1001008 + 128 * i, 32, 20, .ro, 0⟩
def GSE_PSTAT_OUTSTANDING (i : Nat) : Fld := ⟨0x1001010 + 128 * i, 0, 3, .ro, 0⟩
def GSE_PSTAT_LAST_Q (i : Nat) : Fld := ⟨0x1001010 + 128 * i, 3, 16, .ro, 0⟩
def GSE_PSTAT_ACTIVE (i : Nat) : Fld := ⟨0x1001010 + 128 * i, 19, 15, .ro, 0⟩
def GSE_PSTAT_HEAD (i : Nat) : Fld := ⟨0x1001010 + 128 * i, 34, 1, .ro, 0⟩
def GSE_LAST_L_STITCH (i : Nat) : Fld := ⟨0x1001018 + 128 * i, 0, 64, .ro, 0⟩
def GSE_LAST_C_STITCH (i : Nat) : Fld := ⟨0x1001020 + 128 * i, 0, 64, .ro, 0⟩
def GSE_PCNT_DISCARDED (i : Nat) : Fld := ⟨0x1001028 + 128 * i, 0, 16, .rc, 0⟩
def GSE_PCNT_CANCELS (i : Nat) : Fld := ⟨0x1001028 + 128 * i, 16, 16, .rc, 0⟩
def GSE_PCNT_DEADLINE (i : Nat) : Fld := ⟨0x1001028 + 128 * i, 32, 16, .rc, 0⟩
def GSE_PCNT_FALLBACK (i : Nat) : Fld := ⟨0x1001028 + 128 * i, 48, 8, .rc, 0⟩
def GSE_PCNT_INPUT_LATE (i : Nat) : Fld := ⟨0x1001028 + 128 * i, 56, 8, .rc, 0⟩
def GSE_PSTEPS_COUNT (i : Nat) : Fld := ⟨0x1001030 + 128 * i, 0, 48, .ro, 0⟩
def GSE_PSTEPS_OVF (i : Nat) : Fld := ⟨0x1001030 + 128 * i, 48, 1, .w1c, 0⟩
def GSE_SAMP_CTL_TIMEOUT_US : Fld := ⟨0x1000018, 0, 16, .rw, 50⟩
def GSE_CAP2_STOP_SLOTS : Fld := ⟨0x1000028, 0, 16, .ro, 32768⟩
def GSE_CAP2_TOK_STORE_MIB : Fld := ⟨0x1000028, 16, 8, .ro, 64⟩
def GSE_CAP2_CAND_MAX : Fld := ⟨0x1000028, 24, 11, .ro, 1024⟩
def GSE_CAP2_PEND_BYTES : Fld := ⟨0x1000028, 35, 10, .ro, 512⟩
def GSE_TOK_LOADED (i : Nat) : Fld := ⟨0x1001038 + 128 * i, 0, 1, .ro, 0⟩
def GSE_TOK_VOCAB (i : Nat) : Fld := ⟨0x1001038 + 128 * i, 1, 19, .ro, 0⟩
def GSE_TOK_MERGES (i : Nat) : Fld := ⟨0x1001038 + 128 * i, 20, 19, .ro, 0⟩
def GSE_TOK_KIB (i : Nat) : Fld := ⟨0x1001038 + 128 * i, 40, 24, .ro, 0⟩
def GSE_PARK_BASE_ADDR (i : Nat) : Fld := ⟨0x1001040 + 128 * i, 0, 64, .ro, 0⟩
def GSE_PARK_CFG_PAGES (i : Nat) : Fld := ⟨0x1001048 + 128 * i, 0, 21, .ro, 0⟩
def GSE_PARK_CFG_MAX_MOVES (i : Nat) : Fld := ⟨0x1001048 + 128 * i, 22, 6, .rw, 16⟩
def GSE_PARK_CFG_IDLE_MS (i : Nat) : Fld := ⟨0x1001048 + 128 * i, 28, 20, .rw, 1000⟩
def GSE_PARK_CFG_TTL_S (i : Nat) : Fld := ⟨0x1001048 + 128 * i, 48, 16, .rw, 600⟩
def GSE_PARK_STAT_FREE_PAGES (i : Nat) : Fld := ⟨0x1001050 + 128 * i, 0, 21, .ro, 0⟩
def GSE_PARK_STAT_PARKED (i : Nat) : Fld := ⟨0x1001050 + 128 * i, 21, 15, .ro, 0⟩
def GSE_PARK_STAT_MOVES_FAIL (i : Nat) : Fld := ⟨0x1001050 + 128 * i, 36, 16, .rc, 0⟩
def GSE_HIST_FIRST (i : Nat) : Fld := ⟨0x1001058 + 128 * i, 0, 20, .ro, 0⟩
def GSE_HIST_PAGES (i : Nat) : Fld := ⟨0x1001058 + 128 * i, 20, 16, .ro, 0⟩
def GSE_HIST_FREE (i : Nat) : Fld := ⟨0x1001058 + 128 * i, 36, 16, .ro, 0⟩
def GSE_SAMP_BAD_LISTS (i : Nat) : Fld := ⟨0x1001060 + 128 * i, 0, 16, .rc, 0⟩
def GSE_SAMP_DROPPED (i : Nat) : Fld := ⟨0x1001060 + 128 * i, 16, 16, .rc, 0⟩
def GSE_SAMP_OUT_WAIT (i : Nat) : Fld := ⟨0x1001060 + 128 * i, 32, 16, .rc, 0⟩
def PNL_PART_ROWS_ROWS (i : Nat) : Fld := ⟨0x300000 + 128 * i, 0, 64, .rws, 0⟩
def PNL_PART_CFG_ENABLE (i : Nat) : Fld := ⟨0x300008 + 128 * i, 0, 1, .rws, 0⟩
def PNL_PART_CFG_FORCE_STRICT (i : Nat) : Fld := ⟨0x300008 + 128 * i, 1, 1, .rws, 0⟩
def PNL_PART_CFG_ADMIN_DEBUG (i : Nat) : Fld := ⟨0x300008 + 128 * i, 2, 1, .rws, 0⟩
def PNL_PART_CFG_TENANT (i : Nat) : Fld := ⟨0x300008 + 128 * i, 8, 8, .rws, 0⟩
def PNL_PART_CFG_BUDGET_W (i : Nat) : Fld := ⟨0x300008 + 128 * i, 16, 16, .rws, 0⟩
def PNL_PART_RANGE_KNOT_BASE (i : Nat) : Fld := ⟨0x300010 + 128 * i, 0, 16, .rws, 0⟩
def PNL_PART_RANGE_KNOT_COUNT (i : Nat) : Fld := ⟨0x300010 + 128 * i, 16, 16, .rws, 0⟩
def PNL_PART_RANGE_Q_BASE (i : Nat) : Fld := ⟨0x300010 + 128 * i, 32, 14, .rws, 0⟩
def PNL_PART_RANGE_Q_COUNT (i : Nat) : Fld := ⟨0x300010 + 128 * i, 46, 15, .rws, 0⟩
def PNL_PART_HIST_HIST_FIRST (i : Nat) : Fld := ⟨0x300018 + 128 * i, 0, 20, .rws, 0⟩
def PNL_PART_HIST_HIST_PAGES (i : Nat) : Fld := ⟨0x300018 + 128 * i, 20, 16, .rws, 0⟩
def PNL_PART_HIST_SPOOL_BASE (i : Nat) : Fld := ⟨0x300018 + 128 * i, 36, 14, .rws, 0⟩
def PNL_PART_HIST_SPOOL_COUNT (i : Nat) : Fld := ⟨0x300018 + 128 * i, 50, 14, .rws, 0⟩
def PNL_PART_KEY_HASH (i : Nat) (j : Nat) : Fld := ⟨0x300020 + 128 * i + 8 * j, 0, 64, .rws, 0⟩
def PNL_PART_STAT_CODE : Fld := ⟨0x300800, 0, 16, .ro, 0⟩
def PNL_PART_STAT_LOCKED : Fld := ⟨0x300800, 16, 1, .ro, 0⟩
def PNL_STATE_STATE (i : Nat) : Fld := ⟨0x310000 + 64 * i, 0, 3, .ro, 0⟩
def PNL_STATE_STRICT (i : Nat) : Fld := ⟨0x310000 + 64 * i, 3, 1, .ro, 0⟩
def PNL_STATE_CTX_HELD (i : Nat) : Fld := ⟨0x310000 + 64 * i, 4, 1, .ro, 0⟩
def PNL_CFG_STRICT (i : Nat) : Fld := ⟨0x310008 + 64 * i, 0, 1, .rw, 0⟩
def PNL_LTOL_LTOL_US (i : Nat) : Fld := ⟨0x310010 + 64 * i, 0, 20, .rw, 10⟩
def PNL_STEP_COUNT (i : Nat) : Fld := ⟨0x310018 + 64 * i, 0, 48, .ro, 0⟩
def PNL_CTX_PARK_PAGE (i : Nat) : Fld := ⟨0x310020 + 64 * i, 0, 21, .ro, 0⟩
def PNL_CTX_MAX_PAGES (i : Nat) : Fld := ⟨0x310020 + 64 * i, 21, 13, .ro, 0⟩
def PNL_LAST_CODE (i : Nat) : Fld := ⟨0x310028 + 64 * i, 0, 16, .ro, 0⟩
def PNL_LAST_OFFSET (i : Nat) : Fld := ⟨0x310028 + 64 * i, 16, 32, .ro, 0⟩
def QCFG_CFG_ENABLE (i : Nat) : Fld := ⟨0x800000 + 64 * i, 0, 1, .rw, 0⟩
def QCFG_CFG_TYPE (i : Nat) : Fld := ⟨0x800000 + 64 * i, 1, 3, .rw, 0⟩
def QCFG_CFG_AUTO_RELEASE (i : Nat) : Fld := ⟨0x800000 + 64 * i, 4, 1, .rw, 1⟩
def QCFG_CFG_DEPTH_LOG2 (i : Nat) : Fld := ⟨0x800000 + 64 * i, 5, 5, .rw, 4⟩
def QCFG_CFG_RING_LOG2 (i : Nat) : Fld := ⟨0x800000 + 64 * i, 10, 5, .rw, 4⟩
def QCFG_CFG_CORE (i : Nat) : Fld := ⟨0x800000 + 64 * i, 15, 2, .rw, 0⟩
def QCFG_CFG_CREDIT_EN (i : Nat) : Fld := ⟨0x800000 + 64 * i, 17, 1, .rw, 0⟩
def QCFG_CFG_PAIR (i : Nat) : Fld := ⟨0x800000 + 64 * i, 18, 14, .rw, 0⟩
def QCFG_CFG_WEIGHT (i : Nat) : Fld := ⟨0x800000 + 64 * i, 32, 4, .rw, 1⟩
def QCFG_CFG_EP (i : Nat) : Fld := ⟨0x800000 + 64 * i, 36, 12, .rw, 0⟩
def QCFG_CFG_CREDIT_KNOT (i : Nat) : Fld := ⟨0x800000 + 64 * i, 48, 16, .rw, 0⟩
def QCFG_RING_ADDR (i : Nat) : Fld := ⟨0x800008 + 64 * i, 12, 52, .rw, 0⟩
def QCFG_AREA_BASE (i : Nat) : Fld := ⟨0x800010 + 64 * i, 0, 20, .rw, 0⟩
def QCFG_PROD_PROD (i : Nat) : Fld := ⟨0x800018 + 64 * i, 0, 32, .ro, 0⟩
def QCFG_PROD_HOST (i : Nat) : Fld := ⟨0x800018 + 64 * i, 32, 32, .ro, 0⟩
def QCFG_CONS_READ (i : Nat) : Fld := ⟨0x800020 + 64 * i, 0, 32, .ro, 0⟩
def QCFG_CONS_RELEASE (i : Nat) : Fld := ⟨0x800020 + 64 * i, 32, 32, .ro, 0⟩
def QCFG_MARK_MARK (i : Nat) : Fld := ⟨0x800028 + 64 * i, 0, 32, .ro, 0⟩
def QCFG_MARK_MARK_VALID (i : Nat) : Fld := ⟨0x800028 + 64 * i, 32, 1, .ro, 0⟩
def QCFG_STAT_FULL (i : Nat) : Fld := ⟨0x800030 + 64 * i, 0, 1, .ro, 0⟩
def QCFG_STAT_EMPTY (i : Nat) : Fld := ⟨0x800030 + 64 * i, 1, 1, .ro, 1⟩
def QCFG_STAT_STOPPED (i : Nat) : Fld := ⟨0x800030 + 64 * i, 2, 1, .ro, 0⟩
def QCFG_STAT_DEPTH (i : Nat) : Fld := ⟨0x800030 + 64 * i, 3, 17, .ro, 0⟩
def QCFG_STAT_LAST_CODE (i : Nat) : Fld := ⟨0x800030 + 64 * i, 32, 16, .ro, 0⟩
def QCFG_STAT_DROPS (i : Nat) : Fld := ⟨0x800030 + 64 * i, 48, 16, .rc, 0⟩
def QCFG_IRQ_VECTOR (i : Nat) : Fld := ⟨0x800038 + 64 * i, 0, 8, .rw, 0⟩
def QCFG_IRQ_IRQ_EN (i : Nat) : Fld := ⟨0x800038 + 64 * i, 8, 1, .rw, 0⟩
def QCFG_IRQ_COUNT (i : Nat) : Fld := ⟨0x800038 + 64 * i, 9, 7, .rw, 1⟩
def QCFG_IRQ_DELAY_US (i : Nat) : Fld := ⟨0x800038 + 64 * i, 16, 16, .rw, 0⟩
def PWR_CAP_OVERHEAD_W : Fld := ⟨0x100000, 0, 12, .ro, 630⟩
def PWR_CAP_BOOST_PCT : Fld := ⟨0x100000, 12, 8, .ro, 24⟩
def PWR_CAP_RAIL_MAX_MJ : Fld := ⟨0x100000, 20, 12, .ro, 1500⟩
def PWR_CTL_SLEW : Fld := ⟨0x100008, 0, 6, .rw, 8⟩
def PWR_CTL_BOOST_EN : Fld := ⟨0x100008, 6, 1, .rw, 0⟩
def PWR_CTL_DECIDE_US : Fld := ⟨0x100008, 7, 8, .rw, 10⟩
def PWR_CTL_IDLE_LTOL_US : Fld := ⟨0x100008, 15, 20, .rw, 1000⟩
def PWR_CTL_LTOL_CAP_US : Fld := ⟨0x100008, 35, 8, .ro, 45⟩
def PWR_CTL_LEND_PCT : Fld := ⟨0x100008, 43, 7, .rw, 75⟩
def PWR_CTL_THROTTLE_C : Fld := ⟨0x100008, 50, 8, .rw, 100⟩
def PWR_VIN_VIN_MV : Fld := ⟨0x100010, 0, 16, .ro, 0⟩
def PWR_VIN_IIN_CA : Fld := ⟨0x100010, 16, 16, .ro, 0⟩
def PWR_VIN_PIN_W : Fld := ⟨0x100010, 32, 16, .ro, 0⟩
def PWR_VIN_PEAK_W : Fld := ⟨0x100010, 48, 16, .rc, 0⟩
def PWR_RAIL_E_MJ : Fld := ⟨0x100018, 0, 12, .ro, 0⟩
def PWR_RAIL_TARGET_MJ : Fld := ⟨0x100018, 12, 12, .rw, 1200⟩
def PWR_RAIL_BRAKE_MJ : Fld := ⟨0x100018, 24, 12, .rw, 600⟩
def PWR_RAIL_RELEASE_MJ : Fld := ⟨0x100018, 36, 12, .rw, 900⟩
def PWR_TEMP_TJ_MAX : Fld := ⟨0x100020, 0, 8, .ro, 0⟩
def PWR_TEMP_SENSOR : Fld := ⟨0x100020, 8, 7, .ro, 0⟩
def PWR_TEMP_PEAK_C : Fld := ⟨0x100020, 16, 8, .rc, 0⟩
def PWR_TEMP_THROTTLES : Fld := ⟨0x100020, 24, 16, .ro, 0⟩
def PWR_EVT_VIN_LOW : Fld := ⟨0x100028, 0, 1, .w1c, 0⟩
def PWR_EVT_VIN_HIGH : Fld := ⟨0x100028, 1, 1, .w1c, 0⟩
def PWR_EVT_TRIP : Fld := ⟨0x100028, 2, 1, .w1c, 0⟩
def PWR_EVT_INPUT_LOSS : Fld := ⟨0x100028, 3, 1, .w1c, 0⟩
def PWR_EVT_BRAKE : Fld := ⟨0x100028, 4, 1, .w1c, 0⟩
def PWR_LEND_POOL_W : Fld := ⟨0x100030, 0, 16, .ro, 0⟩
def PWR_LEND_LENT_ROWS : Fld := ⟨0x100030, 16, 7, .ro, 0⟩
def PWR_LEND_BOOSTED : Fld := ⟨0x100030, 23, 1, .ro, 0⟩
def PWR_ENERGY_MJ : Fld := ⟨0x100038, 0, 48, .ro, 0⟩
def PWR_ENERGY_OVF : Fld := ⟨0x100038, 48, 1, .w1c, 0⟩
def PWR_DOM_STATE (i : Nat) : Fld := ⟨0x100100 + 8 * i, 0, 2, .ro, 0⟩
def PWR_DOM_TARGET (i : Nat) : Fld := ⟨0x100100 + 8 * i, 2, 2, .ro, 0⟩
def PWR_DOM_PRESENT (i : Nat) : Fld := ⟨0x100100 + 8 * i, 4, 1, .ro, 1⟩
def PWR_DOM_HOLD (i : Nat) : Fld := ⟨0x100100 + 8 * i, 5, 1, .ro, 0⟩
def PWR_DOM_CAP_W (i : Nat) : Fld := ⟨0x100100 + 8 * i, 8, 10, .ro, domCap i⟩
def PWR_DOM_WAKES (i : Nat) : Fld := ⟨0x100100 + 8 * i, 32, 16, .ro, 0⟩
def PWR_PNL_STATE (i : Nat) : Fld := ⟨0x100400 + 8 * i, 0, 2, .ro, 0⟩
def PWR_PNL_WAKE_NS (i : Nat) : Fld := ⟨0x100400 + 8 * i, 2, 16, .ro, 0⟩
def PWR_PNL_ENVELOPE_W (i : Nat) : Fld := ⟨0x100400 + 8 * i, 18, 12, .ro, 0⟩
def PWR_PNL_BORROW (i : Nat) : Fld := ⟨0x100400 + 8 * i, 30, 1, .ro, 0⟩
def PWR_PNL_EFFECTIVE_W (i : Nat) : Fld := ⟨0x100400 + 8 * i, 31, 12, .ro, 0⟩
def PWR_PNL_LOAN_W (i : Nat) : Fld := ⟨0x100400 + 8 * i, 43, 12, .ro, 0⟩
def PWR_PNL_BRK_BRAKE_CY (i : Nat) : Fld := ⟨0x100480 + 8 * i, 0, 48, .ro, 0⟩
def PWR_PNL_BRK_OVF (i : Nat) : Fld := ⟨0x100480 + 8 * i, 48, 1, .w1c, 0⟩
def DEV_BOOT_STAT_STAGE : Fld := ⟨0x100, 0, 3, .ro, 0⟩
def DEV_BOOT_STAT_SOURCE : Fld := ⟨0x100, 3, 1, .ro, 0⟩
def DEV_BOOT_STAT_CODE : Fld := ⟨0x100, 4, 16, .ro, 0⟩
def DEV_BOOT_STAT_IMAGE_SVN : Fld := ⟨0x100, 20, 6, .ro, 0⟩
def DEV_BOOT_STAT_PUSHES : Fld := ⟨0x100, 32, 16, .ro, 0⟩
def DEV_BOOT_PUSH_ADDR_ADDR : Fld := ⟨0x108, 0, 64, .rw, 0⟩
def DEV_BOOT_PUSH_LEN_LEN : Fld := ⟨0x110, 0, 32, .rw, 0⟩
def DEV_BOOT_PUSH_GO_GO : Fld := ⟨0x118, 0, 1, .wo, 0⟩
def DEV_RST_CTL_RST_N_COLD : Fld := ⟨0x120, 0, 1, .rw, 0⟩
def DEV_RST_CAUSE_CAUSE : Fld := ⟨0x128, 0, 4, .ro, 0⟩
def DEV_RST_CAUSE_COLD : Fld := ⟨0x128, 4, 1, .ro, 1⟩
def DEV_RST_CAUSE_CORE : Fld := ⟨0x128, 5, 2, .ro, 0⟩
def DEV_RST_CAUSE_WARM_COUNT : Fld := ⟨0x128, 16, 16, .ro, 0⟩
def DEV_LOCK_STAT_LOCKED : Fld := ⟨0x130, 0, 1, .ro, 0⟩
def DEV_LOCK_STAT_VIOLATIONS : Fld := ⟨0x130, 1, 15, .rc, 0⟩
def DEV_LOCK_STAT_LAST_OFFSET : Fld := ⟨0x130, 16, 24, .ro, 0⟩
def DEV_LOCK_STAT_LAST_RID : Fld := ⟨0x130, 40, 16, .ro, 0⟩
def DEV_FUSE_STAT_OWNER_FUSED : Fld := ⟨0x138, 0, 1, .ro, 0⟩
def DEV_FUSE_STAT_SVN_MIN : Fld := ⟨0x138, 1, 6, .ro, 0⟩
def DEV_FUSE_STAT_JTAG_DBG_DIS : Fld := ⟨0x138, 7, 1, .ro, 1⟩
def DEV_WDT_MS : Fld := ⟨0x140, 0, 16, .rws, 100⟩
def DEV_WDT_KICK_KICK : Fld := ⟨0x148, 0, 4, .wo, 0⟩
def DEV_WDT_KICK_LAST : Fld := ⟨0x148, 16, 4, .ro, 0⟩
def DEV_VENDOR_HASH_HASH (i : Nat) : Fld := ⟨0x200 + 8 * i, 0, 64, .ro, 0⟩
def DEV_OWNER_HASH_HASH (i : Nat) : Fld := ⟨0x240 + 8 * i, 0, 64, .ro, 0⟩
def DEV_FW_DIGEST_HASH (i : Nat) : Fld := ⟨0x280 + 8 * i, 0, 64, .ro, 0⟩
def FAB_TWIN_CTL_ACTION : Fld := ⟨0x2180000, 0, 3, .wo, 0⟩
def FAB_TWIN_CTL_AUTO_PROMOTE : Fld := ⟨0x2180000, 3, 1, .rw, 1⟩
def FAB_TWIN_STAT_STATE : Fld := ⟨0x2180008, 0, 3, .ro, 0⟩
def FAB_TWIN_STAT_MISSES : Fld := ⟨0x2180008, 3, 2, .ro, 0⟩
def FAB_TWIN_STAT_PEER_COORD : Fld := ⟨0x2180008, 5, 10, .ro, 0⟩
def FAB_TWIN_STAT_PEER_VALID : Fld := ⟨0x2180008, 15, 1, .ro, 0⟩
def FAB_TWIN_STAT_MSEQ_ACKED : Fld := ⟨0x2180008, 32, 32, .ro, 0⟩
def FAB_TWIN_CAP_TAGS : Fld := ⟨0x2180010, 0, 13, .ro, 4096⟩
def FAB_TWIN_LAG_MAX_NS : Fld := ⟨0x2180018, 0, 16, .rc, 0⟩
def FAB_TWIN_LAG_LATE : Fld := ⟨0x2180018, 16, 16, .rc, 0⟩
def FAB_TWIN_LAG_PROMOTIONS : Fld := ⟨0x2180018, 32, 16, .ro, 0⟩
def FAB_TWIN_PMAP_MIRROR (i : Nat) : Fld := ⟨0x2180100 + 8 * i, 0, 1, .rw, 0⟩
def FAB_TWIN_PMAP_PEER_PANEL (i : Nat) : Fld := ⟨0x2180100 + 8 * i, 1, 4, .rw, 0⟩
def FAB_TWIN_PMAP_SHADOW (i : Nat) : Fld := ⟨0x2180100 + 8 * i, 5, 1, .ro, 0⟩
def DBG_AUTH_STAT_VF_AUTH : Fld := ⟨0x3800000, 0, 16, .ro, 0⟩
def DBG_AUTH_STAT_PF_AUTH : Fld := ⟨0x3800000, 16, 16, .ro, 0⟩
def DBG_PNL_CTL_REPLAY (i : Nat) : Fld := ⟨0x3800100 + 64 * i, 0, 1, .ro, 0⟩
def DBG_PNL_CTL_KEEP_ALTERED (i : Nat) : Fld := ⟨0x3800100 + 64 * i, 1, 1, .rw, 0⟩
def DBG_PNL_CTL_STEPLOG (i : Nat) : Fld := ⟨0x3800100 + 64 * i, 2, 1, .rw, 0⟩
def DBG_PNL_CTL_LOG2 (i : Nat) : Fld := ⟨0x3800100 + 64 * i, 3, 5, .rw, 4⟩
def DBG_PNL_STAT_HALTED (i : Nat) : Fld := ⟨0x3800108 + 64 * i, 0, 1, .ro, 0⟩
def DBG_PNL_STAT_HALT_ARMED (i : Nat) : Fld := ⟨0x3800108 + 64 * i, 1, 1, .ro, 0⟩
def DBG_PNL_STAT_ALTERED (i : Nat) : Fld := ⟨0x3800108 + 64 * i, 2, 1, .w1c, 0⟩
def DBG_PNL_STAT_HALT_AT (i : Nat) : Fld := ⟨0x3800108 + 64 * i, 3, 40, .ro, 0⟩
def DBG_PNL_HALT_CY_COUNT (i : Nat) : Fld := ⟨0x3800110 + 64 * i, 0, 48, .ro, 0⟩
def DBG_PNL_HALT_CY_OVF (i : Nat) : Fld := ⟨0x3800110 + 64 * i, 48, 1, .w1c, 0⟩
def DBG_STEPLOG_ADDR_ADDR (i : Nat) : Fld := ⟨0x3800118 + 64 * i, 12, 52, .rw, 0⟩
def DBG_STEPLOG_IDX_PROD (i : Nat) : Fld := ⟨0x3800120 + 64 * i, 0, 24, .ro, 0⟩
def DBG_STEPLOG_IDX_HOST (i : Nat) : Fld := ⟨0x3800120 + 64 * i, 24, 24, .rw, 0⟩
def DBG_STEPLOG_IDX_LOST (i : Nat) : Fld := ⟨0x3800120 + 64 * i, 48, 16, .rc, 0⟩

end Reg

/-- One row of the register table: registers at `base + s1 * i + s2 * j`, i < n1, j < n2, with the fields of instance `w`
(a tile or bobbin behind a window, 0 elsewhere). -/
structure RegRow where
  base : Nat
  n1 : Nat
  s1 : Nat
  n2 : Nat
  s2 : Nat
  flds : Nat → Nat → Nat → List Fld

/-- Registers of block DEV_. -/
def regRows0 : List RegRow := [
  ⟨0x0, 1, 8, 1, 8, fun _ _ _ => [Reg.DEV_ID_VENDOR, Reg.DEV_ID_DEVICE, Reg.DEV_ID_STEPPING, Reg.DEV_ID_FIELDS]⟩,
  ⟨0x8, 1, 8, 1, 8, fun _ _ _ => [Reg.DEV_GRADE_GRADE_CODE, Reg.DEV_GRADE_ROW_SALVAGE]⟩,
  ⟨0x10, 1, 8, 1, 8, fun _ _ _ => [Reg.DEV_FEAT_TILE_ROWS_PER_FIELD, Reg.DEV_FEAT_TILE_SITES_PER_ROW, Reg.DEV_FEAT_TILE_ACTIVE_TILES, Reg.DEV_FEAT_TILE_GRID_W, Reg.DEV_FEAT_TILE_GRID_H, Reg.DEV_FEAT_TILE_DISABLED_ROWS]⟩,
  ⟨0x18, 1, 8, 1, 8, fun _ _ _ => [Reg.DEV_ROW_MAP_DISABLED]⟩,
  ⟨0x20, 1, 8, 1, 8, fun _ _ _ => [Reg.DEV_FEAT_MEM_STACK_PAGES, Reg.DEV_FEAT_MEM_TIERS, Reg.DEV_FEAT_MEM_BOBBIN_MIB, Reg.DEV_FEAT_MEM_SCRATCH_MIB]⟩,
  ⟨0x28, 1, 8, 1, 8, fun _ _ _ => [Reg.DEV_FEAT_LINK_LINK_DIES, Reg.DEV_FEAT_LINK_FABRIC_PORTS, Reg.DEV_FEAT_LINK_PORTS_PER_DIE, Reg.DEV_FEAT_LINK_LANES_PER_PORT, Reg.DEV_FEAT_LINK_MAX_SEAMS]⟩,
  ⟨0x30, 1, 8, 1, 8, fun _ _ _ => [Reg.DEV_FEAT_SVC_KNOTS, Reg.DEV_FEAT_SVC_QUEUES, Reg.DEV_FEAT_SVC_SPOOLS, Reg.DEV_FEAT_SVC_PANELS, Reg.DEV_FEAT_SVC_MAX_BATCH]⟩,
  ⟨0x38, 1, 8, 1, 8, fun _ _ _ => [Reg.DEV_FEAT_PWR_MAX_INPUT_W, Reg.DEV_FEAT_PWR_POWER_DOMAINS]⟩]

/-- Registers of block STI_. -/
def regRows1 : List RegRow := [
  ⟨0x200000, 1, 8, 1, 8, fun _ _ _ => [Reg.STI_COUNT_COUNT]⟩,
  ⟨0x200008, 1, 8, 1, 8, fun _ _ _ => [Reg.STI_STATUS_STATE, Reg.STI_STATUS_IS_MASTER, Reg.STI_STATUS_MASTER_COORD, Reg.STI_STATUS_UPSTREAM_PORT, Reg.STI_STATUS_HOPS, Reg.STI_STATUS_TIME_IN_OK]⟩,
  ⟨0x200010, 1, 8, 1, 8, fun _ _ _ => [Reg.STI_CTL_ROLE, Reg.STI_CTL_HOLD_MS]⟩,
  ⟨0x200018, 1, 8, 1, 8, fun _ _ _ => [Reg.STI_OFFSET_OFFSET, Reg.STI_OFFSET_FREQ_ADJ]⟩,
  ⟨0x200020, 1, 8, 1, 8, fun _ _ _ => [Reg.STI_FRAME_LOSS_COUNT]⟩,
  ⟨0x200028, 1, 8, 1, 8, fun _ _ _ => [Reg.STI_LOCK_CNT_COUNT]⟩,
  ⟨0x200030, 1, 8, 1, 8, fun _ _ _ => [Reg.STI_NEXT_LAUNCH_STITCH]⟩,
  ⟨0x200038, 1, 8, 1, 8, fun _ _ _ => [Reg.STI_CLK_POINT, Reg.STI_CLK_PEND_POINT, Reg.STI_CLK_PEND, Reg.STI_CLK_TRAINED, Reg.STI_CLK_LAUNCH_ARMED, Reg.STI_CLK_BOOST_OK, Reg.STI_CLK_CHANGES]⟩,
  ⟨0x200040, 1, 8, 1, 8, fun _ _ _ => [Reg.STI_CLK_WIN_WIN_START]⟩,
  ⟨0x200048, 1, 8, 1, 8, fun _ _ _ => [Reg.STI_SKEW_MAX_PS, Reg.STI_SKEW_RETRAINS]⟩,
  ⟨0x200100, 64, 8, 1, 8, fun _ i _ => [Reg.STI_MARGIN_MARGIN_PS i, Reg.STI_MARGIN_LOW_PS i, Reg.STI_MARGIN_WARN_PS i, Reg.STI_MARGIN_CRIT_PS i, Reg.STI_MARGIN_WARN_CNT i, Reg.STI_MARGIN_VSTEPS i]⟩]

/-- Registers of block TILE_. -/
def regRows2 : List RegRow := [
  ⟨0x3C00000, 1, 8, 1, 8, fun _ _ _ => [Reg.TILE_SEL_FIELD, Reg.TILE_SEL_ROW, Reg.TILE_SEL_SITE, Reg.TILE_SEL_VALID]⟩,
  ⟨0x3C00008, 1, 8, 1, 8, fun w _ _ => [Reg.TILE_ID_GRID_X w, Reg.TILE_ID_GRID_Y w, Reg.TILE_ID_ROLE w, Reg.TILE_ID_PANEL w, Reg.TILE_ID_OWNED w, Reg.TILE_ID_TENANT w]⟩,
  ⟨0x3C00010, 1, 8, 1, 8, fun w _ _ => [Reg.TILE_STATUS_STATE w, Reg.TILE_STATUS_PC w, Reg.TILE_STATUS_STEP_CY w, Reg.TILE_STATUS_CHECK_ERR w]⟩,
  ⟨0x3C00018, 1, 8, 1, 8, fun w _ _ => [Reg.TILE_ARRAY_STAT_RAMP w, Reg.TILE_ARRAY_STAT_OVF0 w, Reg.TILE_ARRAY_STAT_OVF1 w, Reg.TILE_ARRAY_STAT_LATCH_B_VALID w, Reg.TILE_ARRAY_STAT_COLD_STARTS w]⟩,
  ⟨0x3C00020, 1, 8, 1, 8, fun w _ _ => [Reg.TILE_LATE_COUNT w, Reg.TILE_LATE_LAST_CAUSE w, Reg.TILE_LATE_LAST_CY w]⟩,
  ⟨0x3C00028, 1, 8, 1, 8, fun w _ _ => [Reg.TILE_CTL_CNT_CLR w, Reg.TILE_CTL_ZG_DIS w]⟩,
  ⟨0x3C00030, 1, 8, 1, 8, fun w _ _ => [Reg.TILE_PORT_WAIT_NET_WAIT w, Reg.TILE_PORT_WAIT_VERT_WAIT w]⟩,
  ⟨0x3C00038, 1, 8, 1, 8, fun w _ _ => [Reg.TILE_FAULT_CODE w, Reg.TILE_FAULT_CY w]⟩,
  ⟨0x3C00040, 16, 8, 1, 8, fun w i _ => [Reg.TILE_BANK_CONF_BANK_LO w i, Reg.TILE_BANK_CONF_BANK_HI w i]⟩,
  ⟨0x3C00100, 1, 8, 1, 8, fun w _ _ => [Reg.TILE_PERF_ARRAY_COUNT w, Reg.TILE_PERF_ARRAY_OVF w]⟩,
  ⟨0x3C00108, 1, 8, 1, 8, fun w _ _ => [Reg.TILE_PERF_ZERO_COUNT w, Reg.TILE_PERF_ZERO_OVF w]⟩,
  ⟨0x3C00110, 1, 8, 1, 8, fun w _ _ => [Reg.TILE_PERF_VEC_COUNT w, Reg.TILE_PERF_VEC_OVF w]⟩,
  ⟨0x3C00118, 1, 8, 1, 8, fun w _ _ => [Reg.TILE_PERF_FROZEN_COUNT w, Reg.TILE_PERF_FROZEN_OVF w]⟩,
  ⟨0x3C00200, 1, 8, 1, 8, fun _ _ _ => [Reg.TILE_MEM_ADDR_SPACE, Reg.TILE_MEM_ADDR_INDEX]⟩,
  ⟨0x3C00208, 1, 8, 1, 8, fun _ _ _ => [Reg.TILE_MEM_CMD_GO, Reg.TILE_MEM_CMD_WRITE, Reg.TILE_MEM_CMD_RAW_CHECK]⟩,
  ⟨0x3C00210, 1, 8, 1, 8, fun _ _ _ => [Reg.TILE_MEM_STAT_BUSY, Reg.TILE_MEM_STAT_MISMATCH, Reg.TILE_MEM_STAT_STATUS]⟩,
  ⟨0x3C00220, 4, 8, 1, 8, fun _ i _ => [Reg.TILE_MEM_DATA_DATA i]⟩,
  ⟨0x3C00240, 1, 8, 1, 8, fun _ _ _ => [Reg.TILE_MEM_CHECK_CHECK]⟩,
  ⟨0x3C00300, 8, 8, 1, 8, fun w i _ => [Reg.TILE_SLOT_MASK_MASK w i]⟩]

/-- Registers of block BOB_. -/
def regRows3 : List RegRow := [
  ⟨0x3E00000, 1, 8, 1, 8, fun _ _ _ => [Reg.BOB_SEL_FIELD, Reg.BOB_SEL_ROW, Reg.BOB_SEL_SITE, Reg.BOB_SEL_TIER, Reg.BOB_SEL_VALID]⟩,
  ⟨0x3E00008, 1, 8, 1, 8, fun w _ _ => [Reg.BOB_ID_INDEX w, Reg.BOB_ID_PAGE_BASE w]⟩,
  ⟨0x3E00010, 1, 8, 1, 8, fun w _ _ => [Reg.BOB_STATUS_STEP_DEPTH w, Reg.BOB_STATUS_SVC_DEPTH w, Reg.BOB_STATUS_OP w, Reg.BOB_STATUS_MB_USED w]⟩,
  ⟨0x3E00018, 1, 8, 1, 8, fun w _ _ => [Reg.BOB_FLAGS_OVF w, Reg.BOB_FLAGS_DETECT w, Reg.BOB_FLAGS_LAST_CODE w]⟩,
  ⟨0x3E00020, 1, 8, 1, 8, fun w _ _ => [Reg.BOB_CB_CB_ID w, Reg.BOB_CB_VALID w]⟩,
  ⟨0x3E00100, 1, 8, 1, 8, fun w _ _ => [Reg.BOB_PERF_READ_COUNT w, Reg.BOB_PERF_READ_OVF w]⟩,
  ⟨0x3E00108, 1, 8, 1, 8, fun w _ _ => [Reg.BOB_PERF_MAC_COUNT w, Reg.BOB_PERF_MAC_OVF w]⟩,
  ⟨0x3E00110, 1, 8, 1, 8, fun w _ _ => [Reg.BOB_PERF_SVC_COUNT w, Reg.BOB_PERF_SVC_OVF w]⟩,
  ⟨0x3E00118, 1, 8, 1, 8, fun w _ _ => [Reg.BOB_MB_STAT_RMW w, Reg.BOB_MB_STAT_EVICT w]⟩,
  ⟨0x3E00200, 1, 8, 1, 8, fun _ _ _ => [Reg.BOB_MEM_ADDR_SPACE, Reg.BOB_MEM_ADDR_INDEX]⟩,
  ⟨0x3E00208, 1, 8, 1, 8, fun _ _ _ => [Reg.BOB_MEM_CMD_GO, Reg.BOB_MEM_CMD_WRITE, Reg.BOB_MEM_CMD_RAW_CHECK]⟩,
  ⟨0x3E00210, 1, 8, 1, 8, fun _ _ _ => [Reg.BOB_MEM_STAT_BUSY, Reg.BOB_MEM_STAT_MISMATCH, Reg.BOB_MEM_STAT_STATUS]⟩,
  ⟨0x3E00220, 8, 8, 1, 8, fun _ i _ => [Reg.BOB_MEM_DATA_DATA i]⟩,
  ⟨0x3E00260, 1, 8, 1, 8, fun _ _ _ => [Reg.BOB_MEM_CHECK_CHECK]⟩,
  ⟨0x3F00000, 1, 8, 1, 8, fun _ _ _ => [Reg.BOB_CAP_STEP_Q, Reg.BOB_CAP_SVC_Q, Reg.BOB_CAP_LIST, Reg.BOB_CAP_ACT_KIB, Reg.BOB_CAP_ACC_LANES, Reg.BOB_CAP_UP_CH, Reg.BOB_CAP_DN_CH]⟩,
  ⟨0x3F00100, 16, 8, 1, 8, fun _ i _ => [Reg.BOB_PNL_SPLIT_KV_FIRST i]⟩]

/-- Registers of block DEV_. -/
def regRows4 : List RegRow := [
  ⟨0x40, 1, 8, 1, 8, fun _ _ _ => [Reg.DEV_FEAT_ISA_ISA_MAJOR, Reg.DEV_FEAT_ISA_ISA_MINOR, Reg.DEV_FEAT_ISA_TREGS, Reg.DEV_FEAT_ISA_VLANES, Reg.DEV_FEAT_ISA_BUNDLES, Reg.DEV_FEAT_ISA_AXIS_SWAP, Reg.DEV_FEAT_ISA_CLOVE4, Reg.DEV_FEAT_ISA_NUTMEG, Reg.DEV_FEAT_ISA_WINDOWS, Reg.DEV_FEAT_ISA_SEND_SLOTS, Reg.DEV_FEAT_ISA_TRANS_LAT]⟩]

/-- Registers of block TILE_. -/
def regRows5 : List RegRow := [
  ⟨0x3C00400, 16, 8, 1, 8, fun w i _ => [Reg.TILE_WIN_OPEN w i, Reg.TILE_WIN_MODE w i, Reg.TILE_WIN_DK w i, Reg.TILE_WIN_KNOT w i, Reg.TILE_WIN_CHUNKS w i, Reg.TILE_WIN_DROPPED w i]⟩,
  ⟨0x3C00480, 1, 8, 1, 8, fun w _ _ => [Reg.TILE_SEND_STAT_OUTSTANDING w, Reg.TILE_SEND_STAT_PACKETS w]⟩]

/-- Registers of block LAT_. -/
def regRows6 : List RegRow := [
  ⟨0x3A00000, 1, 8, 1, 8, fun _ _ _ => [Reg.LAT_INFO_PROFILE, Reg.LAT_INFO_ITEMS, Reg.LAT_INFO_HOLD_TREE]⟩,
  ⟨0x3A00008, 1, 8, 1, 8, fun _ _ _ => [Reg.LAT_FREEZE_LIMIT_LIMIT_US]⟩,
  ⟨0x3A00100, 26, 8, 1, 8, fun _ i _ => [Reg.LAT_ITEM_DEVICE i, Reg.LAT_ITEM_MAX_HOLD i, Reg.LAT_ITEM_KIND i, Reg.LAT_ITEM_BCY i]⟩,
  ⟨0x3A00200, 16, 8, 1, 8, fun _ i _ => [Reg.LAT_PNL_FREEZES i, Reg.LAT_PNL_LAST_X i, Reg.LAT_PNL_LAST_Y i, Reg.LAT_PNL_LAST_CAUSE i, Reg.LAT_PNL_FROZEN i]⟩,
  ⟨0x3A00300, 16, 8, 1, 8, fun _ i _ => [Reg.LAT_PNL_CY_COUNT i, Reg.LAT_PNL_CY_OVF i]⟩]

/-- Registers of block FAB_. -/
def regRows7 : List RegRow := [
  ⟨0x2080000, 1, 8, 1, 8, fun _ _ _ => [Reg.FAB_NOC_CTL_CM_THRESH, Reg.FAB_NOC_CTL_SELV_CM_THRESH, Reg.FAB_NOC_CTL_INJ_LIMIT, Reg.FAB_NOC_CTL_STARVE_CY, Reg.FAB_NOC_CTL_COMB_DIS]⟩,
  ⟨0x2080008, 1, 8, 1, 8, fun _ _ _ => [Reg.FAB_RDIR_STAT_ACTIVE, Reg.FAB_RDIR_STAT_SWAP_ARMED, Reg.FAB_RDIR_STAT_SHADOW_LOCKED, Reg.FAB_RDIR_STAT_ACTIVE_USED, Reg.FAB_RDIR_STAT_SHADOW_USED, Reg.FAB_RDIR_STAT_SWAPS]⟩,
  ⟨0x2080010, 1, 8, 1, 8, fun _ _ _ => [Reg.FAB_RDIR_SWAP_AT_STITCH]⟩,
  ⟨0x2080018, 1, 8, 1, 8, fun _ _ _ => [Reg.FAB_NOC_ERR_INTEGRITY, Reg.FAB_NOC_ERR_LOOKUP, Reg.FAB_NOC_ERR_TENANT, Reg.FAB_NOC_ERR_STALE]⟩,
  ⟨0x2080020, 1, 8, 1, 8, fun _ _ _ => [Reg.FAB_NOC_LASTERR_CODE, Reg.FAB_NOC_LASTERR_SRC, Reg.FAB_NOC_LASTERR_DST]⟩,
  ⟨0x2080028, 1, 8, 1, 8, fun _ _ _ => [Reg.FAB_NOC_COMB_COUNT, Reg.FAB_NOC_COMB_OVF]⟩,
  ⟨0x2080100, 28, 8, 1, 8, fun _ i _ => [Reg.FAB_SELV_ATTACH_COLUMN i, Reg.FAB_SELV_ATTACH_SITE i, Reg.FAB_SELV_ATTACH_GRID_Y i, Reg.FAB_SELV_ATTACH_ALT i, Reg.FAB_SELV_ATTACH_PRESENT i]⟩,
  ⟨0x2080200, 28, 8, 1, 8, fun _ i _ => [Reg.FAB_SELV_IN_COUNT i, Reg.FAB_SELV_IN_OVF i]⟩,
  ⟨0x2080300, 28, 8, 1, 8, fun _ i _ => [Reg.FAB_SELV_OUT_COUNT i, Reg.FAB_SELV_OUT_OVF i]⟩,
  ⟨0x2080400, 28, 8, 1, 8, fun _ i _ => [Reg.FAB_SELV_STAT_FULL_CY i, Reg.FAB_SELV_STAT_LIMIT_CY i, Reg.FAB_SELV_STAT_MAX_OCC i]⟩]

/-- Registers of block LNK_. -/
def regRows8 : List RegRow := [
  ⟨0x2000000, 1, 8, 1, 8, fun _ _ _ => [Reg.LNK_CTL_RETRY_MS, Reg.LNK_CTL_NAK_LIMIT, Reg.LNK_CTL_CM_THRESH, Reg.LNK_CTL_X4_EN]⟩,
  ⟨0x2000100, 12, 8, 1, 8, fun _ i _ => [Reg.LNK_SEAM_VALID i, Reg.LNK_SEAM_PORT_A i, Reg.LNK_SEAM_PORT_B i, Reg.LNK_SEAM_JOB i]⟩,
  ⟨0x2010000, 24, 256, 1, 8, fun _ i _ => [Reg.LNK_PCTL_MODE i]⟩,
  ⟨0x2010008, 24, 256, 1, 8, fun _ i _ => [Reg.LNK_PSTAT_STATE i, Reg.LNK_PSTAT_WIDTH i, Reg.LNK_PSTAT_LANES_HI i, Reg.LNK_PSTAT_REVERSED i, Reg.LNK_PSTAT_RATE_OK i, Reg.LNK_PSTAT_POLARITY i, Reg.LNK_PSTAT_LAST_CAUSE i]⟩,
  ⟨0x2010010, 24, 256, 1, 8, fun _ i _ => [Reg.LNK_PRTT_RTT_NS i]⟩,
  ⟨0x2010018, 24, 256, 1, 8, fun _ i _ => [Reg.LNK_PCRED_VL0 i, Reg.LNK_PCRED_VL1 i, Reg.LNK_PCRED_VL2 i, Reg.LNK_PCRED_REPLAY i]⟩,
  ⟨0x2010020, 24, 256, 1, 8, fun _ i _ => [Reg.LNK_FEC_CORR i, Reg.LNK_FEC_OVF i]⟩,
  ⟨0x2010028, 24, 256, 1, 8, fun _ i _ => [Reg.LNK_ERR_UNCORR i, Reg.LNK_ERR_CRC i, Reg.LNK_ERR_REPLAY i, Reg.LNK_ERR_RETRAIN i, Reg.LNK_ERR_CREDIT i]⟩,
  ⟨0x2010030, 24, 256, 1, 8, fun _ i _ => [Reg.LNK_TXFLITS_COUNT i, Reg.LNK_TXFLITS_OVF i]⟩,
  ⟨0x2010038, 24, 256, 1, 8, fun _ i _ => [Reg.LNK_RXFLITS_COUNT i, Reg.LNK_RXFLITS_OVF i]⟩,
  ⟨0x2010040, 24, 256, 1, 8, fun _ i _ => [Reg.LNK_DROP_PACKETS i]⟩,
  ⟨0x2010080, 24, 256, 8, 8, fun _ i j => [Reg.LNK_LANE_PRESET i j, Reg.LNK_LANE_INVERTED i j, Reg.LNK_LANE_FAILED i j, Reg.LNK_LANE_SYM_ERR i j, Reg.LNK_LANE_EYE_MV i j]⟩]

/-- Registers of block FAB_. -/
def regRows9 : List RegRow := [
  ⟨0x2100000, 1, 8, 1, 8, fun _ _ _ => [Reg.FAB_CTL_DIMS, Reg.FAB_CTL_BOARD_DIMS, Reg.FAB_CTL_ROOT_COORD, Reg.FAB_CTL_AS_ROOT, Reg.FAB_CTL_IDENT_US]⟩,
  ⟨0x2100008, 1, 8, 1, 8, fun _ _ _ => [Reg.FAB_STAT_DSTATE, Reg.FAB_STAT_COORD, Reg.FAB_STAT_HOPS, Reg.FAB_STAT_MISWIRED, Reg.FAB_STAT_EPOCH]⟩,
  ⟨0x2100010, 1, 8, 1, 8, fun _ _ _ => [Reg.FAB_SERIAL_SERIAL]⟩,
  ⟨0x2100018, 1, 8, 1, 8, fun _ _ _ => [Reg.FAB_ROOT_SERIAL_SERIAL]⟩,
  ⟨0x2100020, 1, 8, 1, 8, fun _ _ _ => [Reg.FAB_ECN_CTL_RESTORE_US, Reg.FAB_ECN_CTL_RESTORE_STEP, Reg.FAB_ECN_CTL_FLOOR_SHIFT, Reg.FAB_ECN_CTL_ECHO_GAP_US, Reg.FAB_ECN_CTL_E_MIN]⟩,
  ⟨0x2100028, 1, 8, 1, 8, fun _ _ _ => [Reg.FAB_ECN_STAT_ECHO_TX, Reg.FAB_ECN_STAT_ECHO_RX, Reg.FAB_ECN_STAT_MIN_RATE]⟩,
  ⟨0x2100030, 1, 8, 1, 8, fun _ _ _ => [Reg.FAB_LDR_CTL_TENANT, Reg.FAB_LDR_CTL_ENABLE]⟩,
  ⟨0x2100038, 1, 8, 1, 8, fun _ _ _ => [Reg.FAB_DROP_NO_ROUTE, Reg.FAB_DROP_LOADER]⟩,
  ⟨0x2100100, 24, 8, 1, 8, fun _ i _ => [Reg.FAB_PORTMAP_ROLE i, Reg.FAB_PORTMAP_MEMBER i, Reg.FAB_PORTMAP_IN_SERVICE i, Reg.FAB_PORTMAP_REMOVED i, Reg.FAB_PORTMAP_MISWIRED i]⟩,
  ⟨0x2100200, 24, 8, 1, 8, fun _ i _ => [Reg.FAB_NBR_COORD i, Reg.FAB_NBR_VALID i, Reg.FAB_NBR_PORT i, Reg.FAB_NBR_ROLE i, Reg.FAB_NBR_MEMBER i]⟩,
  ⟨0x2100300, 24, 8, 1, 8, fun _ i _ => [Reg.FAB_EXPECT_COORD i, Reg.FAB_EXPECT_VALID i, Reg.FAB_EXPECT_PORT i, Reg.FAB_EXPECT_ROLE i, Reg.FAB_EXPECT_MEMBER i]⟩,
  ⟨0x2100400, 24, 8, 1, 8, fun _ i _ => [Reg.FAB_NBR_SER_SERIAL i]⟩]

/-- Registers of block DBG_. -/
def regRows10 : List RegRow := [
  ⟨0x3900000, 1, 8, 1, 8, fun _ _ _ => [Reg.DBG_KNOT_CAP_PER_TILE, Reg.DBG_KNOT_CAP_HOST_KNOTS, Reg.DBG_KNOT_CAP_TILE_WAITERS, Reg.DBG_KNOT_CAP_HOST_WAITERS]⟩,
  ⟨0x3900008, 1, 8, 1, 8, fun _ _ _ => [Reg.DBG_KNOT_CTL_LEND_US]⟩,
  ⟨0x3900010, 1, 8, 1, 8, fun _ _ _ => [Reg.DBG_KNOT_SEL_KNOT]⟩,
  ⟨0x3900018, 1, 8, 1, 8, fun _ _ _ => [Reg.DBG_KNOT_STAT_COUNT, Reg.DBG_KNOT_STAT_WAITERS, Reg.DBG_KNOT_STAT_STUCK, Reg.DBG_KNOT_STAT_OWNED, Reg.DBG_KNOT_STAT_PANEL, Reg.DBG_KNOT_STAT_TENANT, Reg.DBG_KNOT_STAT_ALL_KIND]⟩,
  ⟨0x3900020, 1, 8, 1, 8, fun _ _ _ => [Reg.DBG_KNOT_ERR_FOREIGN, Reg.DBG_KNOT_ERR_FULL, Reg.DBG_KNOT_ERR_ORPHAN, Reg.DBG_KNOT_ERR_MISUSE]⟩]

/-- Registers of block INT_. -/
def regRows11 : List RegRow := [
  ⟨0x3000000, 1, 8, 1, 8, fun _ _ _ => [Reg.INT_FLOG_HEAD_SEQ]⟩,
  ⟨0x3000008, 1, 8, 1, 8, fun _ _ _ => [Reg.INT_FLOG_TAIL_SEQ]⟩,
  ⟨0x3000010, 1, 8, 1, 8, fun _ _ _ => [Reg.INT_FLOG_STAT_LOST]⟩,
  ⟨0x3000018, 1, 8, 1, 8, fun _ _ _ => [Reg.INT_PATROL_CTL_ENABLE, Reg.INT_PATROL_CTL_PERIOD_MS, Reg.INT_PATROL_CTL_PASSES]⟩,
  ⟨0x3000020, 1, 8, 1, 8, fun _ _ _ => [Reg.INT_RECOVER_CTL_AUTO, Reg.INT_RECOVER_CTL_BANK_LIMIT, Reg.INT_RECOVER_CTL_TILE_LIMIT, Reg.INT_RECOVER_CTL_REPLAY_MAX]⟩,
  ⟨0x3000028, 1, 8, 1, 8, fun _ _ _ => [Reg.INT_DETECT_CNT_DATA, Reg.INT_DETECT_CNT_UNWRITTEN, Reg.INT_DETECT_CNT_POISON, Reg.INT_DETECT_CNT_RETIRED]⟩,
  ⟨0x3000030, 1, 8, 1, 8, fun _ _ _ => [Reg.INT_PAGE_SEL_PAGE]⟩,
  ⟨0x3000038, 1, 8, 1, 8, fun _ _ _ => [Reg.INT_PAGE_INFO_WRITTEN, Reg.INT_PAGE_INFO_SUSPECT, Reg.INT_PAGE_INFO_REFETCH, Reg.INT_PAGE_INFO_RETIRED, Reg.INT_PAGE_INFO_BOBBIN_RETIRED]⟩]

/-- Registers of block PNL_. -/
def regRows12 : List RegRow := [
  ⟨0x380000, 1, 8, 1, 8, fun _ _ _ => [Reg.PNL_WGT_CAP_INGEST_GBS, Reg.PNL_WGT_CAP_PCIE_GBS, Reg.PNL_WGT_CAP_LDR_PORTS, Reg.PNL_WGT_CAP_MAX_LAYERS, Reg.PNL_WGT_CAP_SOURCES]⟩,
  ⟨0x380008, 1, 8, 1, 8, fun _ _ _ => [Reg.PNL_WGT_CTL_REFETCH_MAX, Reg.PNL_WGT_CTL_REQ_TIMEOUT_US, Reg.PNL_WGT_CTL_REQ_WINDOW]⟩,
  ⟨0x380010, 1, 8, 1, 8, fun _ _ _ => [Reg.PNL_WGT_LSEL_PANEL, Reg.PNL_WGT_LSEL_LAYER]⟩,
  ⟨0x380018, 1, 8, 1, 8, fun _ _ _ => [Reg.PNL_WGT_LTAG_GEN, Reg.PNL_WGT_LTAG_DONE, Reg.PNL_WGT_LTAG_VALID]⟩,
  ⟨0x380100, 16, 64, 1, 8, fun _ i _ => [Reg.PNL_WGT_STATE_STATE i, Reg.PNL_WGT_STATE_HEAD i, Reg.PNL_WGT_STATE_SHARD i, Reg.PNL_WGT_STATE_DEV_INDEX i, Reg.PNL_WGT_STATE_DEVICES i, Reg.PNL_WGT_STATE_DEVS_DONE i, Reg.PNL_WGT_STATE_POLICY i, Reg.PNL_WGT_STATE_RELEASE_WAIT i, Reg.PNL_WGT_STATE_HEAD_COORD i]⟩,
  ⟨0x380108, 16, 64, 1, 8, fun _ i _ => [Reg.PNL_WGT_MODEL_MODEL_ID i]⟩,
  ⟨0x380110, 16, 64, 1, 8, fun _ i _ => [Reg.PNL_WGT_GEN_GEN i, Reg.PNL_WGT_GEN_NEW_GEN i]⟩,
  ⟨0x380118, 16, 64, 1, 8, fun _ i _ => [Reg.PNL_WGT_PROG_LAYERS i, Reg.PNL_WGT_PROG_LAYERS_DONE i, Reg.PNL_WGT_PROG_SEGS i, Reg.PNL_WGT_PROG_SEGS_DONE i]⟩,
  ⟨0x380120, 16, 64, 1, 8, fun _ i _ => [Reg.PNL_WGT_BARRIER_STITCH i]⟩,
  ⟨0x380128, 16, 64, 1, 8, fun _ i _ => [Reg.PNL_WGT_BYTES_COUNT i, Reg.PNL_WGT_BYTES_OVF i]⟩,
  ⟨0x380130, 16, 64, 1, 8, fun _ i _ => [Reg.PNL_WGT_ERR_LAST_CODE i, Reg.PNL_WGT_ERR_LAST_SEG i, Reg.PNL_WGT_ERR_REFETCHES i]⟩]

/-- Registers of block GSE_. -/
def regRows13 : List RegRow := [
  ⟨0x1000000, 1, 8, 1, 8, fun _ _ _ => [Reg.GSE_CAP_CHAIN, Reg.GSE_CAP_BUCKETS, Reg.GSE_CAP_AHEAD]⟩,
  ⟨0x1000008, 1, 8, 1, 8, fun _ _ _ => [Reg.GSE_CTL_LEAD_ST, Reg.GSE_CTL_GAP_ST, Reg.GSE_CTL_TABLE_ST, Reg.GSE_CTL_MASK_ST]⟩,
  ⟨0x1000010, 1, 8, 1, 8, fun _ _ _ => [Reg.GSE_CTL2_FW_BUDGET_US, Reg.GSE_CTL2_TURN_ST]⟩,
  ⟨0x1000020, 1, 8, 1, 8, fun _ _ _ => [Reg.GSE_SPOOL_SEL_SPOOL]⟩,
  ⟨0x1000040, 16, 8, 1, 8, fun _ i _ => [Reg.GSE_SPOOL_D_DATA i]⟩,
  ⟨0x1001000, 16, 128, 1, 8, fun _ i _ => [Reg.GSE_PCFG_MODE i, Reg.GSE_PCFG_ENABLE i]⟩,
  ⟨0x1001008, 16, 128, 1, 8, fun _ i _ => [Reg.GSE_KV_LANES i, Reg.GSE_KV_GROUPS i, Reg.GSE_KV_TPP_CODE i, Reg.GSE_KV_FREE_BLOCKS i]⟩,
  ⟨0x1001010, 16, 128, 1, 8, fun _ i _ => [Reg.GSE_PSTAT_OUTSTANDING i, Reg.GSE_PSTAT_LAST_Q i, Reg.GSE_PSTAT_ACTIVE i, Reg.GSE_PSTAT_HEAD i]⟩,
  ⟨0x1001018, 16, 128, 1, 8, fun _ i _ => [Reg.GSE_LAST_L_STITCH i]⟩,
  ⟨0x1001020, 16, 128, 1, 8, fun _ i _ => [Reg.GSE_LAST_C_STITCH i]⟩,
  ⟨0x1001028, 16, 128, 1, 8, fun _ i _ => [Reg.GSE_PCNT_DISCARDED i, Reg.GSE_PCNT_CANCELS i, Reg.GSE_PCNT_DEADLINE i, Reg.GSE_PCNT_FALLBACK i, Reg.GSE_PCNT_INPUT_LATE i]⟩,
  ⟨0x1001030, 16, 128, 1, 8, fun _ i _ => [Reg.GSE_PSTEPS_COUNT i, Reg.GSE_PSTEPS_OVF i]⟩,
  ⟨0x1000018, 1, 8, 1, 8, fun _ _ _ => [Reg.GSE_SAMP_CTL_TIMEOUT_US]⟩,
  ⟨0x1000028, 1, 8, 1, 8, fun _ _ _ => [Reg.GSE_CAP2_STOP_SLOTS, Reg.GSE_CAP2_TOK_STORE_MIB, Reg.GSE_CAP2_CAND_MAX, Reg.GSE_CAP2_PEND_BYTES]⟩,
  ⟨0x1001038, 16, 128, 1, 8, fun _ i _ => [Reg.GSE_TOK_LOADED i, Reg.GSE_TOK_VOCAB i, Reg.GSE_TOK_MERGES i, Reg.GSE_TOK_KIB i]⟩,
  ⟨0x1001040, 16, 128, 1, 8, fun _ i _ => [Reg.GSE_PARK_BASE_ADDR i]⟩,
  ⟨0x1001048, 16, 128, 1, 8, fun _ i _ => [Reg.GSE_PARK_CFG_PAGES i, Reg.GSE_PARK_CFG_MAX_MOVES i, Reg.GSE_PARK_CFG_IDLE_MS i, Reg.GSE_PARK_CFG_TTL_S i]⟩,
  ⟨0x1001050, 16, 128, 1, 8, fun _ i _ => [Reg.GSE_PARK_STAT_FREE_PAGES i, Reg.GSE_PARK_STAT_PARKED i, Reg.GSE_PARK_STAT_MOVES_FAIL i]⟩,
  ⟨0x1001058, 16, 128, 1, 8, fun _ i _ => [Reg.GSE_HIST_FIRST i, Reg.GSE_HIST_PAGES i, Reg.GSE_HIST_FREE i]⟩,
  ⟨0x1001060, 16, 128, 1, 8, fun _ i _ => [Reg.GSE_SAMP_BAD_LISTS i, Reg.GSE_SAMP_DROPPED i, Reg.GSE_SAMP_OUT_WAIT i]⟩]

/-- Registers of block PNL_. -/
def regRows14 : List RegRow := [
  ⟨0x300000, 16, 128, 1, 8, fun _ i _ => [Reg.PNL_PART_ROWS_ROWS i]⟩,
  ⟨0x300008, 16, 128, 1, 8, fun _ i _ => [Reg.PNL_PART_CFG_ENABLE i, Reg.PNL_PART_CFG_FORCE_STRICT i, Reg.PNL_PART_CFG_ADMIN_DEBUG i, Reg.PNL_PART_CFG_TENANT i, Reg.PNL_PART_CFG_BUDGET_W i]⟩,
  ⟨0x300010, 16, 128, 1, 8, fun _ i _ => [Reg.PNL_PART_RANGE_KNOT_BASE i, Reg.PNL_PART_RANGE_KNOT_COUNT i, Reg.PNL_PART_RANGE_Q_BASE i, Reg.PNL_PART_RANGE_Q_COUNT i]⟩,
  ⟨0x300018, 16, 128, 1, 8, fun _ i _ => [Reg.PNL_PART_HIST_HIST_FIRST i, Reg.PNL_PART_HIST_HIST_PAGES i, Reg.PNL_PART_HIST_SPOOL_BASE i, Reg.PNL_PART_HIST_SPOOL_COUNT i]⟩,
  ⟨0x300020, 16, 128, 6, 8, fun _ i j => [Reg.PNL_PART_KEY_HASH i j]⟩,
  ⟨0x300800, 1, 8, 1, 8, fun _ _ _ => [Reg.PNL_PART_STAT_CODE, Reg.PNL_PART_STAT_LOCKED]⟩,
  ⟨0x310000, 16, 64, 1, 8, fun _ i _ => [Reg.PNL_STATE_STATE i, Reg.PNL_STATE_STRICT i, Reg.PNL_STATE_CTX_HELD i]⟩,
  ⟨0x310008, 16, 64, 1, 8, fun _ i _ => [Reg.PNL_CFG_STRICT i]⟩,
  ⟨0x310010, 16, 64, 1, 8, fun _ i _ => [Reg.PNL_LTOL_LTOL_US i]⟩,
  ⟨0x310018, 16, 64, 1, 8, fun _ i _ => [Reg.PNL_STEP_COUNT i]⟩,
  ⟨0x310020, 16, 64, 1, 8, fun _ i _ => [Reg.PNL_CTX_PARK_PAGE i, Reg.PNL_CTX_MAX_PAGES i]⟩,
  ⟨0x310028, 16, 64, 1, 8, fun _ i _ => [Reg.PNL_LAST_CODE i, Reg.PNL_LAST_OFFSET i]⟩]

/-- Registers of block QCFG_. -/
def regRows15 : List RegRow := [
  ⟨0x800000, 16384, 64, 1, 8, fun _ i _ => [Reg.QCFG_CFG_ENABLE i, Reg.QCFG_CFG_TYPE i, Reg.QCFG_CFG_AUTO_RELEASE i, Reg.QCFG_CFG_DEPTH_LOG2 i, Reg.QCFG_CFG_RING_LOG2 i, Reg.QCFG_CFG_CORE i, Reg.QCFG_CFG_CREDIT_EN i, Reg.QCFG_CFG_PAIR i, Reg.QCFG_CFG_WEIGHT i, Reg.QCFG_CFG_EP i, Reg.QCFG_CFG_CREDIT_KNOT i]⟩,
  ⟨0x800008, 16384, 64, 1, 8, fun _ i _ => [Reg.QCFG_RING_ADDR i]⟩,
  ⟨0x800010, 16384, 64, 1, 8, fun _ i _ => [Reg.QCFG_AREA_BASE i]⟩,
  ⟨0x800018, 16384, 64, 1, 8, fun _ i _ => [Reg.QCFG_PROD_PROD i, Reg.QCFG_PROD_HOST i]⟩,
  ⟨0x800020, 16384, 64, 1, 8, fun _ i _ => [Reg.QCFG_CONS_READ i, Reg.QCFG_CONS_RELEASE i]⟩,
  ⟨0x800028, 16384, 64, 1, 8, fun _ i _ => [Reg.QCFG_MARK_MARK i, Reg.QCFG_MARK_MARK_VALID i]⟩,
  ⟨0x800030, 16384, 64, 1, 8, fun _ i _ => [Reg.QCFG_STAT_FULL i, Reg.QCFG_STAT_EMPTY i, Reg.QCFG_STAT_STOPPED i, Reg.QCFG_STAT_DEPTH i, Reg.QCFG_STAT_LAST_CODE i, Reg.QCFG_STAT_DROPS i]⟩,
  ⟨0x800038, 16384, 64, 1, 8, fun _ i _ => [Reg.QCFG_IRQ_VECTOR i, Reg.QCFG_IRQ_IRQ_EN i, Reg.QCFG_IRQ_COUNT i, Reg.QCFG_IRQ_DELAY_US i]⟩]

/-- Registers of block PWR_. -/
def regRows16 : List RegRow := [
  ⟨0x100000, 1, 8, 1, 8, fun _ _ _ => [Reg.PWR_CAP_OVERHEAD_W, Reg.PWR_CAP_BOOST_PCT, Reg.PWR_CAP_RAIL_MAX_MJ]⟩,
  ⟨0x100008, 1, 8, 1, 8, fun _ _ _ => [Reg.PWR_CTL_SLEW, Reg.PWR_CTL_BOOST_EN, Reg.PWR_CTL_DECIDE_US, Reg.PWR_CTL_IDLE_LTOL_US, Reg.PWR_CTL_LTOL_CAP_US, Reg.PWR_CTL_LEND_PCT, Reg.PWR_CTL_THROTTLE_C]⟩,
  ⟨0x100010, 1, 8, 1, 8, fun _ _ _ => [Reg.PWR_VIN_VIN_MV, Reg.PWR_VIN_IIN_CA, Reg.PWR_VIN_PIN_W, Reg.PWR_VIN_PEAK_W]⟩,
  ⟨0x100018, 1, 8, 1, 8, fun _ _ _ => [Reg.PWR_RAIL_E_MJ, Reg.PWR_RAIL_TARGET_MJ, Reg.PWR_RAIL_BRAKE_MJ, Reg.PWR_RAIL_RELEASE_MJ]⟩,
  ⟨0x100020, 1, 8, 1, 8, fun _ _ _ => [Reg.PWR_TEMP_TJ_MAX, Reg.PWR_TEMP_SENSOR, Reg.PWR_TEMP_PEAK_C, Reg.PWR_TEMP_THROTTLES]⟩,
  ⟨0x100028, 1, 8, 1, 8, fun _ _ _ => [Reg.PWR_EVT_VIN_LOW, Reg.PWR_EVT_VIN_HIGH, Reg.PWR_EVT_TRIP, Reg.PWR_EVT_INPUT_LOSS, Reg.PWR_EVT_BRAKE]⟩,
  ⟨0x100030, 1, 8, 1, 8, fun _ _ _ => [Reg.PWR_LEND_POOL_W, Reg.PWR_LEND_LENT_ROWS, Reg.PWR_LEND_BOOSTED]⟩,
  ⟨0x100038, 1, 8, 1, 8, fun _ _ _ => [Reg.PWR_ENERGY_MJ, Reg.PWR_ENERGY_OVF]⟩,
  ⟨0x100100, 84, 8, 1, 8, fun _ i _ => [Reg.PWR_DOM_STATE i, Reg.PWR_DOM_TARGET i, Reg.PWR_DOM_PRESENT i, Reg.PWR_DOM_HOLD i, Reg.PWR_DOM_CAP_W i, Reg.PWR_DOM_WAKES i]⟩,
  ⟨0x100400, 16, 8, 1, 8, fun _ i _ => [Reg.PWR_PNL_STATE i, Reg.PWR_PNL_WAKE_NS i, Reg.PWR_PNL_ENVELOPE_W i, Reg.PWR_PNL_BORROW i, Reg.PWR_PNL_EFFECTIVE_W i, Reg.PWR_PNL_LOAN_W i]⟩,
  ⟨0x100480, 16, 8, 1, 8, fun _ i _ => [Reg.PWR_PNL_BRK_BRAKE_CY i, Reg.PWR_PNL_BRK_OVF i]⟩]

/-- Registers of block DEV_. -/
def regRows17 : List RegRow := [
  ⟨0x100, 1, 8, 1, 8, fun _ _ _ => [Reg.DEV_BOOT_STAT_STAGE, Reg.DEV_BOOT_STAT_SOURCE, Reg.DEV_BOOT_STAT_CODE, Reg.DEV_BOOT_STAT_IMAGE_SVN, Reg.DEV_BOOT_STAT_PUSHES]⟩,
  ⟨0x108, 1, 8, 1, 8, fun _ _ _ => [Reg.DEV_BOOT_PUSH_ADDR_ADDR]⟩,
  ⟨0x110, 1, 8, 1, 8, fun _ _ _ => [Reg.DEV_BOOT_PUSH_LEN_LEN]⟩,
  ⟨0x118, 1, 8, 1, 8, fun _ _ _ => [Reg.DEV_BOOT_PUSH_GO_GO]⟩,
  ⟨0x120, 1, 8, 1, 8, fun _ _ _ => [Reg.DEV_RST_CTL_RST_N_COLD]⟩,
  ⟨0x128, 1, 8, 1, 8, fun _ _ _ => [Reg.DEV_RST_CAUSE_CAUSE, Reg.DEV_RST_CAUSE_COLD, Reg.DEV_RST_CAUSE_CORE, Reg.DEV_RST_CAUSE_WARM_COUNT]⟩,
  ⟨0x130, 1, 8, 1, 8, fun _ _ _ => [Reg.DEV_LOCK_STAT_LOCKED, Reg.DEV_LOCK_STAT_VIOLATIONS, Reg.DEV_LOCK_STAT_LAST_OFFSET, Reg.DEV_LOCK_STAT_LAST_RID]⟩,
  ⟨0x138, 1, 8, 1, 8, fun _ _ _ => [Reg.DEV_FUSE_STAT_OWNER_FUSED, Reg.DEV_FUSE_STAT_SVN_MIN, Reg.DEV_FUSE_STAT_JTAG_DBG_DIS]⟩,
  ⟨0x140, 1, 8, 1, 8, fun _ _ _ => [Reg.DEV_WDT_MS]⟩,
  ⟨0x148, 1, 8, 1, 8, fun _ _ _ => [Reg.DEV_WDT_KICK_KICK, Reg.DEV_WDT_KICK_LAST]⟩,
  ⟨0x200, 6, 8, 1, 8, fun _ i _ => [Reg.DEV_VENDOR_HASH_HASH i]⟩,
  ⟨0x240, 6, 8, 1, 8, fun _ i _ => [Reg.DEV_OWNER_HASH_HASH i]⟩,
  ⟨0x280, 6, 8, 1, 8, fun _ i _ => [Reg.DEV_FW_DIGEST_HASH i]⟩]

/-- Registers of block FAB_. -/
def regRows18 : List RegRow := [
  ⟨0x2180000, 1, 8, 1, 8, fun _ _ _ => [Reg.FAB_TWIN_CTL_ACTION, Reg.FAB_TWIN_CTL_AUTO_PROMOTE]⟩,
  ⟨0x2180008, 1, 8, 1, 8, fun _ _ _ => [Reg.FAB_TWIN_STAT_STATE, Reg.FAB_TWIN_STAT_MISSES, Reg.FAB_TWIN_STAT_PEER_COORD, Reg.FAB_TWIN_STAT_PEER_VALID, Reg.FAB_TWIN_STAT_MSEQ_ACKED]⟩,
  ⟨0x2180010, 1, 8, 1, 8, fun _ _ _ => [Reg.FAB_TWIN_CAP_TAGS]⟩,
  ⟨0x2180018, 1, 8, 1, 8, fun _ _ _ => [Reg.FAB_TWIN_LAG_MAX_NS, Reg.FAB_TWIN_LAG_LATE, Reg.FAB_TWIN_LAG_PROMOTIONS]⟩,
  ⟨0x2180100, 16, 8, 1, 8, fun _ i _ => [Reg.FAB_TWIN_PMAP_MIRROR i, Reg.FAB_TWIN_PMAP_PEER_PANEL i, Reg.FAB_TWIN_PMAP_SHADOW i]⟩]

/-- Registers of block DBG_. -/
def regRows19 : List RegRow := [
  ⟨0x3800000, 1, 8, 1, 8, fun _ _ _ => [Reg.DBG_AUTH_STAT_VF_AUTH, Reg.DBG_AUTH_STAT_PF_AUTH]⟩,
  ⟨0x3800100, 16, 64, 1, 8, fun _ i _ => [Reg.DBG_PNL_CTL_REPLAY i, Reg.DBG_PNL_CTL_KEEP_ALTERED i, Reg.DBG_PNL_CTL_STEPLOG i, Reg.DBG_PNL_CTL_LOG2 i]⟩,
  ⟨0x3800108, 16, 64, 1, 8, fun _ i _ => [Reg.DBG_PNL_STAT_HALTED i, Reg.DBG_PNL_STAT_HALT_ARMED i, Reg.DBG_PNL_STAT_ALTERED i, Reg.DBG_PNL_STAT_HALT_AT i]⟩,
  ⟨0x3800110, 16, 64, 1, 8, fun _ i _ => [Reg.DBG_PNL_HALT_CY_COUNT i, Reg.DBG_PNL_HALT_CY_OVF i]⟩,
  ⟨0x3800118, 16, 64, 1, 8, fun _ i _ => [Reg.DBG_STEPLOG_ADDR_ADDR i]⟩,
  ⟨0x3800120, 16, 64, 1, 8, fun _ i _ => [Reg.DBG_STEPLOG_IDX_PROD i, Reg.DBG_STEPLOG_IDX_HOST i, Reg.DBG_STEPLOG_IDX_LOST i]⟩]

/-- Every register of the device. -/
def regRows : List RegRow := regRows0 ++ regRows1 ++ regRows2 ++ regRows3 ++ regRows4 ++ regRows5 ++ regRows6 ++ regRows7 ++ regRows8 ++ regRows9 ++ regRows10 ++ regRows11 ++ regRows12 ++ regRows13 ++ regRows14 ++ regRows15 ++ regRows16 ++ regRows17 ++ regRows18 ++ regRows19

end Sys2Proof.Machine
end

