-- ==== Sys2Proof/Machine/State.lean ====
section
/-! DEFINITION. The state of the Civolor C4 block, as plain data: registers (by field), memories, queues, buffers, counters and
modes, and the queue of commands that wait. Arrays of like things are sparse stores in canonical form (Store.lean). -/

namespace Sys2Proof.Machine

/-- A fault of the model: none of the block's rows stops (a fault of the hardware is a fault-log entry and a panel state, R298,
R394), so this type has the one constructor a step never answers with. -/
inductive Fault where
  /-- Raised by nobody: the block has no stop that the spec gives. Safe. -/
  | none
  deriving DecidableEq, Repr

/-- Why a command is refused. -/
inductive Refusal where
  /-- Raised by `exec` for a command without a meaning. Safe: the machine stops there. -/
  | notModelled (mnemonic : String)
  deriving DecidableEq, Repr

/-! ## Memories -/

/-- A checked memory (R59, R67, R99, R114, R282): its bytes, the words whose stored check field is known because they have been
written, the syndromes of written words whose check field does not match, and the words a poisoning merge wrote last. -/
structure Mem where
  bytes : Store Byte := []
  written : Runs := []
  syn : Store (BitVec 16) := []
  poison : List Nat := []
  deriving DecidableEq, Repr

/-! ## Packets and the network (spec/07) -/

/-- A packet: the header fields of R193 and its payload. `bad` marks a header CRC or flit parity failure (R195). -/
structure Packet where
  dst : Nat := 0
  src : Nat := 0
  tenant : Nat := 0
  tc : Nat := 0
  cm : Bool := false
  ce : Bool := false
  knv : Bool := false
  seq : Nat := 0
  knot : Nat := 0
  op : Nat := 0
  len : Nat := 0
  rtag : Nat := 0
  ddev : Nat := 0
  dloc : Nat := 0
  npkt : Nat := 1
  /-- destination address of a bobbin SEND (R121), whose place in the packet the spec does not give -/
  addr : Nat := 0
  bad : Bool := false
  payload : List Byte := []
  deriving DecidableEq, Repr

/-- A position of the rings (R190). -/
structure Pos where
  col : Nat
  site : Nat
  y : Nat
  deriving DecidableEq, Repr

/-- The lanes of R204. -/
inductive Lane where
  | y0 | x | y1
  deriving DecidableEq, Repr

/-- Where a packet waits. -/
inductive Loc where
  /-- at its source endpoint, to be injected (R199) -/
  | inject (ep : Nat)
  /-- in the input buffer of a router or bypass stage, for a lane and direction (R205) -/
  | buf (lane : Lane) (plus : Bool) (at_ : Pos)
  /-- at a router that is both its entry and its destination: injected, and waiting to be ejected or to leave (R203) -/
  | entry (at_ : Pos)
  /-- in a link port's ingress buffer, to enter the rings (R209) -/
  | ingress (port : Nat)
  /-- in the egress buffer of a selvedge router toward a port (R208) -/
  | egress (port : Nat)
  /-- in the ejection buffer of an endpoint (R206) -/
  | eject (ep : Nat)
  deriving DecidableEq, Repr

/-- A packet in the network: where it is, since which edge, until which edge it may not advance (R211), the words of its payload
already taken (R61), and the detour row it uses if any. -/
structure Flight where
  pkt : Packet
  loc : Loc
  since : Nat := 0
  busy : Nat := 0
  taken : Nat := 0
  slot : Nat := 0
  /-- egress port chosen for it at injection or ingress, when it leaves the device (R203, R244) -/
  out : Option Nat := none
  /-- edge on which its last flit has left the router it was injected at (R156) -/
  gone : Option Nat := none
  /-- in an ejection buffer: the input it came by, in the order of R266 -/
  via : Nat := 0
  deriving DecidableEq, Repr

/-! ## Tiles (spec/02, spec/05) -/

/-- The activity ramp of the array (R48). -/
inductive Ramp where
  | cold | up | warm | down
  deriving DecidableEq, Repr

/-- A result in flight: destination register (T 0–31, V 32–63, S 64–95, P 96–103), the cells it writes as (cell, value, bit mask),
the arithmetic edge its write completes on, the edge it issued on, and its slot in the order M, V0, V1, L, N (R133). A cell is 64
bytes of a T register, a lane of a V register, or a whole S or P register. -/
structure Result where
  dst : Nat
  writes : List (Nat × Nat × Nat)
  due : Nat
  issued : Nat
  slot : Nat
  deriving DecidableEq, Repr

/-- What a load makes of the bytes it reads: a scalar; the lanes of a V register; bytes of a T register from an offset; the transposed
block of elements of a width (R66); or 64 Saffron lanes converted (R150), with the operands its issue read: output format, rounding,
quarter, whether these are the block scales, anchor, shift, seed, step, virtual position and conversion number. -/
inductive LoadKind where
  | scalar
  | lanes
  | tileAt (off : Nat)
  | transposed (ew : Nat)
  | convert (ofmt rm quarter : Nat) (scales : Bool) (anchor shift : Int) (seed step : W64) (gx gy n : Nat)
  deriving DecidableEq, Repr

/-- A load on its way through the banks (R62): its destination and issue, the byte spans it covers, the words still to be read with
the edges of their bank cycles, and the words read. -/
structure LLoad where
  dst : Nat
  issued : Nat
  kind : LoadKind
  spans : List (Nat × Nat)
  reads : List (Nat × Nat)
  got : List (Nat × BitVec 256) := []
  deriving DecidableEq, Repr

/-- A word an L-port store issued on edge `issued` writes on the edge of its bank cycle (R62); a narrow one goes through the merge buffer
(R286). -/
structure LStore where
  issued : Nat
  edge : Nat
  word : Nat
  mask : BitVec 32
  data : BitVec 256
  narrow : Bool
  deriving DecidableEq, Repr

/-- An entry of a scratchpad merge buffer (R286): word, byte mask, data. -/
structure MergeEntry where
  word : Nat
  mask : BitVec 32
  data : BitVec 256
  deriving DecidableEq, Repr

/-- A word of a buffered port (R60, R61), of the packet or transfer `id`: for the banks, or, with `reg`, word `word` of a tile register;
`rmw` marks a word that a read-add-write completes on its bank (R158): its FP32 values with `fp`, else the Saffron lanes that end in it, each
with its first byte. -/
structure BufWrite where
  word : Nat
  mask : BitVec 32
  data : BitVec 256
  since : Nat
  id : Nat
  reg : Option Nat := none
  rmw : Bool := false
  fp : Bool := false
  lanes : List (Nat × BitVec 144) := []
  deriving DecidableEq, Repr

/-- What happens when the last word of packet or transfer `id` has been performed: arrivals at a knot (R159), or the completion
flags of a bobbin descriptor into a predicate register (R106); the receive window a packet goes to, and the last edge on which its data
still counts once the window is closed (R160). -/
structure PendingDone where
  id : Nat
  left : Nat
  knot : Option (Nat × Nat × Nat × Nat) := none   -- knot, NPKT, TENANT, SRC
  pred : Option (Nat × Nat) := none               -- predicate register, flags
  sig : Option Nat := none                        -- knot signalled by 1 (SIG)
  win : Option Nat := none
  until_ : Option Nat := none
  deriving DecidableEq, Repr

/-- A receive window (R157); a closed one still takes a packet of the edge it closed on (R160). -/
structure Window where
  isOpen : Bool := false
  shut : Option Nat := none
  mode : Nat := 0
  dk : Bool := false
  dreg : Nat := 0
  base : Nat := 0
  len : Nat := 0
  tag : Nat := 0
  anchor : Int := 0
  knot : Nat := 0
  seen : List Nat := []
  chunks : Nat := 0
  dropped : Nat := 0
  deriving DecidableEq, Repr

/-- A tile's knot wait (R274): its predicate register and knot. -/
structure TileWait where
  pd : Nat
  knot : Nat
  deriving DecidableEq, Repr

/-- One tile (R51 to R69, R155 to R162). -/
structure Tile where
  sreg : Store W64 := []
  preg : Store W64 := []
  vreg : Store W32 := []
  treg : Store Byte := []
  /-- registers whose presence bit is 0, each with the edge on which it was cleared (R53) -/
  absent : List (Nat × Nat) := []
  /-- registers in use by a capture, each with the edge on which the use ends (R53) -/
  capture : List (Nat × Nat) := []
  /-- registers a downward bobbin transfer reads, each with the step cycle on which the use ends (R111) -/
  bcap : List (Nat × Nat) := []
  inflight : List Result := []
  /-- Saffron lanes: set × 2048 + 64 m + n (R44) -/
  acc : Store Int := []
  anchor0 : Int := 0
  anchor1 : Int := 0
  ovf0 : Bool := false
  ovf1 : Bool := false
  ramp : Ramp := .cold
  rampAt : Nat := 0
  /-- the latched B block of 64 × 64 bytes, its format, and whether an 8-bit block is held (R50) -/
  latch : Store Byte := []
  latchFmt : Nat := 0
  latchValid : Bool := false
  /-- edge on which the array is free, edges on which sets 0 and 1 are complete, edges from which a pass into them may issue (R47) -/
  arrayFree : Nat := 0
  setDone0 : Nat := 0
  setDone1 : Nat := 0
  setRead0 : Nat := 0
  setRead1 : Nat := 0
  /-- conversion sequence number (R97) -/
  q : Nat := 0
  mask : BitVec 512 := 0
  /-- the launch mask, which replaces the slot mask at cycle 0 of the panel's next step (R347) -/
  launchMask : BitVec 512 := 0
  /-- a new slot mask, with the edge on which it arrived (R55) -/
  maskIn : Option (Nat × BitVec 512) := none
  scr : Mem := {}
  merge : List MergeEntry := []
  netBuf : List BufWrite := []
  /-- words of the packet in hand that have not entered the write buffer yet (R61) -/
  netIn : List BufWrite := []
  /-- words of step tables at the network port that have not entered its buffer yet (R348) -/
  tabIn : List BufWrite := []
  /-- the edge on which the network port last took words, and the edge and number of the words the vertical port took last (R60) -/
  netAt : Option Nat := none
  vertAt : Nat := 0
  vertN : Nat := 0
  vertBuf : List BufWrite := []
  done : List PendingDone := []
  /-- data phases that have not taken their channel: first step bobbin cycle, length, bobbin, direction, and the tile register read (R102) -/
  phases : List (Nat × Nat × Nat × Bool × Option Nat) := []
  /-- step bobbin cycles until which the two up and the two down channels of the site are held (R102) -/
  up0 : Nat := 0
  up1 : Nat := 0
  dn0 : Nat := 0
  dn1 : Nat := 0
  nextId : Nat := 0
  /-- (bank, edge) pairs reserved by L-port accesses already issued (R62, R63) -/
  resv : List (Nat × Nat) := []
  /-- loads and stores of the L port that have issued and not reached their banks (R62, R64) -/
  loads : List LLoad := []
  lstores : List LStore := []
  /-- serialised cycles of the waiting bundle already paid (R63) -/
  paid : Nat := 0
  imem : Mem := {}
  /-- executing a step, NEND issued, halted by debug -/
  run : Bool := false
  ended : Bool := false
  /-- NEND has issued in the present bundle -/
  ending : Bool := false
  halted : Bool := false
  pc : Nat := 0
  cy : Nat := 0
  /-- slots of the bundle at PC already issued on this cycle, and a branch taken by it -/
  slots : BitVec 5 := 0
  branch : Option Nat := none
  /-- held on this edge already (R181), and the cycles held since launch -/
  held : Bool := false
  sx : Nat := 0
  /-- stitch since which a late item has held the tile without a break (R186) -/
  lateSince : Option W64 := none
  vx : Nat := 0
  vy : Nat := 0
  /-- the bobbin clock of the site: the parity of the edges its cycles begin on, and a cycle that is due since the tile was stopped on the
  last edge (R101, R182) -/
  bobOdd : Bool := false
  bobDue : Bool := false
  /-- the send slots in use: predicate register of each by slot number (R156) -/
  sends : Store Nat := []
  wins : Store Window := []
  waits : List TileWait := []
  deriving DecidableEq, Repr

/-! ## Bobbins (spec/04) -/

/-- Who posted a descriptor: the tile below (with its predicate register), or an agent of the device for a panel, with the job
number its status is reported to. -/
inductive Poster where
  | step (pd : Nat)
  | svc (panel : Option Nat) (job : Nat)
  deriving DecidableEq, Repr

/-- A descriptor in a queue: its 512 bits, its poster, and the step cycle it was posted at (R103, R104). -/
structure Desc where
  d : BitVec 512
  by_ : Poster
  cy : Nat := 0
  deriving DecidableEq, Repr

/-- A bobbin result that waits for its bobbin cycle (R105, R106): the cycle, the length of its data phase, the tile register and scale
register it writes with their cells, or the scratchpad words still to enter the tile's vertical port, and how many have entered; its
predicate register and flags, and the knot it signals. -/
structure BobResult where
  at_ : Nat
  phase : Nat := 0
  dreg : Option Nat := none
  cells : List (Nat × Nat × Nat) := []
  sreg : Option Nat := none
  scells : List (Nat × Nat × Nat) := []
  words : List BufWrite := []
  entered : Nat := 0
  /-- scratchpad destination: its flags become present with its last word (R106) -/
  viaPort : Bool := false
  pd : Nat := 0
  flags : Nat := 0
  sig : Option Nat := none
  deriving DecidableEq, Repr

/-- An entry of a bobbin's merge buffer (R123). -/
structure BobMerge where
  word : Nat
  mask : BitVec 64
  data : BitVec 512
  deriving DecidableEq, Repr

/-- Data of an inbound packet that waits for the write port (R122): the stack byte it goes to, the bytes, and its knot arrival: knot, NPKT,
TENANT, SRC. -/
structure Inbound where
  at_ : Nat
  bytes : List Byte
  knot : Option (Nat × Nat × Nat × Nat) := none
  /-- the spool whose unpark the data belongs to (R383) -/
  spool : Option Nat := none
  deriving DecidableEq, Repr

/-- One bobbin (R99 to R129). -/
structure Bobbin where
  mem : Mem := {}
  stepQ : List Desc := []
  svcQ : List Desc := []
  /-- service descriptors their posters hold back until the queue has room (R103) -/
  svcHold : List Desc := []
  /-- data of packets in the inbound buffer: first stack byte, bytes, and the arrivals sent when the last has been written (R122, R159) -/
  inbound : List Inbound := []
  /-- multiply-accumulates not yet counted in a unit of BOB_PERF_MAC -/
  macRem : Nat := 0
  /-- port end of the last step descriptor, in step bobbin cycles, and its opcode -/
  portFree : Nat := 0
  op : Nat := 0
  /-- step bobbin cycle until which that descriptor uses the read port (R107) -/
  readEnd : Nat := 0
  results : List BobResult := []
  merge : List BobMerge := []
  act : Store Byte := []
  actBad : Runs := []
  list : Store (BitVec 32) := []
  listBad : Runs := []
  cb : Mem := {}
  /-- the last CB_LOAD performed (R291) -/
  cbDesc : BitVec 512 := 0
  lanes : Store Int := []
  anchor : Int := 0
  ovf : Bool := false
  q : Nat := 0
  mask : BitVec 512 := 0
  /-- the launch mask (R347) -/
  launchMask : BitVec 512 := 0
  deriving DecidableEq, Repr

/-! ## Knots (spec/10) -/

/-- A listed waiter (R268, R274, R276): who, kind, count asked, priority, token, the stitch it was appended at, its timeout, the
host command that waits, and whether its row has been reported for lending (R281). -/
structure Waiter where
  feid : Nat
  all : Bool
  n : Nat
  prio : Nat
  token : Nat
  at_ : W64
  timeout : Option W64 := none
  job : Option Nat := none
  lent : Bool := false
  /-- its place in the order of arrival at the knot (R269) -/
  arr : Nat := 0
  deriving DecidableEq, Repr

/-- A knot (R267), with the number of waiters it has listed. -/
structure Knot where
  count : Nat := 0
  stuck : Bool := false
  waiters : List Waiter := []
  appended : Nat := 0
  deriving DecidableEq, Repr

/-- An operation in a home's queue (R266, R273); `job` is the host command it serves, `auth` a SET under debug authorisation, and
`remove` the removal of a timed-out waiter (R276). -/
structure KnotOp where
  kop : Nat
  knot : Nat
  value : Nat := 0
  prio : Nat := 0
  token : Nat := 0
  tenant : Nat := 0
  src : Nat := 0
  auth : Bool := false
  job : Option Nat := none
  timeout : Option W64 := none
  remove : Bool := false
  /-- panel of a VF whose host command it serves (R269, R271) -/
  panel : Option Nat := none
  deriving DecidableEq, Repr

/-! ## Panels and patterns (spec/06, spec/15) -/

/-- A scratchpad range a resident pattern holds in one tile (R173). -/
structure Range where
  tile : Nat
  start : Nat
  len : Nat
  shared : Bool
  key : Nat
  deriving DecidableEq, Repr

/-- The pages a pattern declares for a virtual tile and tier (R167). -/
structure PageUse where
  tile : Nat
  tier : Nat
  wPages : Nat
  kvLo : Nat
  kvHi : Nat
  deriving DecidableEq, Repr

/-- A resident pattern (R166 to R174). -/
structure Pattern where
  gridW : Nat := 1
  gridH : Nat := 1
  ndKinds : Nat := 0
  /-- MAX_CY and NOMINAL_CY of each entry point -/
  entries : List (Nat × Nat) := []
  /-- first bundle and number of bundles held in every tile of the placement -/
  base : Nat := 0
  bundles : Nat := 0
  /-- physical tile of each virtual tile, in the order vy × W + vx -/
  tiles : List Nat := []
  /-- entry bundle indices of each virtual tile, absolute -/
  starts : List (List Nat) := []
  ranges : List Range := []
  pages : List PageUse := []
  knots : List Nat := []
  queues : List Nat := []
  /-- declared latency values (R178) -/
  lat : List (Nat × Nat) := []
  /-- BUILD_ID: kept, not checked (R166) -/
  buildId : BitVec 128 := 0
  digest : BitVec 384 := 0
  deriving DecidableEq, Repr

/-- The step a panel runs (R29, R181 to R187). -/
structure Run where
  handle : Nat := 0
  entry : Nat := 0
  launch : W64 := 0
  /-- announcement number of the step (13), for its report -/
  q : Nat := 0
  ctr : W64 := 0
  maxCy : Nat := 0
  /-- arithmetic edges still to come before cycle 0 -/
  startIn : Nat := 16
  tiles : List Nat := []
  /-- T of the hold tree, and the last six cycles' late bits, newest first (R181) -/
  treeT : Nat := 0
  pipe : List Bool := []
  lateNow : Bool := false
  /-- DETECT and UNWRITTEN seen in this step (R290) -/
  detect : Bool := false
  unwritten : Bool := false
  /-- a debug write has altered this step (R488) -/
  altered : Bool := false
  /-- the KV pages whose words failed their check in this step (R291) -/
  kvBad : List Nat := []
  deriving DecidableEq, Repr

/-- What a panel holds beside its registers. -/
structure Panel where
  patterns : Store Pattern := []
  /-- SHARED ranges of unloaded patterns whose KEY another resident pattern declares: still reserved (R170) -/
  kept : List Range := []
  run : Option Run := none
  /-- a PANEL_STOP that completes when the panel has drained, and the stitch it was accepted at (R395) -/
  stopJob : Option Nat := none
  /-- a DBG_HALT that completes when every tile has stopped (R485) -/
  haltJob : Option Nat := none
  /-- the step cycle a DBG_HALT or DBG_RESUME has asked for (R485, R486); a replay's dump list may ask for an earlier one (R492) -/
  haltAt : Option Nat := none
  stopAt : W64 := 0
  /-- a freeze in progress has been counted (R183) -/
  frozen : Bool := false
  deriving DecidableEq, Repr

/-! ## Host interface (spec/16) -/

/-- A command taken and not completed: where it came from and where its completion goes (R423, R426). -/
structure Job where
  id : Nat
  opcode : Nat
  cmd : Cmd
  cq : Nat
  /-- ring index of its entry, when the decoder took it from a queue (R473) -/
  idx : Option Nat := none
  /-- the token of a host wait, which no other outstanding wait has (R273, R276) -/
  token : Option Nat := none
  deriving DecidableEq, Repr

/-- An entry held for a completion queue until it has room (R415, R423): 256 bits, and whether it signals at once. -/
structure HeldEntry where
  cq : Nat
  entry : BitVec 256
  irq : Bool
  deriving DecidableEq, Repr

/-- A hardware queue beside its QCFG registers (R408 to R421): the contents of its slots by slot index, the slots with START set,
those that have been moved into the queue area, slots reserved for completions, entries not yet signalled with the stitch of the first,
and the indices of the entries that signal at once. -/
structure Queue where
  slots : Store (BitVec 512) := []
  starts : List Nat := []
  area : List Nat := []
  /-- indices of slots that wait in their registers until the domain of their queue-area page is Active (R410, R436) -/
  moving : List Nat := []
  reserved : Nat := 0
  unsig : Nat := 0
  unsigAt : W64 := 0
  irqNow : List Nat := []
  /-- commands this submission queue has given up in the decoder's present round (R423) -/
  turn : Nat := 0
  /-- index of the slot the queue has stopped at (R418) -/
  stopAt : Nat := 0
  deriving DecidableEq, Repr

/-- A PCIe function (R400 to R403, R407): Bus Master Enable, NumVFs (the PF's), Max Payload Size and Max Read Request Size in bytes, ECRC
generation and checking, MSI-X enable, and its MSI-X table: vectors not masked, pending bits, and the address and data of each entry. After a reset of the PCIe interface they are as PCI Express resets them (log
entry 27). -/
structure PcieFn where
  bme : Bool := false
  numVfs : Nat := 0
  maxPayload : Nat := 128
  maxRead : Nat := 512
  ecrcGen : Bool := false
  ecrcCheck : Bool := false
  msixOn : Bool := false
  unmasked : List Nat := []
  pend : List Nat := []
  table : Store (BitVec 96) := []
  deriving DecidableEq, Repr

/-- What the block sends out: an MSI-X message, a flit on a port, a message to a peer engine, an SMBus answer, a change of a pin. -/
inductive Out where
  | msix (fn vector : Nat)
  | flit (port : Nat) (bytes : List Byte)
  | marker (port pair : Nat)
  | message (coord kind : Nat) (body : List Nat)
  | config (status : Nat) (data : BitVec 32)
  | read (data : W64)
  | smbus (bytes : List Byte)
  | jtag (data : W64)
  | pin (name : String) (level : Bool)
  deriving DecidableEq, Repr

/-! ## Clocks and time (spec/01) -/

/-- Timing state beside the STI registers. -/
structure Clk where
  /-- arithmetic edges since reset, and tenths of the next stitch already passed (R29, R32) -/
  edge : Nat := 0
  phase : Nat := 0
  /-- consecutive frames within the bound, and whether the present ACQUIRE began in FREERUN (R21) -/
  conv : Nat := 0
  fromFreerun : Bool := false
  /-- an offset has been measured in the present ACQUIRE (R21) -/
  hasOff : Bool := false
  /-- stitch at which the path to the master was lost (R21, R23) -/
  lostAt : Option W64 := none
  /-- last measured offset in 1/256 st, and the path delay (R232) -/
  offset : Int := 0
  delay : Int := 0
  /-- last TIME frame seen on each port (R19) -/
  frameAt : Store (Option W64) := []
  /-- stitch of the last frames sent (R19) -/
  sentAt : Option W64 := none
  /-- inside a change window (R35); inside a trim window, the stitch it is armed for, and the stitch of the last one (R34) -/
  inWindow : Bool := false
  inTrim : Bool := false
  trimAt : Option W64 := none
  trimLast : W64 := 0
  /-- a change put off until the running step ends (R36) -/
  deferred : Bool := false
  /-- rows that have asked for a voltage step, and whether one has asked for a lower clock point (R37) -/
  vAsk : List Nat := []
  lowerAsk : Bool := false
  /-- the master followed, and the stitch of the last frame that named it (R21, R24) -/
  master : Option Nat := none
  reachAt : W64 := 0
  /-- STITCH_ROLE has set the role (R22) -/
  roleSet : Bool := false
  deriving DecidableEq, Repr

/-! ## Links (spec/08) -/

/-- A 16-byte unit of a virtual lane's stream: a packet header begins in it, it is the last unit of its flit (R219, R220). -/
structure Unit16 where
  start : Bool
  last : Bool
  bytes : List Byte
  hold : Nat
  deriving DecidableEq, Repr

/-- A port beside its LNK registers (R218 to R232). -/
structure Port where
  rx0 : List Unit16 := []
  rx1 : List Unit16 := []
  rx2 : List Unit16 := []
  tx0 : List Unit16 := []
  tx1 : List Unit16 := []
  tx2 : List Unit16 := []
  /-- packets in the link die's egress queues that have not begun to leave, with the edge from which each may (R211, R238) -/
  q0 : List (Packet × Nat) := []
  q1 : List (Packet × Nat) := []
  q2 : List (Packet × Nat) := []
  /-- expected FSEQ, FSEQ of the next DATA flit, flits sent and not acknowledged, oldest first -/
  expect : Nat := 0
  next : Nat := 0
  replay : List Flit := []
  /-- position in the replay buffer of a replay in progress; a replay asked for by a NAK -/
  replayAt : Option Nat := none
  nakIn : Bool := false
  /-- a refusal episode: NAK still to send, stitch of the last NAK, NAKs sent and received for one FSEQ -/
  episode : Bool := false
  nakOut : Bool := false
  nakAt : W64 := 0
  naksSent : Nat := 0
  naksRecv : Nat := 0
  nakSeq : Nat := 0
  /-- credits to return -/
  owe0 : Nat := 0
  owe1 : Nat := 0
  owe2 : Nat := 0
  violations : List W64 := []
  uncorr : List W64 := []
  /-- in RETRAIN and in a new attempt of DOWN: 0 as ALIGN, 1 as PARAM, 2 as ELEC (R226) -/
  sub : Nat := 0
  /-- in DOWN: an attempt at full training runs, and when the last one, or DOWN, began (R226) -/
  retry : Bool := false
  retryAt : W64 := 0
  /-- pair count, flits already sent of the present pair and the stamp of its first bit (R218, R232) -/
  pair : Nat := 0
  flitInPair : Nat := 0
  pairAt : W64 := 0
  /-- link cycles of the window of 64 passed, and VL1 flits sent in it (R250) -/
  winPos : Nat := 0
  winVl1 : Nat := 0
  /-- flits of ELASTIC packets let into the rings, with their edges (R209) -/
  lim : List (Nat × Nat) := []
  stateAt : W64 := 0
  retrainAt : W64 := 0
  /-- PARAM_DONE sent and received (R227); a probe to echo (R229) -/
  sentDone : Bool := false
  recvDone : Bool := false
  echoOwed : Option (BitVec 16) := none
  /-- a TRAIN flit of the peer has been received in this PARAM -/
  heard : Bool := false
  /-- payloads of CTRL flits waiting to be sent; that of a TIME flit is completed when it leaves (R221, R232) -/
  ctrlOut : List (List Byte) := []
  /-- going OFFLINE, and the commands that asked (R231); egress discards of this episode have been logged (R230) -/
  offJobs : List Nat := []
  offline : Bool := false
  dropLogged : Bool := false
  /-- timing frames (R232): number of the last one sent and the transmit stamps of those sent lately; number, receive stamp and
  PREV_TX of the last one received -/
  tseq : Nat := 0
  txStamps : List (Nat × W64) := []
  peerTseq : Option Nat := none
  peerRx : W64 := 0
  peerPrevTx : W64 := 0
  peerHops : Nat := 7
  /-- the master its last frame names (R19, R24) -/
  peerMaster : Option Nat := none
  /-- the neighbour has passed the check of R258 since the port became ACTIVE -/
  checked : Bool := false
  identAt : Option W64 := none
  lastIdent : List Byte := []
  deriving DecidableEq, Repr

/-! ## The fabric and the route directory (spec/07, spec/09) -/

/-- A candidate coordinate (R257): coordinate, sender's hops, sender's coordinate, port. -/
structure Cand where
  coord : Nat
  hops : Nat
  sender : Nat
  port : Nat
  deriving DecidableEq, Repr

/-- A directory update in progress, whose entries are applied: its command, and the status and detail it completes with (R201). -/
structure RdirJob where
  job : Nat
  code : Code
  detail : Nat
  deriving DecidableEq, Repr

/-- The network beside its registers: the packets in it, the directory banks as entries by set × 4 + way, sequence counters by
endpoint × 2 + class, the FEID registers, elastic rates (R252), echoes sent by source FEID (R251). -/
structure Noc where
  flights : List Flight := []
  bank0 : Store (Option (BitVec 64)) := []
  bank1 : Store (Option (BitVec 64)) := []
  upd : Option RdirJob := none
  swapJob : Option Nat := none
  seqs : Store (BitVec 16) := []
  /-- coordinate the endpoint FEIDs were last written with (R254) -/
  feidCoord : Nat := 0
  /-- endpoint rate in 1/65,536 of the full rate; 65,536 where none is listed (R252, log entry 11) -/
  rates : Store Nat := []
  /-- elastic bytes injected by an endpoint: (stitch, bytes) of the last µs -/
  injected : Store (List (W64 × Nat)) := []
  echoes : List (Nat × W64) := []
  restoredAt : W64 := 0
  /-- operations of the host-die sources that wait for room in a home's queue, or for the packets that came before them, each with the edge
  it came on (R266) -/
  homeWait : Store (List (Nat × KnotOp)) := []
  /-- grants and refusals that have reached an engine's endpoint: the mailbox its scheduler reads (R274) -/
  mail : Store (List KnotOp) := []
  deriving DecidableEq, Repr

/-- Discovery (R255 to R259). -/
structure Fabric where
  cands : List Cand := []
  /-- ports whose candidate disagreed with POS; 0x0902 has been logged -/
  posBad : List Nat := []
  posLogged : Bool := false
  /-- stitch of the first acceptable candidate; stitch since which a root has been followed without a coordinate; stitch of the last
  change of a port check -/
  candAt : Option W64 := none
  rootAt : Option W64 := none
  checkAt : W64 := 0
  /-- FAB_DISCOVER commands that wait, with the stitch each was accepted at (R263) -/
  jobs : List (Nat × W64) := []
  firstActive : Option W64 := none
  strapDone : Bool := false
  /-- FAB_DISCOVER has taken the LOADER ports out of service until the device is ASSIGNED (R263) -/
  ldrShut : Bool := false
  deriving DecidableEq, Repr

/-! ## Integrity (spec/11) -/

/-- A fault-log entry (R298). -/
structure LogEntry where
  code : Code
  panel : Option Nat
  seq : Nat
  stitch : W64
  d0 : W64
  d1 : W64
  deriving DecidableEq, Repr

/-- A fill in progress (R285). -/
structure FillJob where
  job : Nat
  pages : Runs
  tiles : List Nat
  /-- service FILLs that have not completed, and the first code one of them failed with (R108) -/
  left : Nat := 0
  code : BitVec 16 := 0
  deriving DecidableEq, Repr

/-- Integrity state beside the INT registers (R284 to R299). -/
structure Integ where
  /-- the ring's entries by SEQ mod 4,096 -/
  log : Store LogEntry := []
  /-- number of the patrol pass or step a detection belongs to, for coalescing -/
  suspect : List Nat := []
  refetch : List Nat := []
  retired : List Nat := []
  bobRetired : List Nat := []
  /-- failing pages of bank: (bobbin × 16 + bank) → pages; failing words of a tile -/
  bankFails : Store (List Nat) := []
  tileFails : Store (List Nat) := []
  sparePending : List Nat := []
  fills : List FillJob := []
  /-- stitch at which the present patrol period began, bobbins that have finished it -/
  patrolAt : W64 := 0
  patrolDone : List Nat := []
  /-- bobbins whose codebook store is to be reloaded before a replay (R291) -/
  reload : List Nat := []
  deriving DecidableEq, Repr

/-! ## Weights (spec/12) -/

/-- An entry of a source list (R305): HOST with its address, or FABRIC with its FEID. -/
structure Source where
  fabric : Bool := false
  feid : Nat := 0
  addr : Nat := 0
  deriving DecidableEq, Repr

/-- A segment of the device's shard (R302), where it lies (bobbin, first local page), its offset in the shard image (R303), and its
fetch: 0 waiting, 1 being fetched, 2 verified; its pages still to request, each with the source it is pinned to (R306, R309); its
refetch count; the source of its last whole fetch; and the pages of it whose own refetch is outstanding (R310). -/
structure Segment where
  layer : Nat := 0
  bob : Nat := 0
  lpage : Nat := 0
  npages : Nat := 1
  bytes : Nat := 0
  off : Nat := 0
  digest : BitVec 384 := 0
  st : Nat := 0
  todo : List (Nat × Option Nat) := []
  refetches : Nat := 0
  src : Nat := 0
  want : List Nat := []
  deriving DecidableEq, Repr

/-- An outstanding request of the ingest engine (R306 to R309): segment and page in it, index of the source in the present list, if it
is still there, offset in the image, length and bytes received. -/
structure IngestReq where
  id : Nat
  seg : Nat
  page : Nat
  src : Option Nat
  source : Source
  sentAt : W64
  off : Nat
  len : Nat
  count : Nat := 0
  /-- function whose command named the source (R305, R319) -/
  fn : Nat := 0
  /-- a page of the resident generation, refetched while a refit is in progress (R310, R321) -/
  old : Bool := false
  deriving DecidableEq, Repr

/-- A release table (R318). -/
structure ReleaseTable where
  handle : Nat
  entry : Nat
  cys : List Nat
  deriving DecidableEq, Repr

/-- The refit journal (R327). -/
structure Journal where
  model : Nat := 0
  oldGen : Nat := 0
  newGen : Nat := 0
  barrier : Nat := 0
  policy : Nat := 0
  state : Nat := 0
  layers : Nat := 0
  digest : BitVec 384 := 0
  done : List Nat := []
  deriving DecidableEq, Repr

/-- A VERIFIED report that came before the head's load (R315): device index, coordinate, MODEL_ID, generation. -/
structure EarlyReport where
  dev : Nat
  coord : Nat
  model : Nat
  gen : Nat
  deriving DecidableEq, Repr

/-- What the ingest engine holds for a panel beside the PNL_WGT registers (R300 to R329). -/
structure Wgt where
  segs : List Segment := []
  /-- segments of the resident generation during a refit (R321) -/
  old : List Segment := []
  /-- generation tag of each layer -/
  tags : Store Nat := []
  sources : List Source := []
  srcFn : Nat := 0
  /-- the source list of the resident generation during a refit, and the function that named it (R310, R321) -/
  oldSources : List Source := []
  oldFn : Nat := 0
  reqs : List IngestReq := []
  nextReq : Nat := 0
  digest : BitVec 384 := 0
  place : Nat := 0
  job : Option Nat := none
  deadline : Option W64 := none
  releases : List ReleaseTable := []
  journal : Journal := {}
  barrierHit : Bool := false
  released : List Nat := []
  /-- the last old step as this device has it recorded (R322) -/
  lastOld : Option Nat := none
  /-- head: devices that have reported for the current load or refit; the coordinate of each device of the instance -/
  reported : List Nat := []
  members : List (Nat × Nat) := []
  /-- VERIFIED reports that no load of this device could count yet (R315); a head that a reset has left READY at the new generation, while
  other devices have still to report REFIT_DONE (R325, R329) -/
  early : List EarlyReport := []
  awaiting : Bool := false
  deriving DecidableEq, Repr

/-! ## The serving engine (spec/13, spec/14) -/

/-- A bucket (R342). -/
structure Bucket where
  handle : Nat
  entry : Nat
  maxSlots : Nat
  slotPages : Nat
  maxTokens : Nat
  chunk : Nat
  dep : Bool
  key : Nat
  deriving DecidableEq, Repr

/-- A spool picked for a step (R343, R349): slot, tokens, POS, whether it yields a token, whether it is a decode slot, whether it is masked. -/
structure Pick where
  spool : Nat
  slot : Nat
  n : Nat
  pos : Nat
  sample : Bool
  dec : Bool
  masked : Bool
  /-- the spool has left the step for good: cancelled, or its turn has ended -/
  gone : Bool := false
  /-- ADMIT_SEQ of the spool: a later spool in the same entry is another one (R335, R338) -/
  adm : Nat := 0
  deriving DecidableEq, Repr

/-- Records of a slot's candidate list as they arrive (R366): NPARTS of each packet, and (part, PART_TOTAL, index, record). -/
structure CandList where
  nparts : List Nat := []
  recs : List (Nat × Nat × Nat × Nat) := []
  deriving DecidableEq, Repr

/-- A step the head has announced and not committed or discarded (R345, R350): devices that have reported it good, the stitch of this
device's own report, the candidate lists, and the sampled tokens by slot. -/
structure AnnStep where
  q : Nat := 0
  l : W64 := 0
  span : Nat := 0
  c : Nat := 0
  gen : Nat := 0
  bix : Nat := 0
  bucket : Bucket
  picks : List Pick := []
  reported : List Nat := []
  endAt : Option W64 := none
  lists : Store CandList := []
  tokens : Store (Option Nat) := []
  /-- the slots have been written and the decode deadline of R346 has passed -/
  inputsShut : Bool := false
  /-- the replayed step of R492 -/
  replay : Bool := false
  /-- a debug write altered the step, and its results are kept (R488) -/
  altered : Bool := false
  /-- the numbers of the discarded steps this one replaces, newest first (R350) -/
  was : List Nat := []
  deriving DecidableEq, Repr

/-- A launch announced to this device (R346): the fields of ANNOUNCE, the stitch and coordinate it came with and from, its step inputs as they arrive,
and whether its step table has been written (R348). -/
structure Launch where
  q : Nat
  l : W64
  c : Nat
  gen : Nat
  handle : Nat
  entry : Nat
  slots : Nat
  at_ : W64
  coord : Nat
  bucket : Bucket
  recs : Store (Option (BitVec 128)) := []
  blocks : Store (Option Nat) := []
  /-- its TOKENS messages, newest first: first token index, and the IDs of the payload -/
  toks : List (Nat × List Nat) := []
  mask : Option (BitVec 512) := none
  written : Bool := false
  deriving DecidableEq, Repr

/-- A tokenizer (R356). -/
structure Tokenizer where
  vocab : Nat
  merges : List (Nat × Nat × Nat)
  eos : List Nat
  bos : Nat
  classes : List Nat
  matrix : List Byte
  bases : List Nat
  ofs : List Nat
  blob : List Byte
  bytes : Nat
  digest : BitVec 384
  deriving DecidableEq, Repr

/-- A REPLAY_RUN in progress (R492): its command and parameters, whether the replayed step is announced, the dump items, those written,
and those whose register was absent. -/
structure Replay where
  job : Nat
  fn : Nat
  spool : Nat
  bucket : Nat
  slot : Nat
  c : Nat
  n : Nat
  dump : Nat
  sample : Bool
  items : List (List Byte)
  launched : Bool := false
  written : Nat := 0
  absent : Nat := 0
  deriving DecidableEq, Repr

/-- What the engine holds for a panel beside the GSE registers (R342 to R357). -/
structure Serve where
  buckets : Store (Option Bucket) := []
  steps : List AnnStep := []
  /-- discarded steps whose replacements are still to be announced, in order (R350) -/
  redo : List AnnStep := []
  launches : List Launch := []
  nextQ : Nat := 0
  /-- L + span of the previous announced step (R345) -/
  prevEnd : Option W64 := none
  /-- discards of each step counter value (R292) -/
  discards : Store Nat := []
  tok : Option Tokenizer := none
  /-- stitch at which a candidate list was posted to firmware, and the list (R344) -/
  fwAt : Option W64 := none
  fwCands : List Nat := []
  /-- the choice firmware has returned in time, bucket and picks, while no step can be announced (R344) -/
  fwPick : Option (Nat × List (Nat × Nat × Nat)) := none
  /-- generation of the last announced step; the policy of a refit has been applied to the spools (R330) -/
  policyGen : Nat := 0
  /-- contexts held for the panel: first park page and length, newest first (R398) -/
  ctx : List (Nat × Nat) := []
  /-- counters of steps that have ended here and are not committed (follower, R351) -/
  endedC : List Nat := []
  /-- coordinates of heads that have been replaced, members still to answer HEAD_MOVE, and spools a replay uses (R475, R492) -/
  staleHeads : List Nat := []
  moveWait : List Nat := []
  /-- the instance a promotion has made this device the head of, until its own shard is READY: GEN, DEVICES, members (R475, R476) -/
  headOf : Option (Nat × Nat × List (Nat × Nat)) := none
  replay : Option Replay := none
  /-- head: blocks with pages that failed in a step, on any device of the instance, for the withdrawal of R291 -/
  kvLost : List Nat := []
  /-- stitch of the sequencer's last commit, and of the last cancel it has accepted (R351) -/
  commitAt : Option W64 := none
  cancelAt : Option W64 := none
  /-- head: the clock-change and trim windows that devices of the instance have asked it to leave free, by 2 × device index + (1 for a trim
  window): first stitch and length (R34, R36) -/
  windows : Store (Option (W64 × Nat)) := []
  /-- head: blocks with retired pages on each other device, by device index, and devices with a refetch or a reload outstanding (R291,
  R310, R333) -/
  badBlocks : Store (List Nat) := []
  recovering : List Nat := []
  /-- what this device last told the head of its retired blocks and of its recovery -/
  sentRetired : List Nat := []
  sentRecover : Bool := false
  /-- step log: an overrun episode is running (R489) -/
  logFull : Bool := false
  deriving DecidableEq, Repr

/-- A park or unpark move (R379 to R383): pages of the run, pages sent or read so far, and bytes written. -/
structure Move where
  pages : Nat
  /-- park: pages whose SEND has completed, bytes the mover has written; unpark: pages the mover has read, bytes written to the stack -/
  done : List Nat := []
  bytes : Nat := 0
  failed : Bool := false
  deriving DecidableEq, Repr

/-- A spool-table entry (R335), with what the engine keeps beside it: its history pages, stop strings, output ring (R364), and its text
on the way out (R373 to R376). -/
structure Spool where
  st : Nat := 0
  panel : Nat := 0
  prio : Nat := 0
  dlPolicy : Nat := 0
  conv : Bool := false
  late : Bool := false
  genNote : Bool := false
  mixedGen : Bool := false
  reprefill : Bool := false
  cancelReq : Bool := false
  tag : BitVec 32 := 0
  tokens : Nat := 0
  kvTokens : Nat := 0
  home : Option Nat := none
  turnStart : Nat := 0
  maxNew : Nat := 0
  deadline : W64 := 0
  seed : W64 := 0
  generation : Nat := 0
  admitSeq : Nat := 0
  blocks : List Nat := []
  chain : List Nat := []
  parkHandle : Nat := 0
  parkExpiry : W64 := 0
  stopFirst : Nat := 0
  stopCount : Nat := 0
  hist : List Nat := []
  sampler : BitVec 256 := 0
  /-- the deadline has been delivered (R354) -/
  dlDone : Bool := false
  /-- stitches at which DEADLINE and PARK_EXPIRY were armed: a target reached by then fires at the next stitch (R27) -/
  admitAt : W64 := 0
  parkedAt : W64 := 0
  /-- final status of the event that ended it (R338) -/
  final : Code := 0
  /-- stitch since which it has been IDLE -/
  idleAt : W64 := 0
  idleMs : Nat := 0
  /-- the idle threshold in ms taken when it entered IDLE -/
  idleLim : Nat := 0
  ttlS : Nat := 0
  /-- park pages held, and a move in progress -/
  parkPages : Nat := 0
  /-- what PARK_EXPIRY has freed and an append of the same stitch still finds: the stitch, park pages and KV_TOKENS (R384) -/
  expired : Option (W64 × Nat × Nat) := none
  move : Option Move := none
  stops : List (List Byte) := []
  outAddr : Nat := 0
  outBytes : Nat := 0
  cq : Nat := 0
  outPos : W64 := 0
  acked : W64 := 0
  /-- bytes that wait for the ring (R375) -/
  pend : List Byte := []
  /-- raw bytes of the turn held back by stop matching (R373), and an incomplete UTF-8 tail (R374) -/
  raw : List Byte := []
  utf : List Byte := []
  /-- bytes written and not yet counted in a record; LATE and MIXED_GEN as last posted (R376) -/
  wrote : Nat := 0
  posted : Nat := 0
  /-- blocks whose words failed, which its next blocks avoid (R291) -/
  avoid : List Nat := []
  /-- replay position of a spool made by REPLAY_INJECT (R491) -/
  replayPos : Option Nat := none
  /-- standby: IN_STEP of the mirrored entry; a position of the stream from which its bytes can be made again, and the bytes from there to the
  text of the present turn (R470, R475) -/
  inStepCopy : Bool := false
  turnPos : Option Nat := none
  turnLead : List Byte := []
  deriving DecidableEq, Repr
/-! ## Twins (spec/19) -/

/-- Output of a mirrored panel (R471): a completion queue entry, which may be the completion of a command, with a slot reserved for it
(R423); output bytes; a commit sent to a follower. -/
inductive HeldOut where
  | cq (q : Nat) (e : BitVec 256) (irq : Bool) (st : Option W64) (cmd : Bool)
  | bytes (addr : Nat) (bs : List Byte)
  | commit (coord : Nat) (body : List Nat)
  deriving DecidableEq, Repr

/-- A group sent and not acknowledged (R470, R471): its last MSEQ, its stitch, whether its lag is logged. -/
structure MirrorGroup where
  last : Nat
  at_ : W64
  late : Bool
  deriving DecidableEq, Repr

/-- A command recorded in the tag table (R473): queue, ring index, TAG, STATUS, DETAIL. -/
structure TagEntry where
  q : Nat
  i : Nat
  tag : BitVec 32
  status : Code
  detail : W64
  deriving DecidableEq, Repr

/-- The twin agent beside the FAB_TWIN registers (R466 to R478). -/
structure Twin where
  /-- outputs of the change in hand are captured; those captured; those held for a group's acknowledgement, by its last MSEQ -/
  capture : Bool := false
  captured : List HeldOut := []
  held : List (Nat × HeldOut) := []
  /-- MSEQ of the next record; groups not acknowledged, oldest first; the group that ends the resync image -/
  mseq : Nat := 0
  groups : List MirrorGroup := []
  syncEnd : Option Nat := none
  /-- marks last sent, tag records of the change in hand, and those sent and not acknowledged, by the last MSEQ of their group -/
  marks : Store Nat := []
  newTags : List TagEntry := []
  sentTags : List (Nat × TagEntry) := []
  /-- commands completed at or above the mark of their queue: one not after them is in progress, or not acknowledged (R473) -/
  doneTags : List TagEntry := []
  /-- standby: the records in hand that are not applied, in the order of their MSEQ; the highest MSEQ applied; the tag table -/
  group : List (List Byte) := []
  applied : Option Nat := none
  tags : List TagEntry := []
  /-- standby: members of the active instance by panel; a heartbeat has arrived since the last test; the last test -/
  members : Store (List (Nat × Nat)) := []
  beat : Bool := false
  beatAt : Option W64 := none
  /-- step counters, GEN, DEVICES and PNL_WGT_STATE mirrored by panel (R469) -/
  panels : Store (Nat × Nat × Nat × Nat) := []
  deriving DecidableEq, Repr

/-! ## Power (spec/17) -/

/-- Power state beside the PWR registers (R430 to R446). -/
structure Power where
  /-- VIN as the device sees it, in mV; an episode below 42 V or above 58 V has been logged (R430) -/
  vin : Nat := 48000
  lowEp : Bool := false
  highEp : Bool := false
  /-- PWR_EN as the device accepts it; the rails are up (POWER_OK); a soft start runs, or is deferred (R431, R510) -/
  pwrEn : Bool := true
  on : Bool := true
  starting : Bool := false
  deferredStart : Bool := false
  /-- PWR_EN has fallen since the input came up (R510) -/
  fell : Bool := false
  /-- THERM_TRIP_N is driven low (R446) -/
  tripLow : Bool := false
  /-- waking domains, with the stitch from which each is Active (R436) -/
  waking : Store (Option W64) := []
  /-- commands that wait for domains to be Active: job number and domains (R436) -/
  jobsWait : List (Nat × List Nat) := []
  /-- 10 % steps by which envelopes are reduced, clock steps lowered for temperature, stitch of the last throttle step, stitch since
  which the device has been cool (R445) -/
  derate : Nat := 0
  throttled : Nat := 0
  throttleAt : Option W64 := none
  coolSince : Option W64 := none
  /-- panels braked (R441); the measured draw of each panel, in W -/
  braked : List Nat := []
  draws : Store Nat := []
  /-- the slew governor (R438 to R440): the VIN current in µA, the ballast in nW, the load it last saw in mW, the measured draw outside
  the panels' steps in mW, and the energy on the internal rails in 10⁻¹⁸ J -/
  iin : Nat := 0
  ballast : Nat := 0
  load : Nat := 0
  rest : Nat := 0
  rail : Nat := 0
  /-- TIME_IN is present at the standby section (R503, R509) -/
  timeIn : Bool := false
  /-- the stitch multiple of the last power-governor decision (R26, R27) -/
  decidedAt : Option W64 := none
  deriving DecidableEq, Repr

/-! ## Boot, reset and security (spec/18) -/

/-- A firmware update whose image pass 1 has verified: its command, where the image stands in host memory, and the digest of its bytes
(R462). -/
structure FwJob where
  job : Nat
  fn : Nat
  at_ : Nat
  len : Nat
  digest : List Byte
  deriving DecidableEq, Repr

/-- Boot and security state beside the DEV registers (R448 to R465). -/
structure Boot where
  /-- RST_N is held low (R458) -/
  rstLow : Bool := false
  /-- a flash device answers, an erase or program fails, and its contents (R449, R461, R462) -/
  flashOk : Bool := true
  flashFail : Bool := false
  flash : Store Byte := []
  /-- the firmware update in progress, from the erase of the slot on (R461, R462) -/
  update : Option FwJob := none
  /-- local SRAM of the cores, core c at c × 1,048,576, as the ROM loaded it (R451) -/
  sram : Store Byte := []
  /-- the parity bit that stands beside each byte of it (R448) -/
  sramParity : Store Bool := []
  /-- fuse writes that take effect at the next reset (R463) -/
  newSvn : Option Nat := none
  newOwner : Option (List Byte) := none
  /-- retained memory: the staged manifest, the accepted one and its panel entries (R454, R463, R390) -/
  staged : Option (List Byte) := none
  manifest : Option (List Byte) := none
  entries : Store (List Byte) := []
  /-- running cores, with the stitch each last restarted its watchdog at (R448) -/
  cores : Store (Option W64) := []
  /-- DEV_RESETs whose completion is not written to its ring yet: completion queue, TAG, STATUS and SOURCE of the entry, and whether cold;
  resets that DEV_RESET has scheduled: stitch and kind (R458) -/
  resetWait : List (Nat × Nat × Bool) := []
  resets : List (W64 × Bool) := []
  /-- the warm reset in hand was caused by a core: the code to log and the core (R448) -/
  coreFault : Option (Code × Nat) := none
  /-- TIME_IN has been present since the cold reset (R509) -/
  timeSeen : Bool := false
  deriving DecidableEq, Repr

/-! ## The whole machine -/

/-- What the part is (fused or fixed at assembly): stepping A1, spares, serial-dependent key material is in the registers. -/
structure Part where
  a1 : Bool := true
  /-- sites that hold no tile in service: failed sites, by tile number (R191) -/
  failed : List Nat := []
  /-- spare site in service for a row, and the GRID_X it carries: row → (site, grid x) (R191) -/
  spares : Store (Nat × Nat) := []
  /-- straps of the board: POS[3:0], and ROOT_SEL_N low (R260, R505) -/
  pos : Nat := 0
  rootSel : Bool := false
  deriving DecidableEq, Repr

/-- The state of the block. -/
@[ext]
structure State where
  part : Part := {}
  /-- register fields by key (Regs.lean); a field not listed holds its reset value -/
  csr : Store Nat := []
  clk : Clk := {}
  tiles : Store Tile := []
  bobs : Store Bobbin := []
  panels : Store Panel := []
  noc : Noc := {}
  ports : Store Port := []
  fab : Fabric := {}
  knots : Store Knot := []
  /-- operation queue of each knot home: tile number, or 1,088 for the host die -/
  homes : Store (List KnotOp) := []
  integ : Integ := {}
  queues : Store Queue := []
  fns : Store PcieFn := []
  hostMem : Store Byte := []
  /-- host address ranges whose DMA fails: function (none: every one), first, past the end (R403) -/
  dmaBad : List (Option Nat × Nat × Nat) := []
  jobs : List Job := []
  heldEntries : List HeldEntry := []
  nextJob : Nat := 0
  /-- submission queue the decoder serves next (R423) -/
  turn : Nat := 0
  /-- a window access that GO has started: function, write, raw check (R68, R128) -/
  tileGo : Option (Nat × Bool × Bool) := none
  bobGo : Option (Nat × Bool × Bool) := none
  wgts : Store Wgt := []
  serves : Store Serve := []
  spools : Store Spool := []
  /-- admission counter (R341); a chain-full episode is running (R337) -/
  admitSeq : Nat := 0
  chainEpisode : Bool := false
  /-- queue area of the accepted partition manifest (R386) -/
  qareaFirst : Nat := 0
  qareaPages : Nat := 0

  twin : Twin := {}

  power : Power := {}
  boot : Boot := {}
  /-- what the block has sent out, oldest first -/
  out : List Out := []
  /-- the number of free values drawn so far (the model's own field) -/
  free : Nat := 0
  /-- the commands that wait, first in first out (the model's own field) -/
  pending : List Instr := []
  deriving DecidableEq, Repr

/-- The machine right after a cold reset: every register field at its reset value (R9; fused fields at the flagship's values, log
entry 1), memories with nothing written, queues empty. -/
def State.reset : State := {}

end Sys2Proof.Machine
end

