-- ==== Sys2Proof/Machine/Geom.lean ====
section
/-! DEFINITION. Register access by field, the stitch, and the geometry of the device: sites, ordinals, pages, and who owns what
(spec/00 R2, R6, R10; spec/01 R17; spec/04 R100; spec/07 R190, R191; spec/10 R264, R265; spec/15 R385). -/

namespace Sys2Proof.Machine

/-! ## Register fields -/

/-- The value of a register field. -/
def State.rd (s : State) (f : Fld) : Nat := sget f.reset s.csr f.key

/-- Write a register field (reduced to its width). -/
def State.wr (f : Fld) (v : Nat) (s : State) : State := { s with csr := sset f.reset s.csr f.key (v % 2 ^ f.w) }

/-- Is a one-bit field set? -/
def State.bit (s : State) (f : Fld) : Bool := s.rd f != 0

/-- Add to a counter that holds its maximum (R10 STICK). -/
def State.stick (f : Fld) (n : Nat) (s : State) : State := s.wr f (min (s.rd f + n) (2 ^ f.w - 1))

/-- Add to a counter that wraps without a flag (R10 WRAP). -/
def State.wrap (f : Fld) (n : Nat) (s : State) : State := s.wr f (s.rd f + n)

/-- Add to a counter that wraps and sets its overflow flag (R10 WRAP). -/
def State.wrapOvf (f o : Fld) (n : Nat) (s : State) : State :=
  let v := s.rd f + n
  (if v ≥ 2 ^ f.w then s.wr o 1 else s).wr f v

/-- STI_COUNT (R16). -/
def State.now (s : State) : W64 := BitVec.ofNat 64 (s.rd Reg.STI_COUNT_COUNT)

/-- Stitch `t` is reached at count `c` (R17). -/
def reached (c t : W64) : Bool := 0 ≤ (c - t).toInt

/-- Stitches from `a` to `b`, by signed difference (R17). -/
def stDiff (a b : W64) : Int := (b - a).toInt

/-- Arithmetic edges in ten stitches at a clock point: 2.4, 3.3 and 3.6 GHz (R32). -/
def edgesPer10 (point : Nat) : Nat := if point = 0 then 24 else if point = 1 then 33 else 36

/-- Draw a fresh free value: advance the counter. -/
def State.drawn (s : State) : State := { s with free := s.free + 1 }

/-! ## Sub-records -/

def State.tile (s : State) (t : Nat) : Tile := sget {} s.tiles t
def State.setTile (t : Nat) (x : Tile) (s : State) : State := { s with tiles := sset {} s.tiles t x }
def State.updTile (t : Nat) (f : Tile → Tile) (s : State) : State := s.setTile t (f (s.tile t))
def State.bob (s : State) (b : Nat) : Bobbin := sget {} s.bobs b
def State.setBob (b : Nat) (x : Bobbin) (s : State) : State := { s with bobs := sset {} s.bobs b x }
def State.updBob (b : Nat) (f : Bobbin → Bobbin) (s : State) : State := s.setBob b (f (s.bob b))
def State.panel (s : State) (p : Nat) : Panel := sget {} s.panels p
def State.setPanel (p : Nat) (x : Panel) (s : State) : State := { s with panels := sset {} s.panels p x }
def State.updPanel (p : Nat) (f : Panel → Panel) (s : State) : State := s.setPanel p (f (s.panel p))
def State.port (s : State) (n : Nat) : Port := sget {} s.ports n
def State.setPort (n : Nat) (x : Port) (s : State) : State := { s with ports := sset {} s.ports n x }
def State.updPort (n : Nat) (f : Port → Port) (s : State) : State := s.setPort n (f (s.port n))
def State.knot (s : State) (k : Nat) : Knot := sget {} s.knots k
def State.setKnot (k : Nat) (x : Knot) (s : State) : State := { s with knots := sset {} s.knots k x }
def State.queue (s : State) (q : Nat) : Queue := sget {} s.queues q
def State.setQueue (q : Nat) (x : Queue) (s : State) : State := { s with queues := sset {} s.queues q x }
def State.updQueue (q : Nat) (f : Queue → Queue) (s : State) : State := s.setQueue q (f (s.queue q))
def State.fnc (s : State) (f : Nat) : PcieFn := sget {} s.fns f
def State.setFn (f : Nat) (x : PcieFn) (s : State) : State := { s with fns := sset {} s.fns f x }
def State.home (s : State) (h : Nat) : List KnotOp := sget [] s.homes h
def State.removing (s : State) (h job : Nat) : Bool :=
  (s.home h ++ (sget [] s.noc.homeWait h).map (fun v => v.2)).any (fun o => o.remove && o.job = some job)
def State.setHome (h : Nat) (x : List KnotOp) (s : State) : State := { s with homes := sset [] s.homes h x }
def State.emit (o : Out) (s : State) : State := { s with out := s.out ++ [o] }

/-! ## Sites -/

/-- Tile number of a site (R254). -/
def tileAt (col site y : Nat) : Nat := 34 * y + 17 * col + site
def tileCol (t : Nat) : Nat := t % 34 / 17
def tileSite (t : Nat) : Nat := t % 17
def tileY (t : Nat) : Nat := t / 34

/-- Row number field × 16 + row of the half row of column `col` at GRID_Y `y` (log entry 3: field = 2 × (y div 16) + column). -/
def rowNum (col y : Nat) : Nat := (2 * (y / 16) + col) * 16 + y % 16

/-- Column and GRID_Y of a row number. -/
def rowCol (r : Nat) : Nat := r / 16 % 2
def rowY (r : Nat) : Nat := 16 * (r / 32) + r % 16

/-- Is the row disabled (DEV_ROW_MAP)? -/
def State.rowDisabled (s : State) (r : Nat) : Bool := (s.rd Reg.DEV_ROW_MAP_DISABLED).testBit r

/-- Does the tile number name a site of the device? -/
def isSite (t : Nat) : Bool := t < 1088

/-- TILE_ID.ROLE: 0 active, 1 unused spare, 2 spare in service, 3 disabled (R68, R191). -/
def State.role (s : State) (t : Nat) : Nat :=
  let r := rowNum (tileCol t) (tileY t)
  if s.rowDisabled r || s.part.failed.contains t then 3
  else if tileSite t = 16 then (if s.part.spares.any (·.1 = r) then 2 else 1)
  else 0

/-- The GRID_X a site carries (R68). -/
def State.gridX (s : State) (t : Nat) : Nat :=
  if tileSite t = 16 then (sget (0, 16) s.part.spares (rowNum (tileCol t) (tileY t))).2
  else 16 * tileCol t + tileSite t

/-- A site whose tile and bobbins are active (R100). -/
def State.active (s : State) (t : Nat) : Bool := isSite t && (s.role t = 0 || s.role t = 2)

/-- The site that holds GRID_X, GRID_Y. -/
def State.tileOfGrid (s : State) (gx y : Nat) : Nat :=
  let t := tileAt (gx / 16) (gx % 16) y
  if s.part.failed.contains t then tileAt (gx / 16) 16 y else t

/-- Enabled half rows below the half row of column `col` at `y`, in the order of R100. -/
def State.rowsBefore (s : State) (col y : Nat) : Nat :=
  ((List.range (2 * y + col)).filter (fun i => !s.rowDisabled (rowNum (i % 2) (i / 2)))).length

/-- The ordinal of an active site (R100). -/
def State.ordinal (s : State) (t : Nat) : Nat := 16 * s.rowsBefore (tileCol t) (tileY t) + s.gridX t % 16

/-- The active site of an ordinal (R100). -/
def State.tileOfOrdinal (s : State) (o : Nat) : Option Nat :=
  let rows := (List.range 64).filter (fun i => !s.rowDisabled (rowNum (i % 2) (i / 2)))
  rows[o / 16]?.map (fun i => s.tileOfGrid (16 * (i % 2) + o % 16) (i / 2))

/-- Stack tiers of the grade. -/
def State.tiers (s : State) : Nat := s.rd Reg.DEV_FEAT_MEM_TIERS

/-- Bobbin number of a tier above a site (R254), its tier and its site. -/
def bobAt (tier t : Nat) : Nat := 1088 * tier + t
def bobTier (b : Nat) : Nat := b / 1088
def bobTile (b : Nat) : Nat := b % 1088

/-- Does the bobbin exist and hold pages (R100)? -/
def State.bobActive (s : State) (b : Nat) : Bool := bobTier b < s.tiers && s.active (bobTile b)

/-- Bobbin index B (R100). -/
def State.bobIndex (s : State) (b : Nat) : Nat := s.ordinal (bobTile b) * s.tiers + bobTier b

/-- The bobbin that holds a page, and the local page (R100). -/
def State.bobOfPage (s : State) (page : Nat) : Option Nat :=
  let i := page / 128
  if s.tiers = 0 then none else (s.tileOfOrdinal (i / s.tiers)).map (bobAt (i % s.tiers))

/-- Page ID of a local page of a bobbin (R100). -/
def State.pageOf (s : State) (b l : Nat) : Nat := 128 * s.bobIndex b + l

/-! ## Ownership (R385) -/

/-- The panels of the device. -/
def panels16 : List Nat := List.range 16

def State.enabled (s : State) (p : Nat) : Bool := s.bit (Reg.PNL_PART_CFG_ENABLE p)

/-- The panel that owns a row. -/
def State.panelOfRow (s : State) (r : Nat) : Option Nat :=
  panels16.find? (fun p => s.enabled p && (s.rd (Reg.PNL_PART_ROWS_ROWS p)).testBit r)

/-- The panel that owns a tile. -/
def State.panelOfTile (s : State) (t : Nat) : Option Nat :=
  if s.active t then s.panelOfRow (rowNum (tileCol t) (tileY t)) else none

/-- The panel that owns a bobbin: that of the tile below (R125). -/
def State.panelOfBob (s : State) (b : Nat) : Option Nat := s.panelOfTile (bobTile b)

/-- The tenant tag of a panel (R391). -/
def State.tenant (s : State) (p : Nat) : Nat := s.rd (Reg.PNL_PART_CFG_TENANT p)

/-- The tenant tag of an optional owner; 0 without one. -/
def State.tenantOf (s : State) (p : Option Nat) : Nat := match p with | some q => s.tenant q | none => 0

/-- Active tiles of a panel, in ordinal order. -/
def State.tilesOf (s : State) (p : Nat) : List Nat :=
  (List.range 1024).filterMap (fun i =>
    let t := s.tileOfGrid (i % 32) (i / 32)
    if s.panelOfTile t = some p then some t else none)

/-- First page and number of pages of the queue area (R386), kept with the partition. -/
def State.inQArea (s : State) (page : Nat) : Bool := s.qareaFirst ≤ page && page < s.qareaFirst + s.qareaPages

/-- Is the page a history page of a panel (R361, R385)? -/
def State.histOwner (s : State) (page : Nat) : Option Nat :=
  panels16.find? (fun p => s.enabled p && s.rd (Reg.PNL_PART_HIST_HIST_FIRST p) ≤ page
    && page < s.rd (Reg.PNL_PART_HIST_HIST_FIRST p) + s.rd (Reg.PNL_PART_HIST_HIST_PAGES p))

/-- The panel whose stack page this is: the owner of the bobbin's row, except queue area and history pages (R385). -/
def State.panelOfPage (s : State) (page : Nat) : Option Nat :=
  if s.inQArea page || (s.histOwner page).isSome then none
  else match s.bobOfPage page with
    | some b => s.panelOfBob b
    | none => none

/-- The panel that owns the page: as stack page, or as history page of its serving engine (R385). -/
def State.pageOwner (s : State) (page : Nat) : Option Nat :=
  match s.histOwner page with
  | some p => if s.inQArea page then none else some p
  | none => s.panelOfPage page

/-- Is the page a weight page of its panel (R125)? -/
def State.isWeightPage (s : State) (page : Nat) : Bool :=
  match s.panelOfPage page with
  | some p => page % 128 < s.rd (Reg.BOB_PNL_SPLIT_KV_FIRST p)
  | none => false

/-- Knots homed in tile routers: PER_TILE × ACTIVE_TILES (R264). -/
def State.tileKnots (s : State) : Nat := s.rd Reg.DBG_KNOT_CAP_PER_TILE * s.rd Reg.DEV_FEAT_TILE_ACTIVE_TILES

/-- The host die's knot home. -/
def hostHome : Nat := 1088

/-- The home of a knot: a tile number, or the host die (R264). -/
def State.knotHome (s : State) (k : Nat) : Nat :=
  if k < s.tileKnots then (s.tileOfOrdinal (k / s.rd Reg.DBG_KNOT_CAP_PER_TILE)).getD hostHome else hostHome

/-- The panel a knot belongs to (R265). -/
def State.knotOwner (s : State) (k : Nat) : Option Nat :=
  if k < s.tileKnots then s.panelOfTile (s.knotHome k)
  else panels16.find? (fun p => s.enabled p && s.rd (Reg.PNL_PART_RANGE_KNOT_BASE p) ≤ k
    && k < s.rd (Reg.PNL_PART_RANGE_KNOT_BASE p) + s.rd (Reg.PNL_PART_RANGE_KNOT_COUNT p))

/-- The panel a queue belongs to; none: the PF (R409). -/
def State.queueOwner (s : State) (q : Nat) : Option Nat :=
  panels16.find? (fun p => s.enabled p && s.rd (Reg.PNL_PART_RANGE_Q_BASE p) ≤ q
    && q < s.rd (Reg.PNL_PART_RANGE_Q_BASE p) + s.rd (Reg.PNL_PART_RANGE_Q_COUNT p))

/-- The PCIe function of an optional panel: 0 the PF, p + 1 its VF (R400). -/
def fnOf (p : Option Nat) : Nat := match p with | some q => q + 1 | none => 0

/-- The function that owns a queue (R409). -/
def State.queueFn (s : State) (q : Nat) : Nat := fnOf (s.queueOwner q)

/-- The panel a spool entry belongs to (R385). -/
def State.spoolOwner (s : State) (i : Nat) : Option Nat :=
  panels16.find? (fun p => s.enabled p && s.rd (Reg.PNL_PART_HIST_SPOOL_BASE p) ≤ i
    && i < s.rd (Reg.PNL_PART_HIST_SPOOL_BASE p) + s.rd (Reg.PNL_PART_HIST_SPOOL_COUNT p))

/-! ## Panel states (R392) -/

/-- PNL_STATE.STATE values. -/
abbrev PS.empty : Nat := 0
abbrev PS.stopped : Nat := 1
abbrev PS.running : Nat := 2
abbrev PS.frozen : Nat := 3
abbrev PS.draining : Nat := 4
abbrev PS.suspended : Nat := 5
abbrev PS.faulted : Nat := 6

def State.pst (s : State) (p : Nat) : Nat := s.rd (Reg.PNL_STATE_STATE p)

/-- The panel step counter as a tile, a bobbin or a detection of the panel sees it: the value c the running step carries, which
PNL_STEP.COUNT will hold when the steps announced before it have committed (R345, R351; DEDUCED, log entry 32), and the register's value
between steps. -/
def State.stepCtr (s : State) (p : Nat) : Nat :=
  match (s.panel p).run with
  | some r => r.ctr.toNat
  | none => s.rd (Reg.PNL_STEP_COUNT p)
def State.setPst (p v : Nat) (s : State) : State := s.wr (Reg.PNL_STATE_STATE p) v

/-- RUNNING, FROZEN or DRAINING: a state in which the panel's tiles may issue. -/
def State.isLive (s : State) (p : Nat) : Bool :=
  s.pst p = PS.running || s.pst p = PS.frozen || s.pst p = PS.draining

/-! ## Endpoints (R254) -/

/-- Number of the bobbin, host and link endpoints in the plan of R254. -/
def epTile (t : Nat) : Nat := t
def epBob (b : Nat) : Nat := 1088 + b
def epHost (h : Nat) : Nat := 4352 + h
def epPort (n : Nat) : Nat := 8448 + n

/-- The coordinate of the device (R239). -/
def State.coord (s : State) : Nat := s.rd Reg.FAB_STAT_COORD

/-- The FEID an endpoint holds (R254): written with coordinate 0 at boot, with the device's own on VERIFIED. -/
def State.feid (s : State) (ep : Nat) : Nat := s.noc.feidCoord * 16384 + ep

/-! ## Power domains (R433) -/

/-- The domain of a tile: its row. -/
def domOfTile (t : Nat) : Nat := rowNum (tileCol t) (tileY t)

/-- The domain of a bobbin: its tier above its field. -/
def domOfBob (b : Nat) : Nat := 64 + 4 * bobTier b + domOfTile (bobTile b) / 16

/-- The state of a domain: that of a disabled row is Off at all times (R15, R435). -/
def State.domState (s : State) (d : Nat) : Nat := if d < 64 && s.rowDisabled d then 3 else s.rd (Reg.PWR_DOM_STATE d)
def State.domOn (s : State) (d : Nat) : Bool := s.domState d = 0
def State.tileOn (s : State) (t : Nat) : Bool := s.domOn (domOfTile t)
def State.bobOn (s : State) (b : Nat) : Bool := s.domOn (domOfBob b)

end Sys2Proof.Machine
end

