-- ==== Sys2Proof/Machine/Operands.lean ====
section
/-! DEFINITION. Operand forms: the fields of command packets (R422), bytes of little-endian values (R5), and FEIDs (R197, R254). -/

namespace Sys2Proof.Machine

/-- The `n` bytes of a value, least significant first (R5). -/
def bytesOf : Nat → Nat → List Byte
  | 0, _ => []
  | n + 1, v => BitVec.ofNat 8 v :: bytesOf n (v / 256)

/-- The value of bytes, least significant first (R5). -/
def natOf : List Byte → Nat
  | [] => 0
  | b :: r => b.toNat + 256 * natOf r

/-- Round up a quotient. -/
def cdiv (a b : Nat) : Nat := (a + b - 1) / b

/-- Bits [lo + w − 1 : lo] of a number. -/
def bits (v lo w : Nat) : Nat := v / 2 ^ lo % 2 ^ w

/-- A w-bit field read as two's complement. -/
def signed (w v : Nat) : Int := if v < 2 ^ (w - 1) then (v : Int) else (v : Int) - 2 ^ w

/-- `n` bytes of a list from `i`, as a little-endian value; bytes beyond its end are 0. -/
def leAt (l : List Byte) (i n : Nat) : Nat := natOf ((l.drop i).take n)

end Sys2Proof.Machine

namespace Sys2Proof

/-- Parameter byte, or little-endian field, of a command (R422). -/
def Cmd.fld (c : Cmd) (i n : Nat) : Nat := Machine.bits c.par.toNat (8 * i) (8 * n)

/-- A command's panel, when it names one (R422). -/
def Cmd.pnl (c : Cmd) : Option Nat := if c.panel.toNat < 16 then some c.panel.toNat else none

end Sys2Proof

namespace Sys2Proof.Machine

/-- The mask of `n` parameter bytes from byte `i`. -/
def usedBytes (i n : Nat) : BitVec 384 := BitVec.ofNat 384 ((2 ^ (8 * n) - 1) * 2 ^ (8 * i))

/-- The mask of `w` parameter bits from bit `b` of byte `i`. -/
def usedBits (i b w : Nat) : BitVec 384 := BitVec.ofNat 384 ((2 ^ w - 1) * 2 ^ (8 * i + b))

/-- The endpoint number of a FEID on its device (R197). -/
def feidEp (f : Nat) : Nat := f % 16384

/-- The coordinate of a FEID (R197). -/
def feidCoord (f : Nat) : Nat := f / 16384

/-- The enabled queue of a queue endpoint: one of type FABRIC_MSG or ENGINE_WORK (R409). -/
def State.queueOfEp (s : State) (h : Nat) : Option Nat :=
  if 1024 ≤ h ∧ h < 4096 then
    (List.range 16384).find? (fun q => s.rd (Reg.QCFG_CFG_EP q) = h && s.bit (Reg.QCFG_CFG_ENABLE q) &&
      (s.rd (Reg.QCFG_CFG_TYPE q) = 3 || s.rd (Reg.QCFG_CFG_TYPE q) = 4))
  else none

/-- The panel an endpoint number of this device belongs to (R385): a tile's or a bobbin's owner, host endpoints 16 + p, 32 + p and
48 + p, and the queue endpoints of the panel's queues (R409). -/
def State.panelOfEp (s : State) (ep : Nat) : Option Nat :=
  if ep < 1088 then s.panelOfTile ep
  else if ep < 4352 then s.panelOfBob (ep - 1088)
  else if ep < 8448 then
    let h := ep - 4352
    if 16 ≤ h ∧ h < 64 then (if s.enabled (h % 16) then some (h % 16) else none)
    else (s.queueOfEp h).bind s.queueOwner
  else none

end Sys2Proof.Machine
end

