-- ==== Sys2Proof/Machine/Comparators.lean ====
section
/-! DEFINITION. The stitch unit's comparators: which stitch-scheduled events are reached and not delivered, and the order in which those of
one stitch are delivered (spec/01 R26, R27). -/

namespace Sys2Proof.Machine

/-- The events of R26, in the order in which they are delivered. -/
abbrev Ev.refitBarrier : Nat := 0
abbrev Ev.bankSwap : Nat := 1
abbrev Ev.launch : Nat := 2
abbrev Ev.deadline : Nat := 3
abbrev Ev.parkExpiry : Nat := 4
abbrev Ev.knotTimeout : Nat := 5
abbrev Ev.heartbeat : Nat := 6
abbrev Ev.governor : Nat := 7

/-- The last stitch multiple of `n` at or before the count. -/
def State.lastMultiple (s : State) (n : Nat) : W64 := BitVec.ofNat 64 (s.now.toNat / n * n)

/-- What a comparator for multiples of `n` stands at when it is armed: the multiple before the first one it is to fire for, which is the one
the count stands at or the next (R26, R27). -/
def State.armMultiple (s : State) (n : Nat) : Option W64 :=
  some (if s.now.toNat % n = 0 then s.now - BitVec.ofNat 64 n else s.lastMultiple n)

/-- A comparator that fires at every multiple of `n`, and last fired for the multiple `last`, is due: the count stands at a multiple, or
has passed one that has not been delivered; one delivered before a step backward is not delivered again (R26, R27). -/
def State.multipleDue (s : State) (n : Nat) (last : Option W64) : Bool :=
  match last with
  | none => s.now.toNat % n == 0
  | some t => 0 < stDiff t (s.lastMultiple n)

/-- The interval of power-governor decisions, in stitches (PWR_CTL.DECIDE_US; 0 is treated as 1). -/
def State.decideSt (s : State) : Nat := 1000 * max 1 (s.rd Reg.PWR_CTL_DECIDE_US)

/-- An event armed at a stitch is due: its target is reached, or was by then, in which case it fires at the next stitch (R27). -/
def State.armedDue (s : State) (armed target : W64) : Bool := reached s.now target && (s.now ≠ armed || !reached armed target)

/-- Twin states (R468). -/
abbrev TW.unpaired : Nat := 0
abbrev TW.activeSync : Nat := 1
abbrev TW.active : Nat := 2
abbrev TW.standbySync : Nat := 3
abbrev TW.standby : Nat := 4
abbrev TW.fenced : Nat := 5
abbrev TW.solo : Nat := 6

def State.tws (s : State) : Nat := s.rd Reg.FAB_TWIN_STAT_STATE

/-- Does a pair mirror the panel? A replay panel takes no part (R466, R490). -/
def State.mapped (s : State) (p : Nat) : Bool := s.bit (Reg.FAB_TWIN_PMAP_MIRROR p) && !s.bit (Reg.DBG_PNL_CTL_REPLAY p)

/-- Does a standby hold the panel as the copy of its twin's (R466, R468)? -/
def State.onStandby (s : State) (p : Nat) : Bool := s.mapped p && (s.tws = TW.standbySync || s.tws = TW.standby)

/-- A spool in service here: a standby's copy changes by the mirror only (R470). -/
def State.spoolLive (s : State) (i : Nat) : Bool :=
  match s.spoolOwner i with
  | some p => !s.onStandby p
  | none => false

/-- The deadline of a spool is reached and not delivered (R354). -/
def State.deadlineDue (s : State) (i : Nat) (x : Spool) : Bool :=
  s.spoolLive i && x.st ≠ 0 && x.st < 9 && x.deadline ≠ 0 && !x.dlDone && s.armedDue x.admitAt x.deadline

/-- The park time-to-live of a spool has expired (R382). -/
def State.parkDue (s : State) (i : Nat) (x : Spool) : Bool :=
  s.spoolLive i && x.st == 6 && s.armedDue x.parkedAt x.parkExpiry

/-- A host wait's timeout is reached, and its removal is not queued yet (R276). -/
def State.timeoutDue (s : State) (k : Nat) (w : Waiter) : Bool :=
  match w.timeout, w.job with
  | some t, some j => reached s.now t && !s.removing (s.knotHome k) j
  | _, _ => false

/-- Is an event of a kind reached and not delivered (R17, R26)? -/
def State.eventDue (s : State) (k : Nat) : Bool :=
  match k with
  | 0 => panels16.any (fun p => s.rd (Reg.PNL_WGT_STATE_STATE p) == 3 && !(sget {} s.wgts p).barrierHit &&
      reached s.now (BitVec.ofNat 64 (s.rd (Reg.PNL_WGT_BARRIER_STITCH p))))
  | 1 => s.noc.swapJob.isSome && reached s.now (BitVec.ofNat 64 (s.rd Reg.FAB_RDIR_SWAP_AT_STITCH))
  | 2 => panels16.any (fun p => (sget {} s.serves p).launches.any (fun l => reached s.now l.l))
  | 3 => s.spools.any (fun v => s.deadlineDue v.1 v.2)
  | 4 => s.spools.any (fun v => s.parkDue v.1 v.2)
  | 5 => s.knots.any (fun v => v.2.waiters.any (fun w => s.timeoutDue v.1 w))
  | 6 => 1 ≤ s.rd Reg.FAB_TWIN_STAT_STATE && s.rd Reg.FAB_TWIN_STAT_STATE ≤ 5 && s.bit Reg.FAB_TWIN_STAT_PEER_VALID &&
      s.multipleDue 10000 s.twin.beatAt
  | _ => false

/-- No event that R26 delivers before one of kind `k` is due: the stitch unit delivers events reached at one stitch in the order of its
table. -/
def State.inTurn (s : State) (k : Nat) : Bool := (List.range k).all (fun j => !s.eventDue j)

end Sys2Proof.Machine
end

