-- ==== Sys2Proof/Machine/Wake.lean ====
section
/-! DEFINITION. Power domains: their states, their wake times, and the start of a wake (spec/17 R433 to R437). -/

namespace Sys2Proof.Machine

def State.domPresent (s : State) (d : Nat) : Bool := s.bit (Reg.PWR_DOM_PRESENT d)
def State.domCapacity (s : State) (d : Nat) : Nat := s.rd (Reg.PWR_DOM_CAP_W d)

/-- Domain states (R434). -/
abbrev DS.active : Nat := 0
abbrev DS.gated : Nat := 1
abbrev DS.retention : Nat := 2
abbrev DS.off : Nat := 3

/-- Wake time of a state without the ramp, in ns as a fraction; 64 cy for Clock-gated. -/
def State.baseNs (s : State) (st : Nat) : Nat × Nat :=
  if st = DS.gated then (640, edgesPer10 (s.rd Reg.STI_CLK_POINT))
  else if st = DS.retention then (3000, 1)
  else if st = DS.off then (50000, 1)
  else (0, 1)

/-- VIN in mV times SLEW in units of 0.25 A/µs: a group of `cap` half-watts ramps in cap × 2,000,000 / this ns (R437, R438). -/
def State.rampRate (s : State) : Nat := s.rd Reg.PWR_VIN_VIN_MV * max 1 (s.rd Reg.PWR_CTL_SLEW)

/-- Wake time in ns from a state, rounded up. -/
def State.wakeNs (s : State) (cap st : Nat) : Nat :=
  let b := s.baseNs st
  cdiv (b.1 * s.rampRate + cap * 2000000 * b.2) (b.2 * s.rampRate)

/-- Is the wake time from a state within `t` ns? -/
def State.wakesIn (s : State) (cap st t : Nat) : Bool :=
  let b := s.baseNs st
  s.rampRate ≠ 0 && b.1 * s.rampRate + cap * 2000000 * b.2 ≤ t * s.rampRate * b.2

/-- Begin to wake a domain; it is Active `ns` later (R436). -/
def State.beginWake (d ns : Nat) (s : State) : State :=
  if s.domOn d || (sget none s.power.waking d).isSome then s
  else { s with power := { s.power with waking := sset none s.power.waking d (some (s.now + BitVec.ofNat 64 ns)) } }

/-- A domain is Active now: what was to wake it has done so (R436). -/
def State.activate (d : Nat) (s : State) : State :=
  if s.domOn d then s
  else ({ s with power := { s.power with waking := sdel s.power.waking d } }.wr (Reg.PWR_DOM_STATE d) DS.active).stick (Reg.PWR_DOM_WAKES d) 1

/-- The domain of the serving engine (R433). -/
abbrev domEngine : Nat := 82

/-- The domain of the link die of a port (R433). -/
def domOfPort (n : Nat) : Nat := 76 + n / 4

/-- A demand for a domain that is not Active begins to wake it (R436). -/
def State.demand (d : Nat) (s : State) : State := s.beginWake d (s.wakeNs (s.domCapacity d) (s.domState d))

/-- A command reaches domains: where they are Active it is performed; where one is not, they begin to wake, and the command waits until all
of them are Active (R436). -/
def State.whenOn (job : Nat) (ds : List Nat) (f : State → State) (s : State) : State :=
  if ds.all s.domOn then f s
  else
    let s1 := ds.foldl (fun s d => s.demand d) s
    { s1 with power := { s1.power with jobsWait := s1.power.jobsWait ++ [(job, ds)] } }

/-- Does a command in progress wait for the domain (R435, R436)? -/
def State.jobNeeds (s : State) (d : Nat) : Bool :=
  s.power.jobsWait.any (fun v => v.2.contains d && s.jobs.any (fun j => j.id = v.1))

end Sys2Proof.Machine
end

