-- ==== Sys2Proof/Machine/Ops.lean ====
section
/-! DEFINITION. The shared operations: interrupts, the fault log, host memory access, checked memories, completions, and what
faulting a panel does. -/

namespace Sys2Proof.Machine

/-! ## Interrupts (R407) -/

/-- Signal MSI-X vector `v` of function `fn`: a message, or its pending bit while it is masked (R400, R407). -/
def State.signal (fn v : Nat) (s : State) : State :=
  let f := s.fnc fn
  if f.msixOn && f.unmasked.contains v then s.emit (.msix fn v)
  else s.setFn fn { f with pend := nins v f.pend }

/-! ## The fault log (R298, R299) -/

/-- Entries in the ring. -/
def State.logUsed (s : State) : Nat :=
  (s.rd Reg.INT_FLOG_HEAD_SEQ + 2 ^ 32 - s.rd Reg.INT_FLOG_TAIL_SEQ) % 2 ^ 32

/-- Write a fault-log entry: index SEQ mod 4,096, HEAD advanced, TAIL pushed and LOST counted when the ring is full, and the
fault-log interrupt when it was empty (R299). -/
def State.log (code : Code) (panel : Option Nat) (d0 d1 : W64) (s : State) : State :=
  let head := s.rd Reg.INT_FLOG_HEAD_SEQ
  let used := s.logUsed
  let e : LogEntry := ⟨code, panel, head, s.now, d0, d1⟩
  let s1 := { s with integ := { s.integ with log := sset ⟨0, none, 0, 0, 0, 0⟩ s.integ.log (head % 4096) e } }
  let s2 := s1.wrap Reg.INT_FLOG_HEAD_SEQ 1
  let s3 := if used ≥ 4096 then (s2.wrap Reg.INT_FLOG_TAIL_SEQ 1).stick Reg.INT_FLOG_STAT_LOST 1 else s2
  if used = 0 then s3.signal 0 0 else s3

/-- A fault-log entry whose details are numbers. -/
def State.logN (code : Code) (panel : Option Nat) (d0 d1 : Nat) (s : State) : State :=
  s.log code panel (BitVec.ofNat 64 d0) (BitVec.ofNat 64 d1)

/-- Log an event of the fabric, power, twin, security or debug chapters and signal the vector R407 gives its kind (log entry 12). -/
def State.event (v : Nat) (code : Code) (panel : Option Nat) (d0 d1 : Nat) (s : State) : State :=
  (s.logN code panel d0 d1).signal 0 v

/-- The newest entry of the log. -/
def State.newest (s : State) : LogEntry :=
  sget ⟨0, none, 0, 0, 0, 0⟩ s.integ.log ((s.rd Reg.INT_FLOG_HEAD_SEQ + 2 ^ 32 - 1) % 2 ^ 32 % 4096)

/-- Record a refusal of the panel in PNL_LAST and signal its function (R396, R407). -/
def State.refusePanel (p : Nat) (code : Code) (off : Nat) (s : State) : State :=
  (((s.wr (Reg.PNL_LAST_CODE p) code.toNat).wr (Reg.PNL_LAST_OFFSET p) off).signal (p + 1) 0)

/-! ## Host memory (R403) -/

/-- The first failing address of a transfer of `n` bytes at `a` by function `fn`, if any: Bus Master Enable 0, or an address the
environment fails. -/
def State.dmaFail (s : State) (fn a n : Nat) : Option Nat :=
  if !(s.fnc fn).bme then some a
  else (s.dmaBad.filter (fun r => (r.1 = none || r.1 = some fn) && r.2.1 < a + n && a < r.2.2)).foldl
    (fun acc r => match acc with
      | none => some (max a r.2.1)
      | some b => some (min b (max a r.2.1))) none

/-- Bytes of host memory. -/
def State.hostRead (s : State) (a n : Nat) : List Byte := sgetList 0 s.hostMem a n

/-- Write bytes of host memory. -/
def State.hostWrite (a : Nat) (bs : List Byte) (s : State) : State := { s with hostMem := ssetList 0 s.hostMem a bs }

/-! ## Checked memories (R282 to R287) -/

/-- Space tags of R282; they also name the store to the free syndromes. -/
abbrev Space.scratch : Nat := 1
abbrev Space.stack : Nat := 2
abbrev Space.imem : Nat := 3
abbrev Space.codebook : Nat := 4

/-- Bytes in a word of a space (R282). -/
def wordBytes (space : Nat) : Nat := if space = 2 then 64 else if space = 4 then 8 else 32

/-- The syndrome of a read of word `w` (R282): 0 when it checks. A word nothing has written since the cold reset has a random
check field (log entry 5). `id` names the store. -/
def Mem.syndrome (m : Mem) (space id w : Nat) : BitVec 16 :=
  if runsMem m.written w then sget 0 m.syn w else Config.randomSyndrome (space * 65536 + id) w

/-- The bytes of word `w`. -/
def Mem.word (m : Mem) (space w : Nat) : List Byte := sgetList 0 m.bytes (wordBytes space * w) (wordBytes space)

/-- Has any word of [lo, hi) been written? (R284) -/
def Mem.mapBit (m : Mem) (lo hi : Nat) : Bool := m.written.any (fun r => r.1 < hi && lo < r.2)

/-- Write the whole word `w` with a valid check field (R282). -/
def Mem.writeWord (m : Mem) (space w : Nat) (data : List Byte) : Mem :=
  { bytes := ssetList 0 m.bytes (wordBytes space * w) data, written := runsAdd m.written w (w + 1),
    syn := sdel m.syn w, poison := ndel w m.poison }

/-- Write zero words [lo, hi) with valid check fields (R285). -/
def Mem.zero (m : Mem) (space lo hi : Nat) : Mem :=
  { bytes := seraseRange m.bytes (wordBytes space * lo) (wordBytes space * hi), written := runsAdd m.written lo hi,
    syn := seraseRange m.syn lo hi, poison := m.poison.filter (fun w => w < lo || hi ≤ w) }

/-- Merge the bytes of `data` that `mask` selects into `old`. -/
def mergeBytes (mask : Nat) (old data : List Byte) : List Byte :=
  (old.zip data).zipIdx.map (fun p => if mask.testBit p.2 then p.1.2 else p.1.1)

/-- The bit mask of a byte mask. -/
def byteMask {n : Nat} (mask : BitVec n) : Nat := ((List.range n).map (fun i => if mask.getLsbD i then 255 * 2 ^ (8 * i) else 0)).sum

/-- Write back a merge-buffer entry: a full mask writes the word; a partial mask merges it with the old word, poisoning the check
field when the old word fails its check (R123, R286, R287). -/
def Mem.writeBack (m : Mem) (space id w mask : Nat) (data : List Byte) : Mem :=
  let full : Bool := mask == 2 ^ wordBytes space - 1
  if full then m.writeWord space w data
  else
    let bad : Bool := m.syndrome space id w != 0
    let m1 := m.writeWord space w (mergeBytes mask (m.word space w) data)
    if bad then { m1 with syn := sset 0 m1.syn w 0x5A5A, poison := nins w m1.poison } else m1

/-! ## Packets (R193) -/

/-- OP codes of a packet header (R193). -/
abbrev POp.write : Nat := 0
abbrev POp.sadd : Nat := 1
abbrev POp.fadd : Nat := 2
abbrev POp.knot : Nat := 3
abbrev POp.ctrl : Nat := 4

/-- Pad a payload with zero bytes to a multiple of 64 (R155). -/
def pad64 (bs : List Byte) : List Byte := bs ++ List.replicate ((64 - bs.length % 64) % 64) 0

/-- Put a packet at its source endpoint, to be injected (R199). -/
def State.send (ep : Nat) (p : Packet) (s : State) : State :=
  { s with noc := { s.noc with flights := s.noc.flights ++ [{ pkt := p, loc := .inject ep, since := s.clk.edge }] } }

/-! ## Knot packets (R273) -/

/-- Endpoint of a knot home: a tile, or host endpoint 0 (R264). -/
def homeEp (h : Nat) : Nat := if h = hostHome then epHost 0 else epTile h

/-- The 8 payload bytes of a knot operation (R273). -/
def knotBytes (kop prio : Nat) (dbg : Bool) (token value : Nat) : List Byte :=
  bytesOf 8 (kop + prio % 4 * 8 + (if dbg then 32 else 0) + token % 65536 * 65536 + value % 2 ^ 32 * 2 ^ 32)

/-- A knot packet from an endpoint to a FEID (R273): LEN 1, KNOT the knot operated on, KNV ignored. -/
def State.knotPacket (s : State) (ep dst tenant knot kop prio : Nat) (dbg : Bool) (token value : Nat) : Packet :=
  { dst := dst, src := s.feid ep, tenant := tenant, tc := 0, op := POp.knot, len := 1, knot := knot
    payload := pad64 (knotBytes kop prio dbg token value) }

/-- Send a knot operation from an endpoint to the knot's home (R264, R273). -/
def State.sendKnot (ep tenant knot kop prio : Nat) (token value : Nat) (s : State) : State :=
  s.send ep (s.knotPacket ep (s.feid (homeEp (s.knotHome knot))) tenant knot kop prio false token value)

/-! ## Grants and the release rule (R265, R268, R273, R274) -/

/-- Change a knot. -/
def State.updKnot (k : Nat) (f : Knot → Knot) (s : State) : State := s.setKnot k (f (s.knot k))

/-- The tag of a knot's panel (R265). -/
def State.knotTag (s : State) (k : Nat) : Nat := s.tenantOf (s.knotOwner k)

/-- Answer a waiter: a grant or a refusal travels from the knot's home to it (R273, R274), under the tag of the home's endpoint: 0 for the
knot unit of the host die, which acts for no panel (R196, R200). -/
def State.answer (k kop token value feid : Nat) (s : State) : State :=
  let ep := homeEp (s.knotHome k)
  let tag := if s.knotHome k = hostHome then 0 else s.knotTag k
  s.send ep (s.knotPacket ep feid tag k kop 0 false token value)

/-- Grant a waiter: one grant packet (R268). -/
def State.grantWaiter (k : Nat) (w : Waiter) (s : State) : State := s.answer k 6 w.token 0 w.feid

/-- Grant waiters in order. -/
def State.grantAll (k : Nat) (ws : List Waiter) (s : State) : State := ws.foldl (fun s w => s.grantWaiter k w) s

/-- The waiters the release rule grants from a count, in order, the count left and the waiters left (R268). -/
def relRule (count : Nat) : List Waiter → List Waiter × Nat × List Waiter
  | [] => ([], count, [])
  | w :: r =>
    if !w.all && w.n ≤ count then
      let x := relRule (count - w.n) r
      (w :: x.1, x.2.1, x.2.2)
    else ([], count, w :: r)

/-- The release rule (R268): nothing is granted while STUCK is set (R277). -/
def State.release (k : Nat) (s : State) : State :=
  let x := s.knot k
  if x.stuck then s
  else
    let r := relRule x.count x.waiters
    (s.setKnot k { x with count := r.2.1, waiters := r.2.2 }).grantAll k r.1

/-! ## Faulting a panel (R394, R274, R395) -/

/-- Remove every tile waiter of a panel from the knots and the tiles; each adds 1 to ORPHAN, an answer already in flight to such a tile is
discarded, and the release rule runs on each knot that has lost one (R268, R274). -/
def State.dropTileWaits (p : Nat) (s : State) : State :=
  let mine : Waiter → Bool := fun w => w.job.isNone && feidEp w.feid < 1088 && s.panelOfTile (feidEp w.feid) = some p
  let n := (s.knots.map (fun kv => (kv.2.waiters.filter mine).length)).sum
  let hit := (s.knots.filter (fun kv => kv.2.waiters.any mine)).map (fun kv => kv.1)
  let ks := smap {} (fun _ k => { k with waiters := k.waiters.filter (fun w => !mine w) }) s.knots
  let ts := smap {} (fun t x => if s.panelOfTile t = some p then { x with waits := [] } else x) s.tiles
  let answers (f : Flight) : Bool := f.pkt.op = POp.knot && 6 ≤ bits (leAt f.pkt.payload 0 8) 0 3 && feidEp f.pkt.dst < 1088 &&
    feidCoord f.pkt.dst = s.noc.feidCoord && s.panelOfTile (feidEp f.pkt.dst) = some p
  let s1 := { s with knots := ks, tiles := ts, noc := { s.noc with flights := s.noc.flights.filter (fun f => !answers f) } }
  hit.foldl (fun s k => s.release k) (s1.stick Reg.DBG_KNOT_ERR_ORPHAN n)

/-- Tiles of the panel's running step. -/
def State.runTiles (s : State) (p : Nat) : List Nat := match (s.panel p).run with | some r => r.tiles | none => []

/-- A panel whose step is over is not FROZEN any more (R183, R392). -/
def State.thaw (p : Nat) (s : State) : State :=
  (if s.pst p = PS.frozen then s.setPst p PS.running else s).wr (Reg.LAT_PNL_FROZEN p) 0

/-- The panel's tiles issue nothing more: the step is over, or discarded (R392, R394). -/
def State.haltRun (p : Nat) (s : State) : State :=
  match (s.panel p).run with
  | none => s
  | some r => (r.tiles.foldl (fun s t => s.updTile t (fun x => { x with run := false })) (s.thaw p)).updPanel p
      (fun q => { q with run := none, frozen := false })

/-- A message of a panel's engine to the engine of a panel on another device or its own (R332, R346): MSG, q and the part in the prefix. -/
def State.engineMsg (s : State) (p coord msg q part : Nat) (body : List Byte) : Packet :=
  let pl := pad64 (bytesOf 16 (msg + q % 65536 * 256 + part % 256 * 2 ^ 24) ++ body)
  { dst := coord * 16384 + epHost (32 + p), src := s.feid (epHost (32 + p)), tenant := s.tenant p, op := POp.ctrl,
    len := pl.length / 64, payload := pl }

/-- Send a message of a panel's engine (R346). -/
def State.sendEngine (p coord msg q part : Nat) (body : List Byte) (s : State) : State :=
  s.send (epHost (32 + p)) (s.engineMsg p coord msg q part body)

/-- Report to the head of the panel's instance: a step end (kind 0) or a refusal (kind 1) of launch q, with DETECT, and beside it whether a
debug write altered the step and its results are kept (R28, R184, R346, R350, R394, R488; log entry 79). -/
def State.report (p q kind : Nat) (code : Code) (detect : Bool) (s : State) (altered : Bool := false) : State :=
  s.sendEngine p (s.rd (Reg.PNL_WGT_STATE_HEAD_COORD p)) 6 q 0
    (bytesOf 2 q ++ bytesOf 1 kind ++ bytesOf 2 code.toNat ++ bytesOf 1 ((if detect then 1 else 0) + (if altered then 2 else 0)))

/-- A debug write to a panel: ALTERED is set; a step it is halted in is marked, and logged once (R488). -/
def State.alter (p : Nat) (s : State) : State :=
  let s1 := s.wr (Reg.DBG_PNL_STAT_ALTERED p) 1
  match (s.panel p).run with
  | some r =>
    if s.bit (Reg.DBG_PNL_STAT_HALTED p) && !r.altered then
      (s1.updPanel p (fun q => { q with run := some { r with altered := true } })).event 7 St.DBG_ALTERED (some p)
        (s.stepCtr p) 0
    else s1
  | none => s1

/-! ## Completions (R422 to R427) -/

/-- Slots of a queue. -/
def State.qcap (s : State) (q : Nat) : Nat := 2 ^ s.rd (Reg.QCFG_CFG_DEPTH_LOG2 q)

/-- PROD − RELEASE, with the slots reserved for completions (R411, R423). -/
def State.qused (s : State) (q : Nat) : Nat :=
  (s.rd (Reg.QCFG_PROD_PROD q) + 2 ^ 32 - s.rd (Reg.QCFG_CONS_RELEASE q)) % 2 ^ 32 + (s.queue q).reserved

/-- Is a number an enabled HOST_CQ of a function (R424)? -/
def State.isCq (s : State) (fn q : Nat) : Bool :=
  q < 16384 && s.bit (Reg.QCFG_CFG_ENABLE q) && s.rd (Reg.QCFG_CFG_TYPE q) = 2 && s.queueFn q = fn

/-- Where slot index `i` of a queue lies in the queue area, when it is not in a register: bobbin and stack word (R410); none where the
queue has no middle slots. The middle slots are used in the order of the indices (log entry 28). -/
def State.areaWord (s : State) (q i : Nat) : Option (Nat × Nat) :=
  let n := s.qcap q - 16
  if n = 0 then none
  else
    let k := s.rd (Reg.QCFG_AREA_BASE q) + i % n
    (s.bobOfPage (s.qareaFirst + k / 1024)).map (fun b => (b, (s.qareaFirst + k / 1024) % 128 * 1024 + k % 1024))

/-- Slot index `i` moves from its register to the queue area; while the domain of its page is not Active it begins to wake, and the slot
stays in its register until then (R410, R436). -/
def State.toArea (q i : Nat) (s : State) : State :=
  let k := i % s.qcap q
  match s.areaWord q i with
  | some (b, w) =>
    if !s.bobOn b then (s.updQueue q (fun x => { x with moving := x.moving ++ [i] })).demand (domOfBob b)
    else
      let slot := sget 0 (s.queue q).slots k
      (s.updQueue q (fun x => { x with area := nins k x.area })).updBob b (fun x => { x with
        mem := x.mem.writeWord Space.stack w (bytesOf 64 slot.toNat) })
  | none => s

/-- The slots of a queue that wait for the queue area try again to move (R410, R436). -/
def State.moveArea (q : Nat) (s : State) : State :=
  (s.queue q).moving.foldl (fun s i => s.toArea q i) (s.updQueue q (fun x => { x with moving := [] }))

/-- The same of every queue. -/
def State.moveAreas (s : State) : State :=
  ((s.queues.filter (fun v => v.2.moving ≠ [])).map (fun v => v.1)).foldl (fun s q => s.moveArea q) s

/-- Produce one slot at a queue: written before PROD passes it. The slot is among the eight nearest the producer, in a register; the one
eight before it moves to the queue area, unless it is among the eight nearest the consumer: those from RELEASE on (R410, log entry 28). -/
def State.qpush (q : Nat) (slot : BitVec 512) (start irq : Bool) (s : State) : State :=
  let i := s.rd (Reg.QCFG_PROD_PROD q)
  let k := i % s.qcap q
  let s1 := s.updQueue q (fun x => { x with
    slots := sset 0 x.slots k slot
    starts := if start then nins k x.starts else ndel k x.starts
    area := ndel k x.area
    moving := x.moving.filter (fun j => j % s.qcap q ≠ k)
    irqNow := if irq then x.irqNow ++ [i] else x.irqNow })
  let s2 := if 16 ≤ (i + 2 ^ 32 - s.rd (Reg.QCFG_CONS_RELEASE q)) % 2 ^ 32 then s1.toArea q ((i + 2 ^ 32 - 8) % 2 ^ 32) else s1
  s2.wrap (Reg.QCFG_PROD_PROD q) 1

/-- The slot of index `i` as the consumer reads it; none where its word in the queue area fails its check (R289, R418). -/
def State.qslot (s : State) (q i : Nat) : Option (BitVec 512) :=
  let k := i % s.qcap q
  let x := s.queue q
  match s.areaWord q i with
  | some (b, w) =>
    if !x.area.contains k then some (sget 0 x.slots k)
    else if (s.bob b).mem.syndrome Space.stack b w = 0 then some (BitVec.ofNat 512 (natOf ((s.bob b).mem.word Space.stack w)))
    else none
  | none => some (sget 0 x.slots k)

/-- The 256 bits of a completion or stream record, but for PHASE and STITCH (R426). -/
def entryBits (tag : BitVec 32) (status : Code) (source : Nat) (kind : Bool) (d1 d2 : W64) : BitVec 256 :=
  BitVec.ofNat 256 (tag.toNat + status.toNat * 2 ^ 32 + source % 16384 * 2 ^ 48 + (if kind then 2 ^ 62 else 0)
    + d1.toNat * 2 ^ 64 + d2.toNat * 2 ^ 128)

/-- PHASE of the entry of index `i` (R414). -/
def State.phaseOf (s : State) (q i : Nat) : Nat := 1 - i / 2 ^ s.rd (Reg.QCFG_CFG_RING_LOG2 q) % 2

/-- Enter a completion or record into its completion queue, with PHASE and, unless its chapter names another, the stitch of its entry
(R426, R427); while the queue has no room it is held (R415), and at a stopped queue it is dropped and counted (R418). -/
def State.enterCq (q : Nat) (e : BitVec 256) (irq : Bool) (st : Option W64) (s : State) : State :=
  let e1 := match st with
    | some t => e ||| BitVec.ofNat 256 (t.toNat * 2 ^ 192)
    | none => e
  if q < 16384 && s.rd (Reg.QCFG_CFG_TYPE q) = 2 && s.bit (Reg.QCFG_STAT_STOPPED q) then s.stick (Reg.QCFG_STAT_DROPS q) 1
  else if q < 16384 && s.rd (Reg.QCFG_CFG_TYPE q) = 2 && s.qused q < s.qcap q then
    let e2 := if st.isSome then e1 else e1 ||| BitVec.ofNat 256 (s.now.toNat * 2 ^ 192)
    s.qpush q (BitVec.ofNat 512 (e2.toNat + s.phaseOf q (s.rd (Reg.QCFG_PROD_PROD q)) * 2 ^ 63)) true irq
  else { s with heldEntries := s.heldEntries ++ [⟨q, e1, irq⟩] }

/-! ## Output of mirrored panels, and marks (R423, R471, R473, R474) -/

/-- Does output of the panel wait for the standby: the device is fenced, or has sent groups that are not acknowledged? -/
def State.outputWaits (s : State) (p : Nat) : Bool :=
  s.mapped p && (s.tws = TW.fenced || ((s.tws = TW.activeSync || s.tws = TW.active) && !s.twin.groups.isEmpty))

/-- Let an output go. The completion of a command gives its reservation back as it enters its queue (R423). -/
def State.releaseOut (h : HeldOut) (s : State) : State :=
  match h with
  | .cq q e irq st cmd => (if cmd then s.updQueue q (fun x => { x with reserved := x.reserved - 1 }) else s).enterCq q e irq st
  | .bytes a bs => s.hostWrite a bs
  | .commit coord body => s.emit (.message coord 5 body)

/-- Put out an output of a panel: that of the change in hand waits for its group; one made outside a change follows the groups that are not
acknowledged, and a fenced device holds it (R471, R474). -/
def State.output (p : Option Nat) (h : HeldOut) (s : State) : State :=
  if s.twin.capture then { s with twin := { s.twin with captured := s.twin.captured ++ [h] } }
  else if p.any s.outputWaits then { s with twin := { s.twin with held := s.twin.held ++ [((s.twin.mseq + 2 ^ 32 - 1) % 2 ^ 32, h)] } }
  else s.releaseOut h

/-- Write output bytes of a panel to host memory (R375, R471). -/
def State.outWrite (p : Option Nat) (a : Nat) (bs : List Byte) (s : State) : State := s.output p (.bytes a bs)

/-- Is `a` at or before `b`, by 32-bit serial arithmetic? -/
def seqLe (a b : Nat) : Bool := (b + 2 ^ 32 - a) % 2 ^ 32 < 2 ^ 31

/-- The mirrored panel a submission queue belongs to, while the device is of a pair. -/
def State.mirroredSq (s : State) (q : Nat) : Option Nat :=
  match s.queueOwner q with
  | some p => if s.mapped p && 1 ≤ s.tws && s.tws ≤ 5 then some p else none
  | none => none

/-- The mark of a queue: the lowest index whose command is not both completed and acknowledged (R473). -/
def State.queueMark (s : State) (q : Nat) : Nat :=
  ((s.jobs.filter (fun j => j.cmd.sq = q)).filterMap (fun j => j.idx) ++
    ((s.twin.sentTags.map (fun t => t.2) ++ s.twin.newTags).filter (fun t => t.q = q)).map (fun t => t.i)).foldl
    (fun m i => if seqLe i m then i else m) (s.rd (Reg.QCFG_CONS_READ q))

/-- The completed commands below their queue's mark are kept no longer (R473). -/
def State.pruneTags (s : State) : State :=
  { s with twin := { s.twin with doneTags := s.twin.doneTags.filter (fun t => seqLe (s.queueMark t.q) t.i) } }

/-- A command of ring index `i` has completed: it is kept while its queue's mark is not above it, and one of a mirrored panel's own queues
is recorded for the twin's tag table (R473). -/
def State.noteDone (j : Job) (i : Nat) (code : Code) (d1 : Nat) (s : State) : State :=
  let e : TagEntry := ⟨j.cmd.sq, i, j.cmd.tag, code, BitVec.ofNat 64 d1⟩
  let tw := s.twin
  State.pruneTags { s with twin := { tw with
    newTags := if tw.capture && (s.mirroredSq j.cmd.sq).isSome then tw.newTags ++ [e] else tw.newTags
    doneTags := tw.doneTags ++ [e] } }

/-- The panel a command's output belongs to: the mirrored panel whose queue it came by, or the one its header names. -/
def State.jobPanel (s : State) (j : Job) : Option Nat := (j.idx.bind (fun _ => s.mirroredSq j.cmd.sq)).or j.cmd.pnl

/-- Complete a command: its one completion enters its completion queue, where its reservation is returned (R423, R426, R427). -/
def State.completeAt (j : Job) (code : Code) (d1 d2 : Nat) (st : Option W64) (s : State) : State :=
  let s1 := { s with jobs := s.jobs.filter (fun k => k.id ≠ j.id) }
  let s2 := match j.idx with
    | some i => s1.noteDone j i code d1
    | none => s1
  s2.output (s2.jobPanel j)
    (.cq j.cq (entryBits j.cmd.tag code j.cmd.sq false (BitVec.ofNat 64 d1) (BitVec.ofNat 64 d2)) (j.cmd.flags.getLsbD 0) st true)

/-- Complete a command with a status and two details. -/
def State.completeD (j : Job) (code : Code) (d1 d2 : Nat) (s : State) : State := s.completeAt j code d1 d2 none

/-- Complete a command with a status and no detail. -/
def State.complete (j : Job) (code : Code) (s : State) : State := s.completeD j code 0 0

/-- Complete the command of a job number, if it is still in progress. -/
def State.completeJob (id : Nat) (code : Code) (d1 d2 : Nat) (s : State) : State :=
  match s.jobs.find? (fun j => j.id = id) with
  | some j => s.completeD j code d1 d2
  | none => s

/-- A halt or a brake of a panel ends: a stop, a reset or a fault takes its place (R441, R487). A DBG_HALT that still waits for tiles
to stop completes with 0x1002. -/
def State.unhold (p : Nat) (s : State) : State :=
  let s1 := ((s.wr (Reg.DBG_PNL_STAT_HALTED p) 0).wr (Reg.DBG_PNL_STAT_HALT_ARMED p) 0)
  let s2 := { s1 with power := { s1.power with braked := ndel p s1.power.braked } }
  let s3 := (match (s2.panel p).run with
    | some r => r.tiles.foldl (fun (s : State) t => s.updTile t (fun x => { x with halted := false })) s2
    | none => s2).updPanel p (fun x => { x with haltAt := none })
  match (s3.panel p).haltJob with
  | some j => (s3.updPanel p (fun x => { x with haltJob := none })).completeJob j St.DBG_STATE 0 0
  | none => s3

/-- The running step of a panel is discarded: its tiles stop, its waiters are removed, and the head hears a refusal with the code (R274,
R394, R395). -/
def State.discardRun (p : Nat) (code : Code) (s : State) : State :=
  let s1 := s.unhold p
  let s2 := (s1.haltRun p).dropTileWaits p
  match (s1.panel p).run with
  | some r => s2.report p r.q 1 code r.detect
  | none => s2

/-- Fault a panel with a code whose log entry the caller has written: from RUNNING, FROZEN or DRAINING it enters FAULTED, its tiles
and engines stop, the step is discarded and reported to the head, its function is signalled, its tile waiters are removed, and a
PANEL_STOP that waits completes with the code (R274, R394, R395, R407). -/
def State.faultPanel (p : Nat) (code : Code) (s : State) : State :=
  if s.isLive p then
    let s3 := ((s.discardRun p code).setPst p PS.faulted).signal (p + 1) 0
    match (s3.panel p).stopJob with
    | some j => (s3.updPanel p (fun x => { x with stopJob := none })).completeJob j code 0 0
    | none => s3
  else s

/-- Log a code for a panel and fault it. -/
def State.faultLog (p : Nat) (code : Code) (d0 d1 : Nat) (s : State) : State :=
  (s.logN code (some p) d0 d1).faultPanel p code

/-- Log a code and fault the panel, if there is one. -/
def State.faultOpt (p : Option Nat) (code : Code) (d0 d1 : Nat) (s : State) : State :=
  match p with
  | some p => s.faultLog p code d0 d1
  | none => s.logN code none d0 d1

/-! ## Commands (R422 to R425) -/

/-- What the decoder knows of a command: its opcode, whether a VF may issue it, the parameter bits it uses, whether it names an
object of another panel (checks of order 4), whether it names a resource that is absent (order 5), and the checks and the effect of
its own chapter. -/
structure CmdSpec where
  opcode : Nat
  vf : Bool
  used : BitVec 384
  foreign : Cmd → State → Bool := fun _ _ => false
  absent : Cmd → State → Bool := fun _ _ => false
  /-- the power domains the command reaches, which it waits for (R436) -/
  needs : Cmd → State → List Nat := fun _ _ => []
  body : Job → State → State

/-- Check 1 of R424: reserved header and FLAGS bits, LENGTH, bytes from LENGTH on, and reserved parameter bits are 0. -/
def CmdSpec.formOk (k : CmdSpec) (c : Cmd) : Bool :=
  c.rsv = 0 && c.flags.toNat < 4 && c.len.toNat ≤ 48 && c.par.toNat < 2 ^ (8 * c.len.toNat) && (c.par &&& ~~~k.used) = 0

/-- The first check of orders 1 to 5 of R424 that fails. -/
def CmdSpec.check (k : CmdSpec) (c : Cmd) (s : State) : Code :=
  if !k.formOk c then St.CMD_FORMAT
  else if c.cq ≠ 0xFFFF && !s.isCq c.fn c.cq.toNat then St.CQ_INVALID
  else if c.fn ≠ 0 && (!k.vf || c.panel.toNat + 1 ≠ c.fn || k.foreign c s) then St.CMD_DENIED
  else if k.absent c s then St.ENGINE_ABSENT
  else St.OK

/-- The completion queue of a command: the named one when it is an enabled HOST_CQ of the function, else PAIR (R422, R424). -/
def State.cqOf (s : State) (c : Cmd) : Nat :=
  if c.cq ≠ 0xFFFF && s.isCq c.fn c.cq.toNat then c.cq.toNat else s.rd (Reg.QCFG_CFG_PAIR c.sq)

/-- Take a command: a job with a slot of its completion queue reserved (R423). -/
def State.startJob (opcode : Nat) (idx : Option Nat) (c : Cmd) (s : State) : State :=
  let q := s.cqOf c
  let j : Job := { id := s.nextJob, opcode := opcode, cmd := c, cq := q, idx := idx }
  let s1 := { s with jobs := s.jobs ++ [j], nextJob := s.nextJob + 1 }
  s1.updQueue q (fun x => { x with reserved := x.reserved + 1 })

/-- Perform a command taken from ring index `idx`: the checks of R424 in order, then its chapter's checks and effect, once the domains it
reaches are Active (R436). -/
def CmdSpec.runAt (k : CmdSpec) (idx : Option Nat) (c : Cmd) (s : State) : State :=
  let j : Job := { id := s.nextJob, opcode := k.opcode, cmd := c, cq := s.cqOf c, idx := idx }
  let s1 := s.startJob k.opcode idx c
  let code := k.check c s
  if code ≠ St.OK then s1.complete j code else s1.whenOn j.id (k.needs c s) (k.body j)

/-- Perform a command. -/
def CmdSpec.run (k : CmdSpec) (c : Cmd) (s : State) : State := k.runAt none c s

end Sys2Proof.Machine
end

