-- ==== Sys2Proof/Machine/Packets.lean ====
section
/-! DEFINITION. The packets in the network: the one a place serves next, its removal, its change (spec/07 R205, R206). -/

namespace Sys2Proof.Machine

/-- The packet among those `q` accepts that has waited longest, with its number; the first listed of equals. -/
def frontOf (q : Flight → Bool) (fs : List Flight) : Option (Nat × Flight) :=
  fs.zipIdx.foldl (fun acc p =>
    if q p.1 then
      match acc with
      | some (i, f) => if p.1.since < f.since then some (p.2, p.1) else some (i, f)
      | none => some (p.2, p.1)
    else acc) none

/-- The next packet of the network that `q` accepts. -/
def State.front (q : Flight → Bool) (s : State) : Option (Nat × Flight) := frontOf q s.noc.flights

/-- Take packet `i` out of the network. -/
def State.dropFlight (i : Nat) (s : State) : State :=
  { s with noc := { s.noc with flights := s.noc.flights.eraseIdx i } }

/-- Change packet `i`. -/
def State.modFlight (i : Nat) (f : Flight → Flight) (s : State) : State :=
  { s with noc := { s.noc with flights := lmod s.noc.flights i f } }

/-- The next packet in the ejection buffer of an endpoint. -/
def State.ejected (ep : Nat) (q : Packet → Bool) (s : State) : Option (Nat × Flight) :=
  s.front (fun f => f.loc = .eject ep && f.busy ≤ s.clk.edge && q f.pkt)

/-- Send the arrivals of a delivered packet to its target knot, under the packet's tenant and source (R159, R272). -/
def State.sendArrive (ep tenant src knot n : Nat) (s : State) : State :=
  let p := s.knotPacket ep (s.feid (homeEp (s.knotHome knot))) tenant knot 5 0 false 0 n
  s.send ep { p with src := src }

/-- Count the arrivals of a packet whose data is performed, where it names a knot (R212, R272). -/
def State.countArrival (ep : Nat) (p : Packet) (s : State) : State :=
  if p.knv then s.sendArrive ep p.tenant p.src p.knot p.npkt else s

end Sys2Proof.Machine
end

