-- ==== Sys2Proof/Machine/Convert.lean ====
section
/-! DEFINITION. Operand decoding with block scales, sums of products in a Saffron lane, and conversion of exact values to an output
format, as the array, the L slot and the bobbins share them (spec/03 R75 to R98, spec/02 R40, R41, R45). -/

namespace Sys2Proof.Machine

/-- Element `k` of a packed slot of `ew`-bit elements held as a number (R40). -/
def elemAt (slot ew k : Nat) : Nat := slot / 2 ^ (ew * k) % 2 ^ ew

/-- Value of an element with its block scale and sub-scale (R75, R78): format code, element bits, scale byte, sub-scale. -/
def elemValue (code ebits s u : Nat) : Num :=
  let x := elemDecode code ebits
  if elemScaled code then (if s = 0xFF then .nan else (applyScale s x).scale (if code = 9 then -(u : Int) else 0)) else x

/-- Add one array cycle's terms into a lane: the terms are summed first, exactly where all are finite, and the sum is added under R85
(R142). -/
def laneAddTerms (anchor : Int) (l : Int × Bool) (ps : List Num) : Int × Bool :=
  let ts := ps.map (laneTerm anchor)
  let special := (ts.map (fun t => t.1)).filter (fun t => !laneFinite t)
  let v :=
    if special ≠ [] then (laneAdd l.1 (special.foldl (fun a t => (laneAdd a t).1) 0)).1
    else if laneFinite l.1 then laneClamp (l.1 + (ts.map (fun t => t.1)).sum)
    else l.1
  (v, l.2 || ts.any (fun t => t.2) || !laneFinite v)

/-- Split a list in groups of `n` (n > 0), in order; `fuel` bounds the groups. -/
def chunksOf {α : Type} (n : Nat) : Nat → List α → List (List α)
  | 0, _ => []
  | fuel + 1, l => if l.isEmpty then [] else l.take n :: chunksOf n fuel (l.drop n)

/-- The sum of products of two operand rows in ascending k, `per` elements a cycle, into a lane; and whether it overflowed (R84, R85,
R142). -/
def dotInto (anchor : Int) (per : Nat) (a b : List Num) (l : Int) : Int × Bool :=
  (chunksOf per a.length (List.zipWith saffProduct a b)).foldl (laneAddTerms anchor) (l, false)

/-- Products of two rows with a zero operand (zero gating). -/
def gatedIn (a b : List Num) : Nat := ((List.zipWith (fun x y => x.isZero || y.isZero) a b).filter id).length

/-! ## Output formats (R140): 0 FP32, 1 BF16, 2 FP16, 3 E4M3, 4 E5M2, 5 INT8, 6 MXFP8 E4M3, 7 MXFP8 E5M2, 8 MXINT8 -/

/-- Element format code (R135) of an MX output format. -/
def ofmtElem (of : Nat) : Nat := if of = 6 then 3 else if of = 7 then 4 else 5

/-- Bytes of an output element. -/
def ofmtBytes (of : Nat) : Nat := if of = 0 then 4 else if of ≤ 2 then 2 else 1

/-- One unscaled element converted (R92, R93, R95, R98). -/
def convElem (of : Nat) (r : RMode) (q : Int) (x : Num) : Nat :=
  match of with
  | 0 => fpRound fp32 r x
  | 1 => fpRound bf16 r x
  | 2 => fpRound fp16 r x
  | 3 => fpRound e4m3 r x
  | 4 => fpRound e5m2 r x
  | 5 => toInt8 r q x
  | _ => 0

/-- An MX block of 32 values: its scale byte and its element codes; a block of zeros, of either sign, is all +0 (R93, R94). -/
def convBlock (code : Nat) (rm : Nat → RMode) (xs : List Num) : Nat × List Nat :=
  let s := blockScale (emaxOf code) xs
  (s, if xs.all Num.isZero then xs.map (fun _ => 0) else xs.zipIdx.map (fun p => mxElem code (rm p.2) s p.1))

/-- A row of exact values in an output format: the elements, and one scale per 32 for MX. `rm e` is the rounding of element `e`,
numbered from `e0`. -/
def convRow (of : Nat) (rm : Nat → RMode) (e0 : Nat) (q : Int) (xs : List Num) : List Nat × List Nat :=
  if 6 ≤ of then
    let bs := (chunksOf 32 xs.length xs).zipIdx.map (fun b => convBlock (ofmtElem of) (fun i => rm (e0 + 32 * b.2 + i)) b.1)
    (bs.flatMap (fun b => b.2), bs.map (fun b => b.1))
  else (xs.zipIdx.map (fun p => convElem of (rm (e0 + p.2)) q p.1), [])

end Sys2Proof.Machine
end

