-- ==== Sys2Proof/Machine/Flags.lean ====
section
/-! DEFINITION. The conditions of VCMP and SCMP (spec/05 R144, R152), the completion flags of posted work, and interrupt and
overflow flag computations that several operations share. -/

namespace Sys2Proof.Machine

/-- Condition codes of VCMP on INT32 lanes: EQ NE LT LE LTU LEU (R144). -/
def condInt32 (c : Nat) (a b : W32) : Bool :=
  match c with
  | 0 => a = b
  | 1 => a ≠ b
  | 2 => a.slt b
  | 3 => a.sle b
  | 4 => a.ult b
  | 5 => a.ule b
  | _ => false

/-- Condition codes of SCMP on 64-bit registers (R152). -/
def condInt64 (c : Nat) (a b : W64) : Bool :=
  match c with
  | 0 => a = b
  | 1 => a ≠ b
  | 2 => a.slt b
  | 3 => a.sle b
  | 4 => a.ult b
  | 5 => a.ule b
  | _ => false

/-- Condition codes of VCMP on FP lanes: with a NaN every one but NE and UNORD is false (R144). -/
def condFp (c : Nat) (a b : Num) : Bool :=
  let nan := a = .nan || b = .nan
  match c with
  | 0 => !nan && Num.cmp a b = 0
  | 1 => nan || Num.cmp a b ≠ 0
  | 2 => !nan && Num.cmp a b < 0
  | 3 => !nan && Num.cmp a b ≤ 0
  | 6 => nan
  | 7 => !nan
  | _ => false

/-- Does a set of lanes hold +SAT, −SAT or NaN (R86, R149)? -/
def lanesOvf (ls : List Int) : Bool := ls.any (fun l => !laneFinite l)

end Sys2Proof.Machine
end

