-- ==== Sys2Proof/Machine/Detect.lean ====
section
/-! DEFINITION. What a failing check does: its class, its fault-log entry, and the marks it leaves (spec/11 R288 to R295). -/

namespace Sys2Proof.Machine

/-- Classes of a detection (R288). -/
inductive DetectClass where
  | data | unwritten | poison
  deriving DecidableEq, Repr

/-- The code of a class (R288). -/
def DetectClass.code : DetectClass → Code
  | .data => St.CHECK_DATA
  | .unwritten => St.CHECK_UNWRITTEN
  | .poison => St.CHECK_POISON

/-- Class of a failing word: `lo`, `hi` bound the unit of its written-map bit (R284, R288). -/
def Mem.classOf (m : Mem) (w lo hi : Nat) (syn : BitVec 16) : DetectClass :=
  if !m.mapBit lo hi then .unwritten else if syn = 0x5A5A && m.poison.contains w then .poison else .data

/-- Words in a unit of the written map: 32 of a scratchpad block, 1,024 of a stack page (R284). -/
def unitLo (n w : Nat) : Nat := w / n * n

/-- DETAIL0 of a detection (R298). -/
def detectD0 (space : Nat) (rmw patrol : Bool) (gx gy tier page word : Nat) : Nat :=
  space + (if rmw then 8 else 0) + (if patrol then 16 else 0) + gx % 32 * 256 + gy % 32 * 8192 + tier % 4 * 2 ^ 18
    + page % 2 ^ 20 * 2 ^ 20 + word % 2 ^ 17 * 2 ^ 40

/-- The parts of DETAIL0 that two coalesced detections share: SPACE, site, tier and WORD (R298). -/
def detectKey (d0 : W64) : Nat × Nat × Nat :=
  (d0.toNat % 8, d0.toNat / 256 % 4096, d0.toNat / 2 ^ 40 % 2 ^ 17)

/-- Write or coalesce a detection's entry: the newest entry takes another of the same word within the same step or patrol pass
(R298). Every launch is a step of its own, a replay too (DEDUCED, log entry 31). -/
def State.logDetect (code : Code) (panel : Option Nat) (d0 : Nat) (patrol : Bool) (syn : BitVec 16) (s : State) : State :=
  let e := s.newest
  let step := match panel with | some p => s.stepCtr p % 2 ^ 32 | none => 0
  let same := s.rd Reg.INT_FLOG_HEAD_SEQ ≠ 0 &&
    [St.CHECK_DATA, St.CHECK_UNWRITTEN, St.CHECK_POISON, St.SVC_CHECK_FAIL, St.IMEM_CHECK_FAIL].contains e.code &&
    detectKey e.d0 = detectKey (BitVec.ofNat 64 d0) && e.panel = panel && (e.d0.getLsbD 4 == patrol) &&
    (if patrol then reached e.stitch s.integ.patrolAt else
      match panel.bind (fun p => (s.panel p).run) with
      | some r => reached e.stitch r.launch && e.d1.toNat / 2 ^ 32 = step
      | none => false)
  if same then
    let n := min (e.d1.toNat / 65536 % 65536 + 1) 65535
    let d1 := e.d1.toNat % 65536 + n * 65536 + e.d1.toNat / 2 ^ 32 * 2 ^ 32
    let seq := (s.rd Reg.INT_FLOG_HEAD_SEQ + 2 ^ 32 - 1) % 2 ^ 32
    { s with integ := { s.integ with
        log := sset ⟨0, none, 0, 0, 0, 0⟩ s.integ.log (seq % 4096) { e with d1 := BitVec.ofNat 64 d1 } } }
  else s.logN code panel d0 (syn.toNat + 65536 + step * 2 ^ 32)

/-- Count a detection by its class (INT_DETECT_CNT). -/
def State.countDetect (c : DetectClass) (s : State) : State :=
  match c with
  | .data => s.stick Reg.INT_DETECT_CNT_DATA 1
  | .unwritten => s.stick Reg.INT_DETECT_CNT_UNWRITTEN 1
  | .poison => s.stick Reg.INT_DETECT_CNT_POISON 1

/-- Taint the running step of a panel (R289, R290). -/
def State.taint (p : Option Nat) (c : DetectClass) (s : State) : State :=
  match p with
  | none => s
  | some p => s.updPanel p (fun x => { x with
      run := x.run.map (fun r => { r with detect := true, unwritten := r.unwritten || c = .unwritten }) })

/-- Automatic retirement is on (R294). -/
def State.auto (s : State) : Bool := s.bit Reg.INT_RECOVER_CTL_AUTO

/-- A limit of INT_RECOVER_CTL: 2 to 15; a lower value acts as 2 (log entry 6). -/
def atLeast2 (v : Nat) : Nat := if v < 2 then 2 else v

/-- Retire a page (R294). -/
def State.retirePage (page : Nat) (s : State) : State :=
  let s1 := { s with integ := { s.integ with retired := nins page s.integ.retired } }
  (s1.stick Reg.INT_DETECT_CNT_RETIRED 1).logN St.PAGE_RETIRED (s.panelOfPage page) page 0

/-- Retire a bobbin with all of its pages, those not retired before counted (R295). -/
def State.retireBob (b : Nat) (s : State) : State :=
  let fresh := ((List.range 128).filter (fun l => !s.integ.retired.contains (s.pageOf b l))).length
  let s1 := { s with integ := { s.integ with bobRetired := nins b s.integ.bobRetired } }
  (s1.stick Reg.INT_DETECT_CNT_RETIRED fresh).logN St.BOBBIN_RETIRED (s.panelOfBob b) (s.bobIndex b) 0

/-- Is a page retired, by itself or with its bobbin (R295, R296)? -/
def State.isRetired (s : State) (page : Nat) : Bool :=
  s.integ.retired.contains page ||
  (match s.bobOfPage page with | some b => s.integ.bobRetired.contains b | none => false)

/-- Mark a weight page SUSPECT and ask for its refetch, unless one is outstanding (R291, R294). -/
def State.suspectWeight (page : Nat) (s : State) : State :=
  { s with integ := { s.integ with suspect := nins page s.integ.suspect, refetch := nins page s.integ.refetch } }

/-- A DATA failure of a stack page: SUSPECT, or retirement of a page already SUSPECT (R294); and the bank count of R295. -/
def State.pageFailure (b w page : Nat) (s : State) : State :=
  if s.integ.suspect.contains page && s.integ.refetch.contains page then s
  else
    let s1 := if s.integ.suspect.contains page then
        (if s.auto && !s.integ.retired.contains page then s.retirePage page else s)
      else { s with integ := { s.integ with suspect := nins page s.integ.suspect } }
    if s.auto then
      let k := b * 16 + w % 16
      let pages := nins page (sget [] s1.integ.bankFails k)
      let s2 := { s1 with integ := { s1.integ with bankFails := sset [] s1.integ.bankFails k pages } }
      if pages.length ≥ atLeast2 (s.rd Reg.INT_RECOVER_CTL_BANK_LIMIT) && !s2.integ.bobRetired.contains b then s2.retireBob b
      else s2
    else s1

/-- A failing check of stack word `w` of bobbin `b` (R288, R291, R294). -/
def State.detectStack (b w : Nat) (rmw patrol : Bool) (s : State) : State :=
  let m := (s.bob b).mem
  let syn := m.syndrome Space.stack b w
  if syn = 0 then s
  else
    let c := m.classOf w (unitLo 1024 w) (unitLo 1024 w + 1024) syn
    let page := s.pageOf b (w / 1024)
    let p := s.panelOfBob b
    let s1 := (s.countDetect c).logDetect c.code p
      (detectD0 1 rmw patrol (s.gridX (bobTile b)) (tileY (bobTile b)) (bobTier b) page w) patrol syn
    let s2 := if c = .data then s1.pageFailure b w page else s1
    if c = .unwritten then s2
    else if s.isWeightPage page then s2.suspectWeight page
    else match p with
      | some q => s2.updPanel q (fun x => { x with run := x.run.map (fun r => { r with kvBad := nins page r.kvBad }) })
      | none => s2

/-- A failing check of scratchpad word `w` of tile `t` (R288, R289, R295). A read-merge-write is only logged. -/
def State.detectScratch (t w : Nat) (rmw : Bool) (s : State) : State :=
  let m := (s.tile t).scr
  let syn := m.syndrome Space.scratch t w
  if syn = 0 then s
  else
    let c := m.classOf w (unitLo 32 w) (unitLo 32 w + 32) syn
    let p := s.panelOfTile t
    let s1 := (s.countDetect c).logDetect c.code p (detectD0 0 rmw false (s.gridX t) (tileY t) 0 0 w) false syn
    let s2 := if rmw then s1 else (s1.wr (Reg.TILE_STATUS_CHECK_ERR t) 1).taint p c
    if c = .data && s.auto then
      let ws := nins w (sget [] s2.integ.tileFails t)
      let s3 := { s2 with integ := { s2.integ with tileFails := sset [] s2.integ.tileFails t ws } }
      if ws.length ≥ atLeast2 (s.rd Reg.INT_RECOVER_CTL_TILE_LIMIT) && !s3.integ.sparePending.contains t then
        ({ s3 with integ := { s3.integ with sparePending := nins t s3.integ.sparePending } }).logN St.TILE_SPARE_PENDING p
          (s.gridX t + 32 * tileY t) 0
      else s3
    else s2

/-- A parity failure of a bobbin's activation buffer or list store, or a failing codebook entry: DATA (R288, R292). `space` is 5 or 3. -/
def State.detectBobStore (b space w : Nat) (syn : BitVec 16) (s : State) : State :=
  let s1 := if space = 3 then { s with integ := { s.integ with reload := nins b s.integ.reload } } else s
  (s1.countDetect .data).logDetect St.CHECK_DATA (s.panelOfBob b)
    (detectD0 space false false (s.gridX (bobTile b)) (tileY (bobTile b)) (bobTier b) 0 w) false syn

end Sys2Proof.Machine
end

