-- ==== Sys2Proof/Machine/TileCore.lean ====
section
/-! DEFINITION. What every tile operation shares: the bundle at the program counter, operand fields, legality, late items, the issue
of one slot, and reads and writes of the four register files (spec/02 R51 to R63, spec/05 R130 to R165, spec/06 R178 to R186). -/

namespace Sys2Proof.Machine

/-! ## Register files (R51) -/

/-- Keys of registers: T 0–31, V 32–63, S 64–95, P 96–103. -/
def kT (r : Nat) : Nat := r
def kV (r : Nat) : Nat := 32 + r
def kS (r : Nat) : Nat := 64 + r
def kP (r : Nat) : Nat := 96 + r

/-- S0 and P0: read as constants, discard writes (R51, R134). -/
def isConst (k : Nat) : Bool := k = 64 || k = 96

/-- Scalar register; S0 reads 0. -/
def Tile.s (x : Tile) (r : Nat) : W64 := if r = 0 then 0 else sget 0 x.sreg r

/-- Predicate register; P0 reads all ones. -/
def Tile.p (x : Tile) (r : Nat) : W64 := if r = 0 then BitVec.allOnes 64 else sget 0 x.preg r

/-- Lane `i` of a vector register. -/
def Tile.lane (x : Tile) (r i : Nat) : W32 := sget 0 x.vreg (64 * r + i)

/-- The 64 lanes of a vector register. -/
def Tile.v (x : Tile) (r : Nat) : List W32 := sgetList 0 x.vreg (64 * r) 64

/-- The 256 bytes of a vector register. -/
def Tile.vbytes (x : Tile) (r : Nat) : List Byte := (x.v r).flatMap (fun w => bytesOf 4 w.toNat)

/-- `n` bytes of a tile register from byte `off`. -/
def Tile.tbytes (x : Tile) (r off n : Nat) : List Byte := sgetList 0 x.treg (4096 * r + off) n

/-- Merge `new` into `old` under a bit mask. -/
def maskNat (mask old new : Nat) : Nat := (new &&& mask) ||| (old &&& (old ^^^ (old &&& mask)))

/-- Write one cell of a register by its key: 64 bytes of a T register, a lane of a V register, a whole S or P register; S0 and P0
discard the write. -/
def Tile.wrCell (x : Tile) (k : Nat) (w : Nat × Nat × Nat) : Tile :=
  let (cell, v, mask) := w
  if k < 32 then
    let a := 4096 * k + 64 * cell
    { x with treg := ssetList 0 x.treg a (bytesOf 64 (maskNat mask (natOf (sgetList 0 x.treg a 64)) v)) }
  else if k < 64 then
    let a := 64 * (k - 32) + cell
    { x with vreg := sset 0 x.vreg a (BitVec.ofNat 32 (maskNat mask (sget 0 x.vreg a).toNat v)) }
  else if isConst k then x
  else if k < 96 then
    { x with sreg := sset 0 x.sreg (k - 64) (BitVec.ofNat 64 (maskNat mask (sget 0 x.sreg (k - 64)).toNat v)) }
  else { x with preg := sset 0 x.preg (k - 96) (BitVec.ofNat 64 (maskNat mask (sget 0 x.preg (k - 96)).toNat v)) }

/-- Write the cells of a result. -/
def Tile.wrCells (x : Tile) (k : Nat) (ws : List (Nat × Nat × Nat)) : Tile := ws.foldl (fun x w => x.wrCell k w) x

/-- Clear a presence bit on edge `e` (S0 and P0 have none to clear, R134). -/
def Tile.clear (e : Nat) (x : Tile) (k : Nat) : Tile :=
  if isConst k then x
  else if x.absent.any (fun a => a.1 = k) then x
  else { x with absent := (k, e) :: x.absent }

/-- Set a presence bit. -/
def Tile.present (x : Tile) (k : Nat) : Tile := { x with absent := x.absent.filter (fun a => a.1 ≠ k) }

/-- Is the register absent for an operation that issues on edge `e`? A bit cleared on the same edge counts from the next (R132). -/
def Tile.isAbsent (x : Tile) (e k : Nat) : Bool := x.absent.any (fun a => a.1 = k && a.2 < e)

/-- Is a register in use on edge `e` by a capture (R53, R155), or by a downward transfer, whose cycles are step cycles (R111)? -/
def Tile.isCaptured (x : Tile) (e k : Nat) : Bool :=
  x.capture.any (fun a => a.1 = k && e < a.2) || x.bcap.any (fun a => a.1 = k && x.cy < a.2)

/-! ## Bundles (R130, R131) -/

def slotLo (k : Nat) : Nat := [8, 56, 104, 152, 208].getD k 0
def slotW (k : Nat) : Nat := if k = 3 then 56 else 48

/-- The bundle at an index of a tile's instruction memory. -/
def Tile.bundle (x : Tile) (i : Nat) : Nat := natOf (x.imem.word Space.imem i)

def slotOn (b k : Nat) : Bool := b.testBit k
def slotWord (b k : Nat) : Nat := bits b (slotLo k) (slotW k)

/-- What the encoding of one slot says: whether it is legal, and the registers it reads and names as destinations. -/
structure OpInfo where
  legal : Bool := false
  srcs : List Nat := []
  dsts : List Nat := []
  deriving DecidableEq, Repr

/-- The number with the bits of the listed (lo, width) fields set. -/
def fieldMask (fs : List (Nat × Nat)) : Nat := (fs.map (fun f => (2 ^ f.2 - 1) * 2 ^ f.1)).sum

/-- Every bit outside OP and the listed fields is 0. -/
def onlyFields (w : Nat) (fs : List (Nat × Nat)) : Bool := w &&& (2 ^ 56 - 1 - fieldMask ((0, 8) :: fs)) = 0

/-! ### The M slot (R137 to R142) -/

/-- Do the formats pair (R138)? -/
def pairOk (fa fb : Nat) : Bool :=
  (fa ≤ 1 && fb ≤ 1) || (fa = 2 && fb = 2) || ((fa = 3 || fa = 4) && (fb = 3 || fb = 4)) || (fa = 5 && fb = 5) ||
  ((fa = 6 || fa = 7) && (fb = 6 || fb = 7)) || (fa = 8 && fb = 8) || (fa = 9 && fb = 9) || (fa = 11 && fb = 11)

/-- Pass depth and pass length (R39). -/
def passK (f : Nat) : Nat := if f = 8 || f = 9 then 128 else if f = 11 then 32 else 64
def passP (f : Nat) : Nat := if f = 11 then 128 else 64

def mInfo (w : Nat) : OpInfo :=
  let op := bits w 0 8
  let fa := bits w 8 4
  let fb := bits w 12 4
  let msk := w.testBit 39
  let start := w.testBit 33
  let anch := bits w 34 5
  let sbase := bits w 40 5
  let ts := bits w 27 5
  let common := bits w 45 3 = 0 && (start || anch = 0) && (msk || sbase = 0) && (elemScaled fa || ts = 0)
  let sreads := (if start then [kS anch] else []) ++ (if msk then [kS sbase] else []) ++ (if elemScaled fa then [kT ts] else [])
  match op with
  | 0x00 | 0x01 => { legal := onlyFields w [] }
  | 0x10 => { legal := common && pairOk fa fb, srcs := [kT (bits w 16 5), kT (bits w 22 5)] ++ sreads }
  | 0x11 => { legal := common && fa ≤ 5 && fb = 0 && bits w 22 5 = 0, srcs := [kT (bits w 16 5)] ++ sreads }
  | 0x20 =>
    let of := bits w 9 4
    let td := bits w 13 5
    let tsc := bits w 19 5
    let rm := bits w 24 2
    { legal := of ≤ 8 && bits w 36 12 = 0 && rm ≠ 3 && (of ≠ 0 || td % 2 = 0) && (3 ≤ of || !w.testBit 18) &&
        (if 6 ≤ of then tsc ≠ td else tsc = 0) && (rm = 2 || bits w 26 5 = 0) && (of = 5 || bits w 31 5 = 0)
      srcs := (if rm = 2 then [kS (bits w 26 5)] else []) ++ (if of = 5 then [kS (bits w 31 5)] else [])
      dsts := kT td :: (if of = 0 then [kT (td + 1)] else []) ++ (if 6 ≤ of then [kT tsc] else []) }
  | _ => {}

/-! ### The V slots (R143 to R146) -/

/-- Is the register file of VB, or of VA and VD, named as a P register with bits [4:3] clear (R143)? -/
def pField (w lo : Nat) : Bool := bits w (lo + 3) 2 = 0

/-- VEXTS writes a scalar, which R144 gives no lanes to guard: its PG counts as unused, so it must be 0 (DESIGN CHOICE, log entry 85). -/
def vInfo (pipe1 : Bool) (w : Nat) : OpInfo :=
  let op := bits w 0 8
  let vd := bits w 8 5
  let va := bits w 13 5
  let vb := bits w 18 5
  let vc := bits w 23 5
  let pg := bits w 28 3
  let bs := w.testBit 31
  let ty := bits w 32 2
  let imm := bits w 34 14
  let b := if bs then kS vb else kV vb
  let g := kP pg
  -- field groups every operation may use: VD, PG; VA; VB with BS; VC
  let f (fs : List (Nat × Nat)) : Bool := onlyFields w ([(8, 5), (28, 3), (32, 2)] ++ fs)
  let fa : Nat × Nat := (13, 5)
  let fbs : List (Nat × Nat) := [(18, 5), (31, 1)]
  match op with
  | 0x00 => { legal := onlyFields w [] }
  | 0x01 | 0x02 | 0x03 | 0x05 | 0x06 => { legal := f (fa :: fbs), srcs := [kV va, b, g], dsts := [kV vd] }
  | 0x04 => { legal := f (fa :: (23, 5) :: fbs) && ty ≠ 3, srcs := [kV va, b, kV vc, g], dsts := [kV vd] }
  | 0x07 | 0x08 => { legal := f [fa], srcs := [kV va, g], dsts := [kV vd] }
  | 0x09 | 0x0A | 0x10 | 0x11 | 0x12 | 0x13 | 0x14 | 0x15 | 0x16 =>
    { legal := f (fa :: fbs) && ty = 3, srcs := [kV va, b, g], dsts := [kV vd] }
  | 0x18 =>
    { legal := f (fa :: (34, 3) :: fbs) && pField w 8 && (if ty = 3 then imm ≤ 5 else imm ≤ 3 || imm = 6 || imm = 7)
      srcs := [kV va, b, g], dsts := [kP vd] }
  | 0x19 => { legal := f (fa :: (23, 5) :: fbs) && pField w 23, srcs := [kV va, b, kP vc, g], dsts := [kV vd] }
  | 0x1A => { legal := f fbs, srcs := [b, g], dsts := [kV vd] }
  | 0x1B => { legal := f ((34, 6) :: fbs) && bs, srcs := [kS vb, g], dsts := [kV vd] }
  | 0x1C => { legal := onlyFields w [(8, 5), fa, (32, 2), (34, 6)], srcs := [kV va], dsts := [kS vd] }
  | 0x1D => { legal := f [] && ty = 3, srcs := [g], dsts := [kV vd] }
  | 0x1E => { legal := f (fa :: fbs), srcs := [kV va, b, g], dsts := [kV vd] }
  | 0x1F =>
    { legal := f [fa, (18, 5), (34, 4)] && ty = 0 && pField w 8 && pField w 13 && pField w 18
      srcs := [kP va, kP vb, g], dsts := [kP vd] }
  | 0x20 | 0x21 | 0x22 => { legal := f [fa], srcs := [kV va, g], dsts := [kV vd] }
  | 0x24 =>
    let tgt := imm % 4
    let rm := imm / 4 % 4
    let sr := rm = 2
    { legal := f (fa :: (34, 4) :: fbs) && rm ≠ 3 && (if sr then bs && (tgt = 1 || tgt = 2) else !bs && vb = 0) &&
        (rm ≠ 1 || tgt = 3)
      srcs := [kV va, g] ++ (if sr then [kS vb] else []), dsts := [kV vd] }
  | 0x25 =>
    let fmt := imm % 16
    let off := imm / 16 % 16
    let rm := imm / 256 % 4
    let mx := elemScaled fmt
    let useB := fmt = 2 || rm = 2
    { legal := f (fa :: (34, 14) :: (23, 5) :: fbs) && ty = 0 && fmt ≤ 8 && (rm = 0 || rm = 2) && (fmt ≠ 2 || rm = 0) &&
        (if elemBits fmt = 4 then off % 2 = 0 && off ≤ 14 else off % 4 = 0) &&
        (if useB then bs else !bs && vb = 0) && (mx || (vc = 0 && imm / 1024 = 0))
      srcs := [kV va, g] ++ (if useB then [kS vb] else []), dsts := kV vd :: (if mx then [kV vc] else []) }
  | 0x26 =>
    let fmt := imm % 16
    let off := imm / 16 % 16
    let mx := elemScaled fmt
    { legal := f [fa, (23, 5), (34, 14)] && ty = 0 && fmt ≤ 10 && imm / 256 % 4 = 0 &&
        (if elemBits fmt = 4 then off % 2 = 0 && off ≤ 14 else off % 4 = 0) && (mx || (vc = 0 && imm / 1024 = 0))
      srcs := [kV va, g] ++ (if mx then [kV vc] else []), dsts := [kV vd] }
  | 0x30 => { legal := f [fa, (34, 1)] && ty ≤ 1 && pipe1, srcs := [kV va, g], dsts := [kV vd] }
  | 0x31 | 0x32 | 0x33 | 0x34 => { legal := f [fa] && ty ≤ 1 && pipe1, srcs := [kV va, g], dsts := [kV vd] }
  | _ => {}

/-! ### The L slot (R147 to R150) -/

/-- Output formats of MREAD and LSCVT with MX scales, and of 8 bits (R140). -/
def ofmtMx (of : Nat) : Bool := 6 ≤ of && of ≤ 8
def ofmt8 (of : Nat) : Bool := 3 ≤ of && of ≤ 8

def lInfo (w : Nat) : OpInfo :=
  let op := bits w 0 8
  let rd := bits w 8 5
  let sa := bits w 13 5
  let ofs := bits w 18 18
  let sb := bits w 36 5
  let sc := bits w 41 5
  let se := bits w 46 5
  let pd := bits w 51 3
  let msk := w.testBit 54
  let addr : List (Nat × Nat) := [(8, 5), (13, 5), (18, 18)]
  let load (d : Nat) : OpInfo := { legal := onlyFields w addr, srcs := [kS sa], dsts := [d] }
  let store (r : Nat) : OpInfo :=
    { legal := onlyFields w (addr ++ [(46, 5), (54, 1)]) && (msk || se = 0)
      srcs := [r, kS sa] ++ (if msk then [kS se] else []) }
  match op with
  | 0x00 => { legal := onlyFields w [] }
  | 0x01 => load (kS rd)
  | 0x02 => store (kS rd)
  | 0x03 => load (kV rd)
  | 0x04 => store (kV rd)
  | 0x05 | 0x06 | 0x07 => load (kT rd)
  | 0x08 | 0x09 | 0x0A => store (kT rd)
  | 0x0B | 0x0C | 0x0D => { legal := onlyFields w (addr ++ [(36, 5)]), srcs := [kS sa, kS sb], dsts := [kT rd] }
  | 0x0E => { legal := onlyFields w [(8, 5), (18, 4), (36, 5)], srcs := [kT rd], dsts := [kV sb] }
  | 0x0F => { legal := onlyFields w [(8, 5), (18, 4), (36, 5)], srcs := [kV sb], dsts := [kT rd] }
  | 0x10 | 0x11 => { legal := onlyFields w [(13, 5), (18, 18), (51, 3)], srcs := [kS sa], dsts := [kP pd] }
  | 0x12 =>
    { legal := onlyFields w [(13, 5), (18, 18), (36, 5), (41, 5), (46, 5), (51, 3)] && se ≠ 0
      srcs := [kS sa, kS sb, kS sc, kS se]
      dsts := [kP pd] }
  | 0x13 =>
    let of := ofs % 16
    let rm := ofs / 16 % 4
    let q := ofs / 64 % 4
    let vc := ofs / 256 % 32
    { legal := onlyFields w [(8, 5), (13, 5), (18, 13), (36, 5), (41, 5), (46, 5)] && of ≤ 8 && rm ≠ 3 &&
        (ofmt8 of || q = 0) && (ofmtMx of || vc = 0) && (rm = 2 || sc = 0) && (of = 5 || se = 0)
      srcs := [kS sa, kS sb] ++ (if rm = 2 then [kS sc] else []) ++ (if of = 5 then [kS se] else [])
      dsts := kV rd :: (if ofmtMx of then [kV vc] else []) }
  | 0x20 => { legal := onlyFields w [(8, 5), (51, 3)], srcs := [kV rd], dsts := [kP pd] }
  | _ => {}

/-! ### The N slot (R151 to R157) -/

def nInfo (w : Nat) : OpInfo :=
  let op := bits w 0 8
  let rd := bits w 8 5
  let sa := bits w 13 5
  let sb := bits w 18 5
  let imm := bits w 23 25
  let scalar2 : OpInfo := { legal := imm = 0, srcs := [kS sa, kS sb], dsts := [kS rd] }
  let pd := bits w 8 3
  match op with
  | 0x00 | 0x2F => { legal := onlyFields w [] }
  | 0x01 | 0x02 => { legal := bits w 45 3 = 0, dsts := [kS rd] }
  | 0x03 => { legal := sb = 0, srcs := [kS sa], dsts := [kS rd] }
  | 0x04 | 0x05 | 0x06 | 0x07 | 0x08 | 0x09 | 0x0A | 0x0B | 0x0C => scalar2
  | 0x0E => { legal := imm ≤ 5 && bits w 11 2 = 0, srcs := [kS sa, kS sb], dsts := [kP rd] }
  | 0x10 => { legal := onlyFields w [(8, 5), (23, 8)], dsts := [kS rd] }
  | 0x11 => { legal := onlyFields w [(8, 5), (23, 2)], dsts := [kS rd] }
  | 0x12 => { legal := onlyFields w [(8, 5), (23, 3)] && imm ≤ 5, dsts := [kS rd] }
  | 0x20 => { legal := onlyFields w [(17, 13)] }
  | 0x21 => { legal := onlyFields w [(8, 3), (11, 1), (17, 13)], srcs := [kP pd] }
  | 0x22 => { legal := onlyFields w [(12, 5), (17, 13)], srcs := [kS (bits w 12 5)], dsts := [kS (bits w 12 5)] }
  | 0x30 =>
    let sreg := bits w 9 5
    { legal := bits w 46 2 = 0 && bits w 24 2 ≠ 3 && bits w 27 3 ≠ 0 && bits w 14 5 ≠ 0
      srcs := [if w.testBit 8 then kV sreg else kT sreg, kS (bits w 14 5), kS (bits w 19 5)], dsts := [kP (bits w 27 3)] }
  | 0x31 =>
    let mode := bits w 8 2
    let dk := w.testBit 10
    let dreg := bits w 11 5
    { legal := bits w 46 2 = 0 && (!dk || dreg = 0) && (dk || mode = 0 || mode = 3)
      srcs := [kS (bits w 16 5), kS (bits w 21 5)], dsts := if dk then [] else [kT dreg] }
  | 0x32 => { legal := onlyFields w [(8, 4)] }
  | 0x40 => { legal := onlyFields w [(16, 16), (32, 12)] && bits w 32 12 ≠ 0 }
  | 0x41 | 0x42 =>
    { legal := onlyFields w [(8, 3), (16, 16), (32, 12), (44, 2)] && bits w 32 12 ≠ 0 && pd ≠ 0, dsts := [kP pd] }
  | 0x43 => { legal := onlyFields w [(16, 16), (32, 12)] }
  | _ => {}

/-- The encoding of slot `k` (0 M, 1 V0, 2 V1, 3 L, 4 N). -/
def slotInfo (k w : Nat) : OpInfo :=
  match k with
  | 0 => mInfo w
  | 1 => vInfo false w
  | 2 => vInfo true w
  | 3 => lInfo w
  | _ => nInfo w

/-- Is the bundle legal (R164)? -/
def bundleLegal (b : Nat) : Bool :=
  bits b 5 3 = 0 && [0, 1, 2, 3, 4].all (fun k => if slotOn b k then (slotInfo k (slotWord b k)).legal else slotWord b k = 0)

/-! ## Scratchpad addresses and banks (R59, R62, R63, R147) -/

/-- S[SA] + OFS mod 2^21, with the bits below the alignment cleared (R147). -/
def Tile.addr (x : Tile) (w align : Nat) : Nat :=
  let a := (((x.s (bits w 13 5)).toNat : Int) + signed 18 (bits w 18 18)) % 2 ^ 21
  a.toNat / align * align

/-- Bank of a byte address, and its word. -/
def bankOf (a : Nat) : Nat := a / 32 % 32
def spWord (a : Nat) : Nat := a % 2 ^ 21 / 32

/-- The banks of `n` bytes from `a`, once each word. -/
def banksOf (a n : Nat) : List Nat :=
  let lo := a / 32
  (List.range ((a + n + 31) / 32 - lo)).map (fun i => (lo + i) % 32)

/-- Row length and depth of a transposed load by its opcode (R66). -/
def ttRow (op : Nat) : Nat := if op = 0x0B then 32 else if op = 0x0C then 64 else 128
def ttK (op : Nat) : Nat := if op = 0x0B then 128 else if op = 0x0C then 64 else 32

/-- The stride of a transposed load with its bits below the row length cleared (R66). -/
def Tile.ttStride (x : Tile) (w : Nat) : Nat :=
  let r := ttRow (bits w 0 8)
  (x.s (bits w 36 5)).toNat % 2 ^ 21 / r * r

/-- LSADD lane count and port time (R149). -/
def Tile.lsaddN (x : Tile) (w : Nat) : Nat := (x.s (bits w 46 5)).toNat % 4096
def lsaddU (n : Nat) : Nat := 3 * ((18 * n + 1023) / 1024)
def lsaddNOk (n : Nat) : Bool := n % 16 = 0 && 16 ≤ n && n ≤ 2048

/-- A scalar operand of LSADD or LSCVT as an address, 64-byte aligned (R149, R150). -/
def Tile.laneAddr (x : Tile) (r : Nat) : Nat := (x.s r).toNat % 2 ^ 21 / 64 * 64

/-- For each chunk of an LSADD, first byte and number of bytes (R149). -/
def lsaddChunks (n : Nat) : List (Nat × Nat) :=
  (List.range ((18 * n + 1023) / 1024)).map (fun i => (1024 * i, min 1024 (18 * n - 1024 * i)))

/-- The banks an L operation needs on each of its port cycles (R62, R63, R66, R148, R149). -/
def Tile.portUse (x : Tile) (w : Nat) : List (List Nat) :=
  let op := bits w 0 8
  let all := List.range 32
  let a8 := x.addr w 8
  match op with
  | 0x01 | 0x02 => [[bankOf a8]]
  | 0x03 | 0x04 => [banksOf (x.addr w 32) 256]
  | 0x05 | 0x08 => List.replicate 4 all
  | 0x06 | 0x07 | 0x09 | 0x0A => List.replicate 2 all
  | 0x0B | 0x0C | 0x0D =>
    let base := x.addr w 64
    let r := ttRow op
    let per := 1024 / r
    (List.range 4).map (fun i => (List.range per).flatMap (fun j =>
      banksOf ((base + (i * per + j) * x.ttStride w) % 2 ^ 21) r))
  | 0x10 | 0x11 => List.replicate 36 all
  | 0x12 =>
    (lsaddChunks (x.lsaddN w)).flatMap (fun c =>
      [x.laneAddr (bits w 36 5), x.laneAddr (bits w 41 5), x.addr w 64].map (fun a => banksOf (a + c.1) c.2))
  | 0x13 => let a := x.laneAddr (bits w 13 5); [banksOf a 1024, banksOf (a + 1024) 128]
  | _ => []

/-- The `n` bytes from an address as the words of each port cycle, `per` bytes a cycle (R62). -/
def wordGroups (a n per : Nat) : List (List Nat) :=
  (List.range (n / per)).map (fun i => (List.range (per / 32)).map (fun j => (a / 32 + i * (per / 32) + j) % 65536))

/-- The words an L operation writes into the banks, on each of its port cycles (R62, R63, R149): whole-word stores, raw readouts, LSADD. -/
def Tile.lwrites (x : Tile) (w : Nat) : List (List Nat) :=
  let group := wordGroups
  let v := (x.s (bits w 46 5)).toNat % 65536
  if w.testBit 54 && v ≠ 0xFFFF && x.mask.getLsbD (v % 512) then []
  else match bits w 0 8 with
  | 0x04 => group (x.addr w 32) 256 256
  | 0x08 => group (x.addr w 64) 4096 1024
  | 0x09 | 0x0A => group (x.addr w 64) 2048 1024
  | 0x10 | 0x11 => group (x.addr w 64) 36864 1024
  | 0x12 => (lsaddChunks (x.lsaddN w)).flatMap (fun c =>
      [[], [], (List.range ((c.2 + 31) / 32)).map (fun j => ((x.addr w 64 + c.1) / 32 + j) % 65536)])
  | _ => []

/-- The most uses of one bank in a port cycle beyond the first: the serialised cycles it costs (R63). -/
def extraUses (bs : List Nat) : Nat := (bs.map (fun b => bs.count b)).foldl max 1 - 1

/-- Serialised cycles of the operation itself (R63). -/
def selfSerial (use : List (List Nat)) : Nat := (use.map extraUses).sum

/-- Banks of the operation that an earlier access has reserved for the same cycle (R63). -/
def Tile.conflicts (x : Tile) (e : Nat) (use : List (List Nat)) : List Nat :=
  (use.zipIdx.flatMap (fun p => p.1.filter (fun b => x.resv.contains (b, e + 3 + p.2)))).eraseDups

/-- Banks still serialised at held cycle number `n` of the waiting operation (R63). -/
def serialBanks : List (List Nat) → Nat → List Nat
  | [], _ => []
  | bs :: r, n =>
    if n < extraUses bs then (bs.filter (fun b => n + 1 < bs.count b)).eraseDups else serialBanks r (n - extraUses bs)

/-- The merge-buffer group of a word's bank (R59). -/
def groupOf (word : Nat) : Nat := word % 32 / 8

/-- The entries of a group, oldest first. -/
def Tile.groupEntries (x : Tile) (g : Nat) : List MergeEntry := x.merge.filter (fun e => groupOf e.word = g)

/-- The words of a group with an entry, and those a narrow store already issued will bring (R62, R286). -/
def Tile.groupWords (x : Tile) (g : Nat) : List Nat :=
  ((x.groupEntries g).map (fun e => e.word) ++
    (x.lstores.filter (fun a => a.narrow && groupOf a.word = g)).map (fun a => a.word)).eraseDups

/-- A narrow store finds its group full and no entry for its word (R286): the oldest entry of the group. -/
def Tile.mergeFull (x : Tile) (word : Nat) : Option MergeEntry :=
  let ws := x.groupWords (groupOf word)
  if ws.length ≥ 8 && !ws.contains word then (x.groupEntries (groupOf word)).head? else none

/-- Add 1 to the serialised cycles of a bank (TILE_BANK_CONF_n). -/
def State.bankConf (t b : Nat) (s : State) : State :=
  s.stick (if b % 2 = 0 then Reg.TILE_BANK_CONF_BANK_LO t (b / 2) else Reg.TILE_BANK_CONF_BANK_HI t (b / 2)) 1

/-! ## Late items (R53, R54) -/

/-- A fixed-latency result, or the next word of an arriving packet, is held by a capture of its register (R53, R180). -/
def Tile.captureHeld (x : Tile) (e : Nat) : Bool :=
  x.inflight.any (fun r => r.due ≤ e && x.isCaptured e r.dst) ||
    (x.netIn.head?.bind (fun b => b.reg)).any (fun r => x.isCaptured e (kT r))

/-- A bobbin result whose cycle has come is held by a capture of a register it writes (R53, R111, R180). -/
def State.vertHeld (s : State) (t : Nat) : Bool :=
  let x := s.tile t
  (List.range s.tiers).any (fun k => (s.bob (bobAt k t)).results.any (fun r =>
    r.words = [] && r.at_ ≤ x.cy / 2 && (r.dreg.toList ++ r.sreg.toList).any (fun d => x.isCaptured s.clk.edge (kT d))))

/-- A buffered write has waited 16 cycles for one of the banks (R61); one whose word the operation itself writes does not hold it up
but collides with it (R64). -/
def Tile.aged (x : Tile) (e : Nat) (use ws : List (List Nat)) : Bool :=
  (x.netBuf ++ x.vertBuf).any (fun b => b.since + 16 ≤ e && use.any (fun bs => bs.contains (b.word % 32)) &&
    !ws.any (fun l => l.contains b.word))

/-- The sets that a pass in the M slot word and a raw readout in the L slot word of one bundle name, if they are one (R47, R141): neither
may issue on the cycle of the other. -/
def rawMeetsPass (m l : Nat) : Bool :=
  (bits m 0 8 = 0x10 || bits m 0 8 = 0x11) && bits l 0 8 = (if m.testBit 32 then 0x11 else 0x10)

/-- Late cause of one slot (R54): 0 none, and the lowest value of the table otherwise, but for CAPTURE. -/
def Tile.lateSlot (x : Tile) (e k w : Nat) : Nat :=
  let i := slotInfo k w
  let op := bits w 0 8
  if i.srcs.any (fun r => x.isAbsent e r) then 1
  else if k = 3 then
    let use := x.portUse w
    if (x.conflicts e use).length ≠ 0 || x.paid < selfSerial use then 2
    else if op = 0x02 && (x.mergeFull (spWord (x.addr w 8))).isSome then 2
    else if (op = 0x10 && e < x.setDone0) || (op = 0x11 && e < x.setDone1) then 4
    else if x.aged e use (x.lwrites w) then 6
    else 0
  else if k = 0 then
    let pass := op = 0x10 || op = 0x11
    let set1 := if pass then w.testBit 32 else w.testBit 8
    if pass && e < x.arrayFree then 3
    else if pass && e < (if set1 then x.setRead1 else x.setRead0) then 4
    else if op = 0x20 && e < (if set1 then x.setDone1 else x.setDone0) then 4
    else 0
  else 0

/-- The smaller of two late causes, 0 being none. -/
def minCause (a b : Nat) : Nat := if a = 0 then b else if b = 0 then a else min a b

/-- The late cause of a bundle, as far as its tile shows it (R54). -/
def Tile.lateCause (x : Tile) (e b : Nat) : Nat :=
  ([0, 1, 2, 3, 4].filter (slotOn b)).foldl (fun c k => minCause c (x.lateSlot e k (slotWord b k)))
    (if slotOn b 0 && slotOn b 3 && rawMeetsPass (slotWord b 0) (slotWord b 3) then 4 else if x.captureHeld e then 5 else 0)

/-- The late cause of bundle `b` at tile `t` on this edge (R54). -/
def State.lateCause (s : State) (t b : Nat) : Nat :=
  minCause ((s.tile t).lateCause s.clk.edge b) (if s.vertHeld t then 5 else 0)

/-! ## Issue (R132, R181) -/

/-- The pattern a panel's step runs. -/
def State.runPattern (s : State) (p : Nat) : Option Pattern :=
  match (s.panel p).run with
  | some r => some (sget {} (s.panel p).patterns r.handle)
  | none => none

/-- The latency of an item for a tile: the running pattern's declared value, or the device's (R178, R179). -/
def State.lat (s : State) (t item : Nat) : Nat :=
  let d := s.rd (Reg.LAT_ITEM_DEVICE item)
  match (s.panelOfTile t).bind s.runPattern with
  | some p => match p.lat.find? (fun v => v.1 = item) with | some v => v.2 | none => d
  | none => d

/-- The panel's step has reached cycle 0, and the hold tree lets the tile issue on this edge (R29, R181). -/
def State.treeOk (s : State) (p t : Nat) : Bool :=
  match (s.panel p).run with
  | some r => r.startIn = 0 && r.treeT ≤ (s.tile t).sx
  | none => false

/-- A brake of the panel, or an armed halt whose step cycle the tile has reached, stops it: its step cycles stand still (R441, R485). A
bundle of which a slot has issued on this edge issues whole first (R132). -/
def State.stopped (s : State) (p t : Nat) : Bool :=
  (s.tile t).slots = 0 && (s.power.braked.contains p || (s.tile t).halted ||
    (s.bit (Reg.DBG_PNL_STAT_HALT_ARMED p) && s.rd (Reg.DBG_PNL_STAT_HALT_AT p) ≤ (s.tile t).cy))

/-- A slot mask that arrived on an earlier edge has not taken effect yet (R55). -/
def Tile.maskDue (x : Tile) (e : Nat) : Bool := match x.maskIn with | some (a, _) => a < e | none => false

/-- What an edge brings to the tile before its bundle is tested: results that are complete, and a slot mask that arrived on an earlier
edge (R53, R55, R133). -/
def Tile.owes (x : Tile) (e : Nat) : Bool :=
  x.inflight.any (fun r => r.due ≤ e && !x.isCaptured e r.dst) || x.maskDue e

/-- The tile runs a step and may issue on this edge if its bundle lets it (R181, R441, R485). -/
def State.mayIssue (s : State) (t : Nat) : Bool :=
  let x := s.tile t
  match s.panelOfTile t with
  | some p => s.isLive p && x.run && !x.ended && !x.held && !s.stopped p t && !s.clk.inWindow && s.treeOk p t && !x.owes s.clk.edge
  | none => false

/-- The bundle at the program counter checks, is legal and has no late item (R54, R67, R165). -/
def State.bundleOk (s : State) (t : Nat) : Bool :=
  let x := s.tile t
  let b := x.bundle x.pc
  x.imem.syndrome Space.imem t x.pc = 0 && bundleLegal b && s.lateCause t b = 0

/-- Slot `k` of the tile's bundle carries opcode `op`, has not issued, and may issue on this edge. The first slot to issue finds the whole
bundle free of late items; the others follow on the same edge, since no edge passes while a bundle has issued in part (R132). -/
def State.issuable (s : State) (t k op : Nat) : Bool :=
  let x := s.tile t
  let b := x.bundle x.pc
  s.mayIssue t && slotOn b k && bits (slotWord b k) 0 8 = op && !x.slots.getLsbD k && (x.slots ≠ 0 || s.bundleOk t)

/-- A tile records a fault and faults its panel: TILE_FAULT, a log entry, the panel (R165, R394). -/
def State.tileFault (t : Nat) (code : Code) (d0 d1 : Nat) (s : State) : State :=
  ((s.wr (Reg.TILE_FAULT_CODE t) code.toNat).wr (Reg.TILE_FAULT_CY t) (s.tile t).cy).faultOpt (s.panelOfTile t) code d0 d1

/-- Site of a tile in a fault-log detail: GRID_X and GRID_Y. -/
def State.siteBits (s : State) (t : Nat) : Nat := s.gridX t + 32 * tileY t

/-- A register that an open receive window still waits to fill (R133). -/
def Tile.pendingDest (x : Tile) (k : Nat) : Bool :=
  x.wins.any (fun w => w.2.isOpen && !w.2.dk && kT w.2.dreg = k && w.2.seen.length < (w.2.len + 511) / 512)

/-- Close the windows that `q` names on edge `e`; their registers stay as they are, and a packet whose data is not in place by that edge
finds no window (R160). -/
def Tile.closeWins (x : Tile) (e : Nat) (q : Nat → Bool) : Tile :=
  { x with
    wins := x.wins.map (fun v => (v.1, if q v.1 && v.2.isOpen then { v.2 with isOpen := false, shut := some e } else v.2))
    done := x.done.map (fun d => if d.win.any q && d.until_.isNone then { d with until_ := some e } else d) }

/-- Close a receive window (R157, R160). -/
def Tile.closeWin (x : Tile) (e n : Nat) : Tile := x.closeWins e (fun m => m = n)

/-- Does the window take packets of a knot on edge `e` (R158, R160)? -/
def Window.takes (v : Window) (e knot : Nat) : Bool := v.knot = knot && (v.isOpen || v.shut = some e)

/-- The word of slot `k` of the bundle at the tile's program counter. -/
def State.opWord (s : State) (t k : Nat) : Nat := slotWord ((s.tile t).bundle (s.tile t).pc) k

/-- Mark slot `k` issued and clear the presence bits of its destinations (R53, R132). -/
def Tile.mark (x : Tile) (e k : Nat) (dsts : List Nat) : Tile :=
  dsts.foldl (fun x d => x.clear e d) { x with slots := x.slots ||| BitVec.ofNat 5 (2 ^ k) }

/-- Range and length of an NSEND lie inside R155 (R165). -/
def Tile.sendOk (x : Tile) (w : Nat) : Bool :=
  let a := (x.s (bits w 14 5)).toNat
  let red := bits w 24 2
  let len := bits a 36 13
  len ≠ 0 && bits a 24 12 + len ≤ (if w.testBit 8 then 256 else 4096) && (red ≠ 1 || len % 18 = 0) && (red ≠ 2 || len % 4 = 0)

/-- The length of an NRECV lies inside its limits (R157, R165). -/
def Tile.recvOk (x : Tile) (w : Nat) : Bool :=
  let len := bits (x.s (bits w 16 5)).toNat 21 22
  len ≠ 0 && len ≤ (if w.testBit 10 then 2 ^ 21 else 4096)

/-- The run-time operand values of slot `k` are legal (R165). -/
def Tile.operandOk (x : Tile) (k w : Nat) : Bool :=
  if k = 3 && bits w 0 8 = 0x12 then lsaddNOk (x.lsaddN w)
  else if k = 4 && bits w 0 8 = 0x30 then x.sendOk w
  else if k = 4 && bits w 0 8 = 0x31 then x.recvOk w
  else true

/-- The run-time operand values of every enabled slot are legal (R165). -/
def Tile.operandsOk (x : Tile) (b : Nat) : Bool := [3, 4].all (fun k => !slotOn b k || x.operandOk k (slotWord b k))

/-- Issue slot `k` of a tile's bundle as operation `op`: nothing unless it may issue; an illegal run-time operand in the bundle stops
all its slots and faults the panel (R165); an operation that names a register awaiting window data is discarded and faults the panel
(R133), an NRECV closing its own window first (R157); else the slot is marked, the destinations become absent, and the operation's own
effect follows. -/
def State.issue (t k op : Nat) (eff : Nat → State → State) (s : State) : State :=
  if s.issuable t k op then
    let w := s.opWord t k
    let x := s.tile t
    if !x.operandsOk (x.bundle x.pc) then s.tileFault t St.ILLEGAL_BUNDLE x.pc x.cy else
    let ds := (slotInfo k w).dsts
    let y := if k = 4 && op = 0x31 then x.closeWin s.clk.edge (bits w 26 4) else x
    match ds.find? y.pendingDest with
    | some d => s.tileFault t St.DEST_PENDING (s.siteBits t + 1024 * d) x.cy
    | none => eff w (s.setTile t (x.mark s.clk.edge k ds))
  else s

/-- Put a result in flight: it completes `l` cycles after issue (R133, R179). S0 and P0 discard it. -/
def State.result (t k dst l : Nat) (ws : List (Nat × Nat × Nat)) (s : State) : State :=
  if isConst dst then s
  else s.updTile t (fun x => { x with inflight := x.inflight ++ [⟨dst, ws, s.clk.edge + l, s.clk.edge, k⟩] })

/-- Reserve the banks of an L operation and forget reservations that have passed (R62, R63). -/
def State.reserve (t w : Nat) (s : State) : State :=
  let e := s.clk.edge
  s.updTile t (fun x =>
    let use := x.portUse w
    { x with
      resv := x.resv.filter (fun r => e ≤ r.2) ++ use.zipIdx.flatMap (fun p => p.1.eraseDups.map (fun b => (b, e + 3 + p.2)))
      paid := 0 })

end Sys2Proof.Machine
end

