-- ==== Sys2Proof/Machine/TileM.lean ====
section
/-! DEFINITION. The M slot: passes, readouts and the activity ramp (spec/02 R39 to R50, spec/05 R137 to R142). -/

namespace Sys2Proof.Machine

/-! ## Operands -/

/-- The scale byte and sub-scale of element `k` of row `m` in a scale register: areas at `base` and `base + 0x400` (R41). -/
def scaleOf (ts : List Byte) (base kk m k : Nat) : Nat × Nat :=
  let s := (ts.getD (base + kk / 32 * m + k / 32) 0).toNat
  let nib := 16 * m + k / 8
  (s, (ts.getD (base + 0x400 + nib / 2) 0).toNat / (if nib % 2 = 0 then 1 else 16) % 16)

/-- The K values of operand row or column `m` from its 64-byte slot (R40, R41). -/
def operandRow (code : Nat) (slot : Nat) (ts : List Byte) (base m : Nat) : List Num :=
  (List.range (passK code)).map (fun k =>
    let sc := if elemScaled code then scaleOf ts base (passK code) m k else (0, 0)
    elemValue code (elemAt slot (elemBits code) k) sc.1 sc.2)

/-- The 32 rows of the A operand; a masked row is zero (R40, R55). -/
def Tile.rowsA (x : Tile) (fa ta : Nat) (high : Bool) (ts : List Byte) (masked : Nat → Bool) : List (List Num) :=
  let bs := x.tbytes ta (if high then 0x800 else 0) 2048
  (List.range 32).map (fun m =>
    if masked m then List.replicate (passK fa) (.fin false 0 0)
    else operandRow fa (leAt bs (64 * m) 64) ts 0 m)

/-- The 64 columns of a B operand from 4 KiB of bytes (R40). -/
def colsB (fb : Nat) (bs ts : List Byte) : List (List Num) :=
  (List.range 64).map (fun n => operandRow fb (leAt bs (64 * n) 64) ts 0x800 n)

/-- The 64 columns of an axis-swapped B operand: element k of column n is element n of slot k of the latched block (R50). -/
def colsSwapped (fb : Nat) (bs ts : List Byte) : List (List Num) :=
  (List.range 64).map (fun n => (List.range 64).map (fun k =>
    let sc := if elemScaled fb then scaleOf ts 0x800 64 n k else (0, 0)
    elemValue fb (elemAt (leAt bs (64 * k) 64) 8 n) sc.1 sc.2))

/-- Is row `m` of a pass masked (R55, R138)? -/
def Tile.rowMasked (x : Tile) (w m : Nat) : Bool :=
  w.testBit 39 && x.mask.getLsbD (((x.s (bits w 40 5)).toNat % 65536 + m) % 512)

/-- The 2,048 lanes of an accumulator set, and its anchor. -/
def Tile.setLanes (x : Tile) (set : Nat) : List Int := sgetList 0 x.acc (2048 * set) 2048
def Tile.anchor (x : Tile) (set : Nat) : Int := if set = 0 then x.anchor0 else x.anchor1

/-- Add the products of a pass into an accumulator set: the lanes, the overflow flag of the pass, and the gated products. -/
def passSum (anchor : Int) (per : Nat) (rows cols : List (List Num)) (lanes : List Int) : List Int × Bool × Nat :=
  let cells := rows.flatMap (fun r => cols.map (fun c => (r, c)))
  let rs := List.zipWith (fun (rc : List Num × List Num) l => dotInto anchor per rc.1 rc.2 l) cells lanes
  (rs.map (fun r => r.1), rs.any (fun r => r.2), (cells.map (fun rc => gatedIn rc.1 rc.2)).sum)

/-- What a pass does to the array (R42 to R50): START clears the set and takes the anchor, the products are added, the array is
busy `p` cycles, the set is complete `done` cycles after issue, and the ramp and the counters follow. `caps` are the registers
captured in cycles c to c + 3. -/
def State.doPass (t w : Nat) (cols : Tile → List (List Num)) (p done : Nat) (caps : List Nat) (s : State) : State :=
  let x := s.tile t
  let e := s.clk.edge
  let fa := bits w 8 4
  let set := bits w 32 1
  let start := w.testBit 33
  let ts := x.tbytes (bits w 27 5) 0 4096
  let anchor := if start then anchorOf (x.s (bits w 34 5)) else x.anchor set
  let lanes := if start then List.replicate 2048 0 else x.setLanes set
  let rows := x.rowsA fa (bits w 16 5) (w.testBit 21) ts (x.rowMasked w)
  let r := passSum anchor (if passK fa = 128 then 2 else 1) rows (cols x) lanes
  let ovf (old : Bool) : Bool := r.2.1 || (!start && old)
  let cold := x.ramp = .cold || (x.ramp = .up && e < x.rampAt + 32)
  let x1 : Tile := { x with
    acc := ssetList 0 x.acc (2048 * set) r.1
    anchor0 := if set = 0 then anchor else x.anchor0
    anchor1 := if set = 1 then anchor else x.anchor1
    ovf0 := if set = 0 then ovf x.ovf0 else x.ovf0
    ovf1 := if set = 1 then ovf x.ovf1 else x.ovf1
    arrayFree := e + p
    setDone0 := if set = 0 then e + done else x.setDone0
    setDone1 := if set = 1 then e + done else x.setDone1
    ramp := if x.ramp = .down then .warm else x.ramp
    capture := x.capture.filter (fun c => e < c.2) ++ caps.map (fun k => (k, e + 4)) }
  let s1 := s.setTile t x1
  let s2 := if cold then s1.stick (Reg.TILE_ARRAY_STAT_COLD_STARTS t) 1 else s1
  if s.bit (Reg.TILE_CTL_ZG_DIS t) then s2
  else s2.wrapOvf (Reg.TILE_PERF_ZERO_COUNT t) (Reg.TILE_PERF_ZERO_OVF t) r.2.2

/-- The scale register of a scaled pass, as a captured register. -/
def scaleCap (w : Nat) : List Nat := if elemScaled (bits w 8 4) then [kT (bits w 27 5)] else []

/-- Rounding draws of a tile's conversion (R97). -/
def State.srCtx (s : State) (t : Nat) (seed : W64) : SrCtx :=
  let x := s.tile t
  let step := match s.panelOfTile t with | some p => s.stepCtr p | none => 0
  { seed := seed, step := BitVec.ofNat 64 step, gx := x.vx, gy := x.vy, tier := 0, q := x.q }

/-- Slot `k` with word `w` is a conversion by SR that takes a number (R97): MREAD, VCVT but from INT32, VPACK, LSCVT. -/
def srSlot (k w : Nat) : Bool :=
  let op := bits w 0 8
  if k = 0 then op = 0x20 && bits w 24 2 = 2
  else if k = 1 || k = 2 then (op = 0x24 && bits w 32 2 ≠ 3 && bits w 36 2 = 2) || (op = 0x25 && bits w 42 2 = 2)
  else if k = 3 then op = 0x13 && bits w 22 2 = 2
  else false

/-- The conversion number of slot `k` of the bundle that issues: several conversions of one bundle number in the order M, V0, V1, L, in
whatever order the commands of their slots run (DESIGN CHOICE, log entry 74). -/
def State.srNumber (s : State) (t k : Nat) : Nat :=
  let x := s.tile t
  let others := [0, 1, 2, 3].filter (fun j => j ≠ k && slotOn (x.bundle x.pc) j && srSlot j (s.opWord t j))
  x.q - (others.filter x.slots.getLsbD).length + (others.filter (fun j => j < k)).length

/-- Rounding draws of the conversion in slot `k` (R97). -/
def State.slotCtx (s : State) (t k : Nat) (seed : W64) : SrCtx := { s.srCtx t seed with q := s.srNumber t k }

/-- An SR conversion takes one of the tile's conversion numbers (R97). -/
def State.takeQ (t rm : Nat) (s : State) : State := if rm = 2 then s.updTile t (fun x => { x with q := x.q + 1 }) else s

/-- Bytes `vs` placed from byte `off` of a T register, as 64-byte cells with masks. -/
def tCells (off : Nat) (vs : List Byte) : List (Nat × Nat × Nat) :=
  (List.range ((off % 64 + vs.length + 63) / 64)).map (fun i =>
    let lo := off / 64 * 64 + 64 * i
    let a := max lo off
    let b := min (lo + 64) (off + vs.length)
    (lo / 64, leAt vs (a - off) (b - a) * 2 ^ (8 * (a - lo)), (2 ^ (8 * (b - a)) - 1) * 2 ^ (8 * (a - lo))))

/-! ## The operations -/

/-- MNOP: nothing but its issue (R131, R142). -/
def execMnop (t : Nat) (s : State) : Host.Outcome State Fault Refusal := .next (s.issue t 0 0x00 (fun _ s => s))

/-- MWARM: COLD or DOWN becomes UP; no effect in WARM (R48). -/
def execMwarm (t : Nat) (s : State) : Host.Outcome State Fault Refusal :=
  .next (s.issue t 0 0x01 (fun _ s => s.updTile t (fun x =>
    if x.ramp = .cold || x.ramp = .down then { x with ramp := .up, rampAt := s.clk.edge } else x)))

/-- MPASS (R39 to R44, R50, R137). -/
def execMpass (t : Nat) (s : State) : Host.Outcome State Fault Refusal :=
  .next (s.issue t 0 0x10 (fun w s =>
    let x := s.tile t
    let fb := bits w 12 4
    let tb := bits w 22 5
    let p := passP (bits w 8 4)
    let ts := x.tbytes (bits w 27 5) 0 4096
    let s1 := s.doPass t w (fun x => colsB fb (x.tbytes tb 0 4096) ts) p (p + s.lat t 0)
      ([kT (bits w 16 5), kT tb] ++ scaleCap w)
    s1.updTile t (fun y => { y with latch := ssetList 0 [] 0 (x.tbytes tb 0 4096), latchFmt := fb, latchValid := fb ≤ 5 })))

/-- MSWAP: the latched block along its other axis; a zero B operand without a latched block or with an unpaired format (R50, R139). -/
def execMswap (t : Nat) (s : State) : Host.Outcome State Fault Refusal :=
  .next (s.issue t 0 0x11 (fun w s =>
    let x := s.tile t
    let ts := x.tbytes (bits w 27 5) 0 4096
    let ok := x.latchValid && pairOk (bits w 8 4) x.latchFmt
    s.doPass t w (fun x => if ok then colsSwapped x.latchFmt (sgetList 0 x.latch 0 4096) ts
        else List.replicate 64 (List.replicate 64 (.fin false 0 0)))
      66 (s.lat t 1) ([kT (bits w 16 5)] ++ scaleCap w)))

/-- Bytes of the elements of a converted row. -/
def rowBytes (of : Nat) (es : List Nat) : List Byte := es.flatMap (fun e => bytesOf (ofmtBytes of) e)

/-- MREAD: every row of the set converted once and placed under R45; the set is being read for 32 cycles (R45, R47, R140). -/
def execMread (t : Nat) (s : State) : Host.Outcome State Fault Refusal :=
  .next (s.issue t 0 0x20 (fun w s =>
    let x := s.tile t
    let set := bits w 8 1
    let of := bits w 9 4
    let td := bits w 13 5
    let rm := bits w 24 2
    let ctx := s.slotCtx t 0 (x.s (bits w 26 5))
    let q := shiftOf (x.s (bits w 31 5))
    let rows := (chunksOf 64 32 (x.setLanes set)).zipIdx.map (fun r =>
      convRow of (rmodeOf rm ctx) (64 * r.2) q (r.1.map (laneNum (x.anchor set))))
    let size := 64 * ofmtBytes of
    let base := if ofmt8 of && w.testBit 18 then 2048 else 0
    let cells (rs : List (List Nat × List Nat)) : List (Nat × Nat × Nat) :=
      rs.zipIdx.flatMap (fun r => tCells (base + size * r.2) (rowBytes of r.1.1))
    let l := s.lat t 2
    let e := s.clk.edge
    let s1 := s.updTile t (fun y => { y with
      setRead0 := if set = 0 then e + 32 else y.setRead0
      setRead1 := if set = 1 then e + 32 else y.setRead1 })
    let s2 := s1.takeQ t rm
    let s3 := if of = 0 then
        (s2.result t 0 (kT td) l (cells (rows.take 16))).result t 0 (kT (td + 1)) l (cells (rows.drop 16))
      else s2.result t 0 (kT td) l (cells rows)
    if ofmtMx of then
      s3.result t 0 (kT (bits w 19 5)) l (tCells 0 ((rows.flatMap (fun r => r.2)).map (BitVec.ofNat 8)))
    else s3))

/-- The array is WARM 32 cycles after MWARM (R48). -/
def execArrayWarmDone (t : Nat) (s : State) : Host.Outcome State Fault Refusal :=
  .next (s.updTile t (fun x =>
    if x.ramp = .up && x.rampAt + 32 ≤ s.clk.edge then { x with ramp := .warm, rampAt := s.clk.edge } else x))

/-- The array ramps down: WARM becomes DOWN the cycle after the last cycle of the last pass, and DOWN becomes COLD 32 cycles later
(R48). -/
def execArrayRampDown (t : Nat) (s : State) : Host.Outcome State Fault Refusal :=
  .next (s.updTile t (fun x =>
    let e := s.clk.edge
    if x.ramp = .warm && x.rampAt < x.arrayFree && x.arrayFree ≤ e then { x with ramp := .down, rampAt := e }
    else if x.ramp = .down && x.rampAt + 32 ≤ e then { x with ramp := .cold }
    else x))

end Sys2Proof.Machine
end

