-- ==== Sys2Proof/Machine/TileL.lean ====
section
/-! DEFINITION. The L slot but for LBOB: scratchpad loads and stores, moves, Saffron lanes (spec/02 R46, R59 to R66, spec/05 R147 to
R150, spec/11 R286). An operation reads its registers at its issue; its words are read and written on the edges of their bank cycles. -/

namespace Sys2Proof.Machine

/-! ## Scratchpad bytes (R59, R62, R286) -/

/-- The 2^21 byte addresses of a scratchpad. -/
def spSize : Nat := 2 ^ 21

/-- The merge-buffer entry of a word. -/
def Tile.mergeOf (x : Tile) (word : Nat) : Option MergeEntry := x.merge.find? (fun e => e.word = word)

/-- The 32 bytes of a word as a load sees them: a held entry's bytes over the bank's (R62, R286). -/
def Tile.spWordBytes (x : Tile) (word : Nat) : List Byte :=
  let old := x.scr.word Space.scratch word
  match x.mergeOf word with
  | some e => mergeBytes e.mask.toNat old (bytesOf 32 e.data.toNat)
  | none => old

/-- The words that `n` bytes from `a` lie in, addresses taken mod 2^21. -/
def spWords (a n : Nat) : List Nat :=
  (List.range ((a % 32 + n + 31) / 32)).map (fun i => (a / 32 + i) % 65536)

/-- `n` bytes from address `a`. -/
def Tile.spBytes (x : Tile) (a n : Nat) : List Byte := (((spWords a n).flatMap x.spWordBytes).drop (a % 32)).take n

/-- Test the check of every word a read takes from its bank (R282, R289); a word all of whose bytes are held is not read. -/
def State.spCheck (t a n : Nat) (s : State) : State :=
  (spWords a n).foldl (fun s w =>
    let x := s.tile t
    if x.scr.syndrome Space.scratch t w = 0 || x.merge.any (fun e => e.word = w && e.mask = BitVec.allOnes 32) then s
    else s.detectScratch t w false) s

/-- Write a whole word; a held entry for the word is superseded (log entry 9). -/
def Tile.spWriteWord (x : Tile) (w : Nat) (bs : List Byte) : Tile :=
  { x with scr := x.scr.writeWord Space.scratch w bs, merge := x.merge.filter (fun e => e.word ≠ w) }

/-- Write bytes that fill whole words from a 32-byte aligned address. -/
def Tile.spWrite (x : Tile) (a : Nat) (bs : List Byte) : Tile :=
  (chunksOf 32 bs.length bs).zipIdx.foldl (fun x c => x.spWriteWord ((a / 32 + c.2) % 65536) c.1) x

/-- Merge a narrow write into the entry of its word, or a new entry (R286). -/
def Tile.spMerge (x : Tile) (w : Nat) (mask : BitVec 32) (data : BitVec 256) : Tile :=
  match x.mergeOf w with
  | some e =>
    let d := natOf (mergeBytes mask.toNat (bytesOf 32 e.data.toNat) (bytesOf 32 data.toNat))
    let e1 : MergeEntry := ⟨w, e.mask ||| mask, BitVec.ofNat 256 d⟩
    { x with merge := x.merge.map (fun y => if y.word = w then e1 else y) }
  | none => { x with merge := x.merge ++ [⟨w, mask, data⟩] }

/-- Is a masked store suppressed (R55, R147)? -/
def Tile.storeMasked (x : Tile) (w : Nat) : Bool :=
  let v := (x.s (bits w 46 5)).toNat % 65536
  w.testBit 54 && v ≠ 0xFFFF && x.mask.getLsbD (v % 512)

/-! ## Bank cycles of the L port (R62) -/

/-- A store that reaches its bank: a narrow one merges (R286), another writes its bytes of the word. -/
def Tile.lstoreWord (x : Tile) (a : LStore) : Tile :=
  if a.narrow then x.spMerge a.word a.mask a.data
  else x.spWriteWord a.word (mergeBytes a.mask.toNat (x.spWordBytes a.word) (bytesOf 32 a.data.toNat))

/-- The stores due on or before edge `e` reach their banks, in the order they issued (R62). -/
def Tile.lperform (x : Tile) (e : Nat) : Tile :=
  (x.lstores.filter (fun a => a.edge ≤ e)).foldl Tile.lstoreWord { x with lstores := x.lstores.filter (fun a => e < a.edge) }

/-- Every store that has issued reaches its bank. -/
def Tile.lsettle (x : Tile) : Tile := x.lperform ((x.lstores.map (fun a => a.edge)).foldl max 0)

/-- `n` bytes from address `a` among the words a load has read. -/
def LLoad.bytes (l : LLoad) (a n : Nat) : List Byte :=
  (((spWords a n).flatMap (fun w => bytesOf 32 (match l.got.find? (fun g => g.1 = w) with | some g => g.2.toNat | none => 0))).drop (a % 32)).take n

/-- The destination bytes of a transposed load: element i of slot j is element j of source row i (R66). -/
def transpose (ew : Nat) (rows : List Nat) : List Byte :=
  (List.range 64).flatMap (fun j =>
    bytesOf 64 ((rows.zipIdx.map (fun r => elemAt r.1 ew j * 2 ^ (ew * r.2))).sum))

/-- Bytes as the lanes of a V register. -/
def vByteCells (bs : List Byte) : List (Nat × Nat × Nat) :=
  (List.range (bs.length / 4)).map (fun i => (i, leAt bs (4 * i) 4, 0xFFFFFFFF))

/-- Bytes as Saffron lanes (R89). -/
def lanesOfBytes (n : Nat) (bs : List Byte) : List Int := (chunksOf 18 n bs).map (fun b => laneOfBits (natOf b))

/-- The cells 64 Saffron lanes convert to, and those of their block scales (R92 to R97, R150). -/
def cvtCells (ofmt rm quarter : Nat) (anchor shift : Int) (ctx : SrCtx) (lanes : List Int) :
    List (Nat × Nat × Nat) × List (Nat × Nat × Nat) :=
  let r := convRow ofmt (rmodeOf rm ctx) 0 shift (lanes.map (laneNum anchor))
  let sh := 8 * (2 * quarter % 4)
  (if ofmt ≤ 2 then r.1.zipIdx.map (fun p => (p.2, if ofmt = 1 then p.1 * 65536 else p.1, 0xFFFFFFFF))
   else (vByteCells (r.1.map (BitVec.ofNat 8))).map (fun c => (16 * quarter + c.1, c.2.1, c.2.2)),
   [(2 * quarter / 4, (r.2.getD 0 0 + 256 * r.2.getD 1 0) * 2 ^ sh, 65535 * 2 ^ sh)])

/-- The cells a load writes, from the words it has read. -/
def LLoad.cells (l : LLoad) : List (Nat × Nat × Nat) :=
  let rows := l.spans.map (fun p => l.bytes p.1 p.2)
  match l.kind with
  | .scalar => [(0, natOf rows.flatten, 2 ^ 64 - 1)]
  | .lanes => vByteCells rows.flatten
  | .tileAt off => tCells off rows.flatten
  | .transposed ew => tCells 0 (transpose ew (rows.map natOf))
  | .convert ofmt rm quarter scales anchor shift seed step gx gy n =>
    let c := cvtCells ofmt rm quarter anchor shift { seed := seed, step := step, gx := gx, gy := gy, tier := 0, q := n }
      (lanesOfBytes 64 rows.flatten)
    if scales then c.2 else c.1

/-- A load reads its words of edge `e` as the tile holds them. -/
def LLoad.sample (x : Tile) (e : Nat) (l : LLoad) : LLoad :=
  let now := (l.reads.filter (fun r => r.1 ≤ e)).map (fun r => r.2)
  { l with
    reads := l.reads.filter (fun r => e < r.1)
    got := l.got ++ now.map (fun w => (w, BitVec.ofNat 256 (natOf (x.spWordBytes w)))) }

/-- Loads that have read all their words give their results in flight their cells. -/
def Tile.lfill (x : Tile) : Tile :=
  (x.loads.filter (fun l => l.reads = [])).foldl (fun y l => { y with
      inflight := y.inflight.map (fun r => if r.dst = l.dst && r.issued = l.issued && r.slot = 3 then { r with writes := l.cells } else r) })
    { x with loads := x.loads.filter (fun l => l.reads ≠ []) }

/-- The words that loads read on edge `e`. -/
def Tile.readsAt (x : Tile) (e : Nat) : List Nat :=
  (x.loads.flatMap (fun l => (l.reads.filter (fun r => r.1 ≤ e)).map (fun r => r.2))).eraseDups

/-- The bank cycles of the L port on this edge: the checks of the words read are tested (R282, R289), loads sample, stores write (R62). -/
def State.bankCycle (t : Nat) (s : State) : State :=
  let e := s.clk.edge
  let x := s.tile t
  if x.loads = [] && x.lstores = [] then s
  else ((x.readsAt e).foldl (fun s w => s.spCheck t (32 * w) 32) s).updTile t (fun y =>
    (Tile.lfill { y with loads := y.loads.map (fun l => LLoad.sample y e l) }).lperform e)

/-! ## The shape of an L operation -/

/-- Issue an L operation and reserve its banks. -/
def State.lop (t op : Nat) (eff : Nat → State → State) (s : State) : State :=
  s.issue t 3 op (fun w s => eff w (s.reserve t w))

/-- The words of byte spans in port cycles of `per` bytes, each with the edge of its bank cycle for an issue on edge `e` (R62, R66). -/
def readPlan (e per : Nat) (spans : List (Nat × Nat)) : List (Nat × Nat) :=
  let ws := spans.flatMap (fun p => spWords p.1 p.2)
  ws.zipIdx.map (fun w => (e + 3 + w.2 / (per / 32), w.1))

/-- Send a load through the banks: its result is in flight from issue, and takes its bytes as its words are read. -/
def State.loadVia (t dst l per : Nat) (kind : LoadKind) (spans : List (Nat × Nat)) (s : State) : State :=
  (s.result t 3 dst l []).updTile t (fun x => { x with
    loads := x.loads ++ [{ dst := dst, issued := s.clk.edge, kind := kind, spans := spans, reads := readPlan s.clk.edge per spans }] })

/-- A load of `n` bytes aligned to `al` into register `dst` after the item's latency. -/
def State.lload (t op al n item : Nat) (dst : Nat → Nat) (kind : LoadKind) (s : State) : State :=
  s.lop t op (fun w s => s.loadVia t (dst w) (s.lat t item) 1024 kind [((s.tile t).addr w al, n)])

/-- Whole words stored from a 32-byte aligned address by an operation that issues on edge `e`, `per` bytes a port cycle (R62). -/
def storePlan (e a per : Nat) (bs : List Byte) : List LStore :=
  (chunksOf 32 bs.length bs).zipIdx.map (fun c =>
    ⟨e, e + 3 + c.2 / (per / 32), (a / 32 + c.2) % 65536, BitVec.allOnes 32, BitVec.ofNat 256 (natOf c.1), false⟩)

/-- A store of the bytes `src` gives, aligned to `al`; a masked store writes nothing. -/
def State.lstore (t op al : Nat) (src : Tile → Nat → List Byte) (s : State) : State :=
  s.lop t op (fun w s =>
    let x := s.tile t
    if x.storeMasked w then s
    else s.setTile t { x with lstores := x.lstores ++ storePlan s.clk.edge (x.addr w al) 1024 (src x w) })

/-- RD of an L operation. -/
def lrd (w : Nat) : Nat := bits w 8 5

/-! ## The operations -/

/-- LNOP: nothing but its issue. -/
def execLnop (t : Nat) (s : State) : Host.Outcome State Fault Refusal := .next (s.issue t 3 0x00 (fun _ s => s))

/-- LLDS: S[RD] = 8 bytes (R148). -/
def execLlds (t : Nat) (s : State) : Host.Outcome State Fault Refusal :=
  .next (s.lload t 0x01 8 8 8 (fun w => kS (lrd w)) .scalar)

/-- LSTS: store S[RD] through the merge buffer (R148, R286). -/
def execLsts (t : Nat) (s : State) : Host.Outcome State Fault Refusal :=
  .next (s.lop t 0x02 (fun w s =>
    let x := s.tile t
    let a := x.addr w 8
    if x.storeMasked w then s
    else s.setTile t { x with lstores := x.lstores ++ [⟨s.clk.edge, s.clk.edge + 3, spWord a, BitVec.ofNat 32 (255 * 2 ^ (a % 32)),
      BitVec.ofNat 256 ((x.s (lrd w)).toNat * 2 ^ (8 * (a % 32))), true⟩] }))

/-- LLDV: V[RD] = 256 bytes (R148). -/
def execLldv (t : Nat) (s : State) : Host.Outcome State Fault Refusal :=
  .next (s.lload t 0x03 32 256 8 (fun w => kV (lrd w)) .lanes)

/-- LSTV: store V[RD] (R148). -/
def execLstv (t : Nat) (s : State) : Host.Outcome State Fault Refusal :=
  .next (s.lstore t 0x04 32 (fun x w => x.vbytes (lrd w)))

/-- LLDT: T[RD] = 4 KiB (R62, R148). -/
def execLldt (t : Nat) (s : State) : Host.Outcome State Fault Refusal :=
  .next (s.lload t 0x05 64 4096 9 (fun w => kT (lrd w)) (.tileAt 0))

/-- LLDTL: the low half of T[RD] = 2 KiB; the other half keeps its bytes (R148). -/
def execLldtl (t : Nat) (s : State) : Host.Outcome State Fault Refusal :=
  .next (s.lload t 0x06 64 2048 9 (fun w => kT (lrd w)) (.tileAt 0))

/-- LLDTH: the high half of T[RD] = 2 KiB; the other half keeps its bytes (R148). -/
def execLldth (t : Nat) (s : State) : Host.Outcome State Fault Refusal :=
  .next (s.lload t 0x07 64 2048 9 (fun w => kT (lrd w)) (.tileAt 2048))

/-- LSTT: store T[RD] (R148). -/
def execLstt (t : Nat) (s : State) : Host.Outcome State Fault Refusal :=
  .next (s.lstore t 0x08 64 (fun x w => x.tbytes (lrd w) 0 4096))

/-- LSTTL: store the low half of T[RD] (R148). -/
def execLsttl (t : Nat) (s : State) : Host.Outcome State Fault Refusal :=
  .next (s.lstore t 0x09 64 (fun x w => x.tbytes (lrd w) 0 2048))

/-- LSTTH: store the high half of T[RD] (R148). -/
def execLstth (t : Nat) (s : State) : Host.Outcome State Fault Refusal :=
  .next (s.lstore t 0x0A 64 (fun x w => x.tbytes (lrd w) 2048 2048))

/-- The first bytes of the source rows of a transposed load (R66). -/
def Tile.ttStarts (x : Tile) (w : Nat) : List Nat :=
  (List.range (ttK (bits w 0 8))).map (fun i => (x.addr w 64 + i * x.ttStride w) % spSize)

/-- A transposed load of `k` rows of `len` bytes (R66). -/
def State.lloadT (t op ew : Nat) (s : State) : State :=
  s.lop t op (fun w s =>
    s.loadVia t (kT (lrd w)) (s.lat t 10) 1024 (.transposed ew) (((s.tile t).ttStarts w).map (fun a => (a, ttRow op))))

/-- LLDTT4: transposed load of 128 rows of 4-bit elements (R66). -/
def execLldtt4 (t : Nat) (s : State) : Host.Outcome State Fault Refusal :=
  .next (s.lloadT t 0x0B 4)

/-- LLDTT8: transposed load of 64 rows of 8-bit elements (R66). -/
def execLldtt8 (t : Nat) (s : State) : Host.Outcome State Fault Refusal :=
  .next (s.lloadT t 0x0C 8)

/-- LLDTT16: transposed load of 32 rows of 16-bit elements (R66). -/
def execLldtt16 (t : Nat) (s : State) : Host.Outcome State Fault Refusal :=
  .next (s.lloadT t 0x0D 16)

/-- LMVTV: V[SB] = slice OFS[3:0] of T[RD] (R148). -/
def execLmvtv (t : Nat) (s : State) : Host.Outcome State Fault Refusal :=
  .next (s.lop t 0x0E (fun w s =>
    s.result t 3 (kV (bits w 36 5)) (s.lat t 11) (vByteCells ((s.tile t).tbytes (lrd w) (256 * bits w 18 4) 256))))

/-- LMVVT: slice OFS[3:0] of T[RD] = V[SB] (R148). -/
def execLmvvt (t : Nat) (s : State) : Host.Outcome State Fault Refusal :=
  .next (s.lop t 0x0F (fun w s =>
    s.result t 3 (kT (lrd w)) (s.lat t 11) (tCells (256 * bits w 18 4) ((s.tile t).vbytes (bits w 36 5)))))

/-- Bytes of Saffron lanes (R89). -/
def laneBytes (ls : List Int) : List Byte := ls.flatMap (fun l => bytesOf 18 (laneBits l))

/-- `n` Saffron lanes from scratchpad address `a` (R89). -/
def Tile.spLanes (x : Tile) (a n : Nat) : List Int := lanesOfBytes n (x.spBytes a (18 * n))

/-- Raw readout of a set: its 2,048 lanes to scratchpad, its overflow flag to bit 0 of P[PD] (R46, R47, R86). -/
def State.lraw (t op set : Nat) (s : State) : State :=
  s.lop t op (fun w s =>
    let x := s.tile t
    let e := s.clk.edge
    let ovf := if set = 0 then x.ovf0 else x.ovf1
    let x1 := { x with lstores := x.lstores ++ storePlan e (x.addr w 64) 1024 (laneBytes (x.setLanes set)) }
    let x2 := if set = 0 then { x1 with setRead0 := e + 32 } else { x1 with setRead1 := e + 32 }
    (s.setTile t x2).result t 3 (kP (bits w 51 3)) (s.lat t 2) [(0, if ovf then 1 else 0, 1)])

/-- LRAW0: raw readout of set 0 (R46). -/
def execLraw0 (t : Nat) (s : State) : Host.Outcome State Fault Refusal :=
  .next (s.lraw t 0x10 0)

/-- LRAW1: raw readout of set 1 (R46). -/
def execLraw1 (t : Nat) (s : State) : Host.Outcome State Fault Refusal :=
  .next (s.lraw t 0x11 1)

/-- Do the `n` bytes from `a` and the `m` bytes from `b` share a byte of the scratchpad, addresses taken mod 2^21? -/
def overlaps (a n b m : Nat) : Bool := (b + spSize - a % spSize) % spSize < n || (a + spSize - b % spSize) % spSize < m

/-- The stores of the write phases of an LSADD that issues on edge `e`: write phase j writes the lanes that end within chunk j (R149). -/
def laneStores (e d : Nat) (bs : List Byte) : List LStore :=
  (List.range ((bs.length + 1023) / 1024)).flatMap (fun j =>
    let lo := 1024 * j / 18 * 18
    let hi := min (1024 * (j + 1)) bs.length / 18 * 18
    (spWords (d + lo) (hi - lo)).zipIdx.map (fun w =>
      let w0 := lo / 32 * 32 + 32 * w.2
      let a := max w0 lo
      let b := min (w0 + 32) hi
      ⟨e, e + 5 + 3 * j, w.1, BitVec.ofNat 32 ((2 ^ (b - a) - 1) * 2 ^ (a - w0)), BitVec.ofNat 256 (leAt bs a (b - a) * 2 ^ (8 * (a - w0))), false⟩))

/-- What an LSADD reads, as a key of the lanes its rule leaves open: its addresses, its lane count and its operands. -/
def lsaddKey (d a b n : Nat) (la lb : List Int) : Nat :=
  d + 2 ^ 21 * a + 2 ^ 42 * b + 2 ^ 63 * n + 2 ^ 75 * natOf (laneBytes (la ++ lb))

/-- The read phases of an LSADD that issues on edge `e`: chunk j of A, then of B (R149). The words are tested as they are read; the lanes
are those of the issue. -/
def lsaddReads (e a b n : Nat) : LLoad :=
  { dst := kS 0, issued := e, kind := .lanes, spans := [], reads := (lsaddChunks n).zipIdx.flatMap (fun c =>
      (spWords (a + c.1.1) c.1.2).map (fun w => (e + 3 + 3 * c.2, w)) ++ (spWords (b + c.1.1) c.1.2).map (fun w => (e + 4 + 3 * c.2, w))) }

/-- LSADD: lane i of the destination is lane i of A plus lane i of B as they stood at issue, the stores that have issued before it in
place (R62, R85, R149). A destination lane that overlaps an operand the destination does not equal is a free value, one for equal
addresses and operands (log entry 10). An illegal n is 0x040A at the issue of the bundle (R165). -/
def execLsadd (t : Nat) (s : State) : Host.Outcome State Fault Refusal :=
  .next (s.lop t 0x12 (fun w s =>
    let x := s.tile t
    let n := x.lsaddN w
    let d := x.addr w 64
    let a := x.laneAddr (bits w 36 5)
    let b := x.laneAddr (bits w 41 5)
    let undef (i : Nat) : Bool :=
      (d ≠ a && overlaps (d + 18 * i) 18 a (18 * n)) || (d ≠ b && overlaps (d + 18 * i) 18 b (18 * n))
    let la := x.lsettle.spLanes a n
    let lb := x.lsettle.spLanes b n
    let outs := (List.zipWith (fun p q => (laneAdd p q).1) la lb).zipIdx.map (fun p =>
      if undef p.2 then laneOfBits (laneBits (Config.overlapLane (lsaddKey d a b n la lb) p.2)) else p.1)
    (s.setTile t { x with loads := x.loads ++ [lsaddReads s.clk.edge a b n]
                          lstores := x.lstores ++ laneStores s.clk.edge d (laneBytes outs) }).result t 3 (kP (bits w 51 3))
      (lsaddU n + 3) [(0, if lanesOvf outs then 1 else 0, 1)]))

/-- LSCVT: 64 lanes converted once into V[RD] (R92 to R97, R150). -/
def execLscvt (t : Nat) (s : State) : Host.Outcome State Fault Refusal :=
  .next (s.lop t 0x13 (fun w s =>
    let x := s.tile t
    let of := bits w 18 4
    let rm := bits w 22 2
    let ctx := s.slotCtx t 3 (x.s (bits w 41 5))
    let kind (scales : Bool) : LoadKind := .convert of rm (bits w 24 2) scales (anchorOf (x.s (bits w 36 5)))
      (shiftOf (x.s (bits w 46 5))) ctx.seed ctx.step ctx.gx ctx.gy ctx.q
    let spans := [(x.laneAddr (bits w 13 5), 18 * 64)]
    let s1 := (s.takeQ t rm).loadVia t (kV (lrd w)) (s.lat t 12) 1024 (kind false) spans
    if ofmtMx of then s1.loadVia t (kV (bits w 26 5)) (s.lat t 12) 1024 (kind true) spans else s1))

end Sys2Proof.Machine
end

