-- ==== Sys2Proof/Machine/TilePorts.lean ====
section
/-! DEFINITION. The buffered ports of the scratchpad, its merge buffers, and packets that arrive at receive windows (spec/02 R59 to R64,
spec/05 R157 to R160, spec/11 R284, R286, R287). -/

namespace Sys2Proof.Machine

/-! ## Buffered writes (R61, R64) -/

/-- A register window all of whose chunks have arrived makes its register present (R158). -/
def Tile.fillWindow (x : Tile) (win : Option Nat) : Tile :=
  match win with
  | none => x
  | some n =>
    let w := sget {} x.wins n
    if !w.dk && w.seen.length = (w.len + 511) / 512 then x.present (kT w.dreg) else x

/-- One word of packet or transfer `id` has been performed; after the last one its arrivals are counted, its completion flags become
present, and its knot is signalled (R106, R159). -/
def State.finishWord (t id : Nat) (s : State) : State :=
  let x := s.tile t
  match x.done.find? (fun d => d.id = id) with
  | none => s
  | some d =>
    if d.left > 1 then
      s.setTile t { x with done := x.done.map (fun y => if y.id = id then { y with left := y.left - 1 } else y) }
    else
      let x1 := { x with done := x.done.filter (fun y => y.id ≠ id) }
      let x2 := match d.pred with
        | some p => (x1.wrCell (kP p.1) (0, p.2, 3)).present (kP p.1)
        | none => x1.fillWindow d.win
      let s1 := s.setTile t x2
      let s2 := match d.knot with
        | some (k, n, tenant, src) => s1.sendArrive (epTile t) tenant src k n
        | none => s1
      match d.sig with
      | some k => s2.sendKnot (epTile t) (s2.tenantOf (s2.panelOfTile t)) k 0 0 0 1
      | none => s2

/-- The buffer of a buffered port. -/
def Tile.portBuf (x : Tile) (vert : Bool) : List BufWrite := if vert then x.vertBuf else x.netBuf

/-- Take the first write of a bank out of a port's buffer. -/
def Tile.popBank (x : Tile) (vert : Bool) (bank : Nat) : Tile :=
  if vert then { x with vertBuf := x.vertBuf.eraseP (fun b => b.word % 32 = bank) }
  else { x with netBuf := x.netBuf.eraseP (fun b => b.word % 32 = bank) }

/-- Write some bytes of a word into its bank. -/
def Tile.spPut (x : Tile) (w : Nat) (mask : BitVec 32) (bs : List Byte) : Tile :=
  x.spWriteWord w (mergeBytes mask.toNat (x.spWordBytes w) bs)

/-- The words `bs` covers from scratchpad address `a`, as buffered writes of transfer `id`. -/
def bufWrites (a id e : Nat) (bs : List Byte) : List BufWrite :=
  (List.range ((a % 32 + bs.length + 31) / 32)).map (fun i =>
    let lo := 32 * i
    let at0 := max lo (a % 32)
    let hi := min (lo + 32) (a % 32 + bs.length)
    { word := (a / 32 + i) % 65536, mask := BitVec.ofNat 32 ((2 ^ (hi - at0) - 1) * 2 ^ (at0 - lo))
      data := BitVec.ofNat 256 (leAt bs (at0 - a % 32) (hi - at0) * 2 ^ (8 * (at0 - lo))), since := e, id := id })

/-- Sum of two FP32 values as byte groups of four, rounded to nearest even. -/
def addFp32 (old new : List Byte) : List Byte :=
  (List.range (new.length / 4)).flatMap (fun i =>
    bytesOf 4 (toF32 ((f32 (BitVec.ofNat 32 (leAt old (4 * i) 4))).addIeee (f32 (BitVec.ofNat 32 (leAt new (4 * i) 4))))).toNat)

/-- Add a Saffron lane into the lane at scratchpad address `a`, as it stands (R85, R158). -/
def Tile.addLane (x : Tile) (a : Nat) (v : BitVec 144) : Tile :=
  (bufWrites a 0 0 (laneBytes ((x.spLanes a 1).map (fun l => (laneAdd l (laneOfBits v.toNat)).1)))).foldl
    (fun y b => y.spPut b.word b.mask (bytesOf 32 b.data.toNat)) x

/-- Perform a buffered write on its bank: a read-add-write adds to what the word holds on this edge, a lane as one with the word it ends
in; a whole word is written directly, and another narrow one through the merge buffer (R158, R284, R286, log entry 85). -/
def Tile.performWrite (x : Tile) (b : BufWrite) : Tile :=
  if b.rmw then
    if b.fp then x.spPut b.word b.mask (addFp32 (x.spWordBytes b.word) (bytesOf 32 b.data.toNat))
    else b.lanes.foldl (fun y l => y.addLane l.1 l.2) x
  else if b.mask = BitVec.allOnes 32 then x.spWriteWord b.word (bytesOf 32 b.data.toNat)
  else x.spMerge b.word b.mask b.data

/-- The words of packet `id` are dropped from the network port. -/
def Tile.dropWords (x : Tile) (id : Nat) : Tile :=
  { x with netBuf := x.netBuf.filter (fun b => b.id ≠ id), netIn := x.netIn.filter (fun b => b.id ≠ id)
           done := x.done.filter (fun d => d.id ≠ id) }

/-- Is packet `id` one whose window closed before this edge, its data not yet in place (R160)? -/
def Tile.orphanWord (x : Tile) (e id : Nat) : Bool :=
  x.done.any (fun d => d.id = id && (match d.until_ with | some c => c < e | none => false))

/-- A packet whose window closed before its data was in place: the rest of it is discarded with 0x0407 (R158, R160). -/
def State.orphanPacket (t id : Nat) (s : State) : State :=
  let x := s.tile t
  let k := match x.done.find? (fun d => d.id = id) with | some d => (d.knot.map (fun k => k.1)).getD 0 | none => 0
  (s.setTile t (x.dropWords id)).tileFault t St.NO_WINDOW (s.siteBits t + 1024 * k) x.cy

/-- The bank is used on this edge. -/
def Tile.useBank (x : Tile) (e bank n : Nat) : Tile :=
  { x with resv := x.resv ++ (List.range n).map (fun i => (bank, e + i)) }

/-- BUFFERED_WRITE_PERFORM: the first waiting write of the bank is performed when no port of a higher place in the order L, vertical,
network needs the bank; a write that was aged when an L-port store issued, and meets that store's write of its word, is discarded with
0x0401; a narrow write whose group is full waits; a word of a packet whose window has closed is not performed (R60, R61, R64, R160,
R286). -/
def execBufferedWritePerform (t : Nat) (vert : Bool) (bank : Nat) (s : State) : Host.Outcome State Fault Refusal :=
  let x := s.tile t
  let e := s.clk.edge
  .next (match (x.portBuf vert).find? (fun b => b.word % 32 = bank) with
    | none => s
    | some b =>
      if x.orphanWord e b.id then s.orphanPacket t b.id
      else if x.lstores.any (fun a => !a.narrow && a.word = b.word && a.edge = e && b.since + 16 ≤ a.issued) then
        ((s.setTile t (x.popBank vert bank)).updTile t (fun y => { y with done := y.done.filter (fun d => d.id ≠ b.id) })).tileFault t
          St.SP_WRITE_COLLISION (32 * b.word) x.cy
      else if x.resv.contains (bank, e) || (!vert && x.vertBuf.any (fun v => v.word % 32 = bank)) then s
      else match if b.mask ≠ BitVec.allOnes 32 && !b.rmw then x.mergeFull b.word else none with
        | some _ => s
        | none =>
          ((if b.rmw then s.spCheck t (32 * b.word) 32 else s).updTile t (fun y =>
            ((y.popBank vert bank).performWrite b).useBank e bank 1)).finishWord t b.id)

/-! ## Merge buffers (R286, R287) -/

/-- A narrow write of a buffered port waits for room in a group. -/
def Tile.narrowWaits (x : Tile) (g : Nat) : Bool :=
  (x.netBuf ++ x.vertBuf).any (fun b => groupOf b.word = g && b.mask ≠ BitVec.allOnes 32 && !b.rmw && (x.mergeFull b.word).isSome)

/-- The banks of the entries to be evicted for which the narrow writes of the buffered ports, each the first of its bank, wait on this edge:
each such cycle counts there (R286). -/
def Tile.mergeWaits (x : Tile) : List Nat :=
  [x.vertBuf, x.netBuf].flatMap (fun l => (List.range 32).filterMap (fun k => (l.find? (fun b => b.word % 32 = k)).bind (fun b =>
    if b.mask ≠ BitVec.allOnes 32 && !b.rmw then (x.mergeFull b.word).map (fun m => m.word % 32) else none)))

/-- A narrow store of the waiting bundle waits for room in a group (R286). -/
def Tile.storeWaits (x : Tile) (g : Nat) : Bool :=
  let b := x.bundle x.pc
  let w := slotWord b 3
  slotOn b 3 && bits w 0 8 = 0x02 && groupOf (spWord (x.addr w 8)) = g && (x.mergeFull (spWord (x.addr w 8))).isSome

/-- A buffered port has a write for the bank that it would perform: a narrow one that waits for room does not count. -/
def Tile.portWaits (x : Tile) (bank : Nat) : Bool :=
  [x.vertBuf, x.netBuf].any (fun l => (l.find? (fun b => b.word % 32 = bank)).any (fun b =>
    b.mask = BitVec.allOnes 32 || b.rmw || (x.mergeFull b.word).isNone))

/-- Write back the merge entry of a word: a partial one reads and tests the old word first (R286, R287). -/
def State.spFlush (t word : Nat) (s : State) : State :=
  let x := s.tile t
  match x.mergeOf word with
  | none => s
  | some m =>
    let s1 := if m.mask = BitVec.allOnes 32 then s else s.detectScratch t word true
    s1.updTile t (fun y => { y with
      scr := y.scr.writeBack Space.scratch t word m.mask.toNat (bytesOf 32 m.data.toNat)
      merge := y.merge.filter (fun e => e.word ≠ word) })

/-- Write back every merge entry of a tile (R184, R286). -/
def State.spFlushAll (t : Nat) (s : State) : State := ((s.tile t).merge.map (fun m => m.word)).foldl (fun s w => s.spFlush t w) s

/-- SP_MERGE_WRITEBACK: the entry of a word is written back when its mask is full, or when it is the oldest of a full group and a
narrow write waits for room; its bank must serve no port on the cycles it takes (R286, R287, R289). -/
def execSpMergeWriteback (t word : Nat) (s : State) : Host.Outcome State Fault Refusal :=
  let x := s.tile t
  let e := s.clk.edge
  let g := groupOf word
  .next (match x.mergeOf word with
    | none => s
    | some m =>
      let full : Bool := m.mask == BitVec.allOnes 32
      let oldest : Bool := ((x.groupEntries g).head?.map (fun h => h.word)) == some word && (x.narrowWaits g || x.storeWaits g)
      let n := if full then 1 else 2
      if (full || oldest) && (List.range n).all (fun i => !x.resv.contains (word % 32, e + i)) && !x.portWaits (word % 32) then
        (s.spFlush t word).updTile t (fun y => y.useBank e (word % 32) n)
      else s)

/-! ## Packets at receive windows (R157 to R160) -/

/-- A fault of an arriving packet: the packet is discarded, the code logged, the panel faulted (R158). -/
def State.refusePacket (t i : Nat) (code : Code) (d : Nat) (s : State) : State :=
  (s.dropFlight i).tileFault t code d (s.tile t).cy

/-- The packet is done with: it leaves its ejection slot and its arrivals go to the knot (R159). -/
def State.acceptPacket (t i : Nat) (p : Packet) (s : State) : State :=
  (s.dropFlight i).sendArrive (epTile t) p.tenant p.src p.knot p.npkt

/-- One word of the packet in hand enters: a word for a bank goes into the write buffer while it has room; a word for a register is
written, unless the register is captured (R53, R60, R61). -/
def State.enterWord (t : Nat) (s : State) : State :=
  let x := s.tile t
  let e := s.clk.edge
  match x.netIn with
  | [] => s
  | b :: r =>
    match b.reg with
    | none => if x.netBuf.length < 16 then s.setTile t { x with netIn := r, netBuf := x.netBuf ++ [{ b with since := e }] } else s
    | some k =>
      if x.isCaptured e (kT k) then s
      else (s.setTile t (Tile.wrCells { x with netIn := r } (kT k)
        [(b.word / 2, b.data.toNat * 2 ^ (256 * (b.word % 2)), byteMask b.mask * 2 ^ (256 * (b.word % 2)))])).finishWord t b.id

/-- Let words of the packet in hand into the network port, at most four on one edge; the packet leaves its ejection slot with its last
word. A packet whose window has closed enters no further (R60, R61, R160). -/
def State.enterWords (t i : Nat) (s : State) : State :=
  let x := s.tile t
  let e := s.clk.edge
  match x.netIn with
  | [] => s.dropFlight i
  | b :: _ =>
    if x.orphanWord e b.id then (s.dropFlight i).orphanPacket t b.id
    else if x.netAt = some e then s
    else
      let s1 := (List.range 4).foldl (fun s _ => s.enterWord t) (s.setTile t { x with netAt := some e })
      if (s1.tile t).netIn.isEmpty then s1.dropFlight i else s1

/-- Words of step tables enter the network port's buffer, at most four on one edge, while it has room and no packet is in hand (R60, R61,
R348). -/
def State.enterTable (t : Nat) (s : State) : State :=
  let x := s.tile t
  let e := s.clk.edge
  if x.netAt = some e || !x.netIn.isEmpty || x.tabIn.isEmpty then s
  else
    let n := min 4 (16 - x.netBuf.length)
    s.setTile t { x with netAt := some e, tabIn := x.tabIn.drop n
                         netBuf := x.netBuf ++ (x.tabIn.take n).map (fun b => { b with since := e }) }

/-- Take in hand a packet for window `wi`, as words `ws` of transfer `id`; one without words is done with at once. Where the window closed on
this edge, only the words performed on it still count (R160). -/
def State.stageWords (t i wi : Nat) (ws : Nat → List BufWrite) (p : Packet) (s : State) : State :=
  let x := s.tile t
  let id := x.nextId
  if ws id = [] then s.acceptPacket t i p
  else
    let last := if (sget {} x.wins wi).isOpen then none else (sget {} x.wins wi).shut
    let x1 := { x with netIn := ws id, nextId := id + 1
                       done := x.done ++ [{ id := id, left := (ws id).length, knot := some (p.knot, p.npkt, p.tenant, p.src), win := some wi, until_ := last }] }
    ((s.setTile t x1).modFlight i (fun f => { f with taken := 1 })).enterWords t i

/-- Are all buffered writes to the words of a span performed? -/
def Tile.spanQuiet (x : Tile) (a n : Nat) : Bool :=
  !(x.netBuf ++ x.vertBuf).any (fun b => (spWords a n).contains b.word)

/-- The words the FP32 values `bs` are added into, from scratchpad address `a` (R158). -/
def fpWrites (a id e : Nat) (bs : List Byte) : List BufWrite := (bufWrites a id e bs).map (fun b => { b with rmw := true, fp := true })

/-- The words the Saffron lanes `ls` are added into, from scratchpad address `a`: each lane goes with the word it ends in (R158). -/
def laneWrites (a id e : Nat) (ls : List Int) : List BufWrite :=
  (bufWrites a id e (List.replicate (18 * ls.length) 0)).zipIdx.map (fun b => { b.1 with
    rmw := true
    lanes := (ls.zipIdx.filter (fun l => (a % 32 + 18 * l.2 + 17) / 32 = b.2)).map (fun l =>
      ((a + 18 * l.2) % spSize, BitVec.ofNat 144 (laneBits l.1))) })

/-- The words of a chunk of a register window, from byte `off` of T[`r`]. -/
def regWrites (r off id e : Nat) (bs : List Byte) : List BufWrite :=
  (bufWrites off id e bs).map (fun b => { b with reg := some r })

/-- Prefix fields of a Saffron payload (R90): anchor, lanes, overflow. -/
def saffAnchor (bs : List Byte) : Int := signed 10 (bits (leAt bs 0 8) 0 10)
def saffLanes (bs : List Byte) : Nat := bits (leAt bs 0 8) 10 5
def saffOvf (bs : List Byte) : Bool := (leAt bs 0 8).testBit 15

/-- The lanes of a Saffron payload. -/
def saffBody (bs : List Byte) : List Int := (List.range (saffLanes bs)).map (fun i => laneOfBits (leAt bs (8 + 18 * i) 18))

/-- Count a packet at its window. -/
def Window.count (w : Window) (j : Nat) : Window := { w with chunks := min (w.chunks + 1) 4095, seen := nins j w.seen }

/-- A packet at its open window `wi` (R158). Its data is performed word by word; the words of sums follow the earlier writes of their span.
A SACC packet that falls outside its window and carries another anchor reports 0x0408 and not 0x0405: the rules do not order the two
(DESIGN CHOICE, log entry 85). -/
def State.place (t i wi : Nat) (w : Window) (p : Packet) (s : State) : State :=
  let x := s.tile t
  let e := s.clk.edge
  let j := (p.rtag + 2 ^ 32 - w.tag) % 2 ^ 24
  let off := 512 * j
  let want := if w.mode = 1 then POp.sadd else if w.mode = 2 then POp.fadd else POp.write
  let counted := s.setTile t { x with wins := sset {} x.wins wi (w.count j) }
  if p.op ≠ want then s.refusePacket t i St.WINDOW_MODE (s.siteBits t + 1024 * p.knot)
  else if w.mode = 3 && w.chunks > 0 then
    (s.setTile t { x with wins := sset {} x.wins wi { w with
      chunks := min (w.chunks + 1) 4095, dropped := min (w.dropped + 1) (2 ^ 32 - 1) } }).acceptPacket t i p
  else if w.mode = 1 then
    let n := saffLanes p.payload
    let a := w.base + 504 * j
    if 504 * j + 18 * n > w.len then s.refusePacket t i St.WINDOW_RANGE (s.siteBits t + 1024 * p.knot)
    else if saffAnchor p.payload ≠ w.anchor then
      s.refusePacket t i St.SAFFRON_ANCHOR_MISMATCH ((saffAnchor p.payload % 1024).toNat + 1024 * (w.anchor % 1024).toNat)
    else if !x.spanQuiet a (18 * n) then s
    else counted.stageWords t i wi (fun id => laneWrites a id e (saffBody p.payload)) p
  else if off ≥ w.len || off + p.payload.length ≥ w.len + 64 then
    s.refusePacket t i St.WINDOW_RANGE (s.siteBits t + 1024 * p.knot)
  else
    let bs := p.payload.take (w.len - off)
    if !w.dk then
      if w.seen.contains j then s.refusePacket t i St.WINDOW_RANGE (s.siteBits t + 1024 * p.knot)
      else counted.stageWords t i wi (fun id => regWrites w.dreg off id e bs) p
    else if w.mode = 2 then
      let m := bs.take (bs.length / 4 * 4)
      if !x.spanQuiet (w.base + off) m.length then s
      else counted.stageWords t i wi (fun id => fpWrites (w.base + off) id e m) p
    else counted.stageWords t i wi (fun id => bufWrites (w.base + off) id e bs) p

/-- Data of windows: a WRITE, SADD or FADD packet. -/
def Packet.isData (p : Packet) : Bool := p.op ≤ 2

/-- WINDOW_PACKET_ARRIVAL: the packet at the head of the tile's ejection buffer goes to the window of its target knot, or further words
of it, or of a step table the engine writes, enter the network port; nothing does in a clock-change window (R35, R61, R85, R88, R158 to
R160, R348). -/
def execWindowPacketArrival (t : Nat) (s : State) : Host.Outcome State Fault Refusal :=
  .next (if s.clk.inWindow then s else match s.ejected (epTile t) Packet.isData with
    | none => if s.tileOn t then s.enterTable t else s
    | some (i, f) =>
      if !s.tileOn t then s.demand (domOfTile t)
      else if f.taken = 1 then s.enterWords t i
      else match (s.tile t).wins.find? (fun v => v.2.takes s.clk.edge f.pkt.knot && f.pkt.knv) with
        | none => s.refusePacket t i St.NO_WINDOW (s.siteBits t + 1024 * f.pkt.knot)
        | some v => s.place t i v.1 v.2 f.pkt)

end Sys2Proof.Machine
end

