-- ==== Sys2Proof/Machine/BobCore.lean ====
section
/-! DEFINITION. What the bobbin descriptors share: their fields and checks, the stack words behind the merge buffer, starting a
descriptor at its bobbin cycle, service descriptors, and inbound packets (spec/04 R99 to R111, R121 to R126). -/

namespace Sys2Proof.Machine

/-! ## Fields of a descriptor, held as a 512-bit number (R109, R111, R113, R115, R119, R121) -/

def dOp (n : Nat) : Nat := bits n 0 8
def dTier (n : Nat) : Nat := bits n 8 2
def dStart (n : Nat) : Bool := n.testBit 10
def dSig (n : Nat) : Bool := n.testBit 11
def dRm (n : Nat) : Nat := bits n 12 2
def dKnot (n : Nat) : Nat := bits n 16 16
def dSlot (n : Nat) : Nat := bits n 32 16
def dKind (n : Nat) : Nat := bits n 64 2
def dReg (n : Nat) : Nat := bits n 66 5
def dSreg (n : Nat) : Nat := bits n 71 5
def dAddr (n : Nat) : Nat := bits n 76 21
def dPage (n : Nat) : Nat := bits n 128 20
def dOff (n : Nat) : Nat := bits n 148 16
def dLen (n : Nat) : Nat := bits n 164 22
def dPage2 (n : Nat) : Nat := bits n 192 20
def dOff2 (n : Nat) : Nat := bits n 212 16
def dCount (n : Nat) : Nat := bits n 228 11
def dSpage (n : Nat) : Nat := bits n 148 20
def dFmt (n : Nat) : Nat := bits n 168 4
def dCbFmt (n : Nat) : Nat := bits n 172 1
def dCbId (n : Nat) : Nat := bits n 176 16
def dRowlen (n : Nat) : Nat := bits n 192 17
def dK0 (n : Nat) : Nat := bits n 209 17
def dRow0 (n : Nat) : Nat := bits n 226 11
def dNcol (n : Nat) : Nat := bits n 237 7
def gK (n : Nat) : Nat := bits n 192 17
def gN (n : Nat) : Nat := bits n 209 12
def gNv (n : Nat) : Nat := bits n 221 3 + 1
def gAfmt (n : Nat) : Nat := bits n 224 2
def gAnchor (n : Nat) : Int := signed 10 (bits n 256 10)
def gOut (n : Nat) : Nat := bits n 266 2
def gOfmt (n : Nat) : Nat := bits n 268 4
def gShift (n : Nat) : Int := signed 9 (bits n 272 9)
def gSeed (n : Nat) : Nat := bits n 320 64
def aBase (n : Nat) : Nat := bits n 128 9
def aPages (n : Nat) : Nat := bits n 137 8
def aTokens (n : Nat) : Nat := bits n 145 24
def aWin (n : Nat) : Nat := bits n 192 24
def aHdCode (n : Nat) : Nat := bits n 216 2
def aHd (n : Nat) : Nat := 64 * 2 ^ aHdCode n
def aKv (n : Nat) : Nat := bits n 218 2
def aQf (n : Nat) : Nat := bits n 220 2
def aNq (n : Nat) : Nat := bits n 222 3 + 1
def aAnchor (n : Nat) : Int := signed 10 (bits n 225 10)
def aScale (n : Nat) : Nat := bits n 256 32
def sDest (n : Nat) : Nat := bits n 192 24
def sAddr (n : Nat) : Nat := bits n 256 64

/-! ## Stored weight formats (R112, R113) -/

/-- Bits of a stored element; a Nutmeg index counts 2 bits for each of its eight weights (R80). -/
def fmtEw (f : Nat) : Nat :=
  if f ≤ 5 then 8 else if f ≤ 7 then 6 else if f ≤ 10 then 4 else if f ≤ 12 then 16 else 2

/-- Is there a scale plane? -/
def fmtScaled (f : Nat) : Bool := (3 ≤ f && f ≤ 9) || f = 14

/-- Pass depth of the operand a format decodes to (R39). -/
def fmtDepth (f : Nat) : Nat := if f = 8 || f = 9 then 128 else if f = 11 || f = 12 then 32 else 64

/-- Weights taken in each bobbin cycle (R117). -/
def fmtLw (f : Nat) : Nat := if 8 ≤ f && f ≤ 10 then 256 else if f = 11 || f = 12 then 64 else 128

/-- First byte and end of elements [e0, e1) in their plane. -/
def elemSpan (f e0 e1 : Nat) : Nat × Nat :=
  if 13 ≤ f then (e0 / 8 * 2, cdiv e1 8 * 2) else (fmtEw f * e0 / 8, cdiv (fmtEw f * e1) 8)

/-- First byte and end of the scales of elements [e0, e1): one byte for 32 elements, a word for Clove-4, one byte for 256 for
Nutmeg (R77, R79, R80). -/
def scaleSpan (f e0 e1 : Nat) : Nat × Nat :=
  if f = 9 then (e0 / 32 * 4, cdiv e1 32 * 4) else if f = 14 then (e0 / 256, cdiv e1 256) else (e0 / 32, cdiv e1 32)

/-! ## Which bytes a descriptor touches -/

/-- First element, and end, of the weights a DECODE or GEMV reads. -/
def weightElems (n : Nat) : Nat × Nat :=
  if dOp n = 0x10 then
    (dRow0 n * dRowlen n + dK0 n, (dRow0 n + dNcol n - 1) * dRowlen n + dK0 n + fmtDepth (dFmt n))
  else (0, gN n * gK n)

/-- The page IDs of `len` bytes from a page and offset (R111). -/
def pageSpan (page off len : Nat) : List Nat := (List.range (cdiv (off + len) 65536)).map (fun i => page + i)

/-- The pages of a byte range [lo, hi) that begins at a page. -/
def planePages (page lo hi : Nat) : List Nat := (List.range (cdiv hi 65536 - lo / 65536)).map (fun i => page + lo / 65536 + i)

/-- The pages a descriptor reads by name. -/
def readPages (n : Nat) : List Nat :=
  match dOp n with
  | 0x01 | 0x40 | 0x42 => pageSpan (dPage n) (dOff n) (dLen n)
  | 0x11 => pageSpan (dPage n) 0 (8 * 65536)
  | 0x10 | 0x20 =>
    let e := weightElems n
    let w := elemSpan (dFmt n) e.1 e.2
    let sc := scaleSpan (dFmt n) e.1 e.2
    planePages (dPage n) w.1 w.2 ++ (if fmtScaled (dFmt n) then planePages (dSpage n) sc.1 sc.2 else [])
  | _ => []

/-- The pages a descriptor writes. -/
def writePages (n : Nat) : List Nat :=
  match dOp n with
  | 0x02 | 0x03 | 0x41 => pageSpan (dPage n) (dOff n) (dLen n)
  | 0x40 => pageSpan (dPage2 n) (dOff2 n) (dLen n)
  | _ => []

/-! ## Output sizes and times (R105, R110, R117, R120, R121) -/

/-- Bytes of a GEMV output element: 18 RAW, and the width of OUT_FMT for CONVERT. -/
def gWidth (n : Nat) : Nat :=
  if gOut n = 2 then 18 else if gOut n = 1 then (if gOfmt n = 0 then 4 else if gOfmt n = 1 then 2 else 1) else 0

/-- Bytes that go to the tile. -/
def outBytes (n : Nat) : Nat :=
  match dOp n with
  | 0x01 => dLen n
  | 0x10 => 4096
  | 0x20 => gNv n * gN n * gWidth n
  | 0x30 => aNq n * (64 + 4 * aHd n)
  | _ => 0

/-- Bytes that come from the tile. -/
def inBytes (n : Nat) : Nat :=
  match dOp n with
  | 0x02 | 0x03 | 0x04 => dLen n
  | 0x05 => 4 * dCount n
  | _ => 0

/-- Length of the data phase. -/
def phaseOfDesc (n : Nat) : Nat := if dOp n = 0x10 then 32 else cdiv (max (outBytes n) (inBytes n)) 128

/-- Port-busy duration D. -/
def durOf (n : Nat) : Nat :=
  match dOp n with
  | 0x03 => cdiv (dLen n) 128 + 2
  | 0x10 => 32
  | 0x11 => 4096
  | 0x20 => gN n * cdiv (gK n) (fmtLw (dFmt n)) + phaseOfDesc n
  | 0x30 => 512 * aPages n + phaseOfDesc n
  | 0x40 => 512 * max (pageSpan (dPage n) (dOff n) (dLen n)).length (pageSpan (dPage2 n) (dOff2 n) (dLen n)).length
  | 0x41 => 512 * (pageSpan (dPage n) (dOff n) (dLen n)).length
  | 0x43 => 32
  | _ => phaseOfDesc n

/-- Cycles before the data phase begins: the phase is the last part of GEMV and ATTN, and the first of every other. -/
def phaseLead (n : Nat) : Nat := if dOp n = 0x20 || dOp n = 0x30 then durOf n - phaseOfDesc n else 0

/-- Tail T: the latency items 16 to 19, 2 for CB_LOAD, 0 for FLUSH (R110, R178, R179). -/
def State.tailOf (s : State) (t n : Nat) : Nat :=
  match dOp n with
  | 0x10 => s.lat t 17
  | 0x11 => 2
  | 0x20 => s.lat t 18
  | 0x30 => s.lat t 19
  | 0x43 => 0
  | _ => s.lat t 16

/-! ## Checks (R108 to R111, R113, R115, R119, R121) -/

/-- No reserved bit is set: bits outside the fields common to all opcodes and those listed are 0. -/
def onlyD (n : Nat) (fs : List (Nat × Nat)) : Bool :=
  n &&& (2 ^ 512 - 1 - fieldMask ([(0, 14), (16, 32), (64, 33)] ++ fs)) = 0

/-- Fields of D2 and D3 of the movement opcodes. -/
def moveFields : List (Nat × Nat) := [(128, 58), (192, 47)]

/-- Opcodes of the step queue and of the service queue (R110). -/
def onStepQ (op : Nat) : Bool := [0x01, 0x02, 0x03, 0x04, 0x05, 0x10, 0x11, 0x20, 0x30, 0x40, 0x41, 0x43].contains op
def onSvcQ (op : Nat) : Bool := [0x11, 0x40, 0x41, 0x42, 0x43].contains op

/-- The tile-side operand is legal: a register holds at most 4,096 bytes, a scratchpad address is 64-byte aligned. -/
def sideOk (n : Nat) : Bool := (dKind n = 1 && max (outBytes n) (inBytes n) ≤ 4096) || (dKind n = 2 && dAddr n % 64 = 0)

/-- OFFSET and LEN of a movement in whole words. -/
def moveOk (n : Nat) : Bool := 1 ≤ dLen n && dLen n ≤ 2097152 && dLen n % 64 = 0 && dOff n % 64 = 0

/-- Do the source and destination of a COPY overlap? -/
def copyOverlap (n : Nat) : Bool :=
  let a := dPage n * 65536 + dOff n
  let b := dPage2 n * 65536 + dOff2 n
  a < b + dLen n && b < a + dLen n

/-- Order 1 of R108: opcode, queue, reserved fields and ranges. A COPY whose ranges overlap counts as a field outside its range, since R121
forbids it and names no code (DESIGN CHOICE, log entry 85). -/
def descForm (step : Bool) (n : Nat) : Bool :=
  let op := dOp n
  (if step then onStepQ op else onSvcQ op) && dRm n ≠ 3 && dKind n ≠ 3 && (dKind n ≠ 2 || dAddr n % 64 = 0) &&
  match op with
  | 0x01 | 0x02 => onlyD n moveFields && sideOk n && moveOk n
  | 0x03 => onlyD n moveFields && sideOk n && 1 ≤ dLen n && dLen n ≤ 4096
  | 0x04 => onlyD n moveFields && sideOk n && moveOk n && dOff2 n + dLen n ≤ 65536
  | 0x05 => onlyD n moveFields && sideOk n && 1 ≤ dCount n && dCount n ≤ 1024 && dLen n % 64 = 0 && dOff n % 64 = 0
  | 0x10 =>
    onlyD n [(128, 45), (176, 16), (192, 52)] && dKind n = 1 && dFmt n ≤ 14 && dRowlen n % 32 = 0 &&
      dK0 n % fmtDepth (dFmt n) = 0 && dK0 n + fmtDepth (dFmt n) ≤ dRowlen n && 1 ≤ dNcol n && dNcol n ≤ 64
  | 0x11 => onlyD n [(128, 20), (176, 16)]
  | 0x20 =>
    onlyD n [(128, 45), (176, 16), (192, 34), (256, 25), (320, 64)] && dFmt n ≤ 14 && 1 ≤ gK n && gK n ≤ 65536 &&
      (!fmtScaled (dFmt n) || gK n % 32 = 0) && 1 ≤ gN n && gN n ≤ 2048 && gOut n ≠ 3 && gOfmt n ≤ 4 &&
      gNv n * gK n * (if gAfmt n = 2 then 2 else 1) ≤ 65536 && gNv n * gN n ≤ 2048 &&
      (gOut n = 0 || (sideOk n && (gOut n ≠ 2 || dKind n = 2)))
  | 0x30 =>
    onlyD n [(128, 41), (192, 43), (256, 32)] && aHdCode n ≤ 2 && aKv n ≤ 2 && aQf n ≤ 2 && 1 ≤ aPages n && aPages n ≤ 128 &&
      sideOk n
  | 0x40 => onlyD n moveFields && moveOk n && dOff2 n % 64 = 0 && !copyOverlap n
  | 0x41 => onlyD n moveFields && moveOk n
  | 0x42 => onlyD n [(128, 58), (192, 24), (256, 64)] && moveOk n
  | _ => onlyD n []

/-- Tokens of a KV page (R118). -/
def aTpp (n : Nat) : Nat := 32768 / (aHd n * (if aKv n = 2 then 2 else 1))

/-- List entries an ATTN walks. -/
def aEntries (n : Nat) : Nat := cdiv (aTokens n) (aTpp n)

/-- Order 5 of R108: attention pages, and list ranges. -/
def listOk (n : Nat) : Bool :=
  match dOp n with
  | 0x30 => aEntries n ≤ aPages n && aBase n + aEntries n ≤ 512
  | 0x05 => dOff2 n + dCount n ≤ 512
  | _ => true

/-- The checks of R108 that are made when a descriptor enters a queue; `p` is the poster's panel, none for the device's own work. -/
def State.checkDesc (s : State) (b : Nat) (step : Bool) (p : Option Nat) (n : Nat) : Code :=
  let pages := readPages n ++ writePages n
  if !descForm step n then St.BOB_BAD_DESC
  else if dTier n ≥ s.tiers then St.BOB_TIER_ABSENT
  else if (step || p.isSome) && (pages.any (fun g => s.panelOfPage g ≠ p) || (dSig n && s.knotOwner (dKnot n) ≠ p)) then
    St.BOB_FOREIGN
  else if pages.any (fun g => s.bobOfPage g ≠ some b) then St.BOB_PAGE_REMOTE
  else if !listOk n then St.BOB_LIST_RANGE
  else if step && (writePages n).any s.isWeightPage then St.BOB_WEIGHT_WRITE
  else if !step && (writePages n).any s.isRetired then St.RETIRED_TARGET
  else St.OK

/-! ## Stack words behind the merge buffer (R99, R123) -/

/-- The stack byte address of a page and offset in its bobbin. -/
def stackAddr (page off : Nat) : Nat := page % 128 * 65536 + off

/-- The words that `n` bytes from `a` lie in. -/
def bobWords (a n : Nat) : List Nat := (List.range (cdiv (a % 64 + n) 64)).map (fun i => a / 64 + i)

/-- The merge entry of a word. -/
def Bobbin.mergeOf (x : Bobbin) (w : Nat) : Option BobMerge := x.merge.find? (fun e => e.word = w)

/-- The bytes of a word as a read sees them (R123). -/
def Bobbin.wordBytes (x : Bobbin) (w : Nat) : List Byte :=
  match x.mergeOf w with
  | some e => mergeBytes e.mask.toNat (x.mem.word Space.stack w) (bytesOf 64 e.data.toNat)
  | none => x.mem.word Space.stack w

/-- `n` bytes from stack address `a`. -/
def Bobbin.bytes (x : Bobbin) (a n : Nat) : List Byte := (((bobWords a n).flatMap x.wordBytes).drop (a % 64)).take n

/-- Does a word read from its bank fail its check? A word wholly held in the merge buffer is not read. -/
def Bobbin.bad (x : Bobbin) (b w : Nat) : Bool :=
  x.mem.syndrome Space.stack b w ≠ 0 && !x.merge.any (fun e => e.word = w && e.mask = BitVec.allOnes 64)

/-- Does any word of a range fail its check? -/
def Bobbin.anyBad (x : Bobbin) (b a n : Nat) : Bool := (bobWords a n).any (x.bad b)

/-- Test the words of a range; a step descriptor's detection taints the step and shows in BOB_FLAGS (R126, R289). -/
def State.bobCheck (b a n : Nat) (step : Bool) (s : State) : State :=
  (bobWords a n).foldl (fun s w =>
    let x := s.bob b
    if !x.bad b w then s
    else
      let c := x.mem.classOf w (unitLo 1024 w) (unitLo 1024 w + 1024) (x.mem.syndrome Space.stack b w)
      let s1 := s.detectStack b w false false
      if step then (s1.wr (Reg.BOB_FLAGS_DETECT b) 1).taint (s.panelOfBob b) c else s1) s

/-- Write back the merge entry of a word; a partial one reads the old word in a cycle of the read port (R123, R129, R287). -/
def State.bobWriteBack (b w : Nat) (s : State) : State :=
  match (s.bob b).mergeOf w with
  | none => s
  | some e =>
    let s1 := if e.mask = BitVec.allOnes 64 then s
      else ((s.detectStack b w true false).stick (Reg.BOB_MB_STAT_RMW b) 1).wrapOvf (Reg.BOB_PERF_READ_COUNT b) (Reg.BOB_PERF_READ_OVF b) 1
    s1.updBob b (fun x => { x with
      mem := x.mem.writeBack Space.stack b w e.mask.toNat (bytesOf 64 e.data.toNat)
      merge := x.merge.filter (fun f => f.word ≠ w) })

/-- Write back every entry (R123). -/
def State.bobFlush (b : Nat) (s : State) : State := ((s.bob b).merge.map (fun e => e.word)).foldl (fun s w => s.bobWriteBack b w) s

/-- Write back the entries whose mask is full, as the idle cycles of the write port do (R123). -/
def State.bobDrain (b : Nat) (s : State) : State :=
  (((s.bob b).merge.filter (fun e => e.mask = BitVec.allOnes 64)).map (fun e => e.word)).foldl (fun s w => s.bobWriteBack b w) s

/-- Merge bytes into the entry of a word, or into a new one; with all 16 in use the oldest is evicted (R123). -/
def State.bobMerge (b w : Nat) (mask : BitVec 64) (data : BitVec 512) (s : State) : State :=
  match (s.bob b).mergeOf w with
  | some e =>
    let d := natOf (mergeBytes mask.toNat (bytesOf 64 e.data.toNat) (bytesOf 64 data.toNat))
    s.updBob b (fun x => { x with
      merge := x.merge.map (fun f => if f.word = w then ⟨w, e.mask ||| mask, BitVec.ofNat 512 d⟩ else f) })
  | none =>
    let s1 := match (s.bob b).merge with
      | old :: _ =>
        if (s.bob b).merge.length ≥ 16 then (s.bobWriteBack b old.word).stick (Reg.BOB_MB_STAT_EVICT b) 1 else s
      | [] => s
    s1.updBob b (fun x => { x with merge := x.merge ++ [⟨w, mask, data⟩] })

/-- Write bytes from a stack address: whole words directly, part-words through the merge buffer (R122, R123). `narrow` sends every
word through the merge buffer (APPEND): before a word needs a new entry of a full buffer, the write port, idle in an APPEND, has written
the full ones. -/
def State.bobWrite (b a : Nat) (bs : List Byte) (narrow : Bool) (s : State) : State :=
  (bobWords a bs.length).zipIdx.foldl (fun s w =>
    let s := if narrow && (s.bob b).merge.length ≥ 16 then s.bobDrain b else s
    let lo := 64 * w.2
    let at0 := max lo (a % 64)
    let hi := min (lo + 64) (a % 64 + bs.length)
    let part := (bs.drop (at0 - a % 64)).take (hi - at0)
    if hi - at0 = 64 && !narrow then
      s.updBob b (fun x => { x with mem := x.mem.writeWord Space.stack w.1 part, merge := x.merge.filter (fun f => f.word ≠ w.1) })
    else s.bobMerge b w.1 (BitVec.ofNat 64 ((2 ^ (hi - at0) - 1) * 2 ^ (at0 - lo)))
      (BitVec.ofNat 512 (natOf part * 2 ^ (8 * (at0 - lo))))) s

/-- Zero words over a range of whole words, with valid check fields (R121). -/
def State.bobZero (b a n : Nat) (s : State) : State :=
  s.updBob b (fun x => { x with
    mem := x.mem.zero Space.stack (a / 64) ((a + n) / 64)
    merge := x.merge.filter (fun f => f.word < a / 64 || (a + n) / 64 ≤ f.word) })

/-! ## Step descriptors (R103 to R106) -/

/-- A step descriptor found the queue full: a log entry, and the panel faulted (R103). -/
def State.bobFull (b op : Nat) (s : State) : State := s.faultOpt (s.panelOfBob b) St.BOB_QUEUE_FULL (s.bobIndex b) op

/-- Refuse a step descriptor: the code in BOB_FLAGS, a log entry, the panel faulted (R108). -/
def State.bobFault (b : Nat) (code : Code) (op : Nat) (s : State) : State :=
  (s.wr (Reg.BOB_FLAGS_LAST_CODE b) code.toNat).faultOpt (s.panelOfBob b) code (s.bobIndex b) op

/-- The tile issues its step cycle on this edge, or advances to the next after NEND (R181, R182). -/
def State.issuing (s : State) (p t : Nat) : Bool :=
  let x := s.tile t
  (s.mayIssue t && (x.slots ≠ 0 || s.bundleOk t)) || (x.ended && x.run && !x.held && !s.stopped p t && s.treeOk p t)

/-- The step descriptor at the front of the queue, its predicate register and its start, once the tile issues the step cycle its bobbin
cycle begins with (R104, R182). -/
def State.stepReady (s : State) (b op : Nat) : Option (Nat × Nat × Nat) :=
  let x := s.bob b
  let t := s.tile (bobTile b)
  match x.stepQ, s.panelOfBob b with
  | d :: _, some p =>
    let start := max ((d.cy + 5) / 2) x.portFree
    match d.by_ with
    | .step pd =>
      if dOp d.d.toNat = op && s.isLive p && t.run && !s.clk.inWindow &&
          (2 * start < t.cy || (2 * start = t.cy && s.issuing p (bobTile b))) then some (d.d.toNat, pd, start) else none
    | .svc _ _ => none
  | _, _ => none

/-- The tile's step goes on by a cycle on this edge: it has not been held, stopped or braked (R181). -/
def State.stepGoes (s : State) (t : Nat) : Bool :=
  let x := s.tile t
  match s.panelOfTile t with
  | some p => s.isLive p && x.run && !x.held && !s.stopped p t && !s.clk.inWindow && s.treeOk p t
  | none => false

/-- A step descriptor needs the write port in this bobbin cycle; while the step stands still none does (R107, R127). -/
def State.writePortBusy (s : State) (b : Nat) : Bool :=
  let x := s.bob b
  s.stepGoes (bobTile b) && (s.tile (bobTile b)).cy / 2 < x.portFree && [0x02, 0x03, 0x40, 0x41, 0x43].contains x.op

/-- A step descriptor needs the read port in this bobbin cycle (R107, R127). -/
def State.readPortBusy (s : State) (b : Nat) : Bool :=
  s.stepGoes (bobTile b) && (s.tile (bobTile b)).cy / 2 < (s.bob b).readEnd

/-- A service descriptor finds the ports it uses idle (R107). -/
def State.portsIdle (s : State) (b op : Nat) : Bool :=
  !([0x11, 0x40, 0x42, 0x43].contains op && s.readPortBusy b) && !([0x40, 0x41, 0x43].contains op && s.writePortBusy b)

/-- Is the descriptor's slot masked (R124)? A GEMV masks its vectors one by one instead. -/
def Bobbin.masked (x : Bobbin) (n : Nat) : Bool := dSlot n ≠ 0xFFFF && x.mask.getLsbD (dSlot n % 512)

/-- The earlier of two channels, the lower-numbered of equals: its number, and how long a phase that begins at `p` waits (R102). -/
def pickChan (c0 c1 p : Nat) : Nat × Nat :=
  if c0 ≤ p then (0, 0) else if c1 ≤ p then (1, 0) else if c0 ≤ c1 then (0, c0 - p) else (1, c1 - p)

/-- Hold a channel of the site from bobbin cycle `p` for a data phase of `len` cycles: the wait, and the tile after (R102). -/
def Tile.takeChan (x : Tile) (p len : Nat) (up : Bool) : Nat × Tile :=
  if up then
    let c := pickChan x.up0 x.up1 p
    (c.2, if c.1 = 0 then { x with up0 := p + c.2 + len } else { x with up1 := p + c.2 + len })
  else
    let c := pickChan x.dn0 x.dn1 p
    (c.2, if c.1 = 0 then { x with dn0 := p + c.2 + len } else { x with dn1 := p + c.2 + len })

/-- A data phase begins: it takes its channel, its wait extends the port end of its bobbin, and the register it reads stays in use to its
end (R102, R105, R111). -/
def State.beginPhase (t : Nat) (ph : Nat × Nat × Nat × Bool × Option Nat) (s : State) : State :=
  let (p, len, b, up, src) := ph
  let c := (s.tile t).takeChan p len up
  (s.setTile t { c.2 with bcap := (src.map (fun k => (kT k, 2 * (p + c.1 + len)))).toList ++ c.2.bcap }).updBob b (fun x =>
    { x with portFree := x.portFree + c.1 })

/-- Insert a data phase by its first cycle, after those of the same cycle. -/
def insPhase (ph : Nat × Nat × Nat × Bool × Option Nat) :
    List (Nat × Nat × Nat × Bool × Option Nat) → List (Nat × Nat × Nat × Bool × Option Nat)
  | [] => [ph]
  | q :: l => if ph.1 < q.1 then ph :: q :: l else q :: insPhase ph l

/-- The data phases of a site that begin by bobbin cycle `c` take their channels, in the order of their first cycles (R102). -/
def State.takePhases (t c : Nat) (s : State) : State :=
  let x := s.tile t
  if x.phases = [] then s
  else (x.phases.filter (fun p => p.1 ≤ c)).foldl (fun s p => s.beginPhase t p)
    (s.setTile t { x with phases := x.phases.filter (fun p => c < p.1) })

/-- The result of a descriptor as its opcode's chapter forms it: bytes for the tile, scale register cells, and its flags. -/
structure BobEff where
  st : State
  out : List Byte := []
  scells : List (Nat × Nat × Nat) := []
  ovf : Bool := false
  bad : Bool := false

/-- The destination of a result: a tile register, or scratchpad words through the vertical port (R106, R109). -/
def BobEff.result (e : BobEff) (n pd at_ id : Nat) (masked : Bool) : BobResult :=
  let toTile : Bool := outBytes n != 0
  { at_ := at_, phase := phaseOfDesc n, pd := pd
    dreg := if toTile && dKind n = 1 then some (dReg n) else none
    cells := if toTile && dKind n = 1 && !masked then tCells 0 e.out else []
    sreg := if dOp n = 0x10 && fmtScaled (dFmt n) then some (dSreg n) else none
    scells := if masked then [] else e.scells
    words := if toTile && dKind n = 2 && !masked then bufWrites (dAddr n) id 0 e.out else []
    viaPort := toTile && dKind n = 2 && !masked
    flags := (if e.ovf then 1 else 0) + (if e.bad then 2 else 0)
    sig := if dSig n then some (dKnot n) else none }

/-- Count multiply-accumulates, in units of 64 (BOB_PERF_MAC). -/
def State.countMacs (b n : Nat) (s : State) : State :=
  let m := (s.bob b).macRem + n
  (s.updBob b (fun x => { x with macRem := m % 64 })).wrapOvf (Reg.BOB_PERF_MAC_COUNT b) (Reg.BOB_PERF_MAC_OVF b) (m / 64)

/-- Port cycles a service descriptor takes (BOB_PERF_SVC): a SEND reads its range, and the others take what R110 gives the step queue. -/
def svcCycles (n : Nat) : Nat := if dOp n = 0x42 then cdiv (dLen n) 128 else durOf n

/-- Bobbin cycles a descriptor keeps the read port busy (BOB_PERF_READ). -/
def readCycles (n : Nat) : Nat :=
  match dOp n with
  | 0x01 => durOf n
  | 0x10 => 32
  | 0x11 => 4096
  | 0x20 | 0x30 => phaseLead n
  | 0x40 | 0x42 => cdiv (dLen n) 128
  | _ => 0

/-- Start the step descriptor at the front of the queue, if it is `op` and its bobbin cycle has come: it leaves the queue, its effect
follows, its port is busy D and any channel wait, its data phase waits for its channel, and its result is present at S + D + T (R102, R104
to R106, R111, R124). The source register is in use from the start: R111 says so of XFER_DOWN, and the model takes every downward
transfer, APPEND, ACT_LOAD and LIST_LOAD among them, the same way (DESIGN CHOICE, log entry 74). -/
def State.runStep (b op : Nat) (body : Nat → Bool → State → BobEff) (s : State) : State :=
  match s.stepReady b op with
  | none => s
  | some (n, pd, start) =>
    let t := bobTile b
    let m := (s.bob b).masked n && op ≠ 0x20
    let s0 := s.updBob b (fun x => { x with stepQ := x.stepQ.drop 1 })
    let e := body n m s0
    let y := e.st.tile t
    let src := if inBytes n ≠ 0 && dKind n = 1 then some (dReg n) else none
    let r := e.result n pd (start + durOf n + s.tailOf t n) y.nextId m
    let flags : Option (Nat × Nat) := if pd = 0 then none else some (pd, r.flags)
    let x2 : Tile := { y with
      nextId := y.nextId + 1
      done := if r.words = [] then y.done else y.done ++ [{ id := y.nextId, left := r.words.length, pred := flags }]
      phases := if outBytes n ≠ 0 || inBytes n ≠ 0 then
          insPhase (start + phaseLead n, phaseOfDesc n, b, decide (outBytes n ≠ 0), src) y.phases else y.phases
      bcap := (src.map (fun k => (kT k, 2 * (start + phaseOfDesc n)))).toList ++ y.bcap }
    let s1 := e.st.setTile t x2
    let s2 := s1.updBob b (fun x => { x with portFree := start + durOf n, op := op, readEnd := start + readCycles n, results := x.results ++ [r] })
    s2.wrapOvf (Reg.BOB_PERF_READ_COUNT b) (Reg.BOB_PERF_READ_OVF b) (readCycles n)

/-! ## Service descriptors (R103, R107, R108) -/

/-- Number of a poster: the park move of page `k` of a spool, the reload of a bobbin's codebook store, or a fill of a MEM_FILL job. -/
def posterPark (sp k : Nat) : Nat := 3 * (sp * 2 ^ 22 + k)
def posterReload (b : Nat) : Nat := 3 * b + 1
def posterFill (job : Nat) : Nat := 3 * job + 2

/-- A service descriptor has completed to its poster: a page of a park is sent, or failed (R380, R381); a codebook store is loaded
again (R291); a part of a fill is written (R285). -/
def State.svcFinish (job : Nat) (code : Code) (s : State) : State :=
  if job % 3 = 2 then
    { s with integ := { s.integ with fills := s.integ.fills.map (fun f =>
        if f.job = job / 3 then { f with left := f.left - 1, code := if f.code = St.OK then code else f.code } else f) } }
  else if job % 3 = 1 then
    if code = St.OK then { s with integ := { s.integ with reload := ndel (job / 3) s.integ.reload } } else s
  else
    { s with spools := supd {} s.spools (job / 3 / 2 ^ 22) (fun x => { x with
        move := x.move.map (fun m =>
          if code = St.OK then { m with done := nins (job / 3 % 2 ^ 22) m.done } else { m with failed := true }) }) }

/-- Enter a service descriptor: checked when it enters the queue, and queued or completed with its code (R108). -/
def State.enterSvc (b : Nat) (d : Desc) (s : State) : State :=
  match d.by_ with
  | .svc p job =>
    let code := s.checkDesc b false p d.d.toNat
    if code ≠ St.OK then (s.wr (Reg.BOB_FLAGS_LAST_CODE b) code.toNat).svcFinish job code
    else s.updBob b (fun x => { x with svcQ := x.svcQ ++ [d] })
  | .step _ => s

/-- Post a service descriptor for a panel's work, or for the device's own; a poster holds it back while the queue's 16 entries are in
use (R103). -/
def State.postSvc (b : Nat) (d : BitVec 512) (p : Option Nat) (job : Nat) (s : State) : State :=
  if (s.bob b).svcQ.length < 16 && (s.bob b).svcHold = [] then s.enterSvc b ⟨d, .svc p job, 0⟩
  else s.updBob b (fun x => { x with svcHold := x.svcHold ++ [⟨d, .svc p job, 0⟩] })

/-- The posters fill the room that has come free in a service queue (R103). -/
def State.refillSvc (b : Nat) (s : State) : State :=
  (s.bob b).svcHold.foldl (fun s d =>
    if (s.bob b).svcQ.length < 16 then (s.updBob b (fun x => { x with svcHold := x.svcHold.drop 1 })).enterSvc b d else s) s

/-- Run the service descriptor at the front of the queue, if it is `op`: its effect, and its status to its poster; a failed check of a
word it reads is 0x0604; a bobbin whose domain is not Active is woken first, and a port that a step descriptor uses is waited for (R107,
R289, R436). -/
def State.runSvc (b op : Nat) (body : Nat → Bool → State → BobEff) (s : State) : State :=
  match (s.bob b).svcQ with
  | [] => s
  | d :: rest =>
    let n := d.d.toNat
    if dOp n = op && s.bobActive b && !s.bobOn b then s.demand (domOfBob b)
    else if dOp n = op && s.bobActive b && s.portsIdle b op then
      let s0 := s.updBob b (fun x => { x with svcQ := rest })
      let e := body n ((s.bob b).masked n) s0
      let s1 := (e.st.wrapOvf (Reg.BOB_PERF_SVC_COUNT b) (Reg.BOB_PERF_SVC_OVF b) (svcCycles n)).wrapOvf
        (Reg.BOB_PERF_READ_COUNT b) (Reg.BOB_PERF_READ_OVF b) (readCycles n)
      let s2 := match d.by_ with
        | .svc _ job => s1.svcFinish job (if e.bad then St.SVC_CHECK_FAIL else St.OK)
        | .step _ => s1
      s2.refillSvc b
    else s

/-! ## The inbound buffer (R107, R122, R159) -/

/-- Bytes in a bobbin's inbound buffer, of 4,096. -/
def Bobbin.inboundUsed (x : Bobbin) : Nat := (x.inbound.map (fun i => i.bytes.length)).sum

/-- Bytes of an unpark have been written (R383). -/
def State.unparkWrote (sp : Option Nat) (n : Nat) (s : State) : State :=
  match sp with
  | some i => { s with spools := supd {} s.spools i (fun x => { x with move := x.move.map (fun m => { m with bytes := m.bytes + n }) }) }
  | none => s

/-- One bobbin cycle of the write port: two words of the oldest inbound data are written, and after its last word its arrivals go to the
knot (R107, R122, R159). -/
def State.inboundCycle (b : Nat) (s : State) : State :=
  match (s.bob b).inbound with
  | [] => s
  | i :: rest =>
    if s.writePortBusy b || !s.bobOn b then s
    else
      let n := min 128 i.bytes.length
      let s1 := (((s.updBob b (fun x => { x with
          inbound := if n = i.bytes.length then rest else { i with at_ := i.at_ + n, bytes := i.bytes.drop n } :: rest })).bobWrite
        b i.at_ (i.bytes.take n) false).wrapOvf (Reg.BOB_PERF_SVC_COUNT b) (Reg.BOB_PERF_SVC_OVF b) 1).unparkWrote i.spool n
      match i.knot, (n = i.bytes.length : Bool) with
      | some (k, np, tenant, src), true => s1.sendArrive (epBob b) tenant src k np
      | _, _ => s1

end Sys2Proof.Machine
end

