-- ==== Sys2Proof/Machine/PanelOps.lean ====
section
/-! DEFINITION. What the commands of a panel share: the panel a command names and its state (spec/15 R393, R396), the weight and serving
records of a panel, and its resident patterns. -/

namespace Sys2Proof.Machine

def State.wgt (s : State) (p : Nat) : Wgt := sget {} s.wgts p
def State.setWgt (p : Nat) (x : Wgt) (s : State) : State := { s with wgts := sset {} s.wgts p x }
def State.updWgt (p : Nat) (f : Wgt → Wgt) (s : State) : State := s.setWgt p (f (s.wgt p))
def State.serve (s : State) (p : Nat) : Serve := sget {} s.serves p
def State.setServe (p : Nat) (x : Serve) (s : State) : State := { s with serves := sset {} s.serves p x }
def State.updServe (p : Nat) (f : Serve → Serve) (s : State) : State := s.setServe p (f (s.serve p))
def State.spool (s : State) (i : Nat) : Spool := sget {} s.spools i
def State.setSpool (i : Nat) (x : Spool) (s : State) : State := { s with spools := sset {} s.spools i x }
def State.updSpool (i : Nat) (f : Spool → Spool) (s : State) : State := s.setSpool i (f (s.spool i))

/-- The resident pattern with a handle (R170). -/
def State.pattern? (s : State) (p h : Nat) : Option Pattern :=
  ((s.panel p).patterns.find? (fun v => v.1 = h)).map (fun v => v.2)

/-- Perform a command on the panel its header names: 0x0204 where there is none or it is EMPTY (R393, log entry 25). -/
def State.onPanel (j : Job) (f : Nat → State → State) (s : State) : State :=
  match j.cmd.pnl with
  | none => s.complete j St.PANEL_EMPTY
  | some p => if s.pst p = PS.empty then s.complete j St.PANEL_EMPTY else f p s

/-- A command accepted only while its panel is STOPPED: otherwise 0x0202, recorded in PNL_LAST (R396). -/
def State.whileStopped (j : Job) (p : Nat) (f : State → State) (s : State) : State :=
  if s.pst p = PS.stopped then f s else (s.refusePanel p St.PANEL_NOT_STOPPED 0).complete j St.PANEL_NOT_STOPPED

/-- Read host memory for a command: 0x0106 with the failing address, or the bytes (R403). -/
def State.fetchFor (j : Job) (a n : Nat) (f : List Byte → State → State) (s : State) : State :=
  match s.dmaFail j.cmd.fn a n with
  | some bad => s.completeD j St.DMA_ERROR bad 0
  | none => f (s.hostRead a n) s

/-- Write host memory for a command (R403); output of a mirrored panel waits (R471). -/
def State.storeFor (j : Job) (a : Nat) (bs : List Byte) (f : State → State) (s : State) : State :=
  match s.dmaFail j.cmd.fn a bs.length with
  | some bad => s.completeD j St.DMA_ERROR bad 0
  | none => f (s.outWrite (s.jobPanel j) a bs)

/-- Are all these bytes 0? -/
def allZero (bs : List Byte) : Bool := bs.all (fun b => b == 0)

/-- `n` bytes of a list from `i`. -/
def slice (bs : List Byte) (i n : Nat) : List Byte := (bs.drop i).take n

/-- MSG, q and part of an engine message (R346). -/
def msgKind (bs : List Byte) : Nat := leAt bs 0 1
def msgQ (bs : List Byte) : Nat := leAt bs 1 2
def msgPart (bs : List Byte) : Nat := leAt bs 3 1

/-- Cut a list into parts of `n`, with the number of each. -/
def partsOf {α : Type} (n : Nat) : Nat → List α → Nat → List (Nat × List α)
  | 0, _, _ => []
  | _, [], _ => []
  | f + 1, l, k => (k, l.take n) :: partsOf n f (l.drop n) (k + 1)

/-- Weight states (PNL_WGT_STATE.STATE) and shard states. -/
abbrev WS.none : Nat := 0
abbrev WS.loading : Nat := 1
abbrev WS.ready : Nat := 2
abbrev WS.refit : Nat := 3
abbrev WS.stopped : Nat := 4
abbrev SH.absent : Nat := 0
abbrev SH.fetching : Nat := 1
abbrev SH.verified : Nat := 2
abbrev SH.bad : Nat := 3

/-- GEN as it is shown: the generation of the instance once it has been READY, 0 while a load is still to make it so
(PNL_WGT_GEN; DEDUCED, log entry 33). -/
def State.genShown (s : State) (p : Nat) : Nat :=
  if s.rd (Reg.PNL_WGT_STATE_STATE p) = WS.loading then 0 else s.rd (Reg.PNL_WGT_GEN_GEN p)

def State.wst (s : State) (p : Nat) : Nat := s.rd (Reg.PNL_WGT_STATE_STATE p)
def State.setWst (p v : Nat) (s : State) : State := s.wr (Reg.PNL_WGT_STATE_STATE p) v
def State.shard (s : State) (p : Nat) : Nat := s.rd (Reg.PNL_WGT_STATE_SHARD p)
def State.setShard (p v : Nat) (s : State) : State := s.wr (Reg.PNL_WGT_STATE_SHARD p) v

/-- Does this device run the instance of the panel (R331)? -/
def State.isHead (s : State) (p : Nat) : Bool := s.bit (Reg.PNL_WGT_STATE_HEAD p)

end Sys2Proof.Machine
end

