-- ==== Sys2Proof/Machine/SpoolCore.lean ====
section
/-! DEFINITION. What the serving engine keeps for its spools: KV geometry, blocks and chain records, history pages, and the image of a
spool-table entry (spec/13 R333 to R338, spec/14 R361, R362). -/

namespace Sys2Proof.Machine

/-- Spool states (R336). -/
abbrev SP.free : Nat := 0
abbrev SP.admitted : Nat := 1
abbrev SP.prefill : Nat := 2
abbrev SP.decode : Nat := 3
abbrev SP.idle : Nat := 4
abbrev SP.parking : Nat := 5
abbrev SP.parked : Nat := 6
abbrev SP.cold : Nat := 7
abbrev SP.unparking : Nat := 8
abbrev SP.cancelling : Nat := 9
abbrev SP.done : Nat := 10

/-! ## KV geometry (R333, R334) -/

/-- The placement of the resident model's pattern. -/
def State.placement (s : State) (p : Nat) : Option Pattern := if s.wst p = WS.none then none else s.pattern? p (s.wgt p).place

/-- KV bobbins of a panel, in ascending bobbin index. -/
def State.kvBobs (s : State) (p : Nat) : List Nat :=
  match s.placement p with
  | none => []
  | some pat => (sortBy (fun a b => s.ordinal a ≤ s.ordinal b) pat.tiles).flatMap (fun t => (List.range s.tiers).map (fun k => bobAt k t))

/-- Pages of a block, L. -/
def State.lanes (s : State) (p : Nat) : Nat := s.rd (Reg.GSE_KV_LANES p)

/-- Groups, G. -/
def State.groups (s : State) (p : Nat) : Nat :=
  if s.lanes p = 0 then 0 else min ((s.kvBobs p).length / s.lanes p) (s.rd Reg.DEV_FEAT_SVC_MAX_BATCH)

def State.kvFirst (s : State) (p : Nat) : Nat := s.rd (Reg.BOB_PNL_SPLIT_KV_FIRST p)

/-- Tokens of a block (R118). -/
def State.tpp (s : State) (p : Nat) : Nat :=
  let c := s.rd (Reg.GSE_KV_TPP_CODE p)
  32768 / (64 * 2 ^ (c % 4) * (if c / 4 % 4 = 2 then 2 else 1))

/-- Lane bobbin j of a group. -/
def State.laneBob (s : State) (p g j : Nat) : Nat := (s.kvBobs p).getD (g * s.lanes p + j) 0

/-- Pages of a block. -/
def State.blockPages (s : State) (p blk : Nat) : List Nat :=
  (List.range (s.lanes p)).map (fun j => s.pageOf (s.laneBob p (blk / 128) j) (blk % 128))

/-- Entries of the panel's range that are not FREE. -/
def State.spoolsOf (s : State) (p : Nat) : List Nat :=
  (s.spools.filter (fun kv => kv.2.st ≠ SP.free && s.spoolOwner kv.1 = some p)).map (fun kv => kv.1)

/-- Blocks that spools of the panel hold. -/
def State.heldBlocks (s : State) (p : Nat) : List Nat := (s.spoolsOf p).flatMap (fun i => (s.spool i).blocks)

/-- Blocks of a group with a retired page on this device (R333). -/
def State.retiredIn (s : State) (p g : Nat) : List Nat :=
  ((List.range 128).filter (fun l => s.kvFirst p ≤ l && (s.blockPages p (128 * g + l)).any s.isRetired)).map (fun l => 128 * g + l)

/-- Free blocks of a group, lowest first: not held, and none of its pages retired on any device of the instance (R333). -/
def State.freeBlocks (s : State) (p g : Nat) : List Nat :=
  let out := s.heldBlocks p ++ s.retiredIn p g ++ (s.serve p).badBlocks.flatMap (fun v => v.2)
  ((List.range 128).map (fun l => 128 * g + l)).filter (fun b => s.kvFirst p ≤ b % 128 && !out.contains b)

/-- The block that holds a page, if it is a KV page of the panel (R333). -/
def State.blockOfPage (s : State) (p page : Nat) : Option Nat :=
  (List.range (s.groups p)).findSome? (fun g =>
    if s.kvFirst p ≤ page % 128 && (s.blockPages p (128 * g + page % 128)).contains page then some (128 * g + page % 128) else none)

/-- The group with the most free blocks, the lowest on a tie (R334). -/
def State.mostFree (s : State) (p : Nat) : Nat :=
  ((List.range (s.groups p)).foldl (fun acc g =>
    let n := (s.freeBlocks p g).length
    if acc.2 < n then (g, n) else acc) (0, 0)).1

/-! ## Blocks and chain records (R334, R337) -/

/-- Chain records that `n` blocks need. -/
def chainNeed (n : Nat) : Nat := cdiv (n - 8) 24

/-- Chain records in use. -/
def State.usedChain (s : State) : List Nat := s.spools.flatMap (fun kv => kv.2.chain)

/-- The lowest `n` free chain records. -/
def State.freeChain (s : State) (n : Nat) : List Nat :=
  let used := s.usedChain
  ((List.range (s.rd Reg.GSE_CAP_CHAIN)).filter (fun i => !used.contains i)).take n

/-- Reserve blocks of a group for `n` tokens of a spool, with their chain records: the state, and whether they were free (R343). -/
def State.reserveBlocks (p i g n : Nat) (s : State) : State × Bool :=
  let x := s.spool i
  let need := cdiv n (s.tpp p) - x.blocks.length
  if need = 0 then (s, true)
  else
    let blks := ((s.freeBlocks p g).filter (fun b => !x.avoid.contains b)).take need
    let recs := chainNeed (x.blocks.length + need) - x.chain.length
    let spare := s.freeChain recs
    if blks.length < need then (s, false)
    else if spare.length < recs then
      (if s.chainEpisode then s else { s.logN St.CHAIN_FULL (some p) i 0 with chainEpisode := true }, false)
    else
      let s1 := s.updSpool i (fun y => { y with blocks := y.blocks ++ blks, chain := y.chain ++ spare, home := some g })
      (if spare.isEmpty then s1 else { s1 with chainEpisode := false }, true)

/-- Release a spool's blocks and chain records (R338). -/
def State.releaseBlocks (i : Nat) (s : State) : State :=
  let s1 := if (s.spool i).chain.isEmpty then s else { s with chainEpisode := false }
  s1.updSpool i (fun x => { x with blocks := [], chain := [], home := none })

/-! ## Token history (R361, R362) -/

/-- Tokens of a history page. -/
abbrev histPer : Nat := 16383

/-- History pages of the panel that no spool holds and that are not retired. -/
def State.freeHist (s : State) (p : Nat) : List Nat :=
  let held := (s.spoolsOf p).flatMap (fun i => (s.spool i).hist)
  ((List.range (s.rd (Reg.PNL_PART_HIST_HIST_PAGES p))).map (fun k => s.rd (Reg.PNL_PART_HIST_HIST_FIRST p) + k)).filter
    (fun g => !held.contains g && !s.isRetired g)

/-- Write bytes of a stack page. -/
def State.pageWrite (page off : Nat) (bs : List Byte) (s : State) : State :=
  match s.bobOfPage page with
  | some b => s.bobWrite b (stackAddr page off) bs false
  | none => s

/-- Read bytes of a stack page: the bytes, and whether a word failed its check. -/
def State.pageRead (page off n : Nat) (s : State) : List Byte × Bool × State :=
  match s.bobOfPage page with
  | some b => ((s.bob b).bytes (stackAddr page off) n, (s.bob b).anyBad b (stackAddr page off) n, s.bobCheck b (stackAddr page off) n false)
  | none => (List.replicate n 0, false, s)

/-- Write the link of each history page of a spool. -/
def State.histLinks (i : Nat) (s : State) : State :=
  let h := (s.spool i).hist
  (List.range h.length).foldl (fun s k => s.pageWrite (h.getD k 0) 65532 (bytesOf 4 (h.getD (k + 1) 0xFFFFF))) s

/-- Hold history pages for `n` tokens of a spool, if they are free (R362). -/
def State.histReserve (p i n : Nat) (s : State) : Option State :=
  let need := cdiv n histPer - (s.spool i).hist.length
  let got := (s.freeHist p).take need
  if got.length < need then none
  else some (if got.isEmpty then s else (s.updSpool i (fun x => { x with hist := x.hist ++ got })).histLinks i)

/-- Is history space for `n` tokens free, beyond what `held` pages hold? -/
def State.histFree (s : State) (p held n : Nat) : Bool := cdiv n histPer - held ≤ (s.freeHist p).length

/-- The parts of history entries [i, i + n) by page: page, byte offset, entries. -/
def histSpans (h : List Nat) (i n : Nat) : List (Nat × Nat × Nat) :=
  h.zipIdx.flatMap (fun x =>
    let lo := max i (x.2 * histPer)
    let hi := min (i + n) ((x.2 + 1) * histPer)
    if lo < hi then [(x.1, 4 * (lo - x.2 * histPer), hi - lo)] else [])

/-- Write token IDs into a spool's history from entry `at_` (R361). -/
def State.histPut (i at_ : Nat) (ids : List Nat) (s : State) : State :=
  ((histSpans (s.spool i).hist at_ ids.length).foldl (fun (acc : State × List Nat) x =>
    (acc.1.pageWrite x.1 x.2.1 ((acc.2.take x.2.2).flatMap (fun t => bytesOf 4 (t % 2 ^ 18))), acc.2.drop x.2.2)) (s, ids)).1

/-- Read history entries: the IDs, and whether a page failed its check (R363). -/
def State.histGet (i at_ n : Nat) (s : State) : List Nat × Bool × State :=
  (histSpans (s.spool i).hist at_ n).foldl (fun (acc : List Nat × Bool × State) x =>
    let r := acc.2.2.pageRead x.1 x.2.1 (4 * x.2.2)
    (acc.1 ++ (List.range x.2.2).map (fun k => leAt r.1 (4 * k) 4 % 2 ^ 18), acc.2.1 || r.2.1, r.2.2)) ([], false, s)

/-! ## Steps that hold a spool -/

/-- Is a pick of the spool that now has the entry, not of one that had it before (R335)? -/
def State.isPickOf (s : State) (i : Nat) (k : Pick) : Bool := k.spool = i && k.adm = (s.spool i).admitSeq

/-- Does an announced step that is not committed or discarded hold the spool (IN_STEP)? A standby shows what the active device shows (R470). -/
def State.inStep (s : State) (p i : Nat) : Bool :=
  (s.spool i).inStepCopy || (s.serve p).steps.any (fun t => t.picks.any (s.isPickOf i))

/-- Does an announced step that has not ended hold it (R352)? -/
def State.heldByStep (s : State) (p i : Nat) : Bool :=
  (s.serve p).steps.any (fun t => t.endAt.isNone && t.picks.any (s.isPickOf i))

/-! ## The entry image (R335, R337) -/

/-- The 128 bytes of a spool-table entry. -/
def Spool.image (x : Spool) (inStep : Bool) : List Byte :=
  let b2n (b : Bool) (k : Nat) : Nat := if b then 2 ^ k else 0
  if x.st = SP.free then bytesOf 128 0
  else
    let inl := (x.blocks.take 8).zipIdx.foldl (fun a k => a + k.1 * 2 ^ (20 * k.2)) 0
    bytesOf 8 (x.st + x.panel * 16 + x.prio * 256 + x.dlPolicy * 4096 + b2n x.conv 14 + b2n inStep 15 + b2n x.late 16 + b2n x.genNote 17 +
      b2n x.mixedGen 18 + b2n x.reprefill 19 + b2n x.cancelReq 20 + x.tag.toNat * 2 ^ 32) ++
    bytesOf 8 (x.tokens + x.kvTokens * 2 ^ 24 + x.home.getD 0 * 2 ^ 48) ++
    bytesOf 8 (x.turnStart + x.maxNew * 2 ^ 24) ++ bytesOf 8 x.deadline.toNat ++ bytesOf 8 x.seed.toNat ++
    bytesOf 8 (x.generation + x.admitSeq * 2 ^ 32) ++
    bytesOf 20 inl ++ bytesOf 2 (x.chain.headD 0xFFFF) ++ bytesOf 2 x.blocks.length ++
    bytesOf 8 x.parkHandle ++ bytesOf 8 x.parkExpiry.toNat ++
    bytesOf 8 (x.stopFirst + x.stopCount * 65536 + x.hist.headD 0 * 2 ^ 32) ++ bytesOf 32 x.sampler.toNat

/-- A spool from an entry image, as a standby holds it; its blocks, chain, history and stop strings are not in it (R470). -/
def Spool.ofImage (b : List Byte) : Spool :=
  let d0 := leAt b 0 8
  let d1 := leAt b 8 8
  let d2 := leAt b 16 8
  { st := bits d0 0 4, panel := bits d0 4 4, prio := bits d0 8 4, dlPolicy := bits d0 12 2, conv := d0.testBit 14, late := d0.testBit 16
    genNote := d0.testBit 17, mixedGen := d0.testBit 18, reprefill := d0.testBit 19, cancelReq := d0.testBit 20
    inStepCopy := d0.testBit 15, home := some (bits d1 48 12)
    tag := BitVec.ofNat 32 (d0 / 2 ^ 32), tokens := bits d1 0 24, kvTokens := bits d1 24 24, turnStart := bits d2 0 24
    maxNew := bits d2 24 24, deadline := BitVec.ofNat 64 (leAt b 24 8), seed := BitVec.ofNat 64 (leAt b 32 8)
    generation := leAt b 40 4, admitSeq := leAt b 44 4, parkHandle := leAt b 72 4, parkExpiry := BitVec.ofNat 64 (leAt b 80 8)
    stopFirst := leAt b 88 2, stopCount := bits (leAt b 88 4) 16 4, sampler := BitVec.ofNat 256 (leAt b 96 32) }

/-! ## The stop store (R364) -/

/-- Runs of the stop store in use, lowest first. -/
def State.stopRuns (s : State) : List (Nat × Nat) :=
  sortBy (fun a b => a.1 ≤ b.1) ((s.spools.filter (fun kv => kv.2.st ≠ SP.free && 0 < kv.2.stopCount)).map
    (fun kv => (kv.2.stopFirst, kv.2.stopCount)))

/-- The lowest run of `n` free slots. -/
def stopFit (n limit : Nat) : List (Nat × Nat) → Nat → Option Nat
  | [], at_ => if at_ + n ≤ limit then some at_ else none
  | r :: rest, at_ => if at_ + n ≤ r.1 then some at_ else stopFit n limit rest (r.1 + r.2)

end Sys2Proof.Machine
end

