-- ==== Sys2Proof/Machine/Recovery.lean ====
section
/-! DEFINITION. What a device tells the head of its instance between steps: KV blocks that failed or are retired, and refetches and
reloads outstanding, windows that steps are to keep clear of (spec/11 R291, spec/12 R310, spec/13 R333, spec/01 R36). The spec says that the head learns these, and gives no message: they are
further kinds of REPORT (DESIGN CHOICE, log entry 79). -/

namespace Sys2Proof.Machine

/-- Kinds of REPORT: a step end, a refusal, the answer to HEAD_MOVE, failed KV blocks, retired KV blocks, recovery, a window. -/
abbrev RK.stepEnd : Nat := 0
abbrev RK.refused : Nat := 1
abbrev RK.moved : Nat := 2
abbrev RK.lost : Nat := 3
abbrev RK.retired : Nat := 4
abbrev RK.recovering : Nat := 5
abbrev RK.window : Nat := 6

/-- Bobbins of the panel whose codebook store is to be reloaded (R291). -/
def State.reloads (s : State) (p : Nat) : List Nat := s.integ.reload.filter (fun b => s.panelOfBob b = some p)

/-- Post the reload of the codebook stores that have none in their queues (R291). -/
def State.postReloads (p : Nat) (s : State) : State :=
  (s.reloads p).foldl (fun s b =>
    if ((s.bob b).svcQ ++ (s.bob b).svcHold).any (fun d => match d.by_ with | .svc _ job => job = posterReload b | .step _ => false) then s
    else s.postSvc b (s.bob b).cbDesc (s.panelOfBob b) (posterReload b)) s

/-- A page refetch of the panel is outstanding (R310). -/
def State.refetching (s : State) (p : Nat) : Bool := s.integ.refetch.any (fun g => s.panelOfPage g = some p)

/-- A recovery of R291 is outstanding for the panel on this device. -/
def State.recoveringHere (s : State) (p : Nat) : Bool := s.refetching p || !(s.reloads p).isEmpty

/-- The KV blocks of the panel with a retired page on this device (R333). -/
def State.retiredBlocks (s : State) (p : Nat) : List Nat := (List.range (s.groups p)).flatMap (s.retiredIn p)

/-- Send blocks to the head, 120 to a message, with the step they are reported for; no blocks are one empty message. -/
def State.reportBlocks (p q kind : Nat) (blocks : List Nat) (s : State) : State :=
  let parts := if blocks.isEmpty then [(0, [])] else partsOf 120 blocks.length blocks 0
  parts.foldl (fun s x => s.sendEngine p (s.rd (Reg.PNL_WGT_STATE_HEAD_COORD p)) 6 0 x.1
    (bytesOf 2 q ++ bytesOf 1 kind ++ bytesOf 3 0 ++ bytesOf 2 x.2.length ++ x.2.flatMap (bytesOf 4))) s

/-- The blocks of a message of `reportBlocks`. -/
def blocksIn (b : List Byte) : List Nat := (List.range (leAt b 6 2)).map (fun i => leAt b (8 + 4 * i) 4)

/-- A follower tells the head what has changed of its retired blocks and of its recovery since it last did (R291, R310, R333). -/
def State.tellHead (p : Nat) (s : State) : State :=
  if s.wst p = WS.none || s.wst p = WS.loading || s.isHead p then s
  else
    let bad := s.retiredBlocks p
    let rec_ := s.recoveringHere p
    let s1 := if bad = (s.serve p).sentRetired then s
      else (s.updServe p (fun v => { v with sentRetired := bad })).reportBlocks p 0 RK.retired bad
    if rec_ = (s1.serve p).sentRecover then s1
    else (s1.updServe p (fun v => { v with sentRecover := rec_ })).report p 0 RK.recovering St.OK rec_

/-- Ask the head to leave a window of `n` stitches from `w` free: kind 6, with W, its length, and whether it is a trim window (R34, R36). -/
def State.reportWindow (p : Nat) (w : W64) (n : Nat) (s : State) : State :=
  s.sendEngine p (s.rd (Reg.PNL_WGT_STATE_HEAD_COORD p)) 6 0 0
    (bytesOf 2 0 ++ bytesOf 1 RK.window ++ bytesOf 3 0 ++ bytesOf 8 w.toNat ++ bytesOf 4 n)

/-- After a service of a bobbin: a reload that failed is posted again, and the head is told (R291). -/
def State.afterService (b : Nat) (s : State) : State :=
  match s.panelOfBob b with
  | some p => (s.postReloads p).tellHead p
  | none => s

end Sys2Proof.Machine
end

