-- ==== Sys2Proof/Machine/Transcend.lean ====
section
/-! DEFINITION. The transcendental unit (spec/02 R57, spec/05 R144): each result lies within 1 ulp of the exact value. The exact
value is computed here in fixed point with 640 fractional bits; the result is the FP32 neighbour toward zero or the one away
from it, as the free value `Config.transAway` chooses from the operation and the input bits (log entry 20). -/

namespace Sys2Proof.Machine

/-- Fractional bits of the fixed-point working values. -/
def fxBits : Nat := 640

/-- ln 2 in fixed point. -/
def fxLn2 : Nat := 0xb17217f7d1cf79abc9e3b39803f2f6af40f343267298b62d8a0d175b8baafa2be7b876206debac98559552fb4afa1b10ed2eae35c138214427573b291169b8253e96ca16224ae8c51acbda11317c387e

/-- 2/√π in fixed point. -/
def fxTwoRtPi : Nat := 0x120dd750429b6d11ae3a914fed7fd8688281341d7587cea2e7342b06199cc416180eb39f0b24e1e2281806c12d98f35d77a3e9ddc91c394f0e9eedf0efffd84a2a4ac3b98489b8cbd3845e8fef6ff6af9

/-- Integer square root by successive bits: the bits of the root from `k` down. -/
def isqrtFrom (n : Nat) : Nat → Nat → Nat
  | 0, r => r
  | k + 1, r => let c := r + 2 ^ k; isqrtFrom n k (if c * c ≤ n then c else r)

/-- Integer square root. -/
def isqrt (n : Nat) : Nat := isqrtFrom n (Nat.log2 n / 2 + 1) 0

/-- e^r for r in [0, 1) in fixed point: `fuel` terms of the series from term number `n`. -/
def fxExpSeries (r : Nat) : Nat → Nat → Nat → Nat
  | 0, _, _ => 0
  | fuel + 1, n, t => t + fxExpSeries r fuel (n + 1) (t * r / 2 ^ fxBits / (n + 1))

/-- e^x or 2^x of a fixed-point x: (mantissa, exponent), the value being m · 2^e. -/
def fxExp (two : Bool) (x : Int) : Nat × Int :=
  let one : Int := 2 ^ fxBits
  let k := if two then x.fdiv one else x.fdiv fxLn2
  let r : Nat := if two then ((x - k * one).toNat * fxLn2) / 2 ^ fxBits else (x - k * fxLn2).toNat
  (fxExpSeries r 130 0 (2 ^ fxBits), k - fxBits)

/-- The series of erf without its factor 2/√π. -/
def fxErfSeries (x x2 : Nat) : Nat → Nat → Int → Int
  | 0, _, _ => 0
  | fuel + 1, n, t =>
    t / (2 * n + 1 : Nat) + fxErfSeries x x2 fuel (n + 1) (-(t * x2 / 2 ^ fxBits) / (n + 1 : Nat))

/-- A finite FP32 value as a fixed-point integer (exact: no FP32 exponent is below −149). -/
def fxOf (neg : Bool) (m : Nat) (e : Int) : Int := finInt neg m (e + fxBits) 0

/-- The exact result of a transcendental operation: a special code, or an approximation (sign, m, e) marked exact or not. -/
inductive TransVal where
  | code (bits : Nat)
  | approx (neg : Bool) (m : Nat) (e : Int) (exact : Bool)
  deriving DecidableEq, Repr

/-- e^x and 2^x (VEXP). -/
def transExp (two : Bool) (x : Num) : TransVal :=
  match x with
  | .nan => .code 0x7FC00000
  | .inf neg => .code (if neg then 0 else 0x7F800000)
  | .fin neg m e =>
    if m = 0 then .code 0x3F800000
    else if Num.cmp (.fin false m e) (.fin false 1 9) ≥ 0 then
      (if neg then .approx false 1 (-2000) false else .approx false 1 2000 false)
    else
      let r := fxExp two (fxOf neg m e)
      .approx false r.1 r.2 (two && decide (0 ≤ e ∨ m % 2 ^ (-e).toNat = 0) && decide (-149 * 2 ^ fxBits ≤ fxOf neg m e))

/-- 1/x (VRCP). -/
def transRcp (x : Num) : TransVal :=
  match x with
  | .nan => .code 0x7FC00000
  | .inf neg => .code (if neg then 0x80000000 else 0)
  | .fin neg m e =>
    if m = 0 then .code (if neg then 0xFF800000 else 0x7F800000)
    else .approx neg (2 ^ 200 / m) (-200 - e) (2 ^ 200 % m = 0)

/-- 1/√x (VRSQRT). -/
def transRsqrt (x : Num) : TransVal :=
  match x with
  | .nan => .code 0x7FC00000
  | .inf neg => .code (if neg then 0x7FC00000 else 0)
  | .fin neg m e =>
    if m = 0 then .code (if neg then 0xFF800000 else 0x7F800000)
    else if neg then .code 0x7FC00000
    else
      let k : Nat := if (e % 2 : Int) = 0 then 400 else 401
      let q := 2 ^ k / m
      let y := isqrt q
      .approx false y (-((e + k) / 2)) (decide (2 ^ k % m = 0) && decide (y * y = q))

/-- tanh x (VTANH). -/
def transTanh (x : Num) : TransVal :=
  match x with
  | .nan => .code 0x7FC00000
  | .inf neg => .code (if neg then 0xBF800000 else 0x3F800000)
  | .fin neg m e =>
    if m = 0 then .code (if neg then 0x80000000 else 0)
    else if Num.cmp (.fin false m e) (.fin false 20 0) ≥ 0 then .approx neg (2 ^ 30 - 1) (-30) false
    else
      let r := fxExp false (fxOf false m (e + 1))
      let k := r.2 + fxBits
      let one := 2 ^ fxBits
      let em1 := r.1 * 2 ^ k.toNat - one
      .approx neg (em1 * one / (em1 + 2 * one)) (-(fxBits : Int)) false

/-- erf x (VERF). -/
def transErf (x : Num) : TransVal :=
  match x with
  | .nan => .code 0x7FC00000
  | .inf neg => .code (if neg then 0xBF800000 else 0x3F800000)
  | .fin neg m e =>
    if m = 0 then .code (if neg then 0x80000000 else 0)
    else if Num.cmp (.fin false m e) (.fin false 4 0) ≥ 0 then .approx neg (2 ^ 30 - 1) (-30) false
    else
      let xf := (fxOf false m e).toNat
      let s := fxErfSeries xf (xf * xf / 2 ^ fxBits) 240 0 xf
      .approx neg (s.toNat * fxTwoRtPi / 2 ^ fxBits) (-(fxBits : Int)) false

/-- Turn the exact result into FP32 bits: exact values as they are, one of 2^128 or above, which is more than 1 ulp beyond the largest
finite value, as infinity, and others to a neighbour the free value chooses (R57). -/
def transBits (op : Nat) (input : W32) (v : TransVal) : W32 :=
  match v with
  | .code b => BitVec.ofNat 32 b
  | .approx neg m e exact =>
    let lo := if m = 0 then 0 else fpRoundMag fp32 .rtz m e
    let mag := if lo > fpMax fp32 then fpMax fp32 + 1 else if exact then lo else if Config.transAway op input then lo + 1 else lo
    BitVec.ofNat 32 (fpSign fp32 neg mag)

end Sys2Proof.Machine
end

