-- ==== Sys2Proof/Machine/TileV.lean ====
section
/-! DEFINITION. The V0 and V1 slots: the vector unit (spec/02 R56 to R58, spec/05 R143 to R146). `pipe` is false for V0. -/

namespace Sys2Proof.Machine

/-! ## Lanes by type (R51, R56, R136) -/

/-- The value of a lane by TY: 0 FP32, 1 BF16, 2 FP16. -/
def laneIn (ty : Nat) (w : W32) : Num :=
  match ty with
  | 1 => fpDecode bf16 (w.toNat / 65536)
  | 2 => fpDecode fp16 (w.toNat % 65536)
  | _ => f32 w

/-- A value rounded to FP32, and for BF16 and FP16 then to the lane format (R56), in its lane position (R51). -/
def laneOut (ty : Nat) (x : Num) : W32 :=
  match ty with
  | 1 => BitVec.ofNat 32 (fpRound bf16 .rne (f32 (toF32 x)) * 65536)
  | 2 => BitVec.ofNat 32 (fpRound fp16 .rne (f32 (toF32 x)))
  | _ => toF32 x

/-- The bits of a lane that hold its value (R51). -/
def laneKeep (ty : Nat) (w : W32) : W32 :=
  match ty with
  | 1 => w &&& 0xFFFF0000
  | 2 => w &&& 0x0000FFFF
  | _ => w

/-- The sign bit of a lane type. -/
def laneSign (ty : Nat) : W32 := if ty = 2 then 0x8000 else 0x80000000

/-- Is an FP lane a NaN? -/
def laneIsNan (ty : Nat) (w : W32) : Bool := laneIn ty w = .nan

/-- Minimum or maximum of two lanes (R144). -/
def laneMinMax (isMax : Bool) (ty : Nat) (a b : W32) : W32 :=
  if ty = 3 then (if (a.slt b) != isMax then a else b)
  else
    let x := laneIn ty a
    let y := laneIn ty b
    if x = .nan && y = .nan then laneOut ty .nan
    else if x = .nan then laneKeep ty b
    else if y = .nan then laneKeep ty a
    else if x.isZero && y.isZero then
      (if (if isMax then x.neg? && y.neg? else x.neg? || y.neg?) then laneSign ty else 0)
    else if (Num.cmp x y < 0) != isMax then laneKeep ty a else laneKeep ty b

/-- Saturate an exact sum to INT32. -/
def satI32 (v : Int) : W32 := BitVec.ofInt 32 (if v > 2 ^ 31 - 1 then 2 ^ 31 - 1 else if v < -(2 ^ 31) then -(2 ^ 31) else v)

/-- FP to INT32 with saturation; NaN gives 0 (R145). -/
def toI32 (r : RMode) (x : Num) : W32 :=
  match x with
  | .nan => 0
  | .inf n => satI32 (if n then -(2 ^ 40) else 2 ^ 40)
  | .fin n m e => let k := roundTo r m e 0; satI32 (if n then -(k : Int) else k)

/-- INT32 as an exact value. -/
def ofI32 (w : W32) : Num := .fin (decide (w.toInt < 0)) w.toInt.natAbs 0

/-! ## The shape of a vector operation -/

/-- The slot of a pipe. -/
def vslot (pipe : Bool) : Nat := if pipe then 2 else 1

/-- Latency items of R178: INT32 adds, logic, shifts and compares take VEC_INT, their FP forms VEC_FP. -/
def vItem (ty : Nat) : Nat := if ty = 3 then 3 else 4

/-- Count a vector operation issued (TILE_PERF_VEC). -/
def State.countVec (t : Nat) (s : State) : State := s.wrapOvf (Reg.TILE_PERF_VEC_COUNT t) (Reg.TILE_PERF_VEC_OVF t) 1

/-- Issue a vector operation and count it. -/
def State.vop (t : Nat) (pipe : Bool) (op : Nat) (eff : Nat → State → State) (s : State) : State :=
  s.issue t (vslot pipe) op (fun w s => eff w (s.countVec t))

/-- Lane `i` of operand B: a V register, or the low 32 bits of an S register (R143). -/
def Tile.laneB (x : Tile) (w i : Nat) : W32 :=
  if w.testBit 31 then (x.s (bits w 18 5)).setWidth 32 else x.lane (bits w 18 5) i

/-- Guard bit of lane `i` (R56). -/
def Tile.guard (x : Tile) (w i : Nat) : Bool := (x.p (bits w 28 3)).getLsbD i

/-- The cells of a lane-wise result: guarded lanes only. -/
def Tile.laneCells (x : Tile) (w : Nat) (f : Nat → W32) : List (Nat × Nat × Nat) :=
  ((List.range 64).filter (x.guard w)).map (fun i => (i, (f i).toNat, 0xFFFFFFFF))

/-- A lane-wise operation into VD: `f` gives lane i from the tile and the operation's word. -/
def State.vlanes (t : Nat) (pipe : Bool) (op : Nat) (item : Nat → Nat) (f : Tile → Nat → Nat → W32) (s : State) : State :=
  s.vop t pipe op (fun w s =>
    let x := s.tile t
    s.result t (vslot pipe) (kV (bits w 8 5)) (s.lat t (item w)) (x.laneCells w (f x w)))

/-- TY of an operation's word. -/
def vty (w : Nat) : Nat := bits w 32 2

/-- A two-operand operation on lanes A and B. -/
def vbin (f : Nat → W32 → W32 → W32) (x : Tile) (w i : Nat) : W32 := f (vty w) (x.lane (bits w 13 5) i) (x.laneB w i)

/-- A one-operand operation on lane A. -/
def vun (f : Nat → W32 → W32) (x : Tile) (w i : Nat) : W32 := f (vty w) (x.lane (bits w 13 5) i)

/-- The item of a two-speed operation. -/
def itemTy (w : Nat) : Nat := vItem (vty w)

/-- The cells of a predicate result: bit i of `f` where the guard is 1 (R144). -/
def Tile.predCells (x : Tile) (w : Nat) (f : Nat → Bool) : List (Nat × Nat × Nat) :=
  let m := (x.p (bits w 28 3)).toNat
  [(0, ((List.range 64).filter f).foldl (fun a i => a + 2 ^ i) 0, m)]

/-- FP or INT32 addition, subtraction, multiplication. -/
def laneAdd2 (ty : Nat) (a b : W32) : W32 := if ty = 3 then a + b else laneOut ty ((laneIn ty a).addIeee (laneIn ty b))
def laneSub2 (ty : Nat) (a b : W32) : W32 := if ty = 3 then a - b else laneOut ty ((laneIn ty a).addIeee (laneIn ty b).negate)
def laneMul2 (ty : Nat) (a b : W32) : W32 := if ty = 3 then a * b else laneOut ty ((laneIn ty a).mulIeee (laneIn ty b))
def laneFma (ty : Nat) (a b c : W32) : W32 := laneOut ty (((laneIn ty a).mulIeee (laneIn ty b)).addIeee (laneIn ty c))
def laneAbs (ty : Nat) (a : W32) : W32 :=
  if ty = 3 then (if a.msb then -a else a) else laneKeep ty a &&& ~~~(laneSign ty)
def laneNeg (ty : Nat) (a : W32) : W32 := if ty = 3 then -a else laneKeep ty a ^^^ laneSign ty

/-- One level of the fixed reduction tree: value i with value i + half (R58). -/
def treeLevel {α : Type} (f : α → α → α) (l : List α) : List α := List.zipWith f (l.take (l.length / 2)) (l.drop (l.length / 2))

/-- The six levels of the tree. -/
def treeReduce {α : Type} (f : α → α → α) (l : List α) : List α :=
  treeLevel f (treeLevel f (treeLevel f (treeLevel f (treeLevel f (treeLevel f l)))))

/-- The FP or INT32 sum of 64 lanes: FP sums round at every node in FP32 and once more to TY (R144). -/
def laneSum (ty : Nat) (l : List W32) : W32 :=
  if ty = 3 then (treeReduce (· + ·) l).headD 0
  else laneOut ty ((treeReduce (fun a b => f32 (toF32 (a.addIeee b))) (l.map (laneIn ty))).headD .nan)

/-- A reduction, given to every guarded lane. -/
def State.vred (t : Nat) (pipe : Bool) (op : Nat) (f : Nat → List W32 → W32) (s : State) : State :=
  s.vop t pipe op (fun w s =>
    let x := s.tile t
    let r := f (vty w) (x.v (bits w 13 5))
    s.result t (vslot pipe) (kV (bits w 8 5)) (s.lat t 6) (x.laneCells w (fun _ => r)))

/-- VCVT of one lane (R145). BF16 to FP32 changes no bits, also of a NaN: R145 says so of this conversion, and R72's canonical NaN is the
general rule (DEDUCED, log entry 73); INT32 converts by RNE whatever mode is named. -/
def laneCvt (ty tgt : Nat) (r : RMode) (a : W32) : W32 :=
  if ty = tgt then a
  else if ty = 1 && tgt = 0 then a &&& 0xFFFF0000
  else if tgt = 3 then toI32 r (laneIn ty a)
  else
    let x := if ty = 3 then ofI32 a else laneIn ty a
    let r := if ty = 3 then .rne else r
    match tgt with
    | 1 => BitVec.ofNat 32 (fpRound bf16 r x * 65536)
    | 2 => BitVec.ofNat 32 (fpRound fp16 r x)
    | _ => toF32 x

/-- A number of `n` 32-bit lanes from lane `lo` under a bit mask, as cells of a V register. -/
def vCells (lo n v m : Nat) : List (Nat × Nat × Nat) :=
  (List.range n).map (fun j => (lo + j, bits v (32 * j) 32, bits m (32 * j) 32))

/-- The 64 elements of VPACK, and the scales of an MX format (R93 to R95, R98, R146). -/
def packElems (fmt : Nat) (rm : Nat → RMode) (q : Int) (xs : List Num) : List Nat × List Nat :=
  if elemScaled fmt then
    let bs := (chunksOf 32 2 xs).zipIdx.map (fun b => convBlock fmt (fun i => rm (32 * b.2 + i)) b.1)
    (bs.flatMap (fun b => b.2), bs.map (fun b => b.1))
  else (xs.zipIdx.map (fun p =>
    match fmt with
    | 0 => fpRound e4m3 (rm p.2) p.1
    | 1 => fpRound e5m2 (rm p.2) p.1
    | _ => toInt8 .rne q p.1), [])

/-- Scale and sub-scale of element `i` for VUNPACK: E8M0 bytes of VC, or Clove-4 scale words (R79, R146). -/
def Tile.unpackScale (x : Tile) (fmt vc sj i : Nat) : Nat × Nat :=
  if fmt = 9 then
    let sw := (x.lane vc (2 * sj + i / 32)).toNat
    (sw % 256, bits sw (8 + 4 * (i % 32 / 8)) 4)
  else ((x.vbytes vc).getD (2 * sj + i / 32) 0 |>.toNat, 0)

/-! ## The operations -/

/-- VNOP: nothing but its issue. It performs no operation, and TILE_PERF_VEC does not count it (DESIGN CHOICE, log entry 74). -/
def execVnop (t : Nat) (pipe : Bool) (s : State) : Host.Outcome State Fault Refusal :=
  .next (s.issue t (vslot pipe) 0x00 (fun _ s => s))

/-- VADD: VD = VA + VB (R144). -/
def execVadd (t : Nat) (pipe : Bool) (s : State) : Host.Outcome State Fault Refusal :=
  .next (s.vlanes t pipe 0x01 itemTy (vbin laneAdd2))

/-- VSUB: VD = VA − VB (R144). -/
def execVsub (t : Nat) (pipe : Bool) (s : State) : Host.Outcome State Fault Refusal :=
  .next (s.vlanes t pipe 0x02 itemTy (vbin laneSub2))

/-- VMUL: VD = VA × VB, item VEC_FP for every TY (R144). -/
def execVmul (t : Nat) (pipe : Bool) (s : State) : Host.Outcome State Fault Refusal :=
  .next (s.vlanes t pipe 0x03 (fun _ => 4) (vbin laneMul2))

/-- VFMA: VD = VA × VB + VC with one rounding (R144). -/
def execVfma (t : Nat) (pipe : Bool) (s : State) : Host.Outcome State Fault Refusal :=
  .next (s.vlanes t pipe 0x04 (fun _ => 4) ((fun x w i => laneFma (vty w) (x.lane (bits w 13 5) i) (x.laneB w i) (x.lane (bits w 23 5) i))))

/-- VMIN: the minimum, by the NaN and zero rules (R144). -/
def execVmin (t : Nat) (pipe : Bool) (s : State) : Host.Outcome State Fault Refusal :=
  .next (s.vlanes t pipe 0x05 itemTy (vbin (laneMinMax false)))

/-- VMAX: the maximum, by the NaN and zero rules (R144). -/
def execVmax (t : Nat) (pipe : Bool) (s : State) : Host.Outcome State Fault Refusal :=
  .next (s.vlanes t pipe 0x06 itemTy (vbin (laneMinMax true)))

/-- VABS: the magnitude (R144). -/
def execVabs (t : Nat) (pipe : Bool) (s : State) : Host.Outcome State Fault Refusal :=
  .next (s.vlanes t pipe 0x07 itemTy (vun laneAbs))

/-- VNEG: the negation (R144). -/
def execVneg (t : Nat) (pipe : Bool) (s : State) : Host.Outcome State Fault Refusal :=
  .next (s.vlanes t pipe 0x08 itemTy (vun laneNeg))

/-- VADDS: saturating addition (R144). -/
def execVadds (t : Nat) (pipe : Bool) (s : State) : Host.Outcome State Fault Refusal :=
  .next (s.vlanes t pipe 0x09 (fun _ => 3) (vbin (fun _ a b => satI32 (a.toInt + b.toInt))))

/-- VSUBS: saturating subtraction (R144). -/
def execVsubs (t : Nat) (pipe : Bool) (s : State) : Host.Outcome State Fault Refusal :=
  .next (s.vlanes t pipe 0x0A (fun _ => 3) (vbin (fun _ a b => satI32 (a.toInt - b.toInt))))

/-- VAND: bitwise AND (R144). -/
def execVand (t : Nat) (pipe : Bool) (s : State) : Host.Outcome State Fault Refusal :=
  .next (s.vlanes t pipe 0x10 (fun _ => 3) (vbin (fun _ a b => a &&& b)))

/-- VOR: bitwise OR (R144). -/
def execVor (t : Nat) (pipe : Bool) (s : State) : Host.Outcome State Fault Refusal :=
  .next (s.vlanes t pipe 0x11 (fun _ => 3) (vbin (fun _ a b => a ||| b)))

/-- VXOR: bitwise XOR (R144). -/
def execVxor (t : Nat) (pipe : Bool) (s : State) : Host.Outcome State Fault Refusal :=
  .next (s.vlanes t pipe 0x12 (fun _ => 3) (vbin (fun _ a b => a ^^^ b)))

/-- VANDN: VA AND NOT VB (R144). -/
def execVandn (t : Nat) (pipe : Bool) (s : State) : Host.Outcome State Fault Refusal :=
  .next (s.vlanes t pipe 0x13 (fun _ => 3) (vbin (fun _ a b => a &&& ~~~b)))

/-- VSHL: shift left by VB[4:0] (R144). -/
def execVshl (t : Nat) (pipe : Bool) (s : State) : Host.Outcome State Fault Refusal :=
  .next (s.vlanes t pipe 0x14 (fun _ => 3) (vbin (fun _ a b => a <<< (b.toNat % 32))))

/-- VSHR: logical shift right by VB[4:0] (R144). -/
def execVshr (t : Nat) (pipe : Bool) (s : State) : Host.Outcome State Fault Refusal :=
  .next (s.vlanes t pipe 0x15 (fun _ => 3) (vbin (fun _ a b => a >>> (b.toNat % 32))))

/-- VSRA: arithmetic shift right by VB[4:0] (R144). -/
def execVsra (t : Nat) (pipe : Bool) (s : State) : Host.Outcome State Fault Refusal :=
  .next (s.vlanes t pipe 0x16 (fun _ => 3) (vbin (fun _ a b => a.sshiftRight (b.toNat % 32))))

/-- VCMP: a predicate of the condition, where the guard is 1 (R144). -/
def execVcmp (t : Nat) (pipe : Bool) (s : State) : Host.Outcome State Fault Refusal :=
  .next (s.vop t pipe 0x18 (fun w s =>
    let x := s.tile t
    s.result t (vslot pipe) (kP (bits w 8 5)) (s.lat t (itemTy w)) (x.predCells w (fun i =>
      let a := x.lane (bits w 13 5) i
      let b := x.laneB w i
      if vty w = 3 then condInt32 (bits w 34 3) a b else condFp (bits w 34 3) (laneIn (vty w) a) (laneIn (vty w) b)))))

/-- VSEL: lane i of VA where bit i of P[VC] is 1, of VB elsewhere (R144). -/
def execVsel (t : Nat) (pipe : Bool) (s : State) : Host.Outcome State Fault Refusal :=
  .next (s.vlanes t pipe 0x19 (fun _ => 3) (fun x w i => if (x.p (bits w 23 3)).getLsbD i then x.lane (bits w 13 5) i else x.laneB w i))

/-- VMOV: VD = VB, or the broadcast scalar (R144). -/
def execVmov (t : Nat) (pipe : Bool) (s : State) : Host.Outcome State Fault Refusal :=
  .next (s.vlanes t pipe 0x1A (fun _ => 3) (fun x w i => x.laneB w i))

/-- VINS: lane IMM[5:0] of VD = S[VB][31:0] (R144). -/
def execVins (t : Nat) (pipe : Bool) (s : State) : Host.Outcome State Fault Refusal :=
  .next (s.vop t pipe 0x1B (fun w s =>
    let x := s.tile t
    s.result t (vslot pipe) (kV (bits w 8 5)) (s.lat t 3)
      ((x.laneCells w (fun _ => (x.s (bits w 18 5)).setWidth 32)).filter (fun c => c.1 = bits w 34 6))))

/-- VEXTS: S[VD] = lane IMM[5:0] of VA, zero-extended (R144). -/
def execVexts (t : Nat) (pipe : Bool) (s : State) : Host.Outcome State Fault Refusal :=
  .next (s.vop t pipe 0x1C (fun w s =>
    s.result t (vslot pipe) (kS (bits w 8 5)) (s.lat t 3)
      [(0, ((s.tile t).lane (bits w 13 5) (bits w 34 6)).toNat, 2 ^ 64 - 1)]))

/-- VIOTA: lane i = i (R144). -/
def execViota (t : Nat) (pipe : Bool) (s : State) : Host.Outcome State Fault Refusal :=
  .next (s.vlanes t pipe 0x1D (fun _ => 3) (fun _ _ i => BitVec.ofNat 32 i))

/-- VPERM: VD lane i = VA lane (VB lane i [5:0]) (R144). -/
def execVperm (t : Nat) (pipe : Bool) (s : State) : Host.Outcome State Fault Refusal :=
  .next (s.vlanes t pipe 0x1E (fun _ => 4) (fun x w i => x.lane (bits w 13 5) ((x.laneB w i).toNat % 64)))

/-- VPLOG: P[VD] = f(P[VA], P[VB]) by the truth table IMM[3:0] (R144). -/
def execVplog (t : Nat) (pipe : Bool) (s : State) : Host.Outcome State Fault Refusal :=
  .next (s.vop t pipe 0x1F (fun w s =>
    let x := s.tile t
    s.result t (vslot pipe) (kP (bits w 8 5)) (s.lat t 3) (x.predCells w (fun i =>
      let a := if (x.p (bits w 13 3)).getLsbD i then 2 else 0
      let b := if (x.p (bits w 18 3)).getLsbD i then 1 else 0
      (bits w 34 4).testBit (a + b)))))

/-- VRSUM: the sum of the lanes in the fixed tree (R58, R144). -/
def execVrsum (t : Nat) (pipe : Bool) (s : State) : Host.Outcome State Fault Refusal := .next (s.vred t pipe 0x20 laneSum)

/-- VRMAX: the maximum of the lanes in the fixed tree (R58, R144). -/
def execVrmax (t : Nat) (pipe : Bool) (s : State) : Host.Outcome State Fault Refusal :=
  .next (s.vred t pipe 0x21 (fun ty l => (treeReduce (laneMinMax true ty) l).headD 0))

/-- VRMIN: the minimum of the lanes in the fixed tree (R58, R144). -/
def execVrmin (t : Nat) (pipe : Bool) (s : State) : Host.Outcome State Fault Refusal :=
  .next (s.vred t pipe 0x22 (fun ty l => (treeReduce (laneMinMax false ty) l).headD 0))

/-- VCVT: lane type conversion (R98, R145). A conversion from INT32 rounds by RNE, so it draws no numbers and takes none (R97). -/
def execVcvt (t : Nat) (pipe : Bool) (s : State) : Host.Outcome State Fault Refusal :=
  .next (s.vop t pipe 0x24 (fun w s =>
    let x := s.tile t
    let rm := bits w 36 2
    let ctx := s.slotCtx t (vslot pipe) (x.s (bits w 18 5))
    (if vty w = 3 then s else s.takeQ t rm).result t (vslot pipe) (kV (bits w 8 5)) (s.lat t 4)
      (x.laneCells w (fun i => laneCvt (vty w) (bits w 34 2) (rmodeOf rm ctx i) (x.lane (bits w 13 5) i)))))

/-- VPACK: 64 FP32 lanes to packed elements, each guarded element written; MX scales to VC (R146). -/
def execVpack (t : Nat) (pipe : Bool) (s : State) : Host.Outcome State Fault Refusal :=
  .next (s.vop t pipe 0x25 (fun w s =>
    let x := s.tile t
    let fmt := bits w 34 4
    let off := bits w 38 4
    let rm := bits w 42 2
    let sj := bits w 44 4
    let ctx := s.slotCtx t (vslot pipe) (x.s (bits w 18 5))
    let r := packElems fmt (rmodeOf rm ctx) (shiftOf (x.s (bits w 18 5))) ((x.v (bits w 13 5)).map f32)
    let ew := elemBits fmt
    let v := (r.1.zipIdx.map (fun p => p.1 * 2 ^ (ew * p.2))).sum
    let m := (((List.range 64).filter (x.guard w)).map (fun i => (2 ^ ew - 1) * 2 ^ (ew * i))).sum
    let l := s.lat t (if elemScaled fmt then 5 else 4)
    let s1 := (s.takeQ t rm).result t (vslot pipe) (kV (bits w 8 5)) l (vCells (4 * off) (2 * ew) v m)
    if elemScaled fmt then
      let g (b : Nat) : Nat := if (List.range 32).any (fun i => x.guard w (32 * b + i)) then 255 else 0
      let sh := 8 * (2 * sj % 4)
      s1.result t (vslot pipe) (kV (bits w 23 5)) l
        [(2 * sj / 4, (r.2.getD 0 0 + 256 * r.2.getD 1 0) * 2 ^ sh, (g 0 + 256 * g 1) * 2 ^ sh)]
    else s1))

/-- VUNPACK: 64 packed elements to FP32 lanes (R98, R146). -/
def execVunpack (t : Nat) (pipe : Bool) (s : State) : Host.Outcome State Fault Refusal :=
  .next (s.vlanes t pipe 0x26 (fun _ => 4) (fun x w i =>
    let fmt := bits w 34 4
    let ew := elemBits fmt
    let sc := x.unpackScale fmt (bits w 23 5) (bits w 44 4) i
    let v := leAt (x.vbytes (bits w 13 5)) (16 * bits w 38 4) (8 * ew)
    toF32 (elemValue fmt (elemAt v ew i) sc.1 sc.2)))

/-- A transcendental of one lane: FP32, rounded to the lane type (R56, R57). -/
def laneTrans (op ty : Nat) (f : Num → TransVal) (a : W32) : W32 :=
  let i := laneKeep ty a
  laneOut ty (f32 (transBits op i (f (f32 i))))

/-- VEXP: e^x, or 2^x when IMM[0] is 1 (R57, R144). -/
def execVexp (t : Nat) (s : State) : Host.Outcome State Fault Refusal :=
  .next (s.vlanes t true 0x30 (fun _ => 7) (fun x w i =>
    let two := w.testBit 34
    laneTrans (if two then 1 else 0) (vty w) (transExp two) (x.lane (bits w 13 5) i)))

/-- VRCP: 1/x (R57, R144). -/
def execVrcp (t : Nat) (s : State) : Host.Outcome State Fault Refusal :=
  .next (s.vlanes t true 0x31 (fun _ => 7) (vun (fun ty => laneTrans 2 ty transRcp)))

/-- VRSQRT: 1/√x (R57, R144). -/
def execVrsqrt (t : Nat) (s : State) : Host.Outcome State Fault Refusal :=
  .next (s.vlanes t true 0x32 (fun _ => 7) (vun (fun ty => laneTrans 3 ty transRsqrt)))

/-- VTANH: tanh x (R57, R144). -/
def execVtanh (t : Nat) (s : State) : Host.Outcome State Fault Refusal :=
  .next (s.vlanes t true 0x33 (fun _ => 7) (vun (fun ty => laneTrans 4 ty transTanh)))

/-- VERF: erf x (R57, R144). -/
def execVerf (t : Nat) (s : State) : Host.Outcome State Fault Refusal :=
  .next (s.vlanes t true 0x34 (fun _ => 7) (vun (fun ty => laneTrans 5 ty transErf)))

end Sys2Proof.Machine
end

