-- ==== Sys2Proof/Machine/Bobbin.lean ====
section
/-! DEFINITION. The bobbin operations (spec/04 R99 to R127; spec/03 R77 to R98). -/

namespace Sys2Proof.Machine

/-! ## Posting (R103 to R108) -/

/-- Tile registers a descriptor will write: its destination, and the scale register of a scaled DECODE. -/
def descDsts (n : Nat) : List Nat :=
  if outBytes n ≠ 0 && dKind n = 1 then
    kT (dReg n) :: (if dOp n = 0x10 && fmtScaled (dFmt n) then [kT (dSreg n)] else [])
  else []

/-- LBOB: post the descriptor in lanes 0–15 of V[RD] to the step queue of the bobbin its TIER names above the site; a full queue is
0x0501, and a descriptor that fails a check of R108 is discarded with its code (R103 to R109, R133, R148). -/
def execLbob (t : Nat) (s : State) : Host.Outcome State Fault Refusal :=
  .next (s.issue t 3 0x20 (fun w s =>
    let x := s.tile t
    let n := natOf ((x.vbytes (bits w 8 5)).take 64)
    let has : Bool := decide (dTier n < s.tiers)
    let b := if has then bobAt (dTier n) t else bobAt 0 t
    let code := s.checkDesc b true (s.panelOfTile t) n
    if has && (s.bob b).stepQ.length ≥ 8 then s.bobFull b (dOp n)
    else if code ≠ St.OK then s.bobFault b code (dOp n)
    else match (descDsts n).find? x.pendingDest with
      | some d => s.tileFault t St.DEST_PENDING (s.siteBits t + 1024 * d) x.cy
      | none =>
        (s.setTile t ((descDsts n).foldl (fun y d => y.clear s.clk.edge d) x)).updBob b (fun y => { y with
          stepQ := y.stepQ ++ [⟨BitVec.ofNat 512 n, .step (bits w 51 3), x.cy⟩] })))

/-! ## Movement (R111) -/

/-- Bytes the tile gives: a register, or scratchpad whose checks are tested (R109, R289). -/
def State.tileSource (s : State) (t n : Nat) : List Byte :=
  if dKind n = 1 then (s.tile t).tbytes (dReg n) 0 (inBytes n) else (s.tile t).spBytes (dAddr n) (inBytes n)

/-- The state after the tile-side source is read. -/
def State.readSource (t n : Nat) (s : State) : State := if dKind n = 1 then s else s.spCheck t (dAddr n) (inBytes n)

/-- XFER_UP: stack bytes to the tile (R111). -/
def execXferUp (b : Nat) (s : State) : Host.Outcome State Fault Refusal :=
  .next (s.runStep b 0x01 (fun n _ s =>
    let a := stackAddr (dPage n) (dOff n)
    { st := s.bobCheck b a (dLen n) true, out := (s.bob b).bytes a (dLen n), bad := (s.bob b).anyBad b a (dLen n) }))

/-- XFER_DOWN: tile bytes to the stack (R111). -/
def execXferDown (b : Nat) (s : State) : Host.Outcome State Fault Refusal :=
  .next (s.runStep b 0x02 (fun n m s =>
    let bs := s.tileSource (bobTile b) n
    let s1 := s.readSource (bobTile b) n
    { st := if m then s1 else s1.bobWrite b (stackAddr (dPage n) (dOff n)) bs false }))

/-- APPEND: up to 4,096 tile bytes at any byte offset, through the merge buffer (R111, R123). -/
def execAppend (b : Nat) (s : State) : Host.Outcome State Fault Refusal :=
  .next (s.runStep b 0x03 (fun n m s =>
    let bs := s.tileSource (bobTile b) n
    let s1 := s.readSource (bobTile b) n
    { st := if m then s1 else s1.bobWrite b (stackAddr (dPage n) (dOff n)) bs true }))

/-- ACT_LOAD: tile bytes to the activation buffer (R111). -/
def execActLoad (b : Nat) (s : State) : Host.Outcome State Fault Refusal :=
  .next (s.runStep b 0x04 (fun n m s =>
    let bs := s.tileSource (bobTile b) n
    let s1 := s.readSource (bobTile b) n
    { st := if m then s1 else s1.updBob b (fun x => { x with
        act := ssetList 0 x.act (dOff2 n) bs
        actBad := runsDel x.actBad (dOff2 n / 8) ((dOff2 n + bs.length) / 8) }) }))

/-- LIST_LOAD: 4-byte entries to the list store (R111). -/
def execListLoad (b : Nat) (s : State) : Host.Outcome State Fault Refusal :=
  .next (s.runStep b 0x05 (fun n m s =>
    let bs := s.tileSource (bobTile b) n
    let s1 := s.readSource (bobTile b) n
    let es := (List.range (dCount n)).map (fun i => BitVec.ofNat 32 (leAt bs (4 * i) 4))
    { st := if m then s1 else s1.updBob b (fun x => { x with
        list := ssetList 0 x.list (dOff2 n) es
        listBad := runsDel x.listBad (dOff2 n / 2) ((dOff2 n + dCount n + 1) / 2) }) }))

/-! ## Weight decode (R77 to R80, R112 to R114) -/

/-- Element format code of a decoded weight (R112). -/
def outCode (n : Nat) : Nat :=
  let f := dFmt n
  if f ≤ 9 then f else if f = 10 then 2 else if f ≤ 12 then 11 else if f = 13 then dCbFmt n else 3 + dCbFmt n

/-- Codes of `k` elements of a plane from element `e0`, as stored. -/
def Bobbin.packed (x : Bobbin) (ew base e0 k : Nat) : List Nat :=
  let lo := ew * e0 / 8
  let v := natOf (x.bytes (base + lo) (cdiv (ew * (e0 + k)) 8 - lo)) / 2 ^ (ew * e0 % 8)
  (List.range k).map (fun i => elemAt v ew i)

/-- Codebook entry numbers of the groups of 8 that hold elements [e0, e0 + k) (R80). -/
def Bobbin.groups (x : Bobbin) (base e0 k : Nat) : List Nat :=
  (List.range (cdiv (e0 + k) 8 - e0 / 8)).map (fun g => leAt (x.bytes (base + 2 * (e0 / 8 + g)) 2) 0 2)

/-- Codes of `k` weights from element `e0`, as the decode path gives them (R112). -/
def Bobbin.weights (x : Bobbin) (n base e0 k : Nat) : List Nat :=
  let f := dFmt n
  if 13 ≤ f then
    let gs := x.groups base e0 k
    (List.range k).map (fun i =>
      let e := e0 + i
      (sget 0 x.cb.bytes (8 * gs.getD (e / 8 - e0 / 8) 0 + e % 8)).toNat)
  else
    let cs := x.packed (fmtEw f) base e0 k
    if f = 10 then cs.map (fun c => if c ≥ 8 then c + 240 else c)
    else if f = 12 then cs.map (fun c => fpRound bf16 .rne (fpDecode fp16 c))
    else cs

/-- Scale byte and sub-scale of element `e` (R75, R78 to R80). -/
def Bobbin.scale (x : Bobbin) (n base e : Nat) : Nat × Nat :=
  let f := dFmt n
  if f = 9 then
    let v := natOf (x.bytes (base + e / 32 * 4) 4)
    (bits v 0 8, bits v (8 + 4 * (e % 32 / 8)) 4)
  else if f = 14 then (natOf (x.bytes (base + e / 256) 1), 0)
  else if fmtScaled f then (natOf (x.bytes (base + e / 32) 1), 0)
  else (0, 0)

/-- Test the words of a plane's elements and scales. -/
def State.planeCheck (b n e0 e1 : Nat) (s : State) : State :=
  let w := elemSpan (dFmt n) e0 e1
  let sc := scaleSpan (dFmt n) e0 e1
  let s1 := s.bobCheck b (stackAddr (dPage n) 0 + w.1) (w.2 - w.1) true
  if fmtScaled (dFmt n) then s1.bobCheck b (stackAddr (dSpage n) 0 + sc.1) (sc.2 - sc.1) true else s1

/-- Does a word of those fail its check? -/
def Bobbin.planeBad (x : Bobbin) (b n e0 e1 : Nat) : Bool :=
  let w := elemSpan (dFmt n) e0 e1
  let sc := scaleSpan (dFmt n) e0 e1
  x.anyBad b (stackAddr (dPage n) 0 + w.1) (w.2 - w.1) ||
    (fmtScaled (dFmt n) && x.anyBad b (stackAddr (dSpage n) 0 + sc.1) (sc.2 - sc.1))

/-- The codebook entries among `gs` that fail their check (R282). -/
def Bobbin.badEntries (x : Bobbin) (b : Nat) (gs : List Nat) : List Nat :=
  gs.eraseDups.filter (fun g => x.cb.syndrome Space.codebook b g ≠ 0)

/-- Log the failing codebook entries a step read, as DATA detections of SPACE 3, and taint the step (R289, R292). -/
def State.entryCheck (b : Nat) (gs : List Nat) (s : State) : State :=
  ((s.bob b).badEntries b gs).foldl (fun s g =>
    ((s.detectBobStore b 3 g ((s.bob b).cb.syndrome Space.codebook b g)).wr (Reg.BOB_FLAGS_DETECT b) 1).taint (s.panelOfBob b) .data) s

/-- The codebook agrees with the descriptor (R108 order 7). -/
def State.cbOk (s : State) (b n : Nat) : Bool :=
  dFmt n < 13 || (s.bit (Reg.BOB_CB_VALID b) && s.rd (Reg.BOB_CB_CB_ID b) = dCbId n)

/-- A step descriptor whose codebook does not agree when it starts is discarded, its code logged, the panel faulted (R108). -/
def State.cbGuard (b op : Nat) (body : Nat → Bool → State → BobEff) (s : State) : State :=
  match s.stepReady b op with
  | some (n, _, _) =>
    if s.cbOk b n then s.runStep b op body
    else (s.updBob b (fun x => { x with stepQ := x.stepQ.drop 1 })).bobFault b St.BOB_CODEBOOK_MISMATCH op
  | none => s

/-- DECODE: one 4 KiB B operand in the layout of R40, and its scales in the B areas of the scale register (R41, R112, R113). -/
def execDecodeOp (b : Nat) (s : State) : Host.Outcome State Fault Refusal :=
  .next (s.cbGuard b 0x10 (fun n _ s =>
    let x := s.bob b
    let k := fmtDepth (dFmt n)
    let base := stackAddr (dPage n) 0
    let sbase := stackAddr (dSpage n) 0
    let ew := elemBits (outCode n)
    let first (c : Nat) : Nat := (dRow0 n + c) * dRowlen n + dK0 n
    let cols := List.range (dNcol n)
    let slot (c : Nat) : List Byte :=
      if c < dNcol n then bytesOf 64 (((x.weights n base (first c) k).zipIdx.map (fun p => p.1 * 2 ^ (ew * p.2))).sum)
      else List.replicate 64 0
    let sbytes := (List.range 64).flatMap (fun c => (List.range (k / 32)).map (fun i =>
      if c < dNcol n then BitVec.ofNat 8 (x.scale n sbase (first c + 32 * i)).1 else (0 : Byte)))
    let subs := (List.range 64).flatMap (fun c => (List.range 8).map (fun i =>
      if c < dNcol n then
        BitVec.ofNat 8 ((x.scale n sbase (first c + 16 * i)).2 + 16 * (x.scale n sbase (first c + 16 * i + 8)).2) else (0 : Byte)))
    let gs := if 13 ≤ dFmt n then cols.flatMap (fun c => x.groups base (first c) k) else []
    let s1 := cols.foldl (fun s c => s.planeCheck b n (first c) (first c + k)) s
    { st := s1.entryCheck b gs
      out := (List.range 64).flatMap slot
      scells := if fmtScaled (dFmt n) then tCells 0x800 sbytes ++ (if dFmt n = 9 then tCells 0xC00 subs else []) else []
      bad := cols.any (fun c => x.planeBad b n (first c) (first c + k)) || !(x.badEntries b gs).isEmpty }))

/-- What CB_LOAD does: eight pages into the codebook store, and its tag (R80, R114). -/
def State.loadCodebook (b n : Nat) (step : Bool) (s : State) : BobEff :=
  let x := s.bob b
  let a := stackAddr (dPage n) 0
  let bs := x.bytes a 524288
  let s1 := s.bobCheck b a 524288 step
  let s2 := s1.updBob b (fun y => { y with
    cb := { bytes := ssetList 0 [] 0 bs, written := runsAdd [] 0 65536, syn := [], poison := [] }
    cbDesc := BitVec.ofNat 512 n })
  { st := (s2.wr (Reg.BOB_CB_CB_ID b) (dCbId n)).wr (Reg.BOB_CB_VALID b) 1, bad := x.anyBad b a 524288 }

/-- CB_LOAD, from the step queue or the service queue (R114). -/
def execCbLoad (b : Nat) (svc : Bool) (s : State) : Host.Outcome State Fault Refusal :=
  .next (if svc then (s.runSvc b 0x11 (fun n m s => if m then { st := s } else s.loadCodebook b n false)).afterService b
    else s.runStep b 0x11 (fun n m s => if m then { st := s } else s.loadCodebook b n true))

/-! ## GEMV (R115 to R117) -/

/-- Activation element code of A_FMT. -/
def actCode (f : Nat) : Nat := if f = 0 then 0 else if f = 1 then 1 else if f = 2 then 11 else 2

/-- `k` activations of element code `c` from byte `off` of the activation buffer. -/
def Bobbin.acts (x : Bobbin) (c off k : Nat) : List Num :=
  let w := elemBits c
  let v := natOf (sgetList 0 x.act off (w / 8 * k))
  (List.range k).map (fun i => elemDecode c (elemAt v w i))

/-- Words of 64 bits of the activation buffer in [lo, hi) whose parity fails. -/
def Bobbin.badActs (x : Bobbin) (lo hi : Nat) : List Nat :=
  (List.range (cdiv hi 8 - lo / 8)).filterMap (fun i => if runsMem x.actBad (lo / 8 + i) then some (lo / 8 + i) else none)

/-- Log parity failures of the activation buffer or the list store, as DATA detections of SPACE 5 (R288). -/
def State.parityCheck (b : Nat) (ws : List Nat) (s : State) : State :=
  ws.foldl (fun s w => ((s.detectBobStore b 5 w 0).wr (Reg.BOB_FLAGS_DETECT b) 1).taint (s.panelOfBob b) .data) s

/-- Rounding draws of a bobbin's conversion: the bobbin's own number, its tier, the virtual position of the tile below (R97). -/
def State.bobCtx (s : State) (b : Nat) (seed : Nat) : SrCtx :=
  let c := s.srCtx (bobTile b) (BitVec.ofNat 64 seed)
  { c with tier := bobTier b, q := (s.bob b).q }

/-- Output format code (R140) of a GEMV's OUT_FMT. -/
def gOfmtCode (f : Nat) : Nat := if f = 0 then 0 else if f = 1 then 1 else if f = 2 then 3 else if f = 3 then 4 else 5

/-- The output bytes of a GEMV over its lanes (R116). -/
def gemvOut (n : Nat) (ctx : SrCtx) (anchor : Int) (lanes : List Int) : List Byte :=
  if gOut n = 2 then laneBytes lanes
  else if gOut n = 1 then
    rowBytes (gOfmtCode (gOfmt n)) (convRow (gOfmtCode (gOfmt n)) (rmodeOf (dRm n) ctx) 0 (gShift n) (lanes.map (laneNum anchor))).1
  else []

/-- GEMV: every product W[n][k] × x[v][k] exactly, with its scales, into lane v × N + n, and the output (R115 to R117, R124). -/
def execGemv (b : Nat) (s : State) : Host.Outcome State Fault Refusal :=
  .next (s.cbGuard b 0x20 (fun n _ s =>
    let x := s.bob b
    let kk := gK n
    let nn := gN n
    let nv := gNv n
    let base := stackAddr (dPage n) 0
    let sbase := stackAddr (dSpage n) 0
    let ac := actCode (gAfmt n)
    let aw := elemBits ac / 8
    let anchor := if dStart n then gAnchor n else x.anchor
    let off (v : Nat) : Bool := dSlot n ≠ 0xFFFF && x.mask.getLsbD ((dSlot n + v) % 512)
    let vec (v : Nat) : List Num := if off v then List.replicate kk (.fin false 0 0) else x.acts ac (v * kk * aw) kk
    let row (r : Nat) : List Num :=
      (x.weights n base (r * kk) kk).zipIdx.map (fun p =>
        let sc := x.scale n sbase (r * kk + p.2)
        elemValue (outCode n) p.1 sc.1 sc.2)
    let rows := (List.range nn).map row
    let old : List Int := if dStart n then List.replicate (nv * nn) 0 else sgetList 0 x.lanes 0 (nv * nn)
    let sums := (List.range nv).flatMap (fun v => rows.zipIdx.map (fun r =>
      dotInto anchor 1 r.1 (vec v) (old.getD (v * nn + r.2) 0)))
    let lanes := sums.map (fun p => p.1)
    let ovf := (!dStart n && x.ovf) || sums.any (fun p => p.2)
    let gs := if 13 ≤ dFmt n then x.groups base 0 (nn * kk) else []
    let acts := x.badActs 0 (nv * kk * aw)
    let sr : Bool := gOut n == 1 && dRm n == 2
    let s1 := ((s.planeCheck b n 0 (nn * kk)).entryCheck b gs).parityCheck b acts
    let s2 := s1.updBob b (fun y => { y with
      lanes := if dStart n then ssetList 0 [] 0 lanes else ssetList 0 y.lanes 0 lanes
      anchor := anchor, ovf := ovf, q := if sr then y.q + 1 else y.q })
    { st := s2.countMacs b (nn * kk * nv)
      out := gemvOut n (s.bobCtx b (gSeed n)) anchor lanes
      ovf := ovf
      bad := x.planeBad b n 0 (nn * kk) || !(x.badEntries b gs).isEmpty || !acts.isEmpty }))

/-! ## Attention (R118 to R120) -/

/-- FP32 operations of R120, each rounded to nearest even. -/
def fmul (a b : W32) : W32 := toF32 ((f32 a).mulIeee (f32 b))
def fadd (a b : W32) : W32 := toF32 ((f32 a).addIeee (f32 b))
def fsub (a b : W32) : W32 := toF32 ((f32 a).addIeee (f32 b).negate)
def ffma (a b c : W32) : W32 := toF32 (((f32 a).mulIeee (f32 b)).addIeee (f32 c))

/-- exp2 by the bobbin's fixed algorithm, within 1 ulp (R120): its own operation number (log entry 20). -/
def fexp2 (a : W32) : W32 := transBits 0x130 a (transExp true (f32 a))

/-- Element code of KV_FMT and Q_FMT. -/
def kvCode (f : Nat) : Nat := if f = 0 then 0 else if f = 1 then 1 else 11

/-- Negative infinity. -/
def negInf32 : W32 := 0xFF800000

/-- m, l and o of one query. -/
structure AttnAcc where
  m : W32 := negInf32
  l : W32 := 0
  o : List W32
  ovf : Bool := false

/-- One page of the walk for one query: scores, the running maximum, and the sums (R120). `kv` gives each attended token's K and V
rows in ascending order. -/
def attnPage (anchor : Int) (scale : W32) (q : List Num) (kv : List (List Num × List W32)) (a : AttnAcc) : AttnAcc :=
  let sc := kv.map (fun r =>
    let lane := dotInto anchor 1 q r.1 0
    (fmul (toF32 (laneNum anchor lane.1)) scale, lane.2))
  let mNew := sc.foldl (fun m s => laneMinMax true 0 m s.1) a.m
  let c := if a.m = negInf32 then 0 else fexp2 (fsub a.m mNew)
  let ps := sc.map (fun s => fexp2 (fsub s.1 mNew))
  let l := ps.foldl fadd (fmul a.l c)
  let o := (ps.zip kv).foldl (fun o p => List.zipWith (fun od v => ffma p.1 v od) o p.2.2) (a.o.map (fun d => fmul d c))
  { m := mNew, l := l, o := o, ovf := a.ovf || sc.any (fun s => s.2) }

/-- The stack page of a list entry. -/
def Bobbin.listPage (x : Bobbin) (i : Nat) : Nat := (sget 0 x.list i).toNat % 2 ^ 20

/-- Attended rows of the page of walk index `i`: first row and number (R118, R119). -/
def attnRows (n i : Nat) : Nat × Nat :=
  let lo := max (aWin n) (i * aTpp n)
  let hi := min (aTokens n) ((i + 1) * aTpp n)
  (lo - i * aTpp n, hi - lo)

/-- Record bytes of a query. -/
def AttnAcc.bytes (a : AttnAcc) : List Byte :=
  bytesOf 4 a.m.toNat ++ bytesOf 4 a.l.toNat ++ List.replicate 56 0 ++ a.o.flatMap (fun d => bytesOf 4 d.toNat)

/-- The effect of an ATTN (R118 to R120). An overflow of the lane of its scores shows in the descriptor's OVF flag; the engine's sticky flag,
which a GEMV with START = 1 clears, stays as it is (DESIGN CHOICE, log entry 85). -/
def State.attnEff (b n : Nat) (s : State) : BobEff :=
  let x := s.bob b
  let hd := aHd n
  let w := if aKv n = 2 then 2 else 1
  let kc := kvCode (aKv n)
  let qc := kvCode (aQf n)
  let qw := elemBits qc / 8
  let idx := List.range (aEntries n)
  let addr (i : Nat) : Nat := stackAddr (x.listPage (aBase n + i)) 0 + (attnRows n i).1 * hd * w
  let len (i : Nat) : Nat := (attnRows n i).2 * hd * w
  let rowAt (a r : Nat) : List Nat := let v := natOf (x.bytes (a + r * hd * w) (hd * w)); (List.range hd).map (elemAt v (8 * w))
  let kv (i : Nat) : List (List Num × List W32) := (List.range (attnRows n i).2).map (fun r =>
    ((rowAt (addr i) r).map (elemDecode kc), (rowAt (addr i + 32768) r).map (fun c => toF32 (elemDecode kc c))))
  let accs := (List.range (aNq n)).map (fun q =>
    idx.foldl (fun a i => attnPage (aAnchor n) (BitVec.ofNat 32 (aScale n)) (x.acts qc (q * hd * qw) hd) (kv i) a)
      { o := List.replicate hd 0 })
  let ws := idx.filter (fun i => runsMem x.listBad ((aBase n + i) / 2))
  let acts := x.badActs 0 (aNq n * hd * qw)
  let s1 := idx.foldl (fun s i => (s.bobCheck b (addr i) (len i) true).bobCheck b (addr i + 32768) (len i) true) s
  let s2 := (s1.parityCheck b (ws.map (fun i => (aBase n + i) / 2)).eraseDups).parityCheck b acts
  { st := s2.countMacs b (2 * hd * aNq n * (idx.map (fun i => (attnRows n i).2)).sum)
    out := accs.flatMap AttnAcc.bytes
    ovf := accs.any (fun a => a.ovf)
    bad := idx.any (fun i => x.anyBad b (addr i) (len i) || x.anyBad b (addr i + 32768) (len i)) || !ws.isEmpty || !acts.isEmpty }

/-- The code of the first listed page a walk may not use: not owned by the panel, or not held in this bobbin (R108). -/
def State.listCode (s : State) (b n : Nat) : Code :=
  let pages := (List.range (aEntries n)).map (fun i => (s.bob b).listPage (aBase n + i))
  if pages.any (fun g => s.panelOfPage g ≠ s.panelOfBob b) then St.BOB_FOREIGN
  else if pages.any (fun g => s.bobOfPage g ≠ some b) then St.BOB_PAGE_REMOTE
  else St.OK

/-- ATTN: attention of up to eight queries over the listed KV pages; the listed pages are checked when the walk starts (R118 to R120,
R126). -/
def execAttn (b : Nat) (s : State) : Host.Outcome State Fault Refusal :=
  .next (match s.stepReady b 0x30 with
    | none => s
    | some (n, _, _) =>
      let code := s.listCode b n
      if code ≠ St.OK then (s.updBob b (fun x => { x with stepQ := x.stepQ.drop 1 })).bobFault b code 0x30
      else s.runStep b 0x30 (fun n _ s => s.attnEff b n))

/-! ## Page moves (R121, R123) -/

/-- Write back the merge entries of a range (R121). -/
def State.flushRange (b a n : Nat) (s : State) : State := (bobWords a n).foldl (fun s w => s.bobWriteBack b w) s

/-- What COPY does. -/
def State.copyEff (b n : Nat) (m step : Bool) (s : State) : BobEff :=
  let a := stackAddr (dPage n) (dOff n)
  let s1 := s.flushRange b a (dLen n)
  let bs := (s1.bob b).bytes a (dLen n)
  let s2 := s1.bobCheck b a (dLen n) step
  { st := if m then s2 else s2.bobWrite b (stackAddr (dPage2 n) (dOff2 n)) bs false, bad := (s1.bob b).anyBad b a (dLen n) }

/-- COPY, from the step queue or the service queue (R121). -/
def execCopyOp (b : Nat) (svc : Bool) (s : State) : Host.Outcome State Fault Refusal :=
  .next (if svc then s.runSvc b 0x40 (fun n m s => s.copyEff b n m false) else s.runStep b 0x40 (fun n m s => s.copyEff b n m true))

/-- What FILL does. -/
def State.fillEff (b n : Nat) (m : Bool) (s : State) : BobEff :=
  { st := if m then s else s.bobZero b (stackAddr (dPage n) (dOff n)) (dLen n) }

/-- FILL, from the step queue or the service queue: zero words with valid check fields (R121). -/
def execFillOp (b : Nat) (svc : Bool) (s : State) : Host.Outcome State Fault Refusal :=
  .next (if svc then s.runSvc b 0x41 (fun n m s => s.fillEff b n m) else s.runStep b 0x41 (fun n m s => s.fillEff b n m))

/-- SEND: the range as elastic packets of 512-byte payloads from the tile below (R121). -/
def execSendOp (b : Nat) (s : State) : Host.Outcome State Fault Refusal :=
  .next (s.runSvc b 0x42 (fun n m s =>
    let a := stackAddr (dPage n) (dOff n)
    let s1 := s.flushRange b a (dLen n)
    let bs := (s1.bob b).bytes a (dLen n)
    let s2 := s1.bobCheck b a (dLen n) false
    { st := if m then s2 else (chunksOf 512 bs.length bs).zipIdx.foldl (fun s c =>
        s.send (epBob b) { dst := sDest n, src := s.feid (epBob b), tenant := s.tenantOf (s.panelOfBob b), tc := 1, op := POp.write,
                           knv := dSig n, knot := dKnot n, len := (c.1.length + 63) / 64, addr := sAddr n + 512 * c.2,
                           payload := pad64 c.1 }) s2
      bad := (s1.bob b).anyBad b a (dLen n) }))

/-- FLUSH, from the step queue or the service queue: every merge entry is written back (R123). -/
def execFlush (b : Nat) (svc : Bool) (s : State) : Host.Outcome State Fault Refusal :=
  .next (if svc then s.runSvc b 0x43 (fun _ m s => { st := if m then s else s.bobFlush b })
    else s.runStep b 0x43 (fun _ m s => { st := if m then s else s.bobFlush b }))

/-! ## Results, inbound packets, merge write-back (R105, R106, R122, R123) -/

/-- Words of a scratchpad result that have come down by bobbin cycle `c`: 128 bytes each cycle, the last at the stated one. -/
def BobResult.avail (r : BobResult) (c : Nat) : Nat := 4 * (c + r.phase - r.at_) - r.entered

/-- May the result do something at bobbin cycle `c`? -/
def BobResult.acts (r : BobResult) (c : Nat) (x : Tile) (e : Nat) : Bool :=
  if r.words ≠ [] then 0 < r.avail c && x.vertBuf.length < 16 && (x.vertAt ≠ e || x.vertN < 4)
  else r.at_ ≤ c && !(r.dreg.toList ++ r.sreg.toList).any (fun d => x.isCaptured e (kT d))

/-- A result is present: registers written and present, flags, and the knot signalled; the flags of a scratchpad result come with its
last word (R106). -/
def State.presentResult (b : Nat) (r : BobResult) (s : State) : State :=
  let t := bobTile b
  let x := s.tile t
  let put (d : Option Nat) (cs : List (Nat × Nat × Nat)) (y : Tile) : Tile :=
    match d with | some k => (y.wrCells (kT k) cs).present (kT k) | none => y
  let x1 := put r.sreg r.scells (put r.dreg r.cells x)
  let x2 := if r.viaPort || r.pd = 0 then x1 else (x1.wrCell (kP r.pd) (0, r.flags, 3)).present (kP r.pd)
  let s1 := s.setTile t x2
  match r.sig with
  | some k => s1.sendKnot (epBob b) (s1.tenantOf (s1.panelOfBob b)) k 0 0 0 1
  | none => s1

/-- BOB_RESULT_PRESENT: words of a scratchpad result enter the tile's vertical port, at most four on one edge for the whole site while it has room; a result
whose bobbin cycle has come is present (R102, R105, R106). -/
def execBobResultPresent (b : Nat) (s : State) : Host.Outcome State Fault Refusal :=
  let x := s.bob b
  let t := bobTile b
  let y := s.tile t
  let c := y.cy / 2
  .next (match x.results.zipIdx.find? (fun r => r.1.acts c y s.clk.edge) with
    | none => s
    | some (r, i) =>
      if r.words ≠ [] then
        let e := s.clk.edge
        let used := if y.vertAt = e then y.vertN else 0
        let n := min (min (4 - used) (16 - y.vertBuf.length)) (r.avail c)
        let ws := (r.words.take n).map (fun w => { w with since := e })
        let r1 := { r with words := r.words.drop n, entered := r.entered + n }
        (s.setTile t { y with vertBuf := y.vertBuf ++ ws, vertAt := e, vertN := used + n }).updBob b (fun z => { z with results := lmod z.results i (fun _ => r1) })
      else (s.updBob b (fun z => { z with results := z.results.eraseIdx i })).presentResult b r)

/-- The spool a packet of a park mover belongs to (R383; DESIGN CHOICE, log entry 76). -/
def State.moverSpool (s : State) (p : Packet) : Option Nat :=
  if panels16.any (fun q => p.src = s.feid (epHost (48 + q))) && (sget {} s.spools p.addr).move.isSome then some p.addr else none

/-- BOBBIN_WRITE_PACKET: a packet to a bobbin endpoint writes stack words behind an 8-byte prefix; one that fails a check is dropped
and logged, and counts no arrival; one whose data does not fit the 4 KiB inbound buffer stays where it is, and so withholds its credit
(R122, R159, R296). -/
def execBobbinWritePacket (b : Nat) (s : State) : Host.Outcome State Fault Refusal :=
  .next (match (if s.clk.inWindow then none else s.ejected (epBob b) (fun _ => true)) with
    | none => s
    | some (i, f) =>
      if !s.bobOn b then s.demand (domOfBob b) else
      let p := f.pkt
      let v := leAt p.payload 0 8
      let page := bits v 0 20
      let off := bits v 20 16
      let n := bits v 36 10
      let pages := pageSpan page off n
      let owner := s.panelOfPage page
      let drop (code : Code) (q : Option Nat) : State := (s.dropFlight i).logN code q page p.src
      if p.op ≠ POp.write || n = 0 || n > 64 * p.len - 8 || off % 64 ≠ 0 || bits v 46 18 ≠ 0 then drop St.BOB_BAD_DESC none
      else if p.tenant ≠ 0 && pages.any (fun g => s.tenantOf (s.panelOfPage g) ≠ p.tenant || (s.panelOfPage g).isNone) then
        drop St.BOB_FOREIGN owner
      else if pages.any (fun g => s.bobOfPage g ≠ some b) then drop St.BOB_PAGE_REMOTE owner
      else if pages.any s.isRetired then drop St.RETIRED_TARGET owner
      else
        if (s.bob b).inboundUsed + n > 4096 then s
        else (s.dropFlight i).updBob b (fun x => { x with inbound := x.inbound ++
          [⟨stackAddr page off, (p.payload.drop 8).take n, if p.knv then some (p.knot, p.npkt, p.tenant, p.src) else none, s.moverSpool p⟩] }))

/-- BOB_MERGE_WRITEBACK: an entry whose mask is full is written as a whole word, in a cycle on which no step descriptor uses the write port
(R107, R123). -/
def execBobMergeWriteback (b word : Nat) (s : State) : Host.Outcome State Fault Refusal :=
  .next (match (s.bob b).mergeOf word with
    | some e => if e.mask = BitVec.allOnes 64 && s.bobOn b && !s.writePortBusy b then s.bobWriteBack b word else s
    | none => s)

/-- PATROL_PASS: the bobbin reads every weight page it holds once in each period, two words a cycle of the read port, which no step
descriptor uses (R107, R125, R129, R288, R293, R294). -/
def execPatrolPass (b : Nat) (s : State) : Host.Outcome State Fault Refusal :=
  let period := max 10 (s.rd Reg.INT_PATROL_CTL_PERIOD_MS) * 1000000
  let g := s.integ
  let newPass : Bool := reached s.now (g.patrolAt + BitVec.ofNat 64 period)
  let s0 := if newPass then ({ s with integ := { g with patrolAt := s.now, patrolDone := [] } }).wrap Reg.INT_PATROL_CTL_PASSES 1
    else s
  .next (if !s.bit Reg.INT_PATROL_CTL_ENABLE || !s.bobActive b || !s.bobOn b || s.readPortBusy b || s0.integ.patrolDone.contains b then s
    else
      let kv := match s.panelOfBob b with | some p => s.rd (Reg.BOB_PNL_SPLIT_KV_FIRST p) | none => 0
      let ws := (List.range (1024 * kv)).filter (fun w => s0.isWeightPage (s0.pageOf b (w / 1024)))
      let s1 := { s0 with integ := { s0.integ with patrolDone := nins b s0.integ.patrolDone } }
      let s2 := s1.wrapOvf (Reg.BOB_PERF_READ_COUNT b) (Reg.BOB_PERF_READ_OVF b) (cdiv ws.length 2)
      (ws.foldl (fun s w => s.detectStack b w false true) s2).afterService b)

end Sys2Proof.Machine
end

