-- ==== Sys2Proof/Machine/Crypto.lean ====
section
/-! DEFINITION. Codes and digests over bytes: the check field of R282, the frame CRC of R219, SHA-384 and the check of an ECDSA
signature on brainpoolP384r1. The spec names the last three by their published standards; their constants are from those (log entry
7, PRESUMED). -/

namespace Sys2Proof.Machine

/-- One byte through CRC-16, polynomial 0x1021, most significant bit first (R282). -/
def crc16Byte (c : Nat) (b : Byte) : Nat :=
  (List.range 8).foldl (fun c _ => let c2 := c * 2 % 65536; if c ≥ 32768 then c2 ^^^ 0x1021 else c2) (c ^^^ (b.toNat * 256))

/-- CRC-16 with initial value 0xFFFF, no reflection and no final XOR (R282). -/
def crc16 (bs : List Byte) : Nat := bs.foldl crc16Byte 0xFFFF

/-- One byte through CRC-32 of IEEE 802.3, least significant bit first (log entry 7). -/
def crc32Byte (c : Nat) (b : Byte) : Nat :=
  (List.range 8).foldl (fun c _ => if c % 2 = 1 then c / 2 ^^^ 0xEDB88320 else c / 2) (c ^^^ b.toNat)

/-- CRC-32 of IEEE 802.3 (R219). -/
def crc32 (bs : List Byte) : Nat := bs.foldl crc32Byte 0xFFFFFFFF ^^^ 0xFFFFFFFF

/-- The check of a stored word: over its address term (index, space tag) and its data (R282). -/
def wordCheck (space idx : Nat) (data : List Byte) : BitVec 16 :=
  BitVec.ofNat 16 (crc16 (bytesOf 4 (idx % 2 ^ 24 + space * 2 ^ 24) ++ data))

/-! ## SHA-384 (FIPS 180-4) -/

/-- The first 40 round constants. -/
def shaK1 : List Nat := [
  0x428A2F98D728AE22, 0x7137449123EF65CD, 0xB5C0FBCFEC4D3B2F, 0xE9B5DBA58189DBBC,
  0x3956C25BF348B538, 0x59F111F1B605D019, 0x923F82A4AF194F9B, 0xAB1C5ED5DA6D8118,
  0xD807AA98A3030242, 0x12835B0145706FBE, 0x243185BE4EE4B28C, 0x550C7DC3D5FFB4E2,
  0x72BE5D74F27B896F, 0x80DEB1FE3B1696B1, 0x9BDC06A725C71235, 0xC19BF174CF692694,
  0xE49B69C19EF14AD2, 0xEFBE4786384F25E3, 0x0FC19DC68B8CD5B5, 0x240CA1CC77AC9C65,
  0x2DE92C6F592B0275, 0x4A7484AA6EA6E483, 0x5CB0A9DCBD41FBD4, 0x76F988DA831153B5,
  0x983E5152EE66DFAB, 0xA831C66D2DB43210, 0xB00327C898FB213F, 0xBF597FC7BEEF0EE4,
  0xC6E00BF33DA88FC2, 0xD5A79147930AA725, 0x06CA6351E003826F, 0x142929670A0E6E70,
  0x27B70A8546D22FFC, 0x2E1B21385C26C926, 0x4D2C6DFC5AC42AED, 0x53380D139D95B3DF,
  0x650A73548BAF63DE, 0x766A0ABB3C77B2A8, 0x81C2C92E47EDAEE6, 0x92722C851482353B]

/-- The other 40 round constants. -/
def shaK2 : List Nat := [
  0xA2BFE8A14CF10364, 0xA81A664BBC423001, 0xC24B8B70D0F89791, 0xC76C51A30654BE30,
  0xD192E819D6EF5218, 0xD69906245565A910, 0xF40E35855771202A, 0x106AA07032BBD1B8,
  0x19A4C116B8D2D0C8, 0x1E376C085141AB53, 0x2748774CDF8EEB99, 0x34B0BCB5E19B48A8,
  0x391C0CB3C5C95A63, 0x4ED8AA4AE3418ACB, 0x5B9CCA4F7763E373, 0x682E6FF3D6B2B8A3,
  0x748F82EE5DEFB2FC, 0x78A5636F43172F60, 0x84C87814A1F0AB72, 0x8CC702081A6439EC,
  0x90BEFFFA23631E28, 0xA4506CEBDE82BDE9, 0xBEF9A3F7B2C67915, 0xC67178F2E372532B,
  0xCA273ECEEA26619C, 0xD186B8C721C0C207, 0xEADA7DD6CDE0EB1E, 0xF57D4F7FEE6ED178,
  0x06F067AA72176FBA, 0x0A637DC5A2C898A6, 0x113F9804BEF90DAE, 0x1B710B35131C471B,
  0x28DB77F523047D84, 0x32CAAB7B40C72493, 0x3C9EBE0A15C9BEBC, 0x431D67C49C100D4C,
  0x4CC5D4BECB3E42B6, 0x597F299CFC657E2A, 0x5FCB6FAB3AD6FAEC, 0x6C44198C4A475817]

/-- The initial hash value. -/
def sha384Init : List Nat := [
  0xCBBB9D5DC1059ED8, 0x629A292A367CD507, 0x9159015A3070DD17, 0x152FECD8F70E5939,
  0x67332667FFC00B31, 0x8EB44A8768581511, 0xDB0C2E0D64F98FA7, 0x47B5481DBEFA4FA4]

/-- A big-endian number from bytes. -/
def natOfBE (bs : List Byte) : Nat := bs.foldl (fun a b => a * 256 + b.toNat) 0

/-- `n` bytes of a number, most significant first. -/
def bytesBE (n v : Nat) : List Byte := (bytesOf n v).reverse

/-- A 64-bit word rotated right. -/
def rotr64 (x k : Nat) : Nat := x >>> k ||| x <<< (64 - k) % 2 ^ 64

/-- The message schedule: 64 more words from the first 16, newest first. -/
def shaExtend : Nat → List Nat → List Nat
  | 0, w => w
  | n + 1, w =>
    let a := w.getD 1 0
    let b := w.getD 14 0
    let s1 := rotr64 a 19 ^^^ rotr64 a 61 ^^^ a >>> 6
    let s0 := rotr64 b 1 ^^^ rotr64 b 8 ^^^ b >>> 7
    shaExtend n ((s1 + w.getD 6 0 + s0 + w.getD 15 0) % 2 ^ 64 :: w)

/-- One round on the eight working words. -/
def shaRound (v : List Nat) (kw : Nat × Nat) : List Nat :=
  match v with
  | [a, b, c, d, e, f, g, h] =>
    let t1 := h + (rotr64 e 14 ^^^ rotr64 e 18 ^^^ rotr64 e 41) + ((e &&& f) ^^^ ((2 ^ 64 - 1 - e) &&& g)) + kw.1 + kw.2
    let t2 := (rotr64 a 28 ^^^ rotr64 a 34 ^^^ rotr64 a 39) + ((a &&& b) ^^^ (a &&& c) ^^^ (b &&& c))
    [(t1 + t2) % 2 ^ 64, a, b, c, (d + t1) % 2 ^ 64, e, f, g]
  | v => v

/-- One 128-byte block. -/
def shaBlock (h : List Nat) (blk : List Byte) : List Nat :=
  let w := (List.range 16).map (fun i => natOfBE ((blk.drop (8 * i)).take 8))
  let ws := (shaExtend 64 w.reverse).reverse
  List.zipWith (fun a b => (a + b) % 2 ^ 64) h (((shaK1 ++ shaK2).zip ws).foldl shaRound h)

/-- The blocks of a padded message; `fuel` bounds them. -/
def shaBlocks : Nat → List Nat → List Byte → List Nat
  | 0, h, _ => h
  | n + 1, h, bs => if bs.isEmpty then h else shaBlocks n (shaBlock h (bs.take 128)) (bs.drop 128)

/-- SHA-384 of bytes, as 48 bytes. -/
def sha384 (bs : List Byte) : List Byte :=
  let n := bs.length
  let pad := bs ++ [0x80] ++ List.replicate ((239 - n % 128) % 128) 0 ++ bytesBE 16 (8 * n)
  ((shaBlocks (pad.length / 128 + 1) sha384Init pad).take 6).flatMap (bytesBE 8)

/-- The digest as a 384-bit number, most significant byte first. -/
def digest384 (bs : List Byte) : BitVec 384 := BitVec.ofNat 384 (natOfBE (sha384 bs))

/-! ## ECDSA on brainpoolP384r1 (RFC 5639) -/

/-- The prime of the field. -/
def bpP : Nat := 0x8CB91E82A3386D280F5D6F7E50E641DF152F7109ED5456B412B1DA197FB71123ACD3A729901D1A71874700133107EC53
/-- The coefficient a. -/
def bpA : Nat := 0x7BC382C63D8C150C3C72080ACE05AFA0C2BEA28E4FB22787139165EFBA91F90F8AA5814A503AD4EB04A8C7DD22CE2826
/-- The coefficient b. -/
def bpB : Nat := 0x04A8C7DD22CE28268B39B55416F0447C2FB77DE107DCD2A62E880EA53EEB62D57CB4390295DBC9943AB78696FA504C11
/-- The base point. -/
def bpG : Nat × Nat :=
  (0x1D1C64F068CF45FFA2A63A81B7C13F6B8847A3E77EF14FE3DB7FCAFE0CBD10E8E826E03436D646AAEF87B2E247D4AF1E,
   0x8ABE1D7520F9C2A45CB1EB8E95CFD55262B70B29FEEC5864E19C054FF99129280E4646217791811142820341263C5315)
/-- The order of the base point. -/
def bpQ : Nat := 0x8CB91E82A3386D280F5D6F7E50E641DF152F7109ED5456B31F166E6CAC0425A7CF3AB6AF6B7FC3103B883202E9046565

/-- b ^ e mod m, by the low `n` bits of e. -/
def powMod (m : Nat) : Nat → Nat → Nat → Nat
  | 0, _, _ => 1 % m
  | n + 1, b, e => let r := powMod m n (b * b % m) (e / 2); if e % 2 = 1 then r * b % m else r

/-- The inverse modulo a 384-bit prime. -/
def invMod (m a : Nat) : Nat := powMod m 384 (a % m) (m - 2)

/-- A point in Jacobian coordinates: (x, y, z) is the point (x / z², y / z³); z = 0 is the point at infinity. -/
structure EcPoint where
  x : Nat
  y : Nat
  z : Nat
  deriving DecidableEq, Repr

/-- Twice a point. -/
def ecDouble (p : EcPoint) : EcPoint :=
  let yy := p.y * p.y % bpP
  let s := 4 * p.x * yy % bpP
  let zz := p.z * p.z % bpP
  let m := (3 * p.x * p.x + bpA * zz * zz) % bpP
  let x := (m * m + 2 * (bpP - s)) % bpP
  ⟨x, (m * (s + bpP - x) + 8 * (bpP - yy * yy % bpP)) % bpP, 2 * p.y * p.z % bpP⟩

/-- Sum of two points of the curve. -/
def ecAdd (p q : EcPoint) : EcPoint :=
  if p.z = 0 then q
  else if q.z = 0 then p
  else
    let zp := p.z * p.z % bpP
    let zq := q.z * q.z % bpP
    let u := p.x * zq % bpP
    let s := p.y * q.z * zq % bpP
    let h := (q.x * zp + bpP - u) % bpP
    let r := (q.y * p.z * zp + bpP - s) % bpP
    if h = 0 then (if r = 0 then ecDouble p else ⟨1, 1, 0⟩)
    else
      let hh := h * h % bpP
      let hhh := h * hh % bpP
      let v := u * hh % bpP
      let x := (r * r + bpP - hhh + 2 * (bpP - v)) % bpP
      ⟨x, (r * (v + bpP - x) + s * (bpP - hhh)) % bpP, p.z * q.z * h % bpP⟩

/-- k × P, by the low `n` bits of k. -/
def ecMul : Nat → Nat → EcPoint → EcPoint
  | 0, _, _ => ⟨1, 1, 0⟩
  | n + 1, k, p => let r := ecMul n (k / 2) (ecDouble p); if k % 2 = 1 then ecAdd r p else r

/-- Does the 96-byte signature (r, then s) over a message verify under the 96-byte public key (x, then y)? -/
def ecdsaOk (key sig msg : List Byte) : Bool :=
  let x := natOfBE (key.take 48)
  let y := natOfBE ((key.drop 48).take 48)
  let r := natOfBE (sig.take 48)
  let sv := natOfBE ((sig.drop 48).take 48)
  if x < bpP && y < bpP && y * y % bpP = (x * x * x + bpA * x + bpB) % bpP && 0 < r && r < bpQ && 0 < sv && sv < bpQ then
    let w := invMod bpQ sv
    let p := ecAdd (ecMul 384 (natOfBE (sha384 msg) * w % bpQ) ⟨bpG.1, bpG.2, 1⟩) (ecMul 384 (r * w % bpQ) ⟨x, y, 1⟩)
    p.z ≠ 0 && p.x * invMod bpP (p.z * p.z) % bpP % bpQ = r
  else false

/-- A point of the curve as two coordinates. -/
def ecAffine (p : EcPoint) : Nat × Nat :=
  let i := invMod bpP p.z
  (p.x * i % bpP * i % bpP, p.y * i % bpP * i % bpP * i % bpP)

/-- The 96-byte public key of a private scalar. -/
def ecPublic (d : Nat) : List Byte :=
  let q := ecAffine (ecMul 384 d ⟨bpG.1, bpG.2, 1⟩)
  bytesBE 48 q.1 ++ bytesBE 48 q.2

/-- The 96-byte signature of a message by a private scalar `d` with nonce `k`. -/
def ecdsaSign (d k : Nat) (msg : List Byte) : List Byte :=
  let r := (ecAffine (ecMul 384 k ⟨bpG.1, bpG.2, 1⟩)).1 % bpQ
  bytesBE 48 r ++ bytesBE 48 (invMod bpQ k * (natOfBE (sha384 msg) + r * d) % bpQ)

/-- HMAC-SHA-384 (RFC 2104) with a key of at most 128 bytes. -/
def hmac384 (key msg : List Byte) : List Byte :=
  let k := key ++ List.replicate (128 - key.length) 0
  sha384 (k.map (· ^^^ 0x5C) ++ sha384 (k.map (· ^^^ 0x36) ++ msg))

end Sys2Proof.Machine
end

