-- ==== Sys2Proof/Machine/Flash.lean ====
section
/-! DEFINITION. The QSPI NOR flash: its bytes, and the passes of a firmware update (spec/18 R449, R454, R462). -/

namespace Sys2Proof.Machine

/-- First byte of the flash partition region, behind the image slot (R449, R454). -/
abbrev partRegion : Nat := 0x400000

/-- Bytes of the flash; an erased byte reads 0xFF. -/
def State.flashRead (s : State) (a n : Nat) : List Byte := sgetList 0xFF s.boot.flash a n

/-- Does a write of the flash fail: absent, or an erase or program error? -/
def State.flashBad (s : State) : Bool := !s.boot.flashOk || s.boot.flashFail

/-- Erase bytes [lo, hi) of the flash. -/
def State.flashErase (lo hi : Nat) (s : State) : State := { s with boot := { s.boot with flash := seraseRange s.boot.flash lo hi } }

/-- Program bytes of the flash. -/
def State.flashWrite (a : Nat) (bs : List Byte) (s : State) : State :=
  { s with boot := { s.boot with flash := ssetList 0xFF s.boot.flash a bs } }

/-- The bytes an image's header and body hold. -/
def imageBytes (img : List Byte) : List Byte := img.take (4096 + leAt img 12 4)

/-- Passes 2 and 3 of a firmware update: the slot is programmed from a second read of host memory and read back. Where the second read, the
flash or what was programmed does not match what pass 1 verified, the slot holds no valid image, and the command completes with 0x0E11; a
DMA failure completes it with 0x0106 (R403, R462). -/
def State.finishUpdate (s : State) : State :=
  match s.boot.update with
  | none => s
  | some u =>
    let s1 := { s with boot := { s.boot with update := none } }
    match s.dmaFail u.fn u.at_ u.len with
    | some bad => s1.completeJob u.job St.DMA_ERROR bad 0
    | none =>
      let img := imageBytes (s.hostRead u.at_ u.len)
      let s2 := s1.flashWrite 0 img
      if s.flashBad || sha384 img ≠ u.digest || sha384 (s2.flashRead 0 img.length) ≠ u.digest then s1.completeJob u.job St.FLASH_ERROR 0 0
      else s2.completeJob u.job St.OK 0 0

end Sys2Proof.Machine
end

