-- ==== Sys2Proof/Machine/Integrity.lean ====
section
/-! DEFINITION. The integrity commands: fills and the retirement map (spec/11 R285, R296, R297). -/

namespace Sys2Proof.Machine

/-! ## MEM_FILL (R285) -/

/-- Pages of the grade. -/
def State.stackPages (s : State) : Nat := s.rd Reg.DEV_FEAT_MEM_STACK_PAGES

/-- Does a TARGET 0 range lie within the device? -/
def State.fillRange (s : State) (first count : Nat) : Bool :=
  1 ≤ count && count ≤ s.stackPages && first + count ≤ s.stackPages

/-- The pages of a fill. -/
def State.fillPages (s : State) (target first count : Nat) (p : Option Nat) : List Nat :=
  if target = 0 then (List.range count).map (first + ·)
  else if target = 1 then []
  else if target = 2 then (List.range s.stackPages).filter (fun g => s.panelOfPage g = p)
  else List.range s.stackPages

/-- The tiles whose scratchpads a fill writes. -/
def State.fillTiles (s : State) (target : Nat) (p : Option Nat) : List Nat :=
  if target = 1 then (p.map s.tilesOf).getD []
  else if target = 3 then (List.range 1088).filter s.active
  else []

/-- Is the page a weight page of a panel that is RUNNING or FROZEN (R285)? -/
def State.weightInUse (s : State) (g : Nat) : Bool :=
  s.isWeightPage g && (match s.panelOfPage g with
    | some p => s.pst p = PS.running || s.pst p = PS.frozen
    | none => false)

/-- A fill of the panel's scratchpads would write scratchpad ranges of its resident patterns while it is RUNNING, FROZEN or DRAINING
(R397). -/
def State.patternInUse (s : State) (p : Nat) : Bool := s.isLive p && (s.panel p).patterns.any (fun v => v.2.ranges ≠ [])

/-- The refusals of R285, in its order, and that of R397, which answers for scratchpads of a live panel that its patterns declare (DEDUCED,
log entry 88: R285's 0x060B stays for every other panel that is not STOPPED). -/
def State.fillRefused (s : State) (c : Cmd) : Option Code :=
  let t := c.fld 0 1
  let p := c.pnl
  if 3 < t then some St.INTEGRITY_REFUSED
  else if (t = 1 || t = 2) && (match p with | some q => s.pst q = PS.empty | none => true) then some St.INTEGRITY_REFUSED
  else if t = 0 && !s.fillRange (c.fld 4 4) (c.fld 8 4) then some St.INTEGRITY_REFUSED
  else
    let pages := s.fillPages t (c.fld 4 4) (c.fld 8 4) p
    if t = 0 && p.isSome && pages.any (fun g => s.pageOwner g ≠ p) then some St.INTEGRITY_REFUSED
    else if panels16.any (fun q => (t = 3 || (t = 1 && p = some q)) && s.patternInUse q) then some St.IMEM_IN_USE
    else if pages.any s.weightInUse then some St.INTEGRITY_REFUSED
    else if t = 1 && (match p with | some q => s.pst q ≠ PS.stopped | none => true) then some St.INTEGRITY_REFUSED
    else if t = 3 && panels16.any (fun q => s.pst q ≠ PS.empty && s.pst q ≠ PS.stopped) then some St.INTEGRITY_REFUSED
    else if pages.any s.isRetired then some St.RETIRED_TARGET
    else none

/-- A run of pages in parts of at most 32 pages that one service FILL can cover: first page and number (R111, R121). -/
def fillParts (r : Nat × Nat) : List (Nat × Nat) :=
  (List.range ((r.2 + 31) / 32 - r.1 / 32)).map (fun i =>
    let lo := max r.1 (32 * (r.1 / 32 + i))
    (lo, min r.2 (32 * (r.1 / 32 + i + 1)) - lo))

/-- The FILL descriptor of a part: no slot, whole pages (R111, R121). -/
def fillDesc (tier : Nat) (g : Nat × Nat) : BitVec 512 :=
  BitVec.ofNat 512 (0x41 + tier * 256 + 0xFFFF * 2 ^ 32 + g.1 * 2 ^ 128 + 65536 * g.2 * 2 ^ 164)

/-- Post the FILL of a part to the bobbin that holds it, for panel `p` or for the device's own work (R108, R121). -/
def State.postFill (p : Option Nat) (job : Nat) (g : Nat × Nat) (s : State) : State :=
  match s.bobOfPage g.1 with
  | some b => s.postSvc b (fillDesc (bobTier b) g) p (posterFill job)
  | none => s.svcFinish (posterFill job) St.OK

/-- MEM_FILL (0x0901): a VF names its own panel's pages, and no TARGET 3. -/
def specMemFill : CmdSpec where
  opcode := 0x0901
  vf := true
  used := usedBytes 0 1 ||| usedBytes 4 8
  foreign := fun c s =>
    c.fld 0 1 = 3 || (c.fld 0 1 = 0 && s.fillRange (c.fld 4 4) (c.fld 8 4) &&
      (s.fillPages 0 (c.fld 4 4) (c.fld 8 4) none).any (fun g => s.pageOwner g ≠ some (c.fn - 1)))
  body := fun j s =>
    let c := j.cmd
    match s.fillRefused c with
    | some code => s.complete j code
    | none =>
      let pages := (s.fillPages (c.fld 0 1) (c.fld 4 4) (c.fld 8 4) c.pnl).foldl (fun r g => runsAdd r g (g + 1)) []
      let parts := pages.flatMap fillParts
      let f : FillJob := { job := j.id, pages := pages, tiles := s.fillTiles (c.fld 0 1) c.pnl, left := parts.length }
      parts.foldl (fun s g => s.postFill (if c.fld 0 1 = 3 then none else c.pnl) j.id g)
        { s with integ := { s.integ with fills := s.integ.fills ++ [f] } }

/-- Write zero words over a stack page (R121, R285). -/
def State.zeroPage (g : Nat) (s : State) : State :=
  match s.bobOfPage g with
  | some b => s.bobZero b (65536 * (g % 128)) 65536
  | none => s

/-- Write zero words over a scratchpad; its merge entries are superseded (R285, log entry 9). -/
def State.zeroScratch (t : Nat) (s : State) : State :=
  s.updTile t (fun x => { x with scr := x.scr.zero Space.scratch 0 65536, merge := [] })

/-- MEM_FILL: starts a fill with zero words (R285). -/
def execMemFill (c : Cmd) (s : State) : Host.Outcome State Fault Refusal := .next (specMemFill.run c s)

/-- MEM_FILL_DONE: once its service FILLs have completed, the last scratchpad word of a fill is written, and the command completes, with
the code of a FILL that was refused if one was (R108, R285). -/
def execMemFillDone (job : Nat) (s : State) : Host.Outcome State Fault Refusal :=
  .next (match s.integ.fills.find? (fun f => f.job = job) with
    | none => s
    | some f =>
      if !f.tiles.all s.tileOn then (f.tiles.map domOfTile).foldl (fun s d => s.demand d) s
      else if f.left ≠ 0 then s
      else
      let s1 := { s with integ := { s.integ with fills := s.integ.fills.filter (fun g => g.job ≠ job) } }
      (f.tiles.foldl (fun s t => s.zeroScratch t) s1).completeJob job f.code 0 0)

/-! ## MEM_RETIRE (R297) -/

/-- The bobbin of an index B (R100). -/
def State.bobOfIndex (s : State) (i : Nat) : Option Nat := s.bobOfPage (128 * i)

/-- The tile an OBJECT names: GRID_X in [4:0], GRID_Y in [9:5]. -/
def State.retireTile (s : State) (o : Nat) : Nat := s.tileOfGrid (o % 32) (o / 32)

/-- The owner of an object, or none where it lies outside the range of its KIND. -/
def State.retireOwner (s : State) (kind o : Nat) : Option (Option Nat) :=
  if kind = 0 then (if o < s.stackPages then some (s.pageOwner o) else none)
  else if kind = 1 then (if 128 * o < s.stackPages then (s.bobOfIndex o).map s.panelOfBob else none)
  else if kind = 2 then (if o < 1024 then some (s.panelOfTile (s.retireTile o)) else none)
  else none

/-- Set a retirement; SUSPECT bits stay as they are (R297). -/
def Integ.retire (i : Integ) (kind o : Nat) : Integ :=
  if kind = 0 then { i with retired := nins o i.retired }
  else if kind = 1 then { i with bobRetired := nins o i.bobRetired }
  else { i with sparePending := nins o i.sparePending }

/-- Restore a page, a bobbin with the 128 pages from `page0`, or a tile, to one that has never failed (R297). -/
def Integ.restore (i : Integ) (kind o page0 : Nat) : Integ :=
  if kind = 0 then { i with retired := ndel o i.retired, suspect := ndel o i.suspect }
  else if kind = 1 then
    { i with bobRetired := ndel o i.bobRetired, bankFails := i.bankFails.filter (fun v => v.1 / 16 ≠ o)
             suspect := i.suspect.filter (fun g => g < page0 || page0 + 128 ≤ g) }
  else { i with sparePending := ndel o i.sparePending, tileFails := sdel i.tileFails o }

/-- The number the retirement map knows an object by: page ID, bobbin, or tile. -/
def State.retireKey (s : State) (kind o : Nat) : Nat :=
  if kind = 1 then (s.bobOfIndex o).getD 0 else if kind = 2 then s.retireTile o else o

/-- MEM_RETIRE (0x0902). -/
def specMemRetire : CmdSpec where
  opcode := 0x0902
  vf := false
  used := usedBytes 0 2 ||| usedBytes 4 4
  absent := fun c s => c.fld 0 1 = 2 && c.fld 4 4 < 1024 && s.rowDisabled (domOfTile (s.retireTile (c.fld 4 4)))
  body := fun j s =>
    let kind := j.cmd.fld 0 1
    let action := j.cmd.fld 1 1
    let o := j.cmd.fld 4 4
    match s.retireOwner kind o with
    | none => s.complete j St.INTEGRITY_REFUSED
    | some owner =>
      let owned := match owner with | some p => s.pst p ≠ PS.empty | none => false
      if 1 < action || (action = 1 && owned) then s.complete j St.INTEGRITY_REFUSED
      else
        let k := s.retireKey kind o
        let i := if action = 0 then s.integ.retire kind k else s.integ.restore kind k (128 * o)
        (panels16.foldl (fun (s : State) p => s.tellHead p) { s with integ := i }).complete j St.OK

/-- MEM_RETIRE: sets or clears an entry of the retirement map (R297). -/
def execMemRetire (c : Cmd) (s : State) : Host.Outcome State Fault Refusal := .next (specMemRetire.run c s)

end Sys2Proof.Machine
end

