-- ==== Sys2Proof/Machine/Net.lean ====
section
/-! DEFINITION. The shape of the network and the fate of a packet: positions, endpoints, the route directory, the egress port, the next
hop, room in buffers, marking and combination (spec/07 R190 to R211; spec/09 R243 to R248, R254). -/

namespace Sys2Proof.Machine

/-! ## Positions (R190, R203, R207, R208) -/

/-- The position of a tile's site. -/
def posOfTile (t : Nat) : Pos := ⟨tileCol t, tileSite t, tileY t⟩

/-- X ring stage index of a position (R190). -/
def Pos.x (p : Pos) : Nat := 17 * p.col + p.site

/-- Column, site, primary and alternate GRID_Y of attachment `n` (R207). -/
def attachSite (n : Nat) : Nat × Nat × Nat × Nat :=
  if n < 16 then
    let y := [2, 6, 10, 14, 17, 21, 25, 29].getD (n % 8) 0
    (if n < 8 then 0 else 1, if n < 8 then 0 else 16, y, y + 1)
  else
    let c := [(0, 3), (0, 11), (1, 5), (1, 13)].getD (n % 4) (0, 0)
    let h := [(0, 7), (0, 15), (1, 1), (1, 9)].getD (n % 4) (0, 0)
    if n < 20 then (c.1, c.2, 0, 1) else if n < 24 then (c.1, c.2, 31, 30) else (h.1, h.2, 0, 1)

/-- The selvedge router of attachment `n`: its primary row, or the alternate one when that row is disabled (R208). -/
def State.attachPos (s : State) (n : Nat) : Pos :=
  let a := attachSite n
  ⟨a.1, a.2.1, if s.rowDisabled (rowNum a.1 a.2.2.1) then a.2.2.2 else a.2.2.1⟩

/-- Is the port on a link die the device has (R207, R215)? -/
def State.portPresent (s : State) (n : Nat) : Bool := n < 24 && n / 4 < s.rd Reg.DEV_FEAT_LINK_LINK_DIES

/-- Is attachment `n` present? -/
def State.attached (s : State) (n : Nat) : Bool := s.portPresent n || (24 ≤ n && n < 28)

/-- The host bridge through which host-die endpoints reach the rings (log entry 13). -/
def hostBridge : Nat := 24

/-- The position of an endpoint's router. -/
def State.epPos (s : State) (ep : Nat) : Pos :=
  if ep < 1088 then posOfTile ep
  else if ep < 4352 then posOfTile (bobTile (ep - 1088))
  else if ep < 8448 then s.attachPos hostBridge
  else s.attachPos (ep - 8448)

/-- The attachments at a position. -/
def State.attachesAt (s : State) (p : Pos) : List Nat := (List.range 28).filter (fun n => s.attached n && s.attachPos n = p)

/-- A position in a disabled row: a bypass stage (R191). -/
def State.bypass (s : State) (col y : Nat) : Bool := s.rowDisabled (rowNum col y)

/-! ## Endpoints (R191, R197, R199, R254) -/

/-- DLOC of a local endpoint (R197). -/
def dlocOf (ep : Nat) : Nat :=
  if ep < 4352 then
    let t := if ep < 1088 then ep else bobTile (ep - 1088)
    tileY t + 32 * tileCol t + 64 * tileSite t + (if ep < 1088 then 0 else 0x4000 + 2048 * bobTier (ep - 1088))
  else if ep < 8448 then 0x8000 + (ep - 4352)
  else 0xC000 + (ep - 8448) / 4 + 8 * ((ep - 8448) % 4)

/-- The endpoint a DLOC names, when its fixed bits are 0 and its numbers exist (R197). -/
def epOfDloc (d : Nat) : Option Nat :=
  let site := bits d 6 5
  let t := tileAt (bits d 5 1) site (bits d 0 5)
  match bits d 14 2 with
  | 0 => if bits d 11 3 = 0 ∧ site < 17 then some t else none
  | 1 => if bits d 13 1 = 0 ∧ site < 17 ∧ bits d 11 2 < 3 then some (epBob (bobAt (bits d 11 2) t)) else none
  | 2 => if bits d 12 2 = 0 then some (epHost (bits d 0 12)) else none
  | _ => if bits d 5 9 = 0 ∧ bits d 0 3 < 6 then some (epPort (4 * bits d 0 3 + bits d 3 2)) else none

/-- Does a function serve the host endpoint: the knot unit and command decoder at 0, the four Thimble cores at 1 to 4 (DESIGN CHOICE, log
entry 76), the panels' endpoints, the twin agent, and queues (R264, R274, R332, R380, R385, R409, R469)? -/
def State.served (s : State) (h : Nat) : Bool :=
  h ≤ 4 || h = 64 || (16 ≤ h && h < 64 && s.enabled (h % 16)) || (s.queueOfEp h).isSome

/-- Is the endpoint present (R191, R199, R254)? -/
def State.epPresent (s : State) (ep : Nat) : Bool :=
  if ep < 1088 then s.active ep
  else if ep < 4352 then s.bobActive (ep - 1088)
  else if ep < 8448 then s.served (ep - 4352)
  else false

/-! ## Ports in service (R241, R243, R244, R258) -/

/-- FAB_PORTMAP roles (R241). -/
abbrev Role.complement : Nat := 0x80
abbrev Role.twin : Nat := 0x81
abbrev Role.loader : Nat := 0x82
abbrev Role.unused : Nat := 0xFF

/-- The role a port acts in: none for an absent port, for a dimension at or above DIMS, and for COMPLEMENT where DIMS is below 2 (R239,
R241). -/
def State.role? (s : State) (n : Nat) : Option Nat :=
  let r := s.rd (Reg.FAB_PORTMAP_ROLE n)
  let d := s.rd Reg.FAB_CTL_DIMS
  if !s.portPresent n || r = Role.unused || (r < 10 && d ≤ r) || (r = Role.complement && d < 2) then none else some r

/-- FAB_PORTMAP_n.IN_SERVICE; a LOADER port that FAB_DISCOVER has taken out of service comes back when the device is ASSIGNED, since no
identity frame is asked of it (R243, R258, R263). -/
def State.inService (s : State) (n : Nat) : Bool :=
  match s.role? n with
  | none => false
  | some r => s.rd (Reg.LNK_PSTAT_STATE n) = 4 && !s.bit (Reg.FAB_PORTMAP_MISWIRED n) && !s.bit (Reg.FAB_PORTMAP_REMOVED n)
      && (if r = Role.loader then s.bit Reg.FAB_LDR_CTL_ENABLE && !s.fab.ldrShut else (s.port n).checked)

/-- The in-service ports of a role, in ascending MEMBER order (R244). -/
def State.group (s : State) (r : Nat) : List Nat :=
  let ports := (List.range 24).filter (fun n => s.role? n = some r && s.inService n)
  [0, 1, 2, 3].flatMap (fun m => ports.filter (fun n => s.rd (Reg.FAB_PORTMAP_MEMBER n) = m))

/-- The port a packet takes in a group (R244). -/
def pickPort (g : List Nat) (p : Packet) : Option Nat :=
  if g = [] then none else g[(p.rtag % 65536 ^^^ p.dst % 65536) % g.length]?

/-- Lowest bit set of a number below 2^10 that is not 0. -/
def lowBit (v : Nat) : Nat := ((List.range 10).find? (fun i => v.testBit i)).getD 0

/-- Bits set in a number below 2^10. -/
def popBits (v : Nat) : Nat := ((List.range 10).filter (fun i => v.testBit i)).length

/-- The role of the cube toward coordinate `d` for a class, none for the device's own (R245, R246). -/
def State.cubeRole (s : State) (d tc : Nat) : Option Nat :=
  let n := s.rd Reg.FAB_CTL_DIMS
  let diff := (s.coord ^^^ d) % 2 ^ n
  if diff = 0 then none
  else if tc = 0 && 2 ≤ n && n / 2 < popBits diff && s.group Role.complement ≠ [] then some Role.complement
  else some (lowBit diff)

/-- The egress role toward coordinate `d` for a class, none when the packet is for this device: a neighbour that is the twin is reached
over the twin link (R245 to R247). -/
def State.egressRole (s : State) (d tc : Nat) : Option Nat :=
  if d ≠ s.coord && (s.group Role.twin).any (fun p => s.bit (Reg.FAB_NBR_VALID p) && s.rd (Reg.FAB_NBR_COORD p) = d) then some Role.twin
  else s.cubeRole d tc

/-! ## The route directory (R198, R199) -/

/-- Set of a FEID (R198). -/
def rdirSet (f : Nat) : Nat := f % 16384 ^^^ f / 16384 % 1024

/-- Fields of a directory entry (R198). -/
def entFeid (e : BitVec 64) : Nat := bits e.toNat 0 24
def entDdev (e : BitVec 64) : Nat := bits e.toNat 24 10
def entDloc (e : BitVec 64) : Nat := bits e.toNat 34 16
def entTenant (e : BitVec 64) : Nat := bits e.toNat 50 8

/-- Way of a bank's set that holds a FEID (R198). -/
def bankWay (b : Store (Option (BitVec 64))) (f : Nat) : Option Nat :=
  [0, 1, 2, 3].find? (fun w => match sget none b (rdirSet f * 4 + w) with | some e => entFeid e = f | none => false)

/-- The entry of a bank that holds a FEID. -/
def bankFind (b : Store (Option (BitVec 64))) (f : Nat) : Option (BitVec 64) :=
  (bankWay b f).bind (fun w => sget none b (rdirSet f * 4 + w))

/-- The active bank (R198, R202). -/
def State.activeBank (s : State) : Store (Option (BitVec 64)) :=
  if s.bit Reg.FAB_RDIR_STAT_ACTIVE then s.noc.bank1 else s.noc.bank0

/-- The shadow bank. -/
def State.shadowBank (s : State) : Store (Option (BitVec 64)) :=
  if s.bit Reg.FAB_RDIR_STAT_ACTIVE then s.noc.bank0 else s.noc.bank1

/-- Replace the shadow bank and its count of valid entries. -/
def State.setShadow (b : Store (Option (BitVec 64))) (s : State) : State :=
  let n := if s.bit Reg.FAB_RDIR_STAT_ACTIVE then { s.noc with bank0 := b } else { s.noc with bank1 := b }
  { s with noc := n }.wr Reg.FAB_RDIR_STAT_SHADOW_USED b.length

/-! ## What becomes of a packet at a fabric stage (R199, R244 to R248) -/

/-- A packet is dropped with a code, dropped for want of a port (coordinate, role), or goes on, to an endpoint of this device or to an
egress port. -/
inductive Fate where
  | drop (code : Code)
  | noRoute (ddev role : Nat)
  | go (pkt : Packet) (out : Option Nat)
  deriving DecidableEq, Repr

/-- The header of a packet is legal and undamaged (R195). -/
def Packet.sound (p : Packet) : Bool := !p.bad && p.tc < 2 && p.op < 5 && p.len ≤ 8

/-- Egress of a packet whose DDEV and DLOC are known. -/
def State.egress (s : State) (p : Packet) : Fate :=
  match s.egressRole p.ddev p.tc with
  | some r => match pickPort (s.group r) p with
    | some n => .go p (some n)
    | none => .noRoute p.ddev r
  | none =>
    match epOfDloc p.dloc with
    | none => .drop St.ENDPOINT_ABSENT
    | some ep =>
      if 8448 ≤ ep then
        if s.role? (ep - 8448) = some Role.loader then
          (if s.inService (ep - 8448) then .go p (some (ep - 8448)) else .noRoute p.ddev Role.loader)
        else .drop St.ENDPOINT_ABSENT
      else if s.epPresent ep then .go p none
      else .drop St.ENDPOINT_ABSENT

/-- KOP of a knot packet (R273). -/
def Packet.kop (p : Packet) : Nat := bits (leAt p.payload 0 8) 0 3

/-- Packets the device addresses by the FEID plan of R254, without a directory lookup: congestion echoes (R251), messages to a twin agent
(R469), and the ARRIVE of a delivered packet, an internal packet of the device that travels under R203 to R206 (R272, log entry 14). -/
def Packet.planned (p : Packet) (ep : Nat) : Bool := (p.op = POp.knot && p.kop = 5) || p.ce || ep = epHost 64

/-- The lookup at injection and what follows from it (R199, R247). -/
def State.fate (s : State) (ep : Nat) (p : Packet) : Fate :=
  if !p.sound then .drop St.NOC_INTEGRITY
  else if p.planned ep then
    s.egress { p with ddev := if p.op = POp.knot then s.coord else feidCoord p.dst, dloc := dlocOf (feidEp p.dst) }
  else
    match bankFind s.activeBank p.dst with
    | none => .drop St.UNKNOWN_FEID
    | some e =>
      if entTenant e ≠ 0 && entTenant e ≠ p.tenant then .drop St.FOREIGN_FEID
      else s.egress { p with ddev := entDdev e, dloc := entDloc e }

/-- Count and record a drop (R195, R199, R200), and fault the sending panel where the rule says so. -/
def State.nocDrop (code : Code) (p : Packet) (panel : Option Nat) (d0 : Nat) (s : State) : State :=
  let f := if code = St.NOC_INTEGRITY then Reg.FAB_NOC_ERR_INTEGRITY else if code = St.TENANT_MISMATCH then Reg.FAB_NOC_ERR_TENANT
    else if code = St.STALE_ROUTE then Reg.FAB_NOC_ERR_STALE else Reg.FAB_NOC_ERR_LOOKUP
  ((((s.stick f 1).wr Reg.FAB_NOC_LASTERR_CODE code.toNat).wr Reg.FAB_NOC_LASTERR_SRC p.src).wr Reg.FAB_NOC_LASTERR_DST p.dst).faultOpt
    panel code d0 (p.src + 2 ^ 24 * p.dst)

/-- A drop for want of a port of the chosen role (R248). -/
def State.noRoute (panel : Option Nat) (ddev role : Nat) (s : State) : State :=
  (s.stick Reg.FAB_DROP_NO_ROUTE 1).event 4 St.FAB_NO_ROUTE panel ddev role

/-! ## Hops (R203 to R206, R208) -/

/-- Flits of a packet in the network (R194). -/
def Packet.flits (p : Packet) : Nat := (32 + 64 * p.len + 127) / 128

/-- Bytes of a packet's header and payload. -/
def Packet.size (p : Packet) : Nat := 32 + 64 * p.len

/-- Ring direction from one stage to another of `n`: true for +; ties take + (R203). -/
def ringUp (a b n : Nat) : Bool := let f := (b + n - a) % n; f ≤ n - f

/-- The Y1 leg from `p` to `d`. -/
def legY (p d : Pos) : Option (Lane × Bool) := if p.y = d.y then none else some (.y1, ringUp p.y d.y 32)

/-- The X leg, or the Y1 leg when it has length 0. -/
def legX (p d : Pos) : Option (Lane × Bool) := if p.x = d.x then legY p d else some (.x, ringUp p.x d.x 34)

/-- The first leg of the route from `p` to `d` (R203). -/
def State.firstLeg (s : State) (p d : Pos) : Option (Lane × Bool) :=
  if p.x ≠ d.x && p.y ≠ d.y && s.bypass d.col p.y then some (.y0, true) else legX p d

/-- The leg a packet in a lane at `p` goes on with (R203, R204). -/
def State.nextLeg (s : State) (lane : Lane) (plus : Bool) (p d : Pos) : Option (Lane × Bool) :=
  match lane with
  | .y0 => if s.bypass 0 p.y || s.bypass 1 p.y then some (.y0, true) else legX p d
  | .x => if p.x = d.x then legY p d else some (.x, plus)
  | .y1 => if p.y = d.y then none else some (.y1, plus)

/-- The next stage of a ring (R190). -/
def nextStage (lane : Lane) (plus : Bool) (p : Pos) : Pos :=
  match lane with
  | .x => let i := (p.x + if plus then 1 else 33) % 34; ⟨i / 17, i % 17, p.y⟩
  | _ => ⟨p.col, p.site, (p.y + if plus then 1 else 31) % 32⟩

/-- Destination position of a packet on this device (R203). -/
def State.goal (s : State) (f : Flight) : Pos :=
  match f.out with
  | some n => s.attachPos n
  | none => s.epPos ((epOfDloc f.pkt.dloc).getD 0)

/-- Where a packet in the rings goes next: its place, and the group of R206 (1 pass-through, 2 turn); none: it has arrived. -/
def State.nextHop (s : State) (f : Flight) : Option (Loc × Nat) :=
  match f.loc with
  | .buf lane plus p => match s.nextLeg lane plus p (s.goal f) with
    | some (l, u) => if l = lane then some (.buf l u (nextStage l u p), 1) else some (.buf l u p, 2)
    | none => none
  | _ => none

/-- Stage of its ring at which a packet waits (R190): the X index, or GRID_Y in a Y lane. -/
def State.ringStage (s : State) (l : Loc) : Nat :=
  match l with
  | .buf .x _ p => p.x
  | .buf _ _ p => p.y
  | .entry p => p.x
  | .inject ep => (s.epPos ep).x
  | .ingress n => (s.attachPos n).x
  | .egress n => (s.attachPos n).x
  | .eject ep => (s.epPos ep).x

/-- The input of its destination router a packet is ejected from, in the order of R266: the local tile (0), X +, X −, Y +, Y −, the host die
(5). A packet that enters at its destination router keeps the input it came in by; a link port's goes with the host die's (DESIGN CHOICE, log
entry 83). -/
def Flight.viaTo (f : Flight) : Loc → Nat
  | .eject _ => match f.loc with
    | .buf .x true _ => 1
    | .buf .x false _ => 2
    | .buf _ true _ => 3
    | .buf _ false _ => 4
    | _ => f.via
  | .entry _ => match f.loc with
    | .inject ep => if ep < 4352 then 0 else 5
    | _ => 5
  | _ => 0

/-- Does a move take the packet out of its router: onto a ring link, or into an ejection or egress buffer (R156)? -/
def leavesRouter : Loc → Loc → Bool
  | .buf _ _ p, .buf _ _ q => p ≠ q
  | .buf .., .eject _ => true
  | .buf .., .egress _ => true
  | .entry _, .eject _ => true
  | .entry _, .egress _ => true
  | _, _ => false

/-- Has the packet reached the router of its destination? -/
def State.arrived (s : State) (f : Flight) : Bool :=
  match f.loc with
  | .buf .. => (s.nextHop f).isNone
  | .entry _ => true
  | _ => false

/-- Is the place on the host die's side of its bridge? What waits there for any host endpoint stands in the bridge's egress buffer (R207,
R208). -/
def Loc.hostSide : Loc → Bool
  | .eject ep => 4352 ≤ ep && ep < 8448
  | _ => false

/-- Packets in a place. -/
def State.occupancy (s : State) (l : Loc) : Nat :=
  (s.noc.flights.filter (fun f => f.loc = l || (l.hostSide && f.loc.hostSide))).length

/-- Slots of a place (R205, R206, R208). -/
def State.slotsOf (s : State) (l : Loc) : Nat :=
  match l with
  | .buf _ _ p => if s.attachesAt p = [] then 4 else 8
  | .egress _ => 8
  | .eject _ => if l.hostSide then 8 else 2
  | _ => 65536

/-- The attachments whose selvedge router a place is a buffer of (R207, R208). -/
def State.selvedgeOf (s : State) (l : Loc) : List Nat :=
  match l with
  | .buf _ _ p => s.attachesAt p
  | .egress n => [n]
  | .eject _ => if l.hostSide then [hostBridge] else []
  | _ => []

/-- Room in a place for a packet of a group: one free slot to pass through, two to enter a lane (R205). -/
def State.roomFor (s : State) (l : Loc) (group : Nat) : Bool :=
  match l with
  | .buf .. => s.occupancy l + (if group = 1 then 1 else 2) ≤ s.slotsOf l
  | _ => s.occupancy l < s.slotsOf l

/-- An entry that has waited STARVE_CY cycles (R206). -/
def State.starved (s : State) (f : Flight) (group : Nat) : Bool :=
  group ≠ 1 && f.since + s.rd Reg.FAB_NOC_CTL_STARVE_CY ≤ s.clk.edge

/-- Order of grant: starved entries, then the groups; SCHEDULED before ELASTIC in the groups of entries; the oldest first (R206). -/
def State.rankOf (s : State) (f : Flight) (group : Nat) : Nat × Nat × Nat :=
  (if s.starved f group then 0 else group, if group = 1 then 0 else f.pkt.tc, f.since)

/-- Order of ranks; of equals the first listed. -/
def rankBefore (a b : Nat × Nat × Nat) (i j : Nat) : Bool :=
  a.1 < b.1 || (a.1 = b.1 && (a.2.1 < b.2.1 || (a.2.1 = b.2.1 && (a.2.2 < b.2.2 || (a.2.2 = b.2.2 && i < j)))))

/-! ## Placing a packet: marking and combination (R210, R211) -/

/-- Marking threshold of a place (R210). -/
def State.markAt (s : State) (l : Loc) : Option Nat :=
  match l with
  | .buf _ _ p => some (if s.attachesAt p = [] then s.rd Reg.FAB_NOC_CTL_CM_THRESH else s.rd Reg.FAB_NOC_CTL_SELV_CM_THRESH)
  | .egress _ => some (s.rd Reg.FAB_NOC_CTL_SELV_CM_THRESH)
  | .eject _ => if l.hostSide then some (s.rd Reg.FAB_NOC_CTL_SELV_CM_THRESH) else none
  | _ => none

/-- The packet with its congestion mark, as it is placed (R210, R251). -/
def State.marked (s : State) (l : Loc) (p : Packet) : Packet :=
  match s.markAt l with
  | some n => if p.tc = 1 && !p.ce && n ≤ s.occupancy l + 1 then { p with cm := true } else p
  | none => p

/-- Anchor and lane count bits of a Saffron payload (R91). -/
def saffKey (bs : List Byte) : Nat := bits (leAt bs 0 8) 0 15

/-- May P be added into Q (R211)? -/
def combines (p q : Packet) : Bool :=
  p.op = POp.sadd && q.op = POp.sadd && p.dst = q.dst && p.ddev = q.ddev && p.dloc = q.dloc && p.tenant = q.tenant && p.tc = q.tc
    && p.knv = q.knv && p.knot = q.knot && p.rtag = q.rtag && p.len = q.len && saffKey p.payload = saffKey q.payload
    && p.npkt + q.npkt ≤ 65535

/-- The payload of P added into that of Q: lanes under R85, OVF the OR of both and of any overflow the addition causes (R91). -/
def addSaffron (p q : List Byte) : List Byte :=
  let n := bits (leAt q 0 8) 10 5
  let sums := (List.range n).map (fun i => laneAdd (laneOfBits (leAt q (8 + 18 * i) 18)) (laneOfBits (leAt p (8 + 18 * i) 18)))
  let ovf : Bool := (leAt q 0 8).testBit 15 || (leAt p 0 8).testBit 15 || sums.any (fun v => v.2)
  let h := leAt q 0 8
  let h1 := if ovf then h ||| 2 ^ 15 else h
  bytesOf 8 h1 ++ sums.flatMap (fun v => bytesOf 18 (laneBits v.1)) ++ q.drop (8 + 18 * n)

/-- Q after P has been added into it (R211). -/
def combined (p q : Packet) : Packet :=
  { q with payload := addSaffron p.payload q.payload, npkt := q.npkt + p.npkt, cm := q.cm || p.cm }

/-- Note the occupancy of a selvedge router's buffers (FAB_SELV_STAT). -/
def State.noteOcc (l : Loc) (s : State) : State :=
  (s.selvedgeOf l).foldl (fun s n => s.wr (Reg.FAB_SELV_STAT_MAX_OCC n) (max (s.rd (Reg.FAB_SELV_STAT_MAX_OCC n)) (min 15 (s.occupancy l)))) s

/-- Place packet `i` at `l`, to move again after `lat` cycles; a SADD packet is added into one that waits there and matches it (R210,
R211). -/
def State.placeAt (i : Nat) (f : Flight) (l : Loc) (lat : Nat) (s : State) : State :=
  let e := s.clk.edge
  let p := s.marked l f.pkt
  let shared : Bool := match l with | .buf .. => true | .eject _ => true | _ => false
  let j := if shared && !s.bit Reg.FAB_NOC_CTL_COMB_DIS then
      (s.noc.flights.zipIdx.find? (fun g => g.2 ≠ i && g.1.loc = l && g.1.taken = 0 && combines p g.1.pkt)).map (fun g => g.2)
    else none
  match j with
  | some j => ((s.modFlight j (fun g => { g with pkt := combined p g.pkt, busy := max g.busy (e + p.flits) })).dropFlight i).wrapOvf
      Reg.FAB_NOC_COMB_COUNT Reg.FAB_NOC_COMB_OVF 1
  | none =>
    let gone := if f.gone.isNone && leavesRouter f.loc l then some (e + p.flits) else f.gone
    (s.modFlight i (fun g => { g with pkt := p, loc := l, since := e, busy := e + lat, gone := gone, via := f.viaTo l })).noteOcc l

end Sys2Proof.Machine
end

