-- ==== Sys2Proof/Machine/Noc.lean ====
section
/-! DEFINITION. The rows of the on-chip network: injection, forwarding, ejection, congestion echoes and rates, and the route directory's
commands (spec/07 R190 to R213, R524; spec/09 R243 to R254). -/

namespace Sys2Proof.Machine

/-! ## Injection (R199, R205, R206, R213, R252) -/

/-- ρ of an endpoint in 1/65,536 (R252). -/
def State.rate (s : State) (ep : Nat) : Nat := sget 65536 s.noc.rates ep

/-- ELASTIC bytes an endpoint injected within the last 1,000 stitches. -/
def State.recent (s : State) (ep : Nat) : List (W64 × Nat) :=
  (sget [] s.noc.injected ep).filter (fun v => (s.now - v.1).toNat < 1000)

/-- May the endpoint inject the packet now (R252)? Echoes are the device's own and are not limited. -/
def State.rateOk (s : State) (ep : Nat) (p : Packet) : Bool :=
  p.tc ≠ 1 || p.ce || (((s.recent ep).map (fun v => v.2)).sum + p.size) * 65536 ≤ s.rate ep * 200000

/-- Where an injected packet goes first: the buffer of its first lane at its router, or its router itself. -/
def State.entryLoc (s : State) (f : Flight) (p : Pos) : Loc :=
  match s.firstLeg p (s.goal f) with
  | some (l, u) => .buf l u p
  | none => .entry p

/-- ELASTIC flits the port let into the rings in the last 64 cycles (R209). -/
def State.limUsed (s : State) (n : Nat) : Nat :=
  (((s.port n).lim.filter (fun v => s.clk.edge < v.1 + 64)).map (fun v => v.2)).sum

/-- Does the injection limiter hold the packet (R209)? -/
def State.limHolds (s : State) (n : Nat) (p : Packet) : Bool :=
  p.tc = 1 && s.rd Reg.FAB_NOC_CTL_INJ_LIMIT < s.limUsed n + p.flits

/-- A waiting packet that would enter a lane: the packet as the lookup leaves it, and its place. -/
def State.entrant (s : State) (f : Flight) : Option (Flight × Loc) :=
  match f.loc with
  | .inject ep =>
    if !s.rateOk ep f.pkt then none
    else match s.fate ep f.pkt with
      | .go p out => let g := { f with pkt := p, out := out }; some (g, s.entryLoc g (s.epPos ep))
      | _ => none
  | .ingress n =>
    if s.limHolds n f.pkt then none
    else match s.egress f.pkt with
    | .go p out => let g := { f with pkt := p, out := out }; some (g, s.entryLoc g (s.attachPos n))
    | _ => none
  | _ => none

/-- The oldest packet of a class, SCHEDULED or not, that waits at an endpoint and that its rate lets go. -/
def State.headOf (s : State) (ep : Nat) (sched : Bool) : Option (Nat × Flight) :=
  s.front (fun f => f.loc = .inject ep && f.busy ≤ s.clk.edge && s.rateOk ep f.pkt && decide (f.pkt.tc = 0) = sched)

/-- Is packet `i` the next of its class at the place it enters from? An endpoint's packets of one class leave in order. -/
def State.isNext (s : State) (i : Nat) (f : Flight) : Bool :=
  match f.loc with
  | .inject ep => (s.headOf ep (decide (f.pkt.tc = 0))).any (fun v => v.1 = i)
  | _ => true

/-- What packet `i` asks for: its place and its group (R206). -/
def State.wish (s : State) (i : Nat) (f : Flight) : Option (Loc × Nat) :=
  if f.busy > s.clk.edge then none
  else match s.nextHop f with
    | some h => some h
    | none => if s.isNext i f then (s.entrant f).map (fun v => (v.2, 3)) else none

/-- Is packet `i` the one R206 grants the place to? A starved entry goes first even while it still lacks room. -/
def State.granted (s : State) (i : Nat) (f : Flight) (l : Loc) (group : Nat) : Bool :=
  s.roomFor l group && !s.noc.flights.zipIdx.any (fun g => g.2 ≠ i &&
    match s.wish g.2 g.1 with
    | some (m, k) => m = l && (s.roomFor m k || s.starved g.1 k) && rankBefore (s.rankOf g.1 k) (s.rankOf f group) g.2 i
    | none => false)

/-- Stamp SEQ from the endpoint's counter of the class (R213). -/
def State.stampSeq (s : State) (ep : Nat) (p : Packet) : Packet := { p with seq := (sget 0 s.noc.seqs (2 * ep + p.tc)).toNat }

/-- Account for an injected packet: the sequence counter, ELASTIC bytes, and the flits a host bridge lets in. -/
def State.injectedBy (ep : Nat) (p : Packet) (s : State) : State :=
  let n1 := { s.noc with seqs := supd 0 s.noc.seqs (2 * ep + p.tc) (· + 1) }
  let n2 := if p.tc = 1 && !p.ce then { n1 with injected := sset [] n1.injected ep (s.recent ep ++ [(s.now, p.size)]) } else n1
  let s1 := { s with noc := n2 }
  if 4352 ≤ ep && ep < 8448 then s1.wrapOvf (Reg.FAB_SELV_IN_COUNT hostBridge) (Reg.FAB_SELV_IN_OVF hostBridge) p.flits else s1

/-- Packets of a class that the endpoint has injected and that are still in the device's network: at most 32,768 may be outstanding
(R213). -/
def State.outstanding (s : State) (p : Packet) : Nat :=
  (s.noc.flights.filter (fun f => f.pkt.src = p.src && f.pkt.tc = p.tc && (match f.loc with | .inject _ => false | _ => true))).length

/-- May the packet leave its endpoint now: it is dropped, or its first lane has room and its turn has come? -/
def State.mayLeave (s : State) (ep : Nat) (v : Nat × Flight) : Bool :=
  match s.fate ep v.2.pkt with
  | .go p out =>
    s.granted v.1 v.2 (s.entryLoc { v.2 with pkt := s.stampSeq ep p, out := out } (s.epPos ep)) 3 && s.outstanding p < 32768
  | _ => true

/-- The packet an endpoint injects next: SCHEDULED goes before ELASTIC, and the oldest of a class first (R206). -/
def State.nextOut (s : State) (ep : Nat) : Option (Nat × Flight) :=
  ([s.headOf ep true, s.headOf ep false].filterMap id).find? (s.mayLeave ep)

/-- PACKET_INJECTION: the next packet of a source endpoint is looked up once and dropped, or enters its first lane when the entry buffer
has two free slots and its turn has come. A damaged header faults no panel. Nothing moves in a clock-change window (R35, R191, R193, R195,
R199, R205, R206, R213, R244 to R248, R252). -/
def execPacketInjection (ep : Nat) (s : State) : Host.Outcome State Fault Refusal :=
  .next (if s.clk.inWindow then s else match s.nextOut ep with
    | none => s
    | some (i, f) =>
      match s.fate ep f.pkt with
      | .drop code =>
        if code = St.NOC_INTEGRITY then (s.dropFlight i).nocDrop code f.pkt none (s.ringStage f.loc)
        else (s.dropFlight i).nocDrop code f.pkt (s.panelOfEp ep) ep
      | .noRoute d r => (s.dropFlight i).noRoute (s.panelOfEp ep) d r
      | .go p out =>
        let g := { f with pkt := s.stampSeq ep p, out := out }
        ((s.modFlight i (fun _ => g)).placeAt i g (s.entryLoc g (s.epPos ep)) (s.rd (Reg.LAT_ITEM_DEVICE 20))).injectedBy ep p)

/-! ## Forwarding (R195, R203 to R208, R230, R234) -/

/-- A port whose selvedge egress discards what reaches it: one that is not ACTIVE or RETRAIN, or one going OFFLINE (R230, R231, R234). -/
def State.egressDead (s : State) (n : Nat) : Bool :=
  n < 24 && ((s.rd (Reg.LNK_PSTAT_STATE n) ≠ 4 && s.rd (Reg.LNK_PSTAT_STATE n) ≠ 5) || (s.port n).offline)

/-- A packet discarded at a port's selvedge egress: counted, and logged once per episode (R230). -/
def State.egressDrop (n : Nat) (s : State) : State :=
  let s1 := s.stick (Reg.LNK_DROP_PACKETS n) 1
  if (s1.port n).dropLogged then s1
  else (s1.updPort n (fun x => { x with dropLogged := true })).event 4 St.PORT_EGRESS_DROP none n 0

/-- Is the packet in a router, on its way through the rings? -/
def Loc.inRings : Loc → Bool
  | .buf .. => true
  | .entry _ => true
  | _ => false

/-- Do routers store the packet's flits there: on their way, or in an ejection or egress buffer? -/
def Loc.stored : Loc → Bool
  | .eject _ => true
  | .egress _ => true
  | l => l.inRings

/-! ## Ejection (R200, R206, R211, R251, R266, R273, R524) -/

/-- Does an endpoint accept a tenant: its owner's tag, tag 0, or any at a service endpoint (R200)? -/
def State.acceptsTenant (s : State) (ep tenant : Nat) : Bool :=
  tenant = 0 || (match s.panelOfEp ep with
    | some p => tenant = s.tenant p
    | none => 4352 ≤ ep && ep < 8448)

/-- Is the packet of a kind its endpoint takes (R524)? A home receives the operations of the knots homed in it, a waiter grants and
refusals, each of LEN 1 (R273). -/
def State.takesKind (s : State) (ep : Nat) (p : Packet) : Bool :=
  if p.op = POp.knot && p.len ≠ 1 then false
  else if ep < 1088 then p.op ≤ 2 || (p.op = POp.knot && (6 ≤ p.kop || s.knotHome p.knot = ep))
  else if ep < 4352 then p.op = POp.write
  else
    let h := ep - 4352
    if h = 0 then p.op = POp.knot && (6 ≤ p.kop || s.knotHome p.knot = hostHome)
    else if h ≤ 4 then p.op = POp.knot && 6 ≤ p.kop
    else if h < 32 then p.op = POp.write
    else if h < 48 then p.op = POp.ctrl || p.op = POp.write || (p.op = POp.knot && 6 ≤ p.kop)
    else if h < 64 then p.op = POp.write
    else if h = 64 then p.op = POp.ctrl
    else true

/-- The operation a knot packet carries (R267, R273). -/
def Packet.knotOp (p : Packet) : KnotOp :=
  let v := leAt p.payload 0 8
  { kop := bits v 0 3, knot := p.knot, value := bits v 32 32, prio := bits v 3 2, token := bits v 16 16, tenant := p.tenant,
    src := p.src, auth := v.testBit 5 }

/-- The home of an endpoint that holds knots. -/
def homeOfEp (ep : Nat) : Nat := if ep < 1088 then ep else hostHome

/-- An operation that enters a home's queue. -/
def State.enterHome (h : Nat) (o : KnotOp) (s : State) : State := s.setHome h (s.home h ++ [o])

/-- Operations of the host-die sources that wait for a home (R266). -/
def State.homeWaits (s : State) (h : Nat) : List (Nat × KnotOp) := sget [] s.noc.homeWait h
def State.setHomeWaits (h : Nat) (l : List (Nat × KnotOp)) (s : State) : State :=
  { s with noc := { s.noc with homeWait := sset [] s.noc.homeWait h l } }

/-- The operations that have reached a home's ejection buffer (R266). -/
def State.opsAt (s : State) (h : Nat) : List Flight :=
  s.noc.flights.filter (fun f => f.loc = .eject (homeEp h) && f.busy ≤ s.clk.edge && f.pkt.op = POp.knot && f.pkt.kop < 6)

/-- Are the clocks of a home stopped: it is a tile's, and a clock-change window runs (R35)? -/
def State.homeStopped (s : State) (h : Nat) : Bool := s.clk.inWindow && h ≠ hostHome

/-- Let waiting host-die operations in while the queue has room and no packet that came on their cycle or before waits; `fuel` bounds them
(R266). -/
def State.settleHome (h : Nat) : Nat → State → State
  | 0, s => s
  | n + 1, s =>
    match s.homeWaits h with
    | [] => s
    | o :: r =>
      if (s.home h).length < 8 && !s.homeStopped h && (s.opsAt h).all (fun g => o.1 < g.busy) then
        State.settleHome h n ((s.setHomeWaits h r).enterHome h o.2)
      else s

/-- The homes' queues take what came for them in a window that ends (R35, R266). -/
def State.settleHomes (s : State) : State := (s.noc.homeWait.map (fun v => v.1)).foldl (fun s h => State.settleHome h 8 s) s

/-- A packet has left an ejection buffer: the operations that waited behind it may go (R266). -/
def State.settleAt (l : Loc) (s : State) : State :=
  match l with
  | .eject ep => State.settleHome (homeOfEp ep) 8 s
  | _ => s

/-- An operation of a host-die source, the last of a home's inputs: it enters the queue, or waits for room (R266). -/
def State.hostEnter (h : Nat) (o : KnotOp) (s : State) : State :=
  State.settleHome h 8 (s.setHomeWaits h (s.homeWaits h ++ [(s.clk.edge, o)]))

/-- PACKET_FORWARD: a packet advances to the next stage of its lane, turns into its next lane, or leaves its destination router
toward its port. A packet whose header is bad, or whose header fails its CRC or a flit its parity where it waits (`damaged`), in a ring
buffer, an ejection buffer or an egress buffer, is dropped there, and the stage is logged. Nothing moves in a clock-change window (R35, R195, R203 to R208, R210, R211, R230). -/
def execPacketForward (a : Advance) (s : State) : Host.Outcome State Fault Refusal :=
  let i := a.flight
  .next (match s.noc.flights[i]? with
    | none => s
    | some f =>
      if s.clk.inWindow || f.busy > s.clk.edge || !f.loc.stored then s
      else if (a.damaged && f.taken = 0) || (!f.pkt.sound && f.loc.inRings) then
        ((s.dropFlight i).nocDrop St.NOC_INTEGRITY f.pkt none (s.ringStage f.loc)).settleAt f.loc
      else if !f.loc.inRings then s
      else match s.nextHop f with
        | some (l, k) =>
          if s.granted i f l k then
            s.placeAt i f l (if k = 2 then s.rd (Reg.LAT_ITEM_DEVICE 22) else s.rd (Reg.LAT_ITEM_DEVICE 21))
          else s
        | none =>
          match f.out with
          | some n =>
            if s.egressDead n then (s.dropFlight i).egressDrop n
            else if s.roomFor (.egress n) 1 then
              (s.placeAt i f (.egress n) f.pkt.flits).wrapOvf (Reg.FAB_SELV_OUT_COUNT n) (Reg.FAB_SELV_OUT_OVF n) f.pkt.flits
            else s
          | none => s)

/-- Is it this packet's turn to enter its home's queue: none arrived in an earlier cycle, or in the same cycle by an earlier input (R266)? -/
def State.homeTurn (s : State) (h : Nat) (f : Flight) : Bool :=
  (s.opsAt h).all (fun g => !(g.busy < f.busy || (g.busy = f.busy && g.via < f.via))) && (s.homeWaits h).all (fun o => f.busy ≤ o.1)

/-- Send a congestion echo for a marked packet that was ejected (R251). -/
def State.echo (ep : Nat) (p : Packet) (s : State) : State :=
  let gap := s.rd Reg.FAB_ECN_CTL_ECHO_GAP_US * 1000
  if p.tc = 1 && p.cm && !p.ce && !s.noc.echoes.any (fun v => v.1 = p.src && decide ((s.now - v.2).toNat < gap)) then
    let l := s.noc.echoes.filter (fun v => v.1 ≠ p.src) ++ [(p.src, s.now)]
    let s1 := { s with noc := { s.noc with echoes := if l.length > 64 then l.drop 1 else l } }
    (s1.stick Reg.FAB_ECN_STAT_ECHO_TX 1).send ep { dst := p.src, src := p.dst, tenant := 0, tc := 1, ce := true, op := POp.ctrl }
  else s

/-- The checks of R200 and R524 at the destination router, in order: the code and whether the packet is dropped for its kind. -/
def State.ejectCheck (s : State) (ep : Nat) (p : Packet) : Option Code :=
  if !p.sound then some St.NOC_INTEGRITY
  else if !s.epPresent ep then some St.ENDPOINT_ABSENT
  else if s.feid ep ≠ p.dst then some St.STALE_ROUTE
  else if !s.acceptsTenant ep p.tenant then some St.TENANT_MISMATCH
  else if !p.ce && !s.takesKind ep p then some St.NOC_INTEGRITY
  else none

/-- A drop at ejection faults no panel; 0x0701 is logged with the stage; a candidate packet is also counted at its panel (R195, R200, R366,
R367, R524). -/
def State.ejectDrop (ep : Nat) (code : Code) (f : Flight) (s : State) : State :=
  let s1 := s.nocDrop code f.pkt none (if code = St.NOC_INTEGRITY then s.ringStage f.loc else ep)
  if code = St.TENANT_MISMATCH && f.pkt.op = POp.write && 4352 + 32 ≤ ep && ep < 4352 + 48 then s1.stick (Reg.GSE_SAMP_DROPPED (ep - 4384)) 1
  else s1

/-- Flits that left through the host bridge. -/
def State.bridgeOut (ep n : Nat) (s : State) : State :=
  if 4352 ≤ ep && ep < 8448 then s.wrapOvf (Reg.FAB_SELV_OUT_COUNT hostBridge) (Reg.FAB_SELV_OUT_OVF hostBridge) n else s

/-- A packet at the park mover of a panel: its bytes go to the park area by DMA; outside the area or under another tenant it is dropped
with 0x0C1A. The spool whose run it lies in counts its bytes, or notes that its move has failed (R380, R381). -/
def State.moverWrite (p : Nat) (k : Packet) (s : State) : State :=
  let n := 64 * k.len
  if k.tenant ≠ s.tenant p || s.rd (Reg.GSE_PARK_CFG_PAGES p) * 65536 < k.addr + n then
    s.logN St.PARK_AREA_INVALID (some p) k.addr (k.src + k.tenant * 2 ^ 32)
  else
    let a := s.rd (Reg.GSE_PARK_BASE_ADDR p) + k.addr
    let bad := (s.dmaFail (p + 1) a n).isSome
    let s1 := if bad then s else s.hostWrite a (k.payload.take n)
    let page := k.addr / 65536
    let s2 := if bad then s1 else s1.countArrival (epHost (48 + p)) k
    { s2 with spools := smap {} (fun _ x =>
        if x.panel = p && x.parkHandle ≤ page && page < x.parkHandle + x.parkPages then
          { x with move := x.move.map (fun m => if bad then { m with failed := true } else { m with bytes := m.bytes + n }) }
        else x) s2.spools }

/-- PACKET_EJECT: a packet at its destination router is checked and dropped, or goes to the endpoint's ejection buffer while that has
room; the park mover takes its packets at once; an operation on a knot enters its home's queue in the order of its inputs, and waits in
the ejection buffer while the queue is full (R200, R206, R211, R251, R266, R380, R524). An echo is left to ECN_ECHO_RECEIVE. Nothing moves
in a clock-change window (R35). -/
def execPacketEject (i : Nat) (s : State) : Host.Outcome State Fault Refusal :=
  .next (match s.noc.flights[i]? with
    | none => s
    | some f =>
      if s.clk.inWindow then s
      else match f.loc with
      | .eject ep =>
        let h := homeOfEp ep
        if f.busy ≤ s.clk.edge && f.pkt.op = POp.knot && f.pkt.kop < 6 && (s.home h).length < 8 && s.homeTurn h f then
          State.settleHome h 8 ((s.dropFlight i).enterHome h f.pkt.knotOp)
        else s
      | _ =>
        if f.busy > s.clk.edge || f.out.isSome || !s.arrived f then s
        else
          let ep := (epOfDloc f.pkt.dloc).getD 8472
          match s.ejectCheck ep f.pkt with
          | some code => (s.dropFlight i).ejectDrop ep code f
          | none =>
            if f.pkt.ce then s
            else if 4352 + 48 ≤ ep && ep < 4352 + 64 then
              (((s.dropFlight i).moverWrite (ep - 4400) f.pkt).bridgeOut ep f.pkt.flits).echo ep f.pkt
            else if !s.roomFor (.eject ep) 1 then s
            else ((s.placeAt i f (.eject ep) (s.rd (Reg.LAT_ITEM_DEVICE 23) + f.pkt.flits - 1)).bridgeOut ep f.pkt.flits).echo ep f.pkt)

/-! ## Congestion control (R251, R252) -/

/-- Set an endpoint's ρ and note the lowest. -/
def State.setRate (ep v : Nat) (s : State) : State :=
  { s with noc := { s.noc with rates := sset 65536 s.noc.rates ep v } }.wr Reg.FAB_ECN_STAT_MIN_RATE
    (min (s.rd Reg.FAB_ECN_STAT_MIN_RATE) (min v 65535))

/-- ECN_ECHO_RECEIVE: an echo at its destination router is consumed and halves the endpoint's rate, down to the floor; nothing is
consumed in a clock-change window (R35, R251, R252). -/
def execEcnEchoReceive (i : Nat) (s : State) : Host.Outcome State Fault Refusal :=
  .next (match s.noc.flights[i]? with
    | none => s
    | some f =>
      let ep := (epOfDloc f.pkt.dloc).getD 8472
      if s.clk.inWindow || !f.pkt.ce || f.busy > s.clk.edge || f.out.isSome || !s.arrived f || (s.ejectCheck ep f.pkt).isSome then s
      else ((s.dropFlight i).stick Reg.FAB_ECN_STAT_ECHO_RX 1).setRate ep
        (max (s.rate ep / 2) (65536 / 2 ^ s.rd Reg.FAB_ECN_CTL_FLOOR_SHIFT)))

/-- ELASTIC_RATE_RESTORE: at a stitch that is a multiple of RESTORE_US × 1,000, once, every rate rises by its step (R252). -/
def execElasticRateRestore (s : State) : Host.Outcome State Fault Refusal :=
  let every := max 1 (s.rd Reg.FAB_ECN_CTL_RESTORE_US) * 1000
  .next (if s.now.toNat % every = 0 && s.now ≠ s.noc.restoredAt then
      { s with noc := { s.noc with
          rates := smap 65536 (fun _ r => min (r + s.rd Reg.FAB_ECN_CTL_RESTORE_STEP * 1024) 65536) s.noc.rates
          restoredAt := s.now } }
    else s)

/-! ## The route directory's commands (R198, R201, R202) -/

/-- Insert or replace an entry; none when its set is full (R201). -/
def bankInsert (b : Store (Option (BitVec 64))) (e : BitVec 64) : Option (Store (Option (BitVec 64))) :=
  let f := entFeid e
  let key := fun w => rdirSet f * 4 + w
  match bankWay b f with
  | some w => some (sset none b (key w) (some e))
  | none => ([0, 1, 2, 3].find? (fun w => sget none b (key w) = none)).map (fun w => sset none b (key w) (some e))

/-- Delete the entry of a FEID (R201). -/
def bankDelete (b : Store (Option (BitVec 64))) (e : BitVec 64) : Store (Option (BitVec 64)) :=
  match bankWay b (entFeid e) with
  | some w => sdel b (rdirSet (entFeid e) * 4 + w)
  | none => b

/-- Apply a list of entries in order: the bank, and the index of the entry whose set was full, where the list stops. -/
def bankApply (del : Bool) : List (BitVec 64) → Nat → Store (Option (BitVec 64)) → Store (Option (BitVec 64)) × Option Nat
  | [], _, b => (b, none)
  | e :: r, i, b =>
    if del then bankApply del r (i + 1) (bankDelete b e)
    else match bankInsert b e with
      | some b1 => bankApply del r (i + 1) b1
      | none => (b, some i)

/-- A directory update begins: its command completes with RDIR_UPDATE_DONE (R201). -/
def State.beginUpdate (j : RdirJob) (s : State) : State := { s with noc := { s.noc with upd := some j } }

/-- RDIR_WRITE (0x0510). -/
def specRdirWrite : CmdSpec where
  opcode := 0x0510
  vf := false
  used := usedBytes 0 12 ||| usedBits 12 0 1
  body := fun j s =>
    let c := j.cmd
    let a := c.fld 0 8
    let n := c.fld 8 4
    if n < 1 || 65536 < n || a % 64 ≠ 0 then s.complete j St.CMD_FORMAT
    else if s.noc.upd.isSome || s.noc.swapJob.isSome then s.complete j St.RDIR_BUSY
    else match s.dmaFail c.fn a (8 * n) with
      | some bad => s.completeD j St.DMA_ERROR bad 0
      | none =>
        let bs := s.hostRead a (8 * n)
        let es := (List.range n).map (fun i => BitVec.ofNat 64 (leAt bs (8 * i) 8))
        let r := bankApply ((c.fld 12 1) % 2 = 1) es 0 s.shadowBank
        (s.setShadow r.1).beginUpdate ⟨j.id, if r.2.isSome then St.RDIR_SET_FULL else St.OK, r.2.getD 0⟩

/-- RDIR_COPY (0x0511). -/
def specRdirCopy : CmdSpec where
  opcode := 0x0511
  vf := false
  used := 0
  body := fun j s =>
    if s.noc.upd.isSome || s.noc.swapJob.isSome then s.complete j St.RDIR_BUSY
    else (s.setShadow s.activeBank).beginUpdate ⟨j.id, St.OK, 0⟩

/-- Disarm a swap: the shadow bank is unlocked (R202). -/
def State.disarm (s : State) : State :=
  ({ s with noc := { s.noc with swapJob := none } }.wr Reg.FAB_RDIR_STAT_SWAP_ARMED 0).wr Reg.FAB_RDIR_STAT_SHADOW_LOCKED 0

/-- RDIR_SWAP (0x0512). -/
def specRdirSwap : CmdSpec where
  opcode := 0x0512
  vf := false
  used := usedBytes 0 8
  body := fun j s =>
    let at_ := BitVec.ofNat 64 (j.cmd.fld 0 8)
    if at_ = 0 then
      match s.noc.swapJob with
      | some k => (s.disarm.completeJob k St.RDIR_SWAP_CANCELLED 0 0).complete j St.OK
      | none => s.complete j St.OK
    else if s.noc.swapJob.isSome || s.noc.upd.isSome then s.complete j St.RDIR_BUSY
    else if stDiff s.now at_ < 1000 then s.complete j St.RDIR_SWAP_TOO_SOON
    else (({ s with noc := { s.noc with swapJob := some j.id } }.wr Reg.FAB_RDIR_STAT_SWAP_ARMED 1).wr
      Reg.FAB_RDIR_STAT_SHADOW_LOCKED 1).wr Reg.FAB_RDIR_SWAP_AT_STITCH at_.toNat

/-- RDIR_WRITE: an entry list is applied to the shadow bank (R201, R202). -/
def execRdirWrite (c : Cmd) (s : State) : Host.Outcome State Fault Refusal := .next (specRdirWrite.run c s)

/-- RDIR_COPY: the shadow bank becomes a copy of the active one (R201, R202). -/
def execRdirCopy (c : Cmd) (s : State) : Host.Outcome State Fault Refusal := .next (specRdirCopy.run c s)

/-- RDIR_SWAP: a bank swap is armed at a stitch, or an armed one is cancelled (R202). -/
def execRdirSwap (c : Cmd) (s : State) : Host.Outcome State Fault Refusal := .next (specRdirSwap.run c s)

/-- RDIR_UPDATE_DONE: the directory update in progress ends and its command completes (R201). -/
def execRdirUpdateDone (s : State) : Host.Outcome State Fault Refusal :=
  .next (match s.noc.upd with
    | none => s
    | some u => { s with noc := { s.noc with upd := none } }.completeJob u.job u.code u.detail 0)

/-- ROUTE_DIRECTORY_BANK_SWAP: the armed swap fires at its stitch: the banks change places and the command completes (R202). -/
def execRouteDirectoryBankSwap (s : State) : Host.Outcome State Fault Refusal :=
  .next (match s.noc.swapJob with
    | none => s
    | some k =>
      if !reached s.now (BitVec.ofNat 64 (s.rd Reg.FAB_RDIR_SWAP_AT_STITCH)) || !s.inTurn Ev.bankSwap then s
      else
        let a := s.activeBank.length
        let b := s.shadowBank.length
        (((((s.disarm.wr Reg.FAB_RDIR_STAT_ACTIVE (1 - s.rd Reg.FAB_RDIR_STAT_ACTIVE)).wr Reg.FAB_RDIR_STAT_ACTIVE_USED b).wr
          Reg.FAB_RDIR_STAT_SHADOW_USED a).wrap Reg.FAB_RDIR_STAT_SWAPS 1)).completeJob k St.OK 0 0)

end Sys2Proof.Machine
end

