-- ==== Sys2Proof/Machine/Knots.lean ====
section
/-! DEFINITION. Knots: the operations a home performs, grants and refusals, the host's commands, timeouts and lending (spec/10 R264 to
R281). -/

namespace Sys2Proof.Machine

/-! ## Waiters (R268, R269, R274, R275) -/

/-- Put a waiter in the order of R268: priority 3 first, arrival order within a priority. -/
def insWaiter (w : Waiter) : List Waiter → List Waiter
  | [] => [w]
  | v :: r => if v.prio < w.prio then w :: v :: r else v :: insWaiter w r

/-- The `n` oldest of a list of waiters, by their order of arrival at the knot (R269). -/
def oldest : Nat → List Waiter → List Waiter
  | 0, _ => []
  | n + 1, ws =>
    match ws.foldl (fun (acc : Option Waiter) w => match acc with
      | some v => if w.arr < v.arr then some w else some v
      | none => some w) none with
    | some w => w :: oldest n (ws.erase w)
    | none => []

/-- The barrier rule (R269): the count reaches N: it falls by N and the N oldest are granted. -/
def State.barrier (k n : Nat) (s : State) : State :=
  let x := s.knot k
  if x.stuck || x.count < n then s
  else
    let g := oldest n x.waiters
    (s.setKnot k { x with count := x.count - n, waiters := x.waiters.filter (fun w => !g.contains w) }).grantAll k g

/-! ## Requesters (R265, R271, R278) -/

/-- The panel of this device an SRC belongs to (R277, R278). -/
def State.srcPanel (s : State) (src : Nat) : Option Nat :=
  if feidCoord src = s.noc.feidCoord then s.panelOfEp (feidEp src) else none

/-- The panel of this device that asks for an operation: of a VF's command the VF's panel, else that of SRC. -/
def State.opPanel (s : State) (o : KnotOp) : Option Nat :=
  match o.panel with
  | some p => some p
  | none => s.srcPanel o.src

/-- The tile of this device that sent an operation. -/
def State.srcTile (s : State) (src : Nat) : Option Nat :=
  if feidCoord src = s.noc.feidCoord && feidEp src < 1088 then some (feidEp src) else none

/-- Complete the host command of an operation. -/
def State.doneOp (o : KnotOp) (code : Code) (s : State) : State :=
  match o.job with
  | some j => s.completeJob j code 0 0
  | none => s

/-- Refuse an operation: a WAIT or WAITALL is sent REFUSE, another host command completes with the code (R275, R278). -/
def State.refuseOp (o : KnotOp) (code : Code) (s : State) : State :=
  if o.kop = 1 || o.kop = 2 then s.answer o.knot 7 o.token code.toNat o.src else s.doneOp o code

/-- Add to a count; beyond 32 bits it sticks, and the signalling panel on this device, or else the owner, is faulted (R277). -/
def State.bump (o : KnotOp) (n : Nat) (s : State) : State :=
  let x := s.knot o.knot
  if x.stuck then s
  else if x.count + n < 2 ^ 32 then s.setKnot o.knot { x with count := x.count + n }
  else
    let p := match s.opPanel o with | some p => some p | none => s.knotOwner o.knot
    ((s.setKnot o.knot { x with count := 2 ^ 32 - 1, stuck := true }).faultOpt p St.KNOT_SATURATED o.knot o.src).signal 0 1

/-- Waiter entries listed at a home, and those it has (R275). -/
def State.entriesAt (s : State) (h : Nat) : Nat :=
  ((s.knots.filter (fun v => s.knotHome v.1 = h)).map (fun v => v.2.waiters.length)).sum
def State.entriesOf (s : State) (h : Nat) : Nat :=
  if h = hostHome then s.rd Reg.DBG_KNOT_CAP_HOST_WAITERS else s.rd Reg.DBG_KNOT_CAP_TILE_WAITERS

/-- A wait of a tile that no longer expects it: its step has ended (R274, log entry 24). -/
def State.orphan (s : State) (o : KnotOp) : Bool :=
  match s.srcTile o.src with
  | some t => !(s.tile t).waits.any (fun w => w.pd = o.token && w.knot = o.knot)
  | none => false

/-- Append a waiter, or refuse it: kinds mixed or unequal N is 0x0A05, no free entry 0x0A04 (R267, R269, R275). -/
def State.appendWaiter (h : Nat) (o : KnotOp) (s : State) : State :=
  let x := s.knot o.knot
  let all : Bool := o.kop == 2
  if s.orphan o then s.stick Reg.DBG_KNOT_ERR_ORPHAN 1
  else if x.waiters.any (fun w => w.all != all || (all && w.n != o.value)) then
    ((s.stick Reg.DBG_KNOT_ERR_MISUSE 1).faultOpt (s.opPanel o) St.KNOT_MISUSE o.knot o.src).refuseOp o St.KNOT_MISUSE
  else if s.entriesOf h ≤ s.entriesAt h then (s.stick Reg.DBG_KNOT_ERR_FULL 1).refuseOp o St.KNOT_WAITERS_FULL
  else
    let s1 := if all then s.bump o 1 else s
    let w : Waiter := { feid := o.src, all := all, n := o.value, prio := o.prio, token := o.token, at_ := s.now,
                        timeout := o.timeout, job := o.job, arr := x.appended }
    let s2 := s1.updKnot o.knot (fun y => { y with waiters := insWaiter w y.waiters, appended := y.appended + 1 })
    if all then s2.barrier o.knot o.value else s2.release o.knot

/-! ## The home performs an operation (R266, R267, R278) -/

/-- The operation at the front of a home's queue, when it is one of kind `kop` (or a removal). -/
def State.frontOp (s : State) (h kop : Nat) (remove : Bool) : Option KnotOp :=
  match s.home h with
  | o :: _ => if o.kop = kop && o.remove = remove then some o else none
  | [] => none

/-- An operation of another tenant is not performed (R278). -/
def State.foreignOp (o : KnotOp) (s : State) : State :=
  (((s.stick Reg.DBG_KNOT_ERR_FOREIGN 1).faultOpt (s.opPanel o) St.KNOT_FOREIGN o.knot o.src).signal 0 2).refuseOp o
    St.KNOT_FOREIGN

/-- Perform the front operation of a home when it is of the kind: after the checks of R265 and R278, by `f`. A tile's home stands still in
a clock-change window (R35). -/
def State.perform (h kop : Nat) (f : KnotOp → State → State) (s : State) : State :=
  match (if s.homeStopped h then none else s.frontOp h kop false) with
  | none => s
  | some o =>
    let s1 := State.settleHome h 8 (s.setHome h ((s.home h).drop 1))
    match s.knotOwner o.knot with
    | none => (s1.logN St.KNOT_NOT_OWNED none o.knot o.src).doneOp o St.KNOT_NOT_OWNED
    | some p => if o.tenant ≠ 0 && o.tenant ≠ s.tenant p then s1.foreignOp o else f o s1

/-- SIGNAL: count += n, then the release rule (R267, R268, R277). -/
def execSignalOp (home : Nat) (s : State) : Host.Outcome State Fault Refusal :=
  .next (s.perform home 0 (fun o s => ((s.bump o o.value).release o.knot).doneOp o St.OK))

/-- ARRIVE: NPKT arrivals are counted as a SIGNAL (R267, R272). -/
def execArrive (home : Nat) (s : State) : Host.Outcome State Fault Refusal :=
  .next (s.perform home 5 (fun o s => (s.bump o o.value).release o.knot))

/-- WAIT: a waiter is appended, then the release rule runs (R267, R268, R275). -/
def execWaitOp (home : Nat) (s : State) : Host.Outcome State Fault Refusal :=
  .next (s.perform home 1 (fun o s => s.appendWaiter home o))

/-- WAITALL: count += 1, a barrier waiter is appended, then the barrier rule runs (R267, R269, R275). -/
def execWaitall (home : Nat) (s : State) : Host.Outcome State Fault Refusal :=
  .next (s.perform home 2 (fun o s => s.appendWaiter home o))

/-- BROADCAST: every listed waiter is granted in order; the count is unchanged (R270). -/
def execBroadcast (home : Nat) (s : State) : Host.Outcome State Fault Refusal :=
  .next (s.perform home 3 (fun o s =>
    let ws := (s.knot o.knot).waiters
    ((s.updKnot o.knot (fun x => { x with waiters := [] })).grantAll o.knot ws).doneOp o St.OK))

/-- May the operation SET its knot: the owning panel, or the administrator under an authorisation in force (R271, R483)? -/
def State.maySet (s : State) (o : KnotOp) : Bool :=
  match s.knotOwner o.knot with
  | some p => s.opPanel o = some p || (o.auth && (s.rd Reg.DBG_AUTH_STAT_PF_AUTH).testBit p)
  | none => false

/-- A SET of a halted panel's knot, or one under debug authorisation, is a debug write to the panel (R488). -/
def State.setAlters (o : KnotOp) (s : State) : State :=
  match s.knotOwner o.knot with
  | some p => if o.auth || s.bit (Reg.DBG_PNL_STAT_HALTED p) then s.alter p else s
  | none => s

/-- SET: the count becomes the value, STUCK is cleared, then the release rule runs (R267, R271, R277). -/
def execSetOp (home : Nat) (s : State) : Host.Outcome State Fault Refusal :=
  .next (s.perform home 4 (fun o s =>
    if s.maySet o then
      (((s.updKnot o.knot (fun x => { x with count := o.value, stuck := false })).release o.knot).setAlters o).doneOp o St.OK
    else match o.job with
      | some j => s.completeJob j St.KNOT_SET_DENIED 0 0
      | none => s.answer o.knot 7 o.token St.KNOT_SET_DENIED.toNat o.src))

/-! ## Grants and refusals (R273 to R276) -/

/-- The host wait a token names (R276). -/
def State.waitJob (s : State) (token : Nat) : Option Nat := (s.jobs.find? (fun j => j.token = some token)).map (fun j => j.id)

/-- The lowest token that no outstanding host wait has (R276; DESIGN CHOICE, log entry 52). -/
def State.freeToken (s : State) : Nat :=
  ((List.range 65536).find? (fun t => !s.jobs.any (fun j => j.token = some t))).getD 0

/-- The next grant (KOP 6) or refusal (KOP 7) at an endpoint; a tile takes none in a clock-change window (R35). -/
def State.answerAt (s : State) (ep kop : Nat) : Option (Nat × Flight) :=
  if s.clk.inWindow && ep < 1088 then none else s.ejected ep (fun p => p.op = POp.knot && p.kop = kop)

/-- A tile's wait ends: the first of the predicate on the knot. -/
def Tile.endWait (x : Tile) (pd knot : Nat) : Option Tile :=
  if x.waits.any (fun w => w.pd = pd && w.knot = knot) then
    some { x with waits := x.waits.eraseP (fun w => w.pd = pd && w.knot = knot) }
  else none

/-- A grant or refusal reaches an engine's endpoint: it goes to the mailbox its scheduler reads (R274, log entry 76). -/
def State.toMail (ep : Nat) (o : KnotOp) (s : State) : State :=
  { s with noc := { s.noc with mail := sset [] s.noc.mail ep (sget [] s.noc.mail ep ++ [o]) } }

/-- GRANT: a grant reaches its waiter: all bits of the tile's predicate are set and present, the host wait completes, or it goes to the
engine; one that nobody awaits any more is discarded (R154, R274, R276). -/
def execGrant (ep : Nat) (s : State) : Host.Outcome State Fault Refusal :=
  .next (match s.answerAt ep 6 with
    | none => s
    | some (i, f) =>
      let s1 := s.dropFlight i
      let token := f.pkt.knotOp.token
      if ep < 1088 then
        match (s1.tile ep).endWait token f.pkt.knot with
        | some x => s1.setTile ep ((x.wrCell (kP token) (0, 2 ^ 64 - 1, 2 ^ 64 - 1)).present (kP token))
        | none => s1
      else if ep = epHost 0 then
        match s1.waitJob token with
        | some j => s1.completeJob j St.OK 0 0
        | none => s1
      else s1.toMail ep f.pkt.knotOp)

/-- REFUSE: a refusal reaches its waiter: the tile's panel is faulted, the host command completes with the code, or it goes to the engine
(R274, R275). -/
def execRefuse (ep : Nat) (s : State) : Host.Outcome State Fault Refusal :=
  .next (match s.answerAt ep 7 with
    | none => s
    | some (i, f) =>
      let s1 := s.dropFlight i
      let o := f.pkt.knotOp
      let code := BitVec.ofNat 16 o.value
      if ep < 1088 then
        match (s1.tile ep).endWait o.token o.knot with
        | some x => (s1.setTile ep x).tileFault ep code o.knot x.cy
        | none => s1
      else if ep = epHost 0 then
        match s1.waitJob o.token with
        | some j => s1.completeJob j code 0 0
        | none => s1
      else s1.toMail ep o)

/-! ## Host commands (R276) -/

/-- The tag a host command's operation carries: 0 for the PF, the panel's for its VF (R278). -/
def State.cmdTag (s : State) (c : Cmd) : Nat := if c.fn = 0 then 0 else s.tenant (c.fn - 1)

/-- From a VF, a knot of another panel (R276, R424); one of no panel is left to 0x0A03. -/
def foreignKnot (c : Cmd) (s : State) : Bool :=
  match s.knotOwner (c.fld 0 2) with
  | some p => p + 1 ≠ c.fn
  | none => false

/-- Check the knot of a command, then queue its operation at the home, from the host-die sources (R266, R276). -/
def State.queueOp (j : Job) (o : KnotOp) (s : State) : State :=
  let k := j.cmd.fld 0 2
  match s.knotOwner k with
  | none => (s.logN St.KNOT_NOT_OWNED none k (s.feid (epHost 0))).complete j St.KNOT_NOT_OWNED
  | some p =>
    if j.cmd.pnl.isSome && j.cmd.pnl ≠ some p then s.complete j St.KNOT_NOT_OWNED
    else
      let t := s.freeToken
      let s1 := if o.kop = 1 || o.kop = 2 then
          { s with jobs := s.jobs.map (fun x => if x.id = j.id then { x with token := some t } else x) } else s
      s1.hostEnter (s.knotHome k) { o with
        knot := k, tenant := s.cmdTag j.cmd, src := s.feid (epHost 0), job := some j.id, token := t
        panel := if j.cmd.fn = 0 then none else some (j.cmd.fn - 1) }

/-- The stitch a timeout in µs ends at; none for 0. -/
def State.timeoutAt (s : State) (us : Nat) : Option W64 := if us = 0 then none else some (s.now + BitVec.ofNat 64 (us * 1000))

/-- KNOT_SIGNAL (0x0601). -/
def specKnotSignal : CmdSpec where
  opcode := 0x0601
  vf := true
  used := usedBytes 0 2 ||| usedBytes 4 4
  foreign := foreignKnot
  body := fun j s =>
    if j.cmd.fld 4 4 = 0 then s.complete j St.KNOT_MISUSE
    else s.queueOp j { kop := 0, knot := 0, value := j.cmd.fld 4 4 }

/-- KNOT_WAIT (0x0602). -/
def specKnotWait : CmdSpec where
  opcode := 0x0602
  vf := true
  used := usedBytes 0 2 ||| usedBytes 4 5 ||| usedBytes 12 4
  foreign := foreignKnot
  body := fun j s =>
    if 3 < j.cmd.fld 8 1 then s.complete j St.KNOT_MISUSE
    else s.queueOp j { kop := 1, knot := 0, value := j.cmd.fld 4 4, prio := j.cmd.fld 8 1, timeout := s.timeoutAt (j.cmd.fld 12 4) }

/-- KNOT_WAITALL (0x0603). -/
def specKnotWaitall : CmdSpec where
  opcode := 0x0603
  vf := true
  used := usedBytes 0 2 ||| usedBytes 4 2 ||| usedBytes 8 1 ||| usedBytes 12 4
  foreign := foreignKnot
  body := fun j s =>
    if 3 < j.cmd.fld 8 1 || j.cmd.fld 4 2 = 0 || 4095 < j.cmd.fld 4 2 then s.complete j St.KNOT_MISUSE
    else s.queueOp j { kop := 2, knot := 0, value := j.cmd.fld 4 2, prio := j.cmd.fld 8 1, timeout := s.timeoutAt (j.cmd.fld 12 4) }

/-- KNOT_BROADCAST (0x0604). -/
def specKnotBroadcast : CmdSpec where
  opcode := 0x0604
  vf := true
  used := usedBytes 0 2
  foreign := foreignKnot
  body := fun j s => s.queueOp j { kop := 3, knot := 0 }

/-- KNOT_SET (0x0605): from the PF, of a knot a panel owns, it needs debug authorisation (R271, R483). -/
def specKnotSet : CmdSpec where
  opcode := 0x0605
  vf := true
  used := usedBytes 0 2 ||| usedBytes 4 4
  foreign := foreignKnot
  body := fun j s =>
    let c := j.cmd
    match s.knotOwner (c.fld 0 2) with
    | some p =>
      if c.fn = 0 && (c.pnl.isNone || c.pnl = some p) && !(s.rd Reg.DBG_AUTH_STAT_PF_AUTH).testBit p then
        s.complete j St.DBG_NOT_AUTHORISED
      else s.queueOp j { kop := 4, knot := 0, value := c.fld 4 4, auth := c.fn == 0 }
    | none => s.queueOp j { kop := 4, knot := 0, value := c.fld 4 4 }

/-- KNOT_READ (0x0606): count, waiters and STUCK. -/
def specKnotRead : CmdSpec where
  opcode := 0x0606
  vf := true
  used := usedBytes 0 2
  foreign := foreignKnot
  body := fun j s =>
    let k := j.cmd.fld 0 2
    let x := s.knot k
    match s.knotOwner k with
    | none => s.complete j St.KNOT_NOT_OWNED
    | some p =>
      if j.cmd.pnl.isSome && j.cmd.pnl ≠ some p then s.complete j St.KNOT_NOT_OWNED
      else s.completeD j St.OK (x.count + min x.waiters.length 4095 * 2 ^ 32 + (if x.stuck then 2 ^ 44 else 0)) 0

/-- KNOT_SIGNAL: signals a knot; it completes when performed at the home (R276). -/
def execKnotSignal (c : Cmd) (s : State) : Host.Outcome State Fault Refusal := .next (specKnotSignal.run c s)

/-- KNOT_WAIT: waits on a knot; it completes on grant, refusal or timeout (R276). -/
def execKnotWait (c : Cmd) (s : State) : Host.Outcome State Fault Refusal := .next (specKnotWait.run c s)

/-- KNOT_WAITALL: joins a barrier (R276). -/
def execKnotWaitall (c : Cmd) (s : State) : Host.Outcome State Fault Refusal := .next (specKnotWaitall.run c s)

/-- KNOT_BROADCAST: grants every waiter of a knot (R276). -/
def execKnotBroadcast (c : Cmd) (s : State) : Host.Outcome State Fault Refusal := .next (specKnotBroadcast.run c s)

/-- KNOT_SET: sets a knot's count (R271, R276). -/
def execKnotSet (c : Cmd) (s : State) : Host.Outcome State Fault Refusal := .next (specKnotSet.run c s)

/-- KNOT_READ: returns a knot's count, waiters and STUCK (R276). -/
def execKnotRead (c : Cmd) (s : State) : Host.Outcome State Fault Refusal := .next (specKnotRead.run c s)

/-! ## Timeouts and lending (R276, R281) -/

/-- HOST_KNOT_WAIT_TIMEOUT: a host wait's timeout stitch is reached: its removal is queued at the home (R276). -/
def execHostKnotWaitTimeout (knot job : Nat) (s : State) : Host.Outcome State Fault Refusal :=
  .next (match (s.knot knot).waiters.find? (fun w => w.job = some job) with
    | none => s
    | some w => match w.timeout with
      | none => s
      | some t =>
        if !reached s.now t || s.removing (s.knotHome knot) job || !s.inTurn Ev.knotTimeout then s
        else s.hostEnter (s.knotHome knot) { kop := 7, knot := knot, job := some job, remove := true })

/-- KNOT_WAITER_REMOVE: the home removes a timed-out host wait, which completes with 0x0A07 unless its grant came first (R276). -/
def execKnotWaiterRemove (home : Nat) (s : State) : Host.Outcome State Fault Refusal :=
  .next (match (if s.homeStopped home then none else s.frontOp home 7 true) with
    | none => s
    | some o =>
      let s1 := State.settleHome home 8 (s.setHome home ((s.home home).drop 1))
      let x := s1.knot o.knot
      if x.waiters.any (fun w => w.job = o.job) then
        ((s1.setKnot o.knot { x with waiters := x.waiters.filter (fun w => w.job ≠ o.job) }).doneOp o St.KNOT_WAIT_TIMEOUT).release o.knot
      else s1)

/-- KNOT_LEND_REPORT: a tile waiter listed for LEND_US reports its row for lending, once; the loan ends with the entry (R281, R443). -/
def execKnotLendReport (knot i : Nat) (s : State) : Host.Outcome State Fault Refusal :=
  let x := s.knot knot
  let us := s.rd Reg.DBG_KNOT_CTL_LEND_US
  .next (match x.waiters[i]? with
    | none => s
    | some w =>
      if (s.srcTile w.feid).isSome && !w.lent && us ≠ 0 && decide (us * 1000 ≤ (s.now - w.at_).toNat) then
        s.setKnot knot { x with waiters := lmod x.waiters i (fun v => { v with lent := true }) }
      else s)

end Sys2Proof.Machine
end

