-- ==== Sys2Proof/Machine/LinkCore.lean ====
section
/-! DEFINITION. The link layer's shared operations: packets as bytes and as units of a flit stream, virtual lanes, acknowledgement,
retrains and what leaving ACTIVE discards (spec/07 R193 to R195; spec/08 R218 to R231). -/

namespace Sys2Proof.Machine

/-! ## Packets as bytes (R193, R195) -/

/-- Bytes 0 to 29 of a packet's header (R193). -/
def Packet.head (p : Packet) : List Byte :=
  let b (c : Bool) : Nat := if c then 1 else 0
  bytesOf 30 (p.dst + p.src * 2 ^ 24 + p.tenant * 2 ^ 48 + p.tc * 2 ^ 56 + b p.cm * 2 ^ 58 + b p.ce * 2 ^ 59 + b p.knv * 2 ^ 60
    + p.seq * 2 ^ 64 + p.knot * 2 ^ 80 + p.op * 2 ^ 96 + p.len * 2 ^ 100 + p.rtag * 2 ^ 104 + p.ddev * 2 ^ 128 + p.dloc * 2 ^ 138
    + p.npkt * 2 ^ 154)

/-- A packet as it travels: header with HCRC over bytes 0 to 29, then LEN × 64 payload bytes (R193, R195). -/
def Packet.bytes (p : Packet) : List Byte :=
  p.head ++ bytesOf 2 (crc16 p.head) ++ (p.payload ++ List.replicate (64 * p.len - p.payload.length) 0).take (64 * p.len)

/-- The header of received bytes is good: HCRC, TC, OP and LEN (R195). -/
def headGood (bs : List Byte) : Bool :=
  leAt bs 30 2 = crc16 (bs.take 30) && bits (leAt bs 0 16) 56 2 < 2 && bits (leAt bs 0 16) 96 4 < 5 && bits (leAt bs 0 16) 100 4 ≤ 8

/-- A packet from its bytes (R193). -/
def packetOf (bs : List Byte) : Packet :=
  let h := leAt bs 0 30
  { dst := bits h 0 24, src := bits h 24 24, tenant := bits h 48 8, tc := bits h 56 2, cm := h.testBit 58, ce := h.testBit 59,
    knv := h.testBit 60, seq := bits h 64 16, knot := bits h 80 16, op := bits h 96 4, len := bits h 100 4, rtag := bits h 104 24,
    ddev := bits h 128 10, dloc := bits h 138 16, npkt := bits h 154 16, bad := !headGood bs, payload := bs.drop 32 }

/-! ## Virtual lanes and units (R219, R220, R222) -/

/-- The virtual lane of a packet (R220). -/
def Packet.vl (p : Packet) : Nat := if p.op = POp.knot || p.op = POp.ctrl then 2 else p.tc

/-- Flit buffers of a virtual lane at the receiver (R222). -/
def vlBuffers (v : Nat) : Nat := if v = 0 then 192 else if v = 1 then 256 else 64

def Port.rx (x : Port) (v : Nat) : List Unit16 := if v = 0 then x.rx0 else if v = 1 then x.rx1 else x.rx2
def Port.setRx (x : Port) (v : Nat) (l : List Unit16) : Port :=
  if v = 0 then { x with rx0 := l } else if v = 1 then { x with rx1 := l } else { x with rx2 := l }
def Port.tx (x : Port) (v : Nat) : List Unit16 := if v = 0 then x.tx0 else if v = 1 then x.tx1 else x.tx2
def Port.setTx (x : Port) (v : Nat) (l : List Unit16) : Port :=
  if v = 0 then { x with tx0 := l } else if v = 1 then { x with tx1 := l } else { x with tx2 := l }
def Port.que (x : Port) (v : Nat) : List (Packet × Nat) := if v = 0 then x.q0 else if v = 1 then x.q1 else x.q2
def Port.setQue (x : Port) (v : Nat) (l : List (Packet × Nat)) : Port :=
  if v = 0 then { x with q0 := l } else if v = 1 then { x with q1 := l } else { x with q2 := l }
def Port.owe (x : Port) (v : Nat) : Nat := if v = 0 then x.owe0 else if v = 1 then x.owe1 else x.owe2
def Port.setOwe (x : Port) (v n : Nat) : Port :=
  if v = 0 then { x with owe0 := n } else if v = 1 then { x with owe1 := n } else { x with owe2 := n }

/-- Credits held for a virtual lane. -/
def credFld (n v : Nat) : Fld := if v = 0 then Reg.LNK_PCRED_VL0 n else if v = 1 then Reg.LNK_PCRED_VL1 n else Reg.LNK_PCRED_VL2 n

/-- Flits whose bytes are still held in a receive stream (R222). -/
def flitsHeld (l : List Unit16) : Nat := (l.filter (fun u => u.last)).length

/-- A packet as units of 16 bytes. -/
def Packet.units (p : Packet) : List Unit16 :=
  let b := p.bytes
  (List.range (2 + 4 * p.len)).map (fun i => ⟨i = 0, false, (b.drop (16 * i)).take 16, 0⟩)

/-- The units a DATA flit brings (R219, R220). -/
def flitUnits (f : Flit) : List Unit16 :=
  (List.range 15).map (fun i => ⟨f.start.getLsbD i, i = 14, ((f.body.drop (16 * i)).take 16) ++
    List.replicate (16 - ((f.body.drop (16 * i)).take 16).length) 0, 0⟩)

/-- Drop the units in front that belong to no packet: padding, and the rest of one whose header was bad. -/
def skipPad : List Unit16 → List Unit16
  | [] => []
  | u :: r => if u.start then u :: r else skipPad r

/-- Units of the packet at the front of a stream, if all of them are there; a bad header ends at the next start (R195, R222). -/
def frontPacket (l : List Unit16) : Option (Packet × Nat) :=
  match l with
  | u :: v :: _ =>
    let h := u.bytes ++ v.bytes
    if headGood h then
      let n := 2 + 4 * bits (leAt h 0 16) 100 4
      if l.length < n then none else some (packetOf ((l.take n).flatMap (fun w => w.bytes)), n)
    else
      let n := 1 + ((l.drop 1).takeWhile (fun w => !w.start)).length
      some (packetOf h, max 1 n)
  | _ => none

/-! ## States of a port (R225 to R230) -/

/-- LNK_PSTAT_n.STATE values (R226). -/
abbrev LS.off : Nat := 0
abbrev LS.elec : Nat := 1
abbrev LS.align : Nat := 2
abbrev LS.param : Nat := 3
abbrev LS.active : Nat := 4
abbrev LS.retrain : Nat := 5
abbrev LS.down : Nat := 6
abbrev LS.seamed : Nat := 7

def State.lst (s : State) (n : Nat) : Nat := s.rd (Reg.LNK_PSTAT_STATE n)

/-- A port that can work: it is present and the domain of its link die is Active (R215, R216). -/
def State.portUp (s : State) (n : Nat) : Bool := s.portPresent n && s.domOn (domOfPort n)

/-- What a port that trains does now: 0 ALIGN, 1 PARAM, 2 ELEC; in RETRAIN, and in an attempt of DOWN, as well (R226). -/
def State.phase (s : State) (n : Nat) : Option Nat :=
  let st := s.lst n
  if st = LS.elec then some 2
  else if st = LS.align then some 0
  else if st = LS.param then some 1
  else if st = LS.retrain || (st = LS.down && (s.port n).retry) then some (s.port n).sub
  else none

/-- A port's check result changes now (R258). -/
def State.checkChanged (s : State) : State := { s with fab := { s.fab with checkAt := s.now } }

/-- A port that has passed must pass again; a MISWIRED one stays so (R258, R263). -/
def State.uncheckPort (n : Nat) (s : State) : State :=
  if (s.port n).checked then (s.updPort n (fun x => { x with checked := false })).checkChanged else s

/-- A port's check result is forgotten, MISWIRED too: it leaves ACTIVE, or a new epoch begins (R258). -/
def State.clearCheck (n : Nat) (s : State) : State :=
  let s1 := s.uncheckPort n
  if s1.bit (Reg.FAB_PORTMAP_MISWIRED n) then (s1.wr (Reg.FAB_PORTMAP_MISWIRED n) 0).checkChanged else s1

/-- Set a port's state and note the stitch; one that leaves ACTIVE loses its check result and leaves service (R243, R258), and one that
leaves OFF or DOWN needs its link die Active (R216, R435). -/
def State.setLst (n v : Nat) (s : State) : State :=
  let was := s.lst n
  let s0 := if v ≠ LS.off && v ≠ LS.down then s.demand (domOfPort n) else s
  let s1 := (s0.wr (Reg.LNK_PSTAT_STATE n) v).updPort n (fun x => { x with stateAt := s.now })
  if was = LS.active && v ≠ LS.active then s1.clearCheck n else s1

/-- Start a retrain (R225). -/
def State.retrain (n cause : Nat) (s : State) : State :=
  if s.lst n ≠ LS.active then s
  else
    (((s.setLst n LS.retrain).wr (Reg.LNK_PSTAT_LAST_CAUSE n) cause).stick (Reg.LNK_ERR_RETRAIN n) 1).updPort n (fun x => { x with
      retrainAt := s.now, sub := 0, sentDone := false, recvDone := false, heard := false, echoOwed := none })

/-- Packets with a byte in a run of a lane's stream: those that begin in it, and one that began before it. -/
def packetsIn (l : List Unit16) : Nat :=
  (l.filter (fun u => u.start)).length + (match l with | u :: _ => if u.start then 0 else 1 | [] => 0)

/-- What a lane has sent without an acknowledgement, and what it has begun to send (R224). -/
def Port.outgoing (x : Port) (v : Nat) : List Unit16 :=
  (x.replay.filter (fun f => f.vl.toNat = v)).flatMap flitUnits ++ x.tx v

/-- Packets a port's link die holds, those in the replay buffer among them (R230). -/
def Port.held (x : Port) : Nat :=
  ([0, 1, 2].map (fun v => ((x.rx v).filter (fun u => u.start)).length + (x.que v).length + packetsIn (x.outgoing v))).sum

/-- A port with nothing in it, as it starts from OFF or DOWN (R227); its timing-frame numbers and its command stay. -/
def Port.emptied (x : Port) : Port :=
  { x with rx0 := [], rx1 := [], rx2 := [], tx0 := [], tx1 := [], tx2 := [], q0 := [], q1 := [], q2 := [], expect := 0, next := 0
           replay := [], replayAt := none, nakIn := false, episode := false, nakOut := false, naksSent := 0, naksRecv := 0
           owe0 := 0, owe1 := 0, owe2 := 0, violations := [], uncorr := [], sub := 0, sentDone := false, recvDone := false
           heard := false, echoOwed := none, ctrlOut := [], lim := [], pair := 0, flitInPair := 0, retry := false }

/-- Discard what the link die holds for a port, in both directions, and count its packets (R230). -/
def State.dumpPort (n : Nat) (s : State) : State :=
  let fs := s.noc.flights.filter (fun f => f.loc = .egress n)
  let s1 := s.stick (Reg.LNK_DROP_PACKETS n) ((s.port n).held + fs.length)
  let s2 := { s1 with noc := { s1.noc with flights := s1.noc.flights.filter (fun f => f.loc ≠ Loc.egress n && f.loc ≠ Loc.ingress n) } }
  (s2.updPort n Port.emptied).wr (Reg.LNK_PCRED_REPLAY n) 0

/-- Enter DOWN with a code (R226, R230). -/
def State.goDown (n : Nat) (code : Code) (d : Nat) (s : State) : State :=
  (((s.dumpPort n).setLst n LS.down).updPort n (fun x => { x with retryAt := s.now })).event 4 code none n d

/-- Enter OFF: the transmitter is squelched and the receiver ignored; what was held is lost (R226, R227, log entry 16). -/
def State.goOff (n : Nat) (s : State) : State :=
  ((s.dumpPort n).updPort n (fun x => { x with offline := false, offJobs := [], dropLogged := false })).setLst n LS.off

/-- Does the present state begin at the stitch noted, at least `ns` stitches ago? -/
def State.lasted (s : State) (since : W64) (ns : Nat) : Bool := ns ≤ (s.now - since).toNat

/-! ## Acknowledgement (R224) -/

/-- 12-bit serial order: `a` is `b` or behind it. -/
def covered (a b : Nat) : Bool := (b + 4096 - a) % 4096 < 2048

/-- Flits an ACK has not covered. -/
def unacked (ack : Nat) (l : List Flit) : List Flit := l.filter (fun f => !covered f.fseq.toNat ack)

/-- Apply a cumulative ACK: the flits it covers leave the replay buffer; a replay with nothing left to resend is over. -/
def State.applyAck (n ack : Nat) (s : State) : State :=
  let x := s.port n
  let l := unacked ack x.replay
  let gone := x.replay.length - l.length
  (s.setPort n { x with replay := l, replayAt := if l = [] then none else x.replayAt.map (fun i => i - gone) }).wr (Reg.LNK_PCRED_REPLAY n) l.length

/-- Credits returned for a virtual lane. -/
def State.addCredit (n v k : Nat) (s : State) : State := s.stick (credFld n v) k

/-- A NAK sent or received for an FSEQ: NAK_LIMIT consecutive ones start a retrain (R225). -/
def State.nakLimit (n count : Nat) (s : State) : State := if s.rd Reg.LNK_CTL_NAK_LIMIT ≤ count then s.retrain n 1 else s

/-! ## Stamps (R232) -/

/-- STI_STATUS.STATE (R21). -/
def State.sst (s : State) : Nat := s.rd Reg.STI_STATUS_STATE

/-- A stamp: STI_COUNT × 256 plus the fraction of the stitch (R232). -/
def State.stamp (s : State) : W64 := s.now * 256 + BitVec.ofNat 64 (s.clk.phase * 256 / edgesPer10 (s.rd Reg.STI_CLK_POINT))

/-- Payload of a timing frame; a master names its own coordinate (R24, R232). -/
def State.timePayload (s : State) (n seq : Nat) : List Byte :=
  let x := s.port n
  let prev := match x.txStamps.getLast? with | some v => v.2 | none => 0
  [1, 0] ++ bytesOf 2 seq ++ bytesOf 2 (x.peerTseq.getD 0) ++ [0, 0] ++ bytesOf 8 prev.toNat ++ bytesOf 8 x.peerRx.toNat
  ++ bytesOf 8 x.peerPrevTx.toNat ++
  bytesOf 2 (if s.bit Reg.STI_STATUS_IS_MASTER then s.coord else s.rd Reg.STI_STATUS_MASTER_COORD)
  ++ [BitVec.ofNat 8 (s.rd Reg.STI_STATUS_HOPS), BitVec.ofNat 8 s.sst]

end Sys2Proof.Machine
end

