-- ==== Sys2Proof/Machine/Links.lean ====
section
/-! DEFINITION. The rows of the Drubo links: flits received and sent, replay, training, retrains, ports and seams (spec/08 R214 to R238;
spec/07 R209; spec/09 R250, R261). -/

namespace Sys2Proof.Machine

/-! ## Receiving flits (R221 to R225) -/

/-- A corrupt flit is counted, or the uncorrectable codewords that first show with it; when 64 of these in 1 ms are exceeded the port
retrains with cause UNCORR (R219, R221, R225). -/
def State.countCorrupt (n : Nat) (f : Flit) (s : State) : State :=
  if f.uncorr then
    let l := (s.port n).uncorr.filter (fun t => (s.now - t).toNat < 1000000) ++ List.replicate f.cws s.now
    let s1 := (s.stick (Reg.LNK_ERR_UNCORR n) f.cws).updPort n (fun x => { x with uncorr := l })
    if l.length > 64 then s1.retrain n 3 else s1
  else s.stick (Reg.LNK_ERR_CRC n) 1

/-- Symbols FEC corrected are counted on their lanes, and the codeword once. -/
def State.countCorr (n : Nat) (f : Flit) (s : State) : State :=
  if f.corr = [] then s
  else f.corr.foldl (fun s l => s.stick (Reg.LNK_LANE_SYM_ERR n l.toNat) 1) (s.wrapOvf (Reg.LNK_FEC_CORR n) (Reg.LNK_FEC_OVF n) 1)

/-- A DATA flit is refused: the first of an episode asks for a NAK (R223). -/
def State.refuseFlit (n : Nat) (s : State) : State :=
  let x := s.port n
  if x.episode then s
  else (s.setPort n { x with episode := true, nakOut := true, nakAt := s.now, naksSent := x.naksSent + 1 }).nakLimit n (x.naksSent + 1)

/-- A flit refused only for a full buffer: four within 1 ms start a retrain (R223). -/
def State.creditViolation (n v : Nat) (s : State) : State :=
  let l := (s.port n).violations.filter (fun t => (s.now - t).toNat < 1000000) ++ [s.now]
  let s1 := ((s.event 4 St.CREDIT_VIOLATION none n v).stick (Reg.LNK_ERR_CREDIT n) 1).updPort n (fun x => { x with violations := l })
  if 4 ≤ l.length then s1.retrain n 4 else s1

/-- The ACK, NAK and credit fields of a good flit (R219, R222, R224). -/
def State.applyControl (n : Nat) (f : Flit) (s : State) : State :=
  let s1 := (((s.applyAck n f.ack.toNat).addCredit n 0 f.cr0.toNat).addCredit n 1 f.cr1.toNat).addCredit n 2 f.cr2.toNat
  let x := s1.port n
  if f.nak then
    let k := if x.nakSeq = (f.ack.toNat + 1) % 4096 then x.naksRecv + 1 else 1
    (s1.setPort n { x with nakIn := true, nakSeq := (f.ack.toNat + 1) % 4096, naksRecv := k }).nakLimit n k
  else s1

/-! ### Combining in a receive buffer (R211) -/

/-- A packet that is complete in a receive stream: its first unit, how many it has, and the packet. -/
structure RxPacket where
  first : Nat
  units : Nat
  pkt : Packet
  deriving DecidableEq, Repr

/-- The complete packets of a stream that begins `start` units into its buffer; `fuel` bounds them. -/
def rxPackets : Nat → Nat → List Unit16 → List RxPacket
  | 0, _, _ => []
  | k + 1, start, l =>
    let r := skipPad l
    let a := start + (l.length - r.length)
    match frontPacket r with
    | none => []
    | some (p, n) => ⟨a, n, p⟩ :: rxPackets k (a + n) (r.drop n)

/-- The first two packets, Q before P, of which P combines into Q. -/
def joinPair : List RxPacket → Option (RxPacket × RxPacket)
  | [] => none
  | q :: r => match r.find? (fun p => !p.pkt.bad && !q.pkt.bad && combines p.pkt q.pkt) with
    | some p => some (q, p)
    | none => joinPair r

/-- Take the units of a packet out of a stream: what is left, and the flit buffers that nothing is left in. -/
def cutUnits (l : List Unit16) (p : RxPacket) : List Unit16 × Nat :=
  let pre := l.take p.first
  let ends := flitsHeld ((l.drop p.first).take p.units)
  match pre.getLast? with
  | some u =>
    if 0 < ends && !u.last then (pre.dropLast ++ [{ u with last := true }] ++ l.drop (p.first + p.units), ends - 1)
    else (pre ++ l.drop (p.first + p.units), ends)
  | none => (l.drop (p.first + p.units), ends)

/-- Write a packet over the units of one of the same length, which may not advance before edge `hold`. -/
def putUnits (l : List Unit16) (q : RxPacket) (p : Packet) (hold : Nat) : List Unit16 :=
  l.take q.first ++ (p.units.zip ((l.drop q.first).take q.units)).map (fun u => { u.2 with bytes := u.1.bytes, hold := hold })
    ++ l.drop (q.first + q.units)

/-- Equal SADD packets that wait in a virtual lane's receive buffer are added into the earliest of them; `fuel` bounds them (R211). -/
def State.joinRx (n v : Nat) : Nat → State → State
  | 0, s => s
  | k + 1, s =>
    let x := s.port n
    match (if s.bit Reg.FAB_NOC_CTL_COMB_DIS then none else joinPair (rxPackets (x.rx v).length 0 (x.rx v))) with
    | none => s
    | some (q, p) =>
      let hold := s.clk.edge + q.pkt.flits
      let w := cutUnits (putUnits (x.rx v) q (combined p.pkt q.pkt) hold) p
      let s1 := s.setPort n ((x.setRx v w.1).setOwe v (x.owe v + w.2))
      let atFront : Bool := q.first + (skipPad (x.rx v)).length = (x.rx v).length
      let s2 := { s1 with noc := { s1.noc with flights := s1.noc.flights.map (fun (f : Flight) =>
        if atFront && f.loc = Loc.ingress n && f.pkt.vl = v then { f with pkt := combined p.pkt f.pkt, busy := hold } else f) } }
      State.joinRx n v k (s2.wrapOvf Reg.FAB_NOC_COMB_COUNT Reg.FAB_NOC_COMB_OVF 1)

/-- The arrival decision on a DATA flit (R211, R223). -/
def State.arriveFlit (n : Nat) (f : Flit) (s : State) : State :=
  let x := s.port n
  let v := f.vl.toNat
  if f.fseq.toNat ≠ x.expect then s.refuseFlit n
  else if vlBuffers v ≤ flitsHeld (x.rx v) then (s.refuseFlit n).creditViolation n v
  else ((s.setPort n { x.setRx v (x.rx v ++ flitUnits f) with
      expect := (x.expect + 1) % 4096, episode := false, nakOut := false, naksSent := 0 }).wrapOvf
    (Reg.LNK_RXFLITS_COUNT n) (Reg.LNK_RXFLITS_OVF n) 1).joinRx n v 8

/-- The other port of the seam a port belongs to (R234). -/
def State.seamPartner (s : State) (n : Nat) : Option Nat :=
  (List.range 12).findSome? (fun k =>
    if !s.bit (Reg.LNK_SEAM_VALID k) then none
    else if s.rd (Reg.LNK_SEAM_PORT_A k) = n then some (s.rd (Reg.LNK_SEAM_PORT_B k))
    else if s.rd (Reg.LNK_SEAM_PORT_B k) = n then some (s.rd (Reg.LNK_SEAM_PORT_A k))
    else none)

/-- Bytes of a flit: payload, control area and FCRC (R219). -/
def flitBytes (f : Flit) : List Byte :=
  let b := (f.body ++ List.replicate (240 - f.body.length) 0).take 240 ++
    bytesOf 12 (f.ftype.toNat + f.vl.toNat * 4 + f.fseq.toNat * 2 ^ 4 + f.ack.toNat * 2 ^ 16 + (if f.nak then 2 ^ 28 else 0)
      + f.start.toNat * 2 ^ 32 + f.cr0.toNat * 2 ^ 48 + f.cr1.toNat * 2 ^ 56 + f.cr2.toNat * 2 ^ 64)
  b ++ bytesOf 4 (crc32 b)

/-- A flit as it passes through a seam: as received, a corrupt one with an FCRC that fails (R234). -/
def seamBytes (f : Flit) : List Byte :=
  let b := flitBytes f
  if f.corrupt || f.uncorr then b.take 252 ++ (b.drop 252).map (fun x => ~~~x) else b

/-- FLIT_RECEIVE: a flit from FEC decoding at an ACTIVE port: a corrupt one is counted and refused; the fields of a good one are
applied, and a DATA flit is accepted or refused. What a CTRL flit says comes with its own command. In PARAM a corrupt flit is counted; at
a SEAMED port the flit leaves through the partner (R219, R221 to R225, R234, log entry 77). -/
def execFlitReceive (port : Nat) (f : Flit) (s : State) : Host.Outcome State Fault Refusal :=
  .next (if !s.portUp port then s
    else if s.lst port = LS.seamed then
      match s.seamPartner port with
      | some m => s.emit (.flit m (seamBytes f))
      | none => s
    else if s.phase port = some 1 then
      let s1 := s.countCorr port f
      if f.corrupt || f.uncorr || f.ftype = 3 then s1.countCorrupt port f else s1
    else if s.lst port ≠ LS.active then s
    else
      let s1 := s.countCorr port f
      if f.corrupt || f.uncorr || f.ftype = 3 || (f.ftype = 0 && f.vl = 3) then
        let s2 := s1.countCorrupt port f
        if f.ftype = 0 && s2.lst port = LS.active then s2.refuseFlit port else s2
      else
        let s2 := s1.applyControl port f
        if f.ftype = 0 && s2.lst port = LS.active then s2.arriveFlit port f else s2)

/-- REPLAY_START: after a NAK the transmitter resends the buffered flits from ACK + 1 (R224). -/
def execReplayStart (port : Nat) (s : State) : Host.Outcome State Fault Refusal :=
  let x := s.port port
  .next (if s.lst port = LS.active && x.nakIn then
      (s.setPort port { x with nakIn := false, replayAt := if x.replay = [] then none else some 0 }).stick (Reg.LNK_ERR_REPLAY port) 1
    else s)

/-- NAK_REPEAT: the expected flit has not arrived within 2 × RTT_NS of the NAK, which is repeated (R223, R225). -/
def execNakRepeat (port : Nat) (s : State) : Host.Outcome State Fault Refusal :=
  let x := s.port port
  .next (if s.lst port = LS.active && x.episode && s.lasted x.nakAt (2 * s.rd (Reg.LNK_PRTT_RTT_NS port)) then
      (s.setPort port { x with nakOut := true, nakAt := s.now, naksSent := x.naksSent + 1 }).nakLimit port (x.naksSent + 1)
    else s)

/-- SIGNAL_LOSS: loss of signal or of pair markers on a lane in use starts a retrain with cause ALIGN (R225). -/
def execSignalLoss (port : Nat) (s : State) : Host.Outcome State Fault Refusal := .next (s.retrain port 2)

/-- DOWN_NOTICE: the peer takes its port out of ACTIVE: a retrain with cause PEER (R225, R231). -/
def execDownNotice (port : Nat) (s : State) : Host.Outcome State Fault Refusal := .next (s.retrain port 5)

/-! ## Training (R226 to R230) -/

/-- Record the lanes of an adaptation: polarity, failed lanes and the eye estimates, which the spec does not give (log entry 17). -/
def State.recordLanes (n : Nat) (lanes inverted : BitVec 8) (s : State) : State :=
  let e := (Config.freeValue s.free).toNat
  (List.range 8).foldl (fun s l => ((s.wr (Reg.LNK_LANE_INVERTED n l) (if inverted.getLsbD l then 1 else 0)).wr
    (Reg.LNK_LANE_FAILED n l) (if lanes.getLsbD l then 0 else 1)).wr (Reg.LNK_LANE_EYE_MV n l) (bits e (8 * l) 8))
    ((s.drawn).wr (Reg.LNK_PSTAT_POLARITY n) inverted.toNat)

/-- ELEC is passed: ALIGN follows. -/
def State.toAlign (n : Nat) (s : State) : State :=
  if s.lst n = LS.elec then s.setLst n LS.align else s.updPort n (fun x => { x with sub := 0, stateAt := s.now })

/-- LINK_ELEC_ADAPTED: all lanes, or four of them where both ends permit the degraded width, have adapted on both ends, and the port
enters ALIGN (R217, R226, R228). -/
def execLinkElecAdapted (port : Nat) (lanes inverted : BitVec 8) (peerX4 : Bool) (s : State) : Host.Outcome State Fault Refusal :=
  let lo : Bool := lanes &&& 0x0F == 0x0F
  let hi : Bool := lanes &&& 0xF0 == 0xF0
  .next (if !s.portUp port || s.phase port ≠ some 2 then s
    else if lanes = 0xFF then
      (((s.recordLanes port lanes inverted).wr (Reg.LNK_PSTAT_WIDTH port) 0).wr (Reg.LNK_PSTAT_LANES_HI port) 0).toAlign port
    else if (lo || hi) && s.part.a1 && s.bit Reg.LNK_CTL_X4_EN && peerX4 then
      ((((s.recordLanes port lanes inverted).wr (Reg.LNK_PSTAT_WIDTH port) 1).wr (Reg.LNK_PSTAT_LANES_HI port) (if lo then 0 else 1)).event
        4 St.LINK_DEGRADED none port lanes.toNat).toAlign port
    else s.recordLanes port lanes inverted)

/-- Lane order as found, 3 bits a lane: straight, and reversed (R217). -/
def straightOrder : BitVec 24 := BitVec.ofNat 24 (((List.range 8).map (fun l => l * 8 ^ l)).sum)
def reversedOrder : BitVec 24 := BitVec.ofNat 24 (((List.range 8).map (fun l => (7 - l) * 8 ^ l)).sum)

/-- LINK_ALIGN_LOCKED: every lane in use is locked: the port enters PARAM, or DOWN with 0x0806 when the lane order is neither straight
nor reversed (R217, R226). -/
def execLinkAlignLocked (port : Nat) (order : BitVec 24) (s : State) : Host.Outcome State Fault Refusal :=
  .next (if !s.portUp port || s.phase port ≠ some 0 then s
    else if order ≠ straightOrder && order ≠ reversedOrder then s.goDown port St.LINK_LANE_MAP order.toNat
    else
      let s1 := ((s.wr (Reg.LNK_PSTAT_REVERSED port) (if order = reversedOrder then 1 else 0)).wr (Reg.LNK_PRTT_RTT_NS port) 0).updPort
        port (fun x => { x with sentDone := false, recvDone := false, heard := false, echoOwed := none })
      if s.lst port = LS.align then s1.setLst port LS.param else s1.updPort port (fun x => { x with sub := 1, stateAt := s.now }))

/-- The round trip of an echoed probe, in ns: at least 1, since a link takes time (R229, log entry 77). -/
def State.roundTrip (s : State) (e : BitVec 16) : Nat := max 1 (s.now.setWidth 16 - e).toNat

/-- TRAIN_FLIT: the peer's parameters: credits, its expected FSEQ, a probe to echo, the echo of a probe of this port, which measures the
round trip, and PARAM_DONE; a request to retrain at an ACTIVE port is a retrain with cause PEER (R225, R227, R229). -/
def execTrainFlit (port : Nat) (f : TrainFlit) (s : State) : Host.Outcome State Fault Refusal :=
  .next (if !s.portUp port then s
    else if f.retrain && s.lst port = LS.active then s.retrain port 5
    else if s.phase port ≠ some 1 then s
    else
      let s1 := ((s.wr (credFld port 0) (min f.cr0.toNat 511)).wr (credFld port 1) (min f.cr1.toNat 511)).wr (credFld port 2)
        (min f.cr2.toNat 127)
      let s2 := if s.lst port = LS.retrain then s1.applyAck port ((f.expect.toNat + 4095) % 4096) else s1
      let old := s2.rd (Reg.LNK_PRTT_RTT_NS port)
      let s3 := match f.echo with
        | some e =>
          let rtt := if old = 0 then s.roundTrip e else min old (s.roundTrip e)
          (s2.wr (Reg.LNK_PRTT_RTT_NS port) rtt).wr (Reg.LNK_PSTAT_RATE_OK port)
            (if rtt ≤ (if s.bit (Reg.LNK_PSTAT_WIDTH port) then 480 else 240) then 1 else 0)
        | none => s2
      s3.updPort port (fun x => { x with
        heard := true, recvDone := x.recvDone || f.done, echoOwed := f.probe }))

/-- LINK_PARAM_DONE: both ends have sent and received PARAM_DONE: the port enters ACTIVE; after a retrain it replays from the point the
peer reported (R226, R227). LNK_ERR_n.REPLAY counts the replays a NAK starts, and not this one (DESIGN CHOICE, log entry 84). -/
def execLinkParamDone (port : Nat) (s : State) : Host.Outcome State Fault Refusal :=
  let x := s.port port
  .next (if !s.portUp port || s.phase port ≠ some 1 || !x.sentDone || !x.recvDone then s
    else
      let s1 := if s.lst port = LS.retrain then
          s.setPort port { x with replayAt := if x.replay = [] then none else some 0, nakIn := false, episode := false, nakOut := false,
                                  naksSent := 0, naksRecv := 0 }
        else s
      let s2 := (s1.setLst port LS.active).updPort port (fun y => { y with dropLogged := false, retry := false })
      if s2.fab.firstActive.isNone then { s2 with fab := { s2.fab with firstActive := some s2.now } } else s2)

/-- Time limit of a first-training state, in stitches (R226). -/
def trainLimit (st : Nat) : Nat := if st = LS.elec then 50000000 else if st = LS.align then 2000000 else 1000000

/-- LINK_TRAIN_TIMEOUT: a first-training state exceeds its limit: the port enters DOWN with 0x0804; in a retrain a failed ALIGN goes to
ELEC; an attempt of a DOWN port that exceeds one ends (R226). -/
def execLinkTrainTimeout (port : Nat) (s : State) : Host.Outcome State Fault Refusal :=
  let x := s.port port
  let st := s.lst port
  .next (if !s.portPresent port then s
    else if (st = LS.elec || st = LS.align || st = LS.param) && s.lasted x.stateAt (trainLimit st) then
      s.goDown port St.LINK_TRAIN_FAIL st
    else if st = LS.down && x.retry && s.lasted x.stateAt (trainLimit (if x.sub = 0 then LS.align else if x.sub = 1 then LS.param else LS.elec)) then
      s.setPort port { x with retry := false }
    else if st = LS.retrain && x.sub = 0 && s.lasted x.stateAt (trainLimit LS.align) then
      s.setPort port { x with sub := 2, stateAt := s.now }
    else s)

/-- RETRAIN_TIMEOUT: a retrain exceeds 100 ms: the port enters DOWN and its packets are discarded (R226, R230). -/
def execRetrainTimeout (port : Nat) (s : State) : Host.Outcome State Fault Refusal :=
  .next (if s.portPresent port && s.lst port = LS.retrain && s.lasted (s.port port).retrainAt 100000000 then
      s.goDown port St.LINK_DOWN (s.rd (Reg.LNK_PSTAT_LAST_CAUSE port))
    else s)

/-- DOWN_RETRY: every RETRY_MS a DOWN port retries full training, from ELEC; it stays DOWN until that succeeds. The domain of its link die
is needed for the attempt (R216, R226, log entry 77). -/
def execDownRetry (port : Nat) (s : State) : Host.Outcome State Fault Refusal :=
  .next (if s.portPresent port && s.lst port = LS.down && !(s.port port).retry &&
      s.lasted (s.port port).retryAt (max 1 (s.rd Reg.LNK_CTL_RETRY_MS) * 1000000) then
      (s.demand (domOfPort port)).updPort port (fun x => { x with retry := true, sub := 2, stateAt := s.now, retryAt := s.now })
    else s)

/-! ## Packets between the link die and the rings (R209, R222, R238, R261) -/

/-- Take the front packet out of a receive stream and return the credits of the flits it frees (R222). -/
def Port.takeFront (x : Port) (v n : Nat) : Port :=
  let rest := skipPad ((x.rx v).drop n)
  (x.setRx v rest).setOwe v (x.owe v + (flitsHeld (x.rx v) - flitsHeld rest))

/-- The edge from which the packet at the front of a receive stream may advance (R211). -/
def Port.frontHold (x : Port) (v : Nat) : Nat := match x.rx v with | u :: _ => u.hold | [] => 0

/-- The waiting packet of a port's virtual lane at the selvedge router. -/
def State.waitingIn (s : State) (n v : Nat) : Option (Nat × Flight) :=
  s.front (fun f => f.loc = .ingress n && f.pkt.vl = v)

/-- What the loader's ingress makes of a packet from a shard source: none is dropped (R261). -/
def State.loaderIn (s : State) (n : Nat) (p : Packet) : Option Packet :=
  if s.role? n = some Role.loader then
    if p.tc = 0 || p.op = POp.knot then none else some { p with tenant := s.rd Reg.FAB_LDR_CTL_TENANT }
  else some p

/-- Take the packet at the front of a receive stream to the selvedge router's entry. -/
def State.presentPacket (n v : Nat) (s : State) : State :=
  let x := (s.port n).takeFront v 0
  match frontPacket (x.rx v) with
  | none => s.setPort n x
  | some (p, k) =>
    if p.bad then (s.setPort n (x.takeFront v k)).nocDrop St.NOC_INTEGRITY p none (s.ringStage (.ingress n))
    else match s.loaderIn n p with
      | none => ((s.setPort n (x.takeFront v k)).stick Reg.FAB_DROP_LOADER 1).event 4 St.LOADER_CLASS none n p.src
      | some q =>
        let s1 := s.setPort n x
        { s1 with noc := { s1.noc with flights := s1.noc.flights ++ [{ pkt := q, loc := .ingress n, since := s.clk.edge, busy := x.frontHold v }] } }

/-- Let a presented packet into the rings, under the limiter and the entry rule, or drop it (R200, R205, R209, R248). -/
def State.ingressMove (n v : Nat) (s : State) : State :=
  match s.waitingIn n v, frontPacket ((s.port n).rx v) with
  | some (i, f), some (_, k) =>
    if s.clk.edge < f.busy then s
    else
    let took := s.updPort n (fun x => x.takeFront v k)
    match s.egress f.pkt with
    | .drop code => (took.dropFlight i).nocDrop code f.pkt none (epPort n)
    | .noRoute d r => (took.dropFlight i).noRoute none d r
    | .go p out =>
      let g := { f with pkt := p, out := out }
      let l := s.entryLoc g (s.attachPos n)
      if s.limHolds n p || !s.granted i f l 3 then s
      else
        let s1 := if p.tc = 1 then took.updPort n (fun x => { x with
            lim := x.lim.filter (fun w => decide (s.clk.edge < w.1 + 64)) ++ [(s.clk.edge, p.flits)] }) else took
        (((s1.modFlight i (fun _ => g)).placeAt i g l (s.rd (Reg.LAT_ITEM_DEVICE 20)))).wrapOvf
          (Reg.FAB_SELV_IN_COUNT n) (Reg.FAB_SELV_IN_OVF n) p.flits
  | _, _ => s

/-- LINK_PACKET_INGRESS: a packet whose last byte has been accepted goes from the link die to its selvedge router and into the rings.
Nothing enters them in a clock-change window (R35, R195, R200, R205, R209, R211, R222, R244 to R248, R261). -/
def execLinkPacketIngress (port vl : Nat) (s : State) : Host.Outcome State Fault Refusal :=
  .next (if !s.portUp port || 3 ≤ vl || s.clk.inWindow then s
    else if (s.waitingIn port vl).isSome then s.ingressMove port vl
    else (s.presentPacket port vl).ingressMove port vl)

/-- Flits a packet list fills in an egress queue. -/
def queuedFlits (ps : List (Packet × Nat)) : Nat := ((ps.map (fun p => 32 + 64 * p.1.len)).sum + 239) / 240

/-- Put a packet into a port's egress queue: an equal SADD packet that waits takes it in, and may not leave while the addition runs; an
ELASTIC one is marked at the threshold (R211, R238). -/
def State.enqueue (n : Nat) (p : Packet) (s : State) : State :=
  let v := p.vl
  let x := s.port n
  let q := x.que v
  let full := s.rd Reg.LNK_CTL_CM_THRESH ≤ queuedFlits (q ++ [(p, 0)]) + (x.tx v).length / 15
  let p1 := if v = 1 && p.tc = 1 && !p.ce && full then { p with cm := true } else p
  match (if s.bit Reg.FAB_NOC_CTL_COMB_DIS then none else q.findIdx? (fun y => combines p1 y.1)) with
  | some i => (s.setPort n (x.setQue v (lmod q i (fun y => (combined p1 y.1, s.clk.edge + p.flits))))).wrapOvf Reg.FAB_NOC_COMB_COUNT Reg.FAB_NOC_COMB_OVF 1
  | none => s.setPort n (x.setQue v (q ++ [(p1, 0)]))

/-- Take the packets ready at a port's selvedge egress into the link die, while their queues hold fewer than 512 flits. Those a port going
OFFLINE still finds there came before its PORT_SET: later ones are discarded as they arrive. The routers give none in a clock-change window
(R35, R192, R208, R231, log entries 18 and 77). -/
def State.takeEgress (n : Nat) (s : State) : State :=
  if s.clk.inWindow then s
  else
    let ready : Flight → Bool := fun f => f.loc = .egress n && f.busy ≤ s.clk.edge &&
      queuedFlits ((s.port n).que f.pkt.vl) < 512
    let ps := s.noc.flights.filter ready
    let s1 := { s with noc := { s.noc with flights := s.noc.flights.filter (fun f => !ready f) } }
    ps.foldl (fun s f => s.enqueue n f.pkt) s1

/-! ## Sending flits (R218 to R224, R229, R250) -/

/-- Fill a lane's stream from its queue until a flit's 15 units are there; a packet whose addition still runs waits (R211). -/
def Port.fill (x : Port) (edge v : Nat) : Port :=
  (List.range 8).foldl (fun x _ =>
    if 15 ≤ (x.tx v).length then x
    else match x.que v with
      | [] => x
      | p :: r => if edge < p.2 then x else (x.setTx v (x.tx v ++ p.1.units)).setQue v r) x

/-- The lane served in this link cycle (R250): VL2; VL1 until E_MIN flits of it have gone in the window; VL0; VL1. A lane needs bytes
to send and a credit (R222). -/
def State.pickVl (s : State) (n : Nat) : Option Nat :=
  let x := s.port n
  let can : Nat → Bool := fun v => (x.tx v ≠ [] || (x.que v).head?.any (fun p => p.2 ≤ s.clk.edge)) && s.rd (credFld n v) ≠ 0
  if can 2 then some 2
  else if can 1 && x.winVl1 < s.rd Reg.FAB_ECN_CTL_E_MIN then some 1
  else if can 0 then some 0
  else if can 1 then some 1
  else none

/-- Credits a flit may return: none of VL0 and VL1 until boot firmware reports ready (R237); at most 255 of each (R219). -/
def State.returning (s : State) (n v : Nat) : Nat :=
  if v ≠ 2 && s.rd Reg.DEV_BOOT_STAT_STAGE ≠ 5 then 0 else min 255 ((s.port n).owe v)

/-- The control fields every flit sends: ACK, a NAK that is due, credits (R219, R222, R223). -/
def State.dress (s : State) (n : Nat) (f : Flit) : Flit :=
  let x := s.port n
  { f with ack := BitVec.ofNat 12 (x.expect + 4095), nak := x.nakOut, cr0 := BitVec.ofNat 8 (s.returning n 0)
           cr1 := BitVec.ofNat 8 (s.returning n 1), cr2 := BitVec.ofNat 8 (s.returning n 2) }

/-- The stamp of the pair a flit sent now belongs to: that of its first bit (R232). -/
def Port.stamped (x : Port) (t : W64) : Port := if x.flitInPair = 0 then { x with pairAt := t } else x

/-- Send a flit on the wires: after a pair marker when it begins a pair, whose first bit is stamped (R218, R232). -/
def State.sendFlit (n : Nat) (f : Flit) (s : State) : State :=
  let x := (s.port n).stamped s.stamp
  let s1 := if x.flitInPair = 0 then s.emit (.marker n x.pair) else s
  let g := s.dress n f
  let y := { x with
    nakOut := false, owe0 := x.owe0 - g.cr0.toNat, owe1 := x.owe1 - g.cr1.toNat, owe2 := x.owe2 - g.cr2.toNat
    flitInPair := (x.flitInPair + 1) % 5, pair := if x.flitInPair = 4 then (x.pair + 1) % 65536 else x.pair }
  (s1.setPort n y).emit (.flit n (flitBytes g))

/-- Send a new DATA flit of a lane: it takes a credit and a place in the replay buffer (R222, R224). -/
def State.sendData (n v : Nat) (s : State) : State :=
  let x := (s.port n).fill s.clk.edge v
  let us := (x.tx v).take 15
  let f : Flit := { ftype := 0, vl := BitVec.ofNat 2 v, fseq := BitVec.ofNat 12 x.next
                    start := BitVec.ofNat 15 ((us.zipIdx.map (fun u => if u.1.start then 2 ^ u.2 else 0)).sum)
                    body := us.flatMap (fun u => u.bytes) }
  let y := { x.setTx v ((x.tx v).drop 15) with next := (x.next + 1) % 4096, replay := x.replay ++ [f]
                                               winVl1 := if v = 1 then x.winVl1 + 1 else x.winVl1 }
  ((((s.setPort n y).wr (credFld n v) (s.rd (credFld n v) - 1)).wr (Reg.LNK_PCRED_REPLAY n) y.replay.length).wrapOvf
    (Reg.LNK_TXFLITS_COUNT n) (Reg.LNK_TXFLITS_OVF n) 1).sendFlit n f

/-- Send a TIME flit: it takes the next number, names the stamp of the one before it, and is stamped with its codeword pair (R232). -/
def State.sendTimeFlit (n : Nat) (s : State) : State :=
  let x := (s.port n).stamped s.stamp
  let seq := (x.tseq + 1) % 65536
  let y := { x with tseq := seq, txStamps := (x.txStamps ++ [(seq, x.pairAt)]).drop (x.txStamps.length - 15) }
  (s.setPort n y).sendFlit n { ftype := 2, fseq := BitVec.ofNat 12 x.next, body := s.timePayload n seq }

/-- One flit of an ACTIVE port: a CTRL flit that waits, a flit of a replay in progress, a new DATA flit while the replay buffer holds
fewer than 512, or IDLE (R221, R224, R250, log entry 18). -/
def State.cycleActive (n : Nat) (s : State) : State :=
  let x := s.port n
  match x.ctrlOut with
  | c :: r =>
    if c = [1] then (s.setPort n { x with ctrlOut := r }).sendTimeFlit n
    else (s.setPort n { x with ctrlOut := r }).sendFlit n { ftype := 2, fseq := BitVec.ofNat 12 x.next, body := c }
  | [] =>
    match x.replayAt.bind (fun i => x.replay[i]?.map (fun f => (i, f))) with
    | some (i, f) =>
      (s.setPort n { x with replayAt := if i + 1 < x.replay.length then some (i + 1) else none }).sendFlit n f
    | none =>
      match (if x.replay.length < 512 then s.pickVl n else none) with
      | some v => s.sendData n v
      | none => s.sendFlit n { ftype := 1, fseq := BitVec.ofNat 12 x.next }

/-- Payload of a TRAIN flit: subtype, then version and width, expected FSEQ, credits, probe, echo and flags (R221, R226, R227, R229). The
spec gives no layout beyond the subtype: this one is a DESIGN CHOICE (log entry 77). -/
def trainBytes (x4 : Bool) (f : TrainFlit) : List Byte :=
  let b (c : Bool) : Nat := if c then 1 else 0
  [3, 0, if x4 then 1 else 0, BitVec.ofNat 8 (b f.probe.isSome + 2 * b f.echo.isSome + 4 * b f.retrain + 8 * b f.done)]
  ++ bytesOf 2 f.expect.toNat ++ bytesOf 2 f.cr0.toNat ++ bytesOf 2 f.cr1.toNat ++ bytesOf 2 f.cr2.toNat
  ++ bytesOf 2 (f.probe.getD 0).toNat ++ bytesOf 2 (f.echo.getD 0).toNat

/-- Free buffers of a virtual lane. -/
def Port.free (x : Port) (v : Nat) : Nat := vlBuffers v - flitsHeld (x.rx v)

/-- Free buffers a TRAIN flit advertises: none of VL0 and VL1 until boot firmware reports ready (R222, R237). -/
def State.advertised (s : State) (n v : Nat) : Nat :=
  if v ≠ 2 && s.rd Reg.DEV_BOOT_STAT_STAGE ≠ 5 then 0 else (s.port n).free v

/-- What the next TRAIN flit of a port says (R222, R227, R229, R237). -/
def State.trainOut (s : State) (n : Nat) : TrainFlit :=
  let x := s.port n
  { expect := BitVec.ofNat 12 x.expect, cr0 := BitVec.ofNat 9 (s.advertised n 0), cr1 := BitVec.ofNat 9 (s.advertised n 1)
    cr2 := BitVec.ofNat 9 (s.advertised n 2), probe := some (s.now.setWidth 16), echo := x.echoOwed
    retrain := s.lst n = LS.retrain, done := x.heard && s.rd (Reg.LNK_PRTT_RTT_NS n) != 0 }

/-- One TRAIN flit of a port in PARAM: expected FSEQ, free buffers, a probe, the echo of the peer's, and PARAM_DONE once a round trip has
been measured and the peer has been heard. What is advertised is no longer owed; what is held back is (R222, R227, R229, R237). -/
def State.cycleParam (n : Nat) (s : State) : State :=
  let x := s.port n
  let f := s.trainOut n
  (s.setPort n { x with sentDone := x.sentDone || f.done, echoOwed := none
                        owe0 := x.free 0 - s.advertised n 0, owe1 := x.free 1 - s.advertised n 1
                        owe2 := x.free 2 - s.advertised n 2 }).sendFlit n
    { ftype := 2, fseq := BitVec.ofNat 12 x.next, body := trainBytes (s.bit (Reg.LNK_PSTAT_WIDTH n)) f }

/-- LINK_CYCLE: in a link cycle the transmitter of a trained or aligning port sends one flit; the window of 64 cycles of R250 goes on
(R218 to R224, R226, R250). -/
def execLinkCycle (port : Nat) (s : State) : Host.Outcome State Fault Refusal :=
  .next (if !s.portUp port then s
    else
      let win := fun s : State => s.updPort port (fun x => { x with
        winPos := (x.winPos + 1) % 64, winVl1 := if x.winPos = 63 then 0 else x.winVl1 })
      if s.lst port = LS.active then win ((s.takeEgress port).cycleActive port)
      else if s.phase port = some 1 then win (s.cycleParam port)
      else if s.phase port = some 0 then
        win (s.sendFlit port { ftype := 1, fseq := BitVec.ofNat 12 (s.port port).next })
      else s)

/-! ## Ports and seams (R225, R231, R234, R235) -/

/-- A port enters OFF: every PORT_SET OFFLINE that waits on it completes (R231). -/
def State.portOff (n : Nat) (s : State) : State :=
  ((s.port n).offJobs.foldl (fun s k => s.completeJob k St.OK 0 0) s).goOff n

/-- PORT_SET (0x0520). ENABLE of a port that is not OFF, one going OFFLINE too, changes its MODE only (DESIGN CHOICE, log entry 84). -/
def specPortSet : CmdSpec where
  opcode := 0x0520
  vf := false
  used := usedBytes 0 2
  absent := fun c s => !s.portPresent (c.fld 0 1)
  body := fun j s =>
    let n := j.cmd.fld 0 1
    let mode := j.cmd.fld 1 1
    if 4 ≤ mode then s.complete j St.CMD_FORMAT
    else if s.lst n = LS.seamed then s.complete j St.PORT_SEAMED
    else
      let s1 := s.wr (Reg.LNK_PCTL_MODE n) mode
      if mode = 0 then
        (s1.portOff n).complete j St.OK
      else if mode = 1 then
        (if s.lst n = LS.off then (s1.setPort n (s1.port n).emptied).setLst n LS.elec else s1).complete j St.OK
      else if mode = 2 then
        if s.lst n = LS.active || s.lst n = LS.retrain then
          s1.updPort n (fun x => { x with offline := true, offJobs := x.offJobs ++ [j.id] })
        else (s1.portOff n).complete j St.OK
      else (s1.retrain n 6).complete j St.OK

/-- PORT_SET: sets a port OFF, ENABLE, OFFLINE or RETRAIN (R225, R226, R231, R235). -/
def execPortSet (c : Cmd) (s : State) : Host.Outcome State Fault Refusal := .next (specPortSet.run c s)

/-- Has a port sent all it had, with every flit acknowledged? -/
def Port.sentAll (x : Port) : Bool :=
  x.replay = [] && x.q0 = [] && x.q1 = [] && x.q2 = [] && x.tx0 = [] && x.tx1 = [] && x.tx2 = []

/-- A port has nothing left that its packets' senders count as delivered: no complete packet received that has not entered the rings, and
none that waits at its egress (R231: without loss; log entry 77). -/
def State.portDrained (s : State) (n : Nat) : Bool :=
  [0, 1, 2].all (fun v => (frontPacket (skipPad ((s.port n).rx v))).isNone)
    && s.noc.flights.all (fun f => f.loc ≠ Loc.egress n && f.loc ≠ Loc.ingress n)

/-- PORT_OFFLINE_DONE: with its queues sent, its replay buffer empty and what it has received passed on, a port going OFFLINE sends
DOWN_NOTICE and enters OFF, and its PORT_SETs complete; one that has gone DOWN meanwhile, squelched, enters OFF (R226, R231, log entry
77). -/
def execPortOfflineDone (port : Nat) (s : State) : Host.Outcome State Fault Refusal :=
  let x := s.port port
  .next (if x.offline && x.sentAll && s.portDrained port && s.lst port = LS.active then
      (s.sendFlit port { ftype := 2, fseq := BitVec.ofNat 12 x.next, body := [4] }).portOff port
    else if x.offline && s.lst port = LS.down then s.portOff port
    else s)

/-- Seams open on a link die. -/
def State.seamsOf (s : State) (die : Nat) : Nat :=
  ((List.range 12).filter (fun k => s.bit (Reg.LNK_SEAM_VALID k) && s.rd (Reg.LNK_SEAM_PORT_A k) / 4 = die)).length

/-- The lowest free seam index. -/
def State.freeSeam (s : State) : Option Nat :=
  (List.range (min 12 (s.rd Reg.DEV_FEAT_LINK_MAX_SEAMS))).find? (fun k => !s.bit (Reg.LNK_SEAM_VALID k))

/-- SEAM_OPEN (0x0521). A SEAMED port fails the test for OFF first, so it gives 0x0810 and never 0x0811 (DESIGN CHOICE, log entry 84). -/
def specSeamOpen : CmdSpec where
  opcode := 0x0521
  vf := false
  used := usedBytes 0 2 ||| usedBytes 4 4
  absent := fun c s => !s.portPresent (c.fld 0 1) || !s.portPresent (c.fld 1 1)
  body := fun j s =>
    let a := j.cmd.fld 0 1
    let b := j.cmd.fld 1 1
    if s.lst a ≠ LS.off || s.lst b ≠ LS.off then s.complete j St.SEAM_PORT_STATE
    else if a = b || a / 4 ≠ b / 4 then s.complete j St.SEAM_PORTS
    else match (if s.seamsOf (a / 4) < 2 then s.freeSeam else none) with
      | none => s.complete j St.SEAM_LIMIT
      | some k =>
        let s1 := (((s.wr (Reg.LNK_SEAM_VALID k) 1).wr (Reg.LNK_SEAM_PORT_A k) a).wr (Reg.LNK_SEAM_PORT_B k) b).wr
          (Reg.LNK_SEAM_JOB k) (j.cmd.fld 4 4)
        ((s1.setLst a LS.seamed).setLst b LS.seamed).completeD j St.OK k 0

/-- SEAM_OPEN: splices two OFF ports of one link die (R234, R235). -/
def execSeamOpen (c : Cmd) (s : State) : Host.Outcome State Fault Refusal := .next (specSeamOpen.run c s)

/-- Open a seam's crossbar path: its ports return to OFF (R235). -/
def State.closeSeam (k : Nat) (s : State) : State :=
  let s1 := (s.setLst (s.rd (Reg.LNK_SEAM_PORT_A k)) LS.off).setLst (s.rd (Reg.LNK_SEAM_PORT_B k)) LS.off
  (((s1.wr (Reg.LNK_SEAM_VALID k) 0).wr (Reg.LNK_SEAM_PORT_A k) 0).wr (Reg.LNK_SEAM_PORT_B k) 0).wr (Reg.LNK_SEAM_JOB k) 0

/-- SEAM_CLOSE (0x0522). -/
def specSeamClose : CmdSpec where
  opcode := 0x0522
  vf := false
  used := usedBytes 4 4
  body := fun j s =>
    let ks := (List.range 12).filter (fun k => s.bit (Reg.LNK_SEAM_VALID k) && s.rd (Reg.LNK_SEAM_JOB k) = j.cmd.fld 4 4)
    if ks = [] then s.complete j St.SEAM_JOB
    else (ks.foldl (fun s k => s.closeSeam k) s).complete j St.OK

/-- SEAM_CLOSE: opens every seam of a job and returns its ports to OFF (R235). -/
def execSeamClose (c : Cmd) (s : State) : Host.Outcome State Fault Refusal := .next (specSeamClose.run c s)

/-- SEAM_PASSIVE_MONITOR: an uncorrectable codeword passing through a seam is counted at the receiving port (R234). -/
def execSeamPassiveMonitor (port : Nat) (bad : Bool) (s : State) : Host.Outcome State Fault Refusal :=
  .next (if s.portPresent port && s.lst port = LS.seamed && bad then s.stick (Reg.LNK_ERR_UNCORR port) 1 else s)

end Sys2Proof.Machine
end

