-- ==== Sys2Proof/Machine/PowerCore.lean ====
section
/-! DEFINITION. Power domains: what belongs to each, the state the power manager chooses for it, and the envelopes of panels (spec/17 R433
to R443). -/

namespace Sys2Proof.Machine

/-! ## Domains (R433) -/

/-- The rows a panel owns. -/
def State.ownRows (s : State) (p : Nat) : List Nat :=
  (List.range 64).filter (fun r => (s.rd (Reg.PNL_PART_ROWS_ROWS p)).testBit r && !s.rowDisabled r)

/-- Rows a panel owns in a field. -/
def State.rowsIn (s : State) (p f : Nat) : Nat := ((s.ownRows p).filter (fun r => r / 16 = f)).length

/-- The wake group of a panel: its rows, and the stack domains of the fields it owns a row in (R437). -/
def State.wakeGroup (s : State) (p : Nat) : List Nat :=
  s.ownRows p ++ ((List.range s.tiers).flatMap (fun k => (List.range 4).map (fun f => 64 + 4 * k + f))).filter (fun d => s.rowsIn p (d % 4) ≠ 0)

/-- The panels that own rows in a field. -/
def State.fieldOwners (s : State) (f : Nat) : List Nat := panels16.filter (fun p => s.enabled p && s.rowsIn p f ≠ 0)

/-! ## Wake times (R434, R437) -/

/-- The deepest of the states listed, deepest first, that wakes within `t` ns; Active where none does (R437). -/
def State.deepest (s : State) (cap t : Nat) (sts : List Nat) : Nat := (sts.find? (fun st => s.wakesIn cap st t)).getD DS.active

/-- Capacity of a panel's wake group, in half-watts. -/
def State.groupCap (s : State) (p : Nat) : Nat := ((s.wakeGroup p).map s.domCapacity).sum

/-- The state chosen for a panel's rows (R437); a SUSPENDED panel's rows are held in Retention (R398). -/
def State.panelChoice (s : State) (p : Nat) : Nat :=
  if s.pst p = PS.suspended then DS.retention
  else s.deepest (s.groupCap p) (1000 * min (s.rd (Reg.PNL_LTOL_LTOL_US p)) (s.rd Reg.PWR_CTL_LTOL_CAP_US)) [DS.retention, DS.gated]

/-- Wake time of a state chosen for a panel, 0 for Active (PWR_PNL). -/
def State.panelWake (s : State) (p st : Nat) : Nat := if st = DS.active then 0 else s.wakeNs (s.groupCap p) st

/-- Wake time of a panel's group as its domains are now: the longest of its members' (R436). -/
def State.groupWake (s : State) (p : Nat) : Nat := ((s.wakeGroup p).map (fun d => s.panelWake p (s.domState d))).foldl max 0

/-! ## Demands (R435, R436) -/

/-- A step runs, or a launch has come within its wake time, as the group is and as it would be in the state chosen for it (R436). -/
def State.stepNear (s : State) (p : Nat) : Bool :=
  (s.panel p).run.isSome || (s.serve p).launches.any (fun l => reached (s.now + BitVec.ofNat 64 (max (s.panelWake p (s.panelChoice p)) (s.groupWake p))) l.l)

/-- Something asks for a row: a step of its panel, a packet for a tile in it, a command, a fill, or a window access. -/
def State.rowNeeded (s : State) (d : Nat) : Bool :=
  (match s.panelOfRow d with | some p => s.stepNear p | none => false) ||
  s.noc.flights.any (fun f => match f.loc with | .eject ep => ep < 1088 && domOfTile ep = d | _ => false) ||
  s.jobNeeds d || s.integ.fills.any (fun f => f.tiles.any (fun t => domOfTile t = d)) ||
  (s.tileGo.isSome && s.rd Reg.TILE_SEL_FIELD * 16 + s.rd Reg.TILE_SEL_ROW = d)

/-- Is a patrol pass of a bobbin in the domain due (R293)? -/
def State.patrolDue (s : State) (d : Nat) : Bool :=
  let period := max 10 (s.rd Reg.INT_PATROL_CTL_PERIOD_MS) * 1000000
  s.bit Reg.INT_PATROL_CTL_ENABLE && (List.range 1088).any (fun t =>
    let b := bobAt ((d - 64) / 4) t
    domOfBob b = d && s.bobActive b && (s.panelOfBob b).isSome &&
      (!s.integ.patrolDone.contains b || reached s.now (s.integ.patrolAt + BitVec.ofNat 64 period)))

/-- A queue has a slot to move into a queue-area page of the domain, or to read from one at READ (R410, R435). -/
def State.queueNeeds (s : State) (d : Nat) : Bool :=
  s.queues.any (fun v =>
    let here (i : Nat) : Bool := match s.areaWord v.1 i with | some w => domOfBob w.1 = d | none => false
    v.2.moving.any here ||
      (let i := s.rd (Reg.QCFG_CONS_READ v.1); i ≠ s.rd (Reg.QCFG_PROD_PROD v.1) && v.2.area.contains (i % s.qcap v.1) && here i))

/-- An ingest request has data to write into a bobbin of the domain (R308, R435). -/
def State.ingestNeeds (s : State) (d : Nat) : Bool :=
  s.wgts.any (fun v => v.2.reqs.any (fun r => match (v.2.segs ++ v.2.old)[r.seg]? with | some g => domOfBob g.bob = d | none => false))

/-- Something asks for a stack domain: a step of a panel with rows in its field, a descriptor, an inbound write from a packet, the ingest
engine or a queue, a merge entry, a command, a fill, a window access or a patrol pass. -/
def State.stackNeeded (s : State) (d : Nat) : Bool :=
  s.jobNeeds d || s.queueNeeds d || s.ingestNeeds d || (s.fieldOwners (d % 4)).any s.stepNear ||
  s.bobs.any (fun v => domOfBob v.1 = d &&
    (v.2.svcQ ≠ [] || v.2.svcHold ≠ [] || v.2.stepQ ≠ [] || v.2.merge ≠ [] || v.2.inbound ≠ [])) ||
  s.noc.flights.any (fun f => match f.loc with | .eject ep => 1088 ≤ ep && ep < 4352 && domOfBob (ep - 1088) = d | _ => false) ||
  s.integ.fills.any (fun f => f.pages.any (fun r => (List.range (r.2 - r.1)).any (fun i =>
    match s.bobOfPage (r.1 + i) with | some b => domOfBob b = d | none => false))) ||
  (s.bobGo.isSome && 64 + 4 * s.rd Reg.BOB_SEL_TIER + s.rd Reg.BOB_SEL_FIELD = d) || s.patrolDue d

/-- Does an enabled queue use a queue-area page of the stack domain (R435)? -/
def State.queuePageIn (s : State) (d : Nat) : Bool :=
  (List.range 16384).any (fun q =>
    let n := s.qcap q - 16
    let a := s.rd (Reg.QCFG_AREA_BASE q)
    s.bit (Reg.QCFG_CFG_ENABLE q) && n ≠ 0 && (List.range (cdiv (a + n) 1024 - a / 1024)).any (fun i =>
      match s.bobOfPage (s.qareaFirst + a / 1024 + i) with | some b => domOfBob b = d | none => false))

/-! ## The choice of a state (R216, R435, R437) -/

/-- Tolerance of an unowned domain, in ns. -/
def State.idleNs (s : State) : Nat := 1000 * s.rd Reg.PWR_CTL_IDLE_LTOL_US

/-- The state a link die may be in. -/
def State.linkChoice (s : State) (die : Nat) : Nat :=
  let ports := (List.range 4).map (fun i => 4 * die + i)
  let seam := (List.range 12).any (fun k => s.bit (Reg.LNK_SEAM_VALID k) && s.rd (Reg.LNK_SEAM_PORT_A k) / 4 = die)
  let retry := ports.any (fun n => s.lst n = LS.down && (s.port n).retry)
  if seam || retry || ports.any (fun n => s.lst n ≠ LS.off && s.lst n ≠ LS.down) then DS.active
  else if ports.any (fun n => s.lst n = LS.down) then DS.retention
  else DS.off

/-- The serving engine and its stores hold nothing. Only then does the power manager choose Off for it: Off loses what it holds (R434,
R435; DESIGN CHOICE, log entry 88). -/
def State.engineEmpty (s : State) : Bool := s.spools == [] && s.serves == []

/-- The state the power manager chooses for a domain at a decision. -/
def State.domChoice (s : State) (d : Nat) : Nat :=
  let cap := s.domCapacity d
  if d < 64 && s.rowDisabled d then DS.off
  else if s.bit (Reg.PWR_DOM_HOLD d) then DS.active
  else if d < 64 then
    if s.rowNeeded d then DS.active
    else match s.panelOfRow d with
      | some p => s.panelChoice p
      | none => s.deepest cap s.idleNs [DS.off, DS.retention, DS.gated]
  else if d < 76 then
    if s.stackNeeded d then DS.active
    else match s.fieldOwners (d % 4) with
      | [] => s.deepest cap s.idleNs (if s.queuePageIn d then [DS.retention, DS.gated] else [DS.off, DS.retention, DS.gated])
      | p :: ps => ps.foldl (fun a q => min a (s.panelChoice q)) (s.panelChoice p)
  else if d < 82 then s.linkChoice (d - 76)
  else if d = domEngine then
    if s.jobNeeds d || panels16.any (fun p => s.bit (Reg.GSE_PCFG_ENABLE p)) then DS.active
    else s.deepest cap s.idleNs (if s.engineEmpty then [DS.off, DS.retention, DS.gated] else [DS.retention, DS.gated])
  else DS.active

/-! ## Changing state (R434, R436) -/

/-- A free value as one of the 1,024 anchors of R82. -/
def freeAnchor (v : Nat) : Int := (BitVec.ofNat 10 v).toInt

/-- 512 bits of free values. -/
def freeMask (v : Nat → Nat) : BitVec 512 := BitVec.ofNat 512 ((List.range 8).map (fun i => v i * 2 ^ (64 * i))).sum

/-- Free values for the registers of a tile whose row has been Off: their contents are undefined. Its scratchpad and instruction memory are
as after a cold reset: R283 gives both the same word (R65, R434; log entry 88). -/
def freeTile (n : Nat) : Tile :=
  let v (i : Nat) : Nat := (Config.freeValue (n + i)).toNat
  { sreg := sblock 0 0 ((List.range 32).map (fun i => BitVec.ofNat 64 (v i)))
    preg := sblock 0 0 ((List.range 8).map (fun i => BitVec.ofNat 64 (v (32 + i))))
    vreg := sblock 0 0 ((List.range 2048).map (fun i => BitVec.ofNat 32 (v (40 + i))))
    treg := sblock 0 0 ((List.range 16384).flatMap (fun i => bytesOf 8 (v (2088 + i))))
    acc := sblock 0 0 ((List.range 4096).map (fun i =>
      laneOfBits (v (18472 + 3 * i) + v (18473 + 3 * i) * 2 ^ 64 + v (18474 + 3 * i) % 2 ^ 16 * 2 ^ 128)))
    latch := sblock 0 0 ((List.range 512).flatMap (fun i => bytesOf 8 (v (30760 + i))))
    latchFmt := v 31272 % 16, latchValid := v 31273 % 2 = 1
    anchor0 := freeAnchor (v 31274), anchor1 := freeAnchor (v 31275), ovf0 := v 31276 % 2 = 1, ovf1 := v 31277 % 2 = 1
    q := v 31278, mask := freeMask (fun i => v (31280 + i)), launchMask := freeMask (fun i => v (31288 + i)) }

/-- Free values for what a bobbin whose domain has been Off holds beside its stack pages and codebook store, which are as after a cold reset
(R114, R283, R434; log entry 88): activation buffer, list store, lanes, anchor, flag, sequence number and masks. -/
def freeBob (n : Nat) : Bobbin :=
  let v (i : Nat) : Nat := (Config.freeValue (n + i)).toNat
  { lanes := sblock 0 0 ((List.range 2048).map (fun i =>
      laneOfBits (v (3 * i) + v (3 * i + 1) * 2 ^ 64 + v (3 * i + 2) % 2 ^ 16 * 2 ^ 128)))
    act := sblock 0 0 ((List.range 8192).flatMap (fun i => bytesOf 8 (v (6144 + i))))
    list := sblock 0 0 ((List.range 512).map (fun i => BitVec.ofNat 32 (v (14336 + i))))
    anchor := freeAnchor (v 14848), ovf := v 14849 % 2 = 1, q := v 14850
    mask := freeMask (fun i => v (14856 + i)), launchMask := freeMask (fun i => v (14864 + i)) }

/-- A domain that goes Off loses what it holds (R434). A link die goes Off when every port of it is OFF, and the serving engine when it is
empty: neither holds anything then (R226, R435). -/
def State.loseDomain (d : Nat) (s : State) : State :=
  if d < 64 then
    ((List.range 1088).filter (fun t => domOfTile t = d)).foldl (fun (s : State) t =>
      { s.setTile t (freeTile s.free) with free := s.free + 32768 }) s
  else if d < 76 then
    (((List.range 1088).map (bobAt ((d - 64) / 4))).filter (fun b => domOfBob b = d)).foldl (fun (s : State) b =>
      { (s.setBob b (freeBob s.free)).wr (Reg.BOB_CB_VALID b) 0 with free := s.free + 16384 }) s
  else s

/-- A domain leaves Active: its share of the measured draw outside the panels' steps, by its capacity among the Active domains, falls away, and
ballast takes it up (R440; DESIGN CHOICE, log entry 62: no measurement gives the draw of one domain). -/
def State.restFalls (d : Nat) (s : State) : State :=
  let on := ((List.range 84).filter (fun e => s.domPresent e && s.domOn e)).map s.domCapacity
  { s with power := { s.power with rest := s.power.rest - s.power.rest * s.domCapacity d / max 1 on.sum } }

/-- Take a domain to the state chosen for it: a wake begins, or the deeper state is entered at once. -/
def State.toDom (d st : Nat) (s : State) : State :=
  let cur := s.domState d
  let s1 := (if cur = DS.active && st ≠ DS.active then s.restFalls d else s).wr (Reg.PWR_DOM_TARGET d) st
  if st = cur then s1
  else if st = DS.active then s1.beginWake d (s1.wakeNs (s1.domCapacity d) cur)
  else
    let s2 := { s1.wr (Reg.PWR_DOM_STATE d) st with power := { s1.power with waking := sdel s1.power.waking d } }
    if st = DS.off then s2.loseDomain d else s2

/-! ## The slew governor (R438 to R440, R442) -/

/-- What a domain in a deeper state draws, in mW (R434). -/
def deepDraw (d st : Nat) : Nat :=
  if d < 64 then (if st = DS.gated then 3000 else if st = DS.retention then 800 else 0)
  else if d < 76 then (if st = DS.gated then 6000 else if st = DS.retention then 2500 else 0)
  else 0

/-- A freeze holds the panel's step (R181, R183). -/
def State.frozenNow (s : State) (p : Nat) : Bool := s.pst p = PS.frozen || s.bit (Reg.LAT_PNL_FROZEN p)

/-- A panel's step draws: it runs and is neither frozen nor braked (R440). -/
def State.drawing (s : State) (p : Nat) : Bool :=
  (s.panel p).run.isSome && s.isLive p && !s.frozenNow p && !s.power.braked.contains p

/-- The load in mW: the measured draws of the steps that run, what the domains in deeper states draw, and the measured rest (R434, R438;
the draw of one Active domain without a step is in the rest, log entry 62). -/
def State.loadMw (s : State) : Nat :=
  ((panels16.filter s.drawing).map (fun p => 1000 * sget 0 s.power.draws p)).sum +
    ((List.range 76).map (fun d => deepDraw d (s.domState d))).sum + s.power.rest

/-- What I_in moves by in a stitch, in µA (R438). -/
def State.slewUa (s : State) : Nat := 250 * max 1 (s.rd Reg.PWR_CTL_SLEW)

/-- Stitches I_in takes to rise by a panel's envelope (R439). -/
def State.riseNs (s : State) (p : Nat) : Nat := cdiv (s.rd (Reg.PWR_PNL_EFFECTIVE_W p) * 1000000000) (max 1 s.power.vin * s.slewUa)

/-- Does a panel's envelope count in I_t: from its pre-wake, or as early before L as I_in needs to rise by it, until its step ends, while
it is braked too; a freeze lets I_in fall (R439 to R441; DEDUCED where R439 and R440 speak of a freeze, log entry 62). -/
def State.planned (s : State) (p : Nat) : Bool :=
  ((s.panel p).run.isSome && s.isLive p && (s.power.braked.contains p || !s.frozenNow p)) ||
    (s.serve p).launches.any (fun l => reached (s.now + BitVec.ofNat 64 (max (s.groupWake p) (s.riseNs p))) l.l)

/-- The target I_t in µA: the envelopes of the panels planned, the measured draw of everything else (R439), and, while the rails hold less
than TARGET_MJ, what refills them: as much as I_in moves by in 1,000 stitches (R438; DESIGN CHOICE, log entry 62). -/
def State.targetUa (s : State) : Nat :=
  (1000 * ((panels16.filter s.planned).map (fun p => s.rd (Reg.PWR_PNL_EFFECTIVE_W p))).sum + s.power.rest) * 1000000 /
    max 1 s.power.vin + (if s.rd Reg.PWR_RAIL_E_MJ < s.rd Reg.PWR_RAIL_TARGET_MJ then 1000 * s.slewUa else 0)

/-- The most ballast the Active domains can be, in nW (R438). -/
def State.ballastMax (s : State) : Nat :=
  (((List.range 84).filter (fun d => s.domPresent d && s.domOn d)).map s.domCapacity).sum * 500000000

/-- Ballast takes up a fall of load at once, and gives way to load that comes back (R440). -/
def State.takeUp (s : State) : Nat :=
  let l := s.loadMw
  if l ≤ s.power.load then min s.ballastMax (s.power.ballast + (s.power.load - l) * 1000000)
  else s.power.ballast - (l - s.power.load) * 1000000

/-- The most energy the rails hold, in 10⁻¹⁸ J (R432). -/
def State.railMax (s : State) : Nat := s.rd Reg.PWR_CAP_RAIL_MAX_MJ * 10 ^ 15

/-- The governor over one stitch: I_in moves toward I_t at SLEW, up only while the measured input is below MAX_INPUT_W; ballast takes up a
fall of load at once and is removed as I_in falls; while the rails have reached TARGET_MJ, it is what I_in exceeds the load by; what VIN gives
beyond load and ballast goes into the rails, and what it gives less comes out of them (R432, R438, R440, R442). -/
def State.governStitch (s : State) : State :=
  let p := s.power
  let step := s.slewUa
  let goal := s.targetUa
  let i := if p.iin < goal then
      (if s.rd Reg.DEV_FEAT_PWR_MAX_INPUT_W * 1000000000 ≤ p.vin * p.iin then p.iin else min goal (p.iin + step))
    else max goal (p.iin - step)
  let b := s.takeUp - p.vin * (p.iin - i)
  let excess := p.vin * i - s.loadMw * 1000000
  let b1 := if s.rd Reg.PWR_RAIL_TARGET_MJ ≤ s.rd Reg.PWR_RAIL_E_MJ then max b (min s.ballastMax excess) else b
  let rail := min s.railMax (p.rail + p.vin * i - (s.loadMw * 1000000 + b1))
  { s.wr Reg.PWR_RAIL_E_MJ (rail / 10 ^ 15) with power := { p with iin := i, ballast := b1, load := s.loadMw, rail := rail } }

/-! ## Budgets, lending and envelopes (R281, R442, R443) -/

/-- Rows that lend now: those of tile waiters whose row has been reported. -/
def State.lentRows (s : State) : List Nat :=
  ((s.knots.flatMap (fun k => (k.2.waiters.filter (fun w => w.lent)).filterMap (fun w => s.srcTile w.feid))).map domOfTile).eraseDups

/-- What a row lends, in mW: LEND_PCT percent of its share of its panel's BUDGET_W. -/
def State.rowLoan (s : State) (r : Nat) : Nat :=
  match s.panelOfRow r with
  | some p => s.rd (Reg.PNL_PART_CFG_BUDGET_W p) * 10 * min 100 (s.rd Reg.PWR_CTL_LEND_PCT) / max 1 (s.ownRows p).length
  | none => 0

/-- The pool in W, without the rows of a panel: they lend to others only. -/
def State.pool (s : State) (but : Option Nat) : Nat :=
  (((s.lentRows.filter (fun r => but.isNone || s.panelOfRow r ≠ but))).map s.rowLoan).sum / 1000

/-- RUNNING panels that borrow. -/
def State.borrowers (s : State) : List Nat := panels16.filter (fun p => s.isLive p && s.bit (Reg.PWR_PNL_BORROW p))

/-- The loan of a panel at a launch. -/
def State.loan (s : State) (p : Nat) : Nat :=
  if s.borrowers.contains p then
    s.pool (some p) * s.rd (Reg.PNL_PART_CFG_BUDGET_W p) / max 1 ((s.borrowers.map (fun q => s.rd (Reg.PNL_PART_CFG_BUDGET_W q))).sum)
  else 0

/-- The ceiling of a panel, in units of 1/32 W. -/
def State.ceiling32 (s : State) (p : Nat) : Nat :=
  ((s.wakeGroup p).map (fun d => s.domCapacity d * (if d < 64 then 16 else s.rowsIn p (d % 4)))).sum

/-- Set a panel's loan and the envelope of its running or next step, reduced for temperature (R442, R443, R445). -/
def State.setEnvelope (p : Nat) (s : State) : State :=
  let l := s.loan p
  let e0 := min (s.ceiling32 p / 32) (s.rd (Reg.PNL_PART_CFG_BUDGET_W p) + l)
  let e1 := if s.rd (Reg.PWR_PNL_ENVELOPE_W p) = 0 then e0 else min e0 (s.rd (Reg.PWR_PNL_ENVELOPE_W p))
  (s.wr (Reg.PWR_PNL_LOAN_W p) (min 4095 l)).wr (Reg.PWR_PNL_EFFECTIVE_W p) (min 4095 (e1 * (10 - s.power.derate) / 10))

end Sys2Proof.Machine
end

