-- ==== Sys2Proof/Machine/Tokens.lean ====
section
/-! DEFINITION. Tokenizer images, encoding of text, the sampler, stop strings and UTF-8 (spec/14 R356 to R360, R368 to R374). -/

namespace Sys2Proof.Machine

/-! ## Tokenizer images (R356, R357) -/

/-- The absent token ID. -/
abbrev noToken : Nat := 0xFFFFFFFF

/-- The 4-byte values of `n` table entries from byte `o`. -/
def words4 (b : List Byte) (o n : Nat) : List Nat := (List.range n).map (fun i => leAt (b.drop (o + 4 * i)) 0 4)

/-- The bytes of a token. -/
def Tokenizer.bytesOf (t : Tokenizer) (id : Nat) : List Byte := slice t.blob (t.ofs.getD id 0) (t.ofs.getD (id + 1) 0 - t.ofs.getD id 0)

/-- Parse an image of any length (R356). -/
def tokParse (b : List Byte) : Tokenizer :=
  let vocab := leAt b 8 4
  let merges := leAt b 12 4
  let blob := leAt b 16 4
  let oOfs := 64 + 256 + 32 + 1024
  let oBlob := oOfs + 4 * (vocab + 1)
  let oMrg := oBlob + cdiv blob 4 * 4
  { vocab := vocab
    merges := (List.range merges).map (fun i =>
      let e := slice b (oMrg + 12 * i) 12
      (leAt e 0 4, leAt e 4 4, leAt e 8 4))
    eos := words4 b 20 4, bos := leAt b 36 4, classes := (slice b 64 256).map (fun x => x.toNat), matrix := slice b 320 32
    bases := words4 b 352 256, ofs := words4 b oOfs (vocab + 1), blob := slice b oBlob blob, bytes := b.length, digest := digest384 b }

/-- The header's ranges, its reserved field, and the length of the image (R356, R357). -/
def tokHeader (b : List Byte) : Bool :=
  let vocab := leAt b 8 4
  decide (64 ≤ b.length) && decide (b.length ≤ 33554432) && leAt b 0 4 == 0x4B4F5447 && leAt b 4 2 == 1 && leAt b 6 2 == 0 &&
  decide (257 ≤ vocab) && decide (vocab ≤ 262144) && decide (leAt b 12 4 ≤ vocab - 256) && allZero (slice b 40 24) &&
  b.length == 1376 + 4 * (vocab + 1) + cdiv (leAt b 16 4) 4 * 4 + 12 * leAt b 12 4

/-- The tables of an image (R357): offsets rise within the blob, tokens of 1 to 256 bytes, IDs below VOCAB, merges that spell. -/
def Tokenizer.tablesOk (t : Tokenizer) : Bool :=
  let id (x : Nat) : Bool := decide (x < t.vocab)
  (t.ofs.zip (t.ofs.drop 1)).all (fun x => decide (x.1 < x.2) && decide (x.2 ≤ x.1 + 256)) &&
  t.ofs.all (fun o => decide (o ≤ t.blob.length)) && t.bases.all id && t.eos.all (fun x => x == noToken || id x) &&
  (t.bos == noToken || id t.bos) &&
  t.merges.all (fun m => id m.1 && id m.2.1 && id m.2.2 && t.bytesOf m.2.2 == t.bytesOf m.1 ++ t.bytesOf m.2.1)

/-- A checked image (R357). -/
def tokCheck (b : List Byte) : Option Tokenizer := if tokHeader b && (tokParse b).tablesOk then some (tokParse b) else none

/-- Bytes the tokenizers of the device take, an image of one digest once, without panel `p` (R358). -/
def State.tokStore (s : State) (p : Nat) : List (BitVec 384 × Nat) :=
  ((s.serves.filter (fun kv => kv.1 ≠ p)).filterMap (fun kv => kv.2.tok.map (fun t => (t.digest, t.bytes)))).eraseDups

/-! ## Encoding (R359, R360) -/

/-- A UTF-8 continuation byte. -/
def isCont (b : Byte) : Bool := 0x80 ≤ b.toNat && b.toNat ≤ 0xBF

/-- Does a boundary fall between two bytes? A class above 15, which R356 does not give a byte, reads a bit beyond the 256 of the matrix:
none falls there (DESIGN CHOICE, log entry 80). -/
def Tokenizer.boundary (t : Tokenizer) (a b : Byte) : Bool :=
  let ca := t.classes.getD a.toNat 0
  let cb := t.classes.getD b.toNat 0
  let k := if ca < 16 && cb < 16 then 16 * ca + cb else 256
  (t.matrix.getD (k / 8) 0).getLsbD (k % 8) && !isCont b

/-- Split at the boundaries; `acc` holds the present run, last byte first. -/
def splitRuns (ok : Byte → Byte → Bool) : List Byte → List Byte → List (List Byte)
  | [], acc => if acc.isEmpty then [] else [acc.reverse]
  | b :: r, acc =>
    match acc with
    | [] => splitRuns ok r [b]
    | a :: _ => if ok a b then acc.reverse :: splitRuns ok r [b] else splitRuns ok r (b :: acc)

/-- Cut a run after its 4,096th byte, or before the nearest byte that is no continuation byte (R359). -/
def cutRun : Nat → List Byte → List (List Byte)
  | 0, bs => [bs]
  | f + 1, bs =>
    if bs.length ≤ 4096 then [bs]
    else
      let k := (((List.range 4096).map (fun i => 4096 - i)).find? (fun k => !isCont (bs.getD k 0))).getD 4096
      bs.take k :: cutRun f (bs.drop k)

/-- The merge of lowest rank among the pairs of a list, the leftmost on ties: rank and place. -/
def bestPair (merges : List (Nat × Nat × Nat)) : List Nat → Nat → Option (Nat × Nat)
  | a :: b :: r, at_ =>
    let rest := bestPair merges (b :: r) (at_ + 1)
    match merges.findIdx? (fun m => m.1 = a && m.2.1 = b), rest with
    | some k, some x => if k ≤ x.1 then some (k, at_) else some x
    | some k, none => some (k, at_)
    | none, x => x
  | _, _ => none

/-- Replace the pair at a place by one token. -/
def mergeAt (ids : List Nat) (at_ v : Nat) : List Nat := ids.take at_ ++ v :: ids.drop (at_ + 2)

/-- The merge loop of R359: each round removes one token. -/
def bpeLoop (merges : List (Nat × Nat × Nat)) : Nat → List Nat → List Nat
  | 0, ids => ids
  | f + 1, ids =>
    match bestPair merges ids 0 with
    | none => ids
    | some x => bpeLoop merges f (mergeAt ids x.2 ((merges.getD x.1 (0, 0, 0)).2.2))

/-- Encode one pre-token. -/
def Tokenizer.bpe (t : Tokenizer) (bs : List Byte) : List Nat := bpeLoop t.merges bs.length (bs.map (fun b => t.bases.getD b.toNat 0))

/-- Encode text (R359, R360). -/
def Tokenizer.encode (t : Tokenizer) (text : List Byte) (addBos : Bool) : List Nat :=
  (if addBos && t.bos ≠ noToken then [t.bos] else []) ++
  ((splitRuns t.boundary text []).flatMap (fun r => cutRun r.length r)).flatMap t.bpe

/-! ## Sampling parameters (R369) -/

def smpTemp (v : Nat) : W32 := BitVec.ofNat 32 v
def smpTopK (v : Nat) : Nat := bits v 32 11
def smpIgnoreEos (v : Nat) : Bool := v.testBit 43
def smpStopEmit (v : Nat) : Bool := v.testBit 44
def smpTopP (v : Nat) : W32 := BitVec.ofNat 32 (v / 2 ^ 64)
def smpMinP (v : Nat) : W32 := BitVec.ofNat 32 (v / 2 ^ 96)
def smpPenalty (v : Nat) : W32 := BitVec.ofNat 32 (v / 2 ^ 128)
def smpWindow (v : Nat) : Nat := bits v 160 16
def smpStream (v : Nat) : W32 := BitVec.ofNat 32 (v / 2 ^ 192)

/-- Is an FP32 value finite and within [lo, hi], given as (m, e)? -/
def f32In (w : W32) (lo hi : Num) : Bool :=
  match f32 w with
  | .fin n m e => Num.cmp lo (.fin n m e) ≤ 0 && Num.cmp (.fin n m e) hi ≤ 0
  | _ => false

/-- The ranges of R369, and its zero bits. -/
def smpOk (v : Nat) : Bool :=
  let one : Num := .fin false 1 0
  ((f32 (smpTemp v)).isZero || f32In (smpTemp v) (.fin false 1 (-8)) (.fin false 100 0)) && decide (smpTopK v ≤ 1024) &&
  f32In (smpTopP v) (.fin false 0 0) one && !(f32 (smpTopP v)).isZero && f32In (smpMinP v) (.fin false 0 0) one &&
  f32In (smpPenalty v) one (.fin false 8 0) && bits v 45 19 == 0 && bits v 176 16 == 0 && bits v 224 32 == 0

/-! ## The sampler (R368, R370, R371) -/

/-- FP32 arithmetic, each result rounded to nearest even. -/
def fAdd (a b : W32) : W32 := toF32 (Num.addIeee (f32 a) (f32 b))
def fSub (a b : W32) : W32 := toF32 (Num.addIeee (f32 a) (f32 b).negate)
def fMul (a b : W32) : W32 := toF32 (Num.mulIeee (f32 a) (f32 b))

/-- FP32 quotient by a finite nonzero divisor. -/
def fDiv (a b : W32) : W32 :=
  toF32 (match f32 a, f32 b with
    | .fin n m e, .fin k d g =>
      let q := m * 2 ^ 80 / max d 1
      .fin (n != k) (2 * q + (if m * 2 ^ 80 % max d 1 = 0 then 0 else 1)) (e - g - 81)
    | .inf n, .fin k _ _ => .inf (n != k)
    | .fin n _ _, .inf k => .fin (n != k) 0 0
    | _, _ => .nan)

/-- a < b and a ≤ b on FP32 values; false where one is NaN. -/
def fLt (a b : W32) : Bool := f32 a ≠ .nan && f32 b ≠ .nan && Num.cmp (f32 a) (f32 b) < 0
def fLe (a b : W32) : Bool := f32 a ≠ .nan && f32 b ≠ .nan && Num.cmp (f32 a) (f32 b) ≤ 0

/-- The order of R368: logit descending, then token ID ascending. -/
def candBefore (a b : W32 × Nat) : Bool :=
  let c := Num.cmp (f32 a.1) (f32 b.1)
  0 < c || (c = 0 && a.2 ≤ b.2)

/-- The candidate set of R368. -/
def candSet (max_ : Nat) (recs : List (W32 × Nat)) : List (W32 × Nat) :=
  (sortBy candBefore (recs.filter (fun r => r.1 ≠ 0xFF800000))).take max_

/-- The penalty of step 1. -/
def penalise (pen : W32) (recent : List Nat) (c : W32 × Nat) : W32 × Nat :=
  if recent.contains c.2 then (if fLe 0 c.1 then fDiv c.1 pen else fMul c.1 pen, c.2) else c

/-- e^x by the sampler's algorithm, within 1 ulp (log entry 20). -/
def sampExp (x : W32) : W32 := transBits 0x370 x (transExp false (f32 x))

/-- Cumulative sums in order. -/
def cumSums : W32 → List W32 → List W32
  | _, [] => []
  | acc, w :: r => fAdd acc w :: cumSums (fAdd acc w) r

/-- The draw of R371. -/
def sampDraw (seed : W64) (gen pos : Nat) (stream : W32) : W32 :=
  (chacha8 [0x61707865, 0x3320646E, 0x79622D32, 0x6B206574, seed.extractLsb' 0 32, seed.extractLsb' 32 32, BitVec.ofNat 32 gen, 2,
    0, 0, 0, 0, 0, BitVec.ofNat 32 pos, stream, 0]).headD 0

/-- Steps 3 to 7 of R370 on a sorted set; `fv` stands in where the sums are NaN and no count meets step 6. -/
def sampPick (v : Nat) (r : W32) (fv : Nat) (c : List (W32 × Nat)) : Nat :=
  let c1 := if smpTopK v = 0 then c else c.take (smpTopK v)
  let x0 := (c1.headD (0, 0)).1
  let ws : List (W32 × Nat) := c1.zipIdx.map (fun k => (if k.2 = 0 then (0x3F800000 : W32) else sampExp (fDiv (fSub k.1.1 x0) (smpTemp v)), k.1.2))
  let kept : List (W32 × Nat) := ws.filter (fun w => !fLt w.1 (smpMinP v))
  let sums := match kept with
    | [] => []
    | w :: rest => w.1 :: cumSums w.1 (rest.map Prod.fst)
  let thr := fMul (smpTopP v) (sums.getLastD 0)
  let m := match sums.findIdx? (fun x => fLe thr x) with
    | some i => i + 1
    | none => fv % max 1 sums.length + 1
  let u := toF32 (.fin false (r.toNat / 256) (-24))
  let t := fMul u (sums.getD (m - 1) 0)
  let i := ((sums.take m).findIdx? (fun x => fLt t x)).getD (m - 1)
  (kept.getD i (0, 0)).2

/-- Sample one token (R368, R370, R371): parameters, the recent history, the draw, and the candidate records. -/
def sampleToken (max_ v : Nat) (recent : List Nat) (r : W32) (fv : Nat) (recs : List (W32 × Nat)) : Nat :=
  let c0 := candSet max_ recs
  let c1 := if recent.isEmpty then c0 else sortBy candBefore (c0.map (penalise (smpPenalty v) recent))
  if (f32 (smpTemp v)).isZero then (c1.headD (0, 0)).2 else sampPick v r fv c1

/-- A complete list is bad (R367). -/
def badList (vocab : Nat) (recs : List (W32 × Nat)) : Bool :=
  recs.any (fun r => vocab ≤ r.2 || f32 r.1 = .nan) || !(recs.map (fun r => r.2)).Nodup || recs.all (fun r => r.1 = 0xFF800000)

/-! ## Stop strings (R373) -/

/-- First place of a string in a list of bytes. -/
def findBytes (pat buf : List Byte) : Option Nat := (List.range (buf.length + 1)).find? (fun i => slice buf i pat.length == pat && i + pat.length ≤ buf.length)

/-- The match that ends first, and of those the one that starts first: (end, start). -/
def matchStops (stops : List (List Byte)) (buf : List Byte) : Option (Nat × Nat) :=
  stops.foldl (fun acc p =>
    match findBytes p buf, acc with
    | none, _ => acc
    | some i, none => some (i + p.length, i)
    | some i, some a => if i + p.length < a.1 || (i + p.length = a.1 && i < a.2) then some (i + p.length, i) else some a) none

/-- Length of the longest tail that is a proper prefix of a stop string, at most 63. -/
def holdTail (stops : List (List Byte)) (buf : List Byte) : Nat :=
  (((List.range (min 63 buf.length)).map (fun i => min 63 buf.length - i)).find? (fun n =>
    let t := buf.drop (buf.length - n)
    stops.any (fun p => n < p.length && p.take n == t))).getD 0

/-! ## UTF-8 (R374, RFC 3629) -/

/-- U+FFFD. -/
def fffd : List Byte := [0xEF, 0xBF, 0xBD]

/-- A lead byte: bytes of its sequence and the range of the second byte. -/
def utfLead (b : Nat) : Option (Nat × Nat × Nat) :=
  if 0xC2 ≤ b && b ≤ 0xDF then some (2, 0x80, 0xBF)
  else if b = 0xE0 then some (3, 0xA0, 0xBF)
  else if b = 0xED then some (3, 0x80, 0x9F)
  else if 0xE1 ≤ b && b ≤ 0xEF then some (3, 0x80, 0xBF)
  else if b = 0xF0 then some (4, 0x90, 0xBF)
  else if 0xF1 ≤ b && b ≤ 0xF3 then some (4, 0x80, 0xBF)
  else if b = 0xF4 then some (4, 0x80, 0x8F)
  else none

/-- How many bytes after a lead byte go on a well-formed sequence. -/
def utfRun (n lo hi : Nat) (r : List Byte) : Nat :=
  match r with
  | [] => 0
  | b :: rest => if n ≤ 1 || b.toNat < lo || hi < b.toNat then 0 else 1 + ((rest.take (n - 2)).takeWhile isCont).length

/-- Replace each maximal ill-formed subpart; hold back a tail that begins a sequence unless `last`: the text and the tail. -/
def utfRepair (last : Bool) : Nat → List Byte → List Byte × List Byte
  | 0, b => ([], b)
  | _, [] => ([], [])
  | f + 1, b :: r =>
    if b.toNat < 0x80 then
      let x := utfRepair last f r
      (b :: x.1, x.2)
    else match utfLead b.toNat with
      | none =>
        let x := utfRepair last f r
        (fffd ++ x.1, x.2)
      | some (n, lo, hi) =>
        let k := utfRun n lo hi r
        if k + 1 = n then
          let x := utfRepair last f (r.drop k)
          (b :: r.take k ++ x.1, x.2)
        else if k = r.length && !last then ([], b :: r)
        else
          let x := utfRepair last f (r.drop k)
          (fffd ++ x.1, x.2)

end Sys2Proof.Machine
end

