-- ==== Sys2Proof/Machine/Stream.lean ====
section
/-! DEFINITION. What the serving engine's events share: messages to the instance, output and records, masking a spool, ending it, and
cancels (spec/13 R338, R346, R351 to R354, spec/14 R372 to R377). -/

namespace Sys2Proof.Machine

/-! ## Messages (R346) -/

/-- Coordinates of the devices of the instance. -/
def State.memberCoords (s : State) (p : Nat) : List Nat := (s.wgt p).members.map (fun m => m.2)

/-- Send one engine message to every device of the instance. -/
def State.sendAll (p msg q part : Nat) (body : List Byte) (s : State) : State :=
  (s.memberCoords p).foldl (fun s c => s.sendEngine p c msg q part body) s

/-- The launch mask of a step: empty and masked slots are set (R347). -/
def AnnStep.maskBits (t : AnnStep) : BitVec 512 :=
  BitVec.ofNat 512 (2 ^ 512 - 1 - ((t.picks.filter (fun k => !k.masked)).map (fun k => 2 ^ k.slot)).sum)

/-- Send a step's mask: its launch mask, or a mid-step mask once it has launched (R346, R352). -/
def State.sendMask (p : Nat) (t : AnnStep) (s : State) : State :=
  s.sendAll p 5 t.q (if reached s.now t.l then 0xFF else 0) (bytesOf 64 t.maskBits.toNat)

/-- Mask a spool in every announced step that has not ended (R352). -/
def State.maskSpool (p i : Nat) (s : State) : State :=
  let hit (t : AnnStep) : Bool := t.endAt.isNone && t.picks.any (fun k => k.spool = i && !k.masked)
  let upd (t : AnnStep) : AnnStep :=
    { t with picks := t.picks.map (fun k => if k.spool = i then { k with masked := true, gone := true } else k) }
  let old := (s.serve p).steps
  let s1 := s.updServe p (fun v => { v with steps := v.steps.map upd, redo := v.redo.map upd })
  (old.filter hit).foldl (fun s t => s.sendMask p (upd t)) s1

/-! ## Output (R375, R376) -/

/-- Write the waiting bytes of a spool that its ring has room for (R375). -/
def State.drainOut (i : Nat) (s : State) : State :=
  let x := s.spool i
  let n := min x.pend.length (x.outBytes - (x.outPos - x.acked).toNat)
  let off := x.outPos.toNat % max 1 x.outBytes
  let k := min n (x.outBytes - off)
  if n = 0 || (s.dmaFail (x.panel + 1) (x.outAddr + off) k).isSome || (s.dmaFail (x.panel + 1) x.outAddr (n - k)).isSome then s
  else
    let s1 := s.outWrite (some x.panel) (x.outAddr + off) (x.pend.take k)
    let s2 := if k < n then s1.outWrite (some x.panel) x.outAddr ((x.pend.take n).drop k) else s1
    s2.updSpool i (fun y => { y with pend := y.pend.drop n, outPos := y.outPos + BitVec.ofNat 64 n, wrote := y.wrote + n })

/-- Pass bytes through UTF-8 repair into the pending bytes, and write what fits (R374, R375). -/
def State.emitText (i : Nat) (out : List Byte) (last : Bool) (s : State) : State :=
  let buf := (s.spool i).utf ++ out
  let r := utfRepair last (buf.length + 1) buf
  (s.updSpool i (fun x => { x with utf := r.2, pend := x.pend ++ r.1 })).drainOut i

/-- Is a record of the spool held for its completion queue (R376)? -/
def State.recordHeld (s : State) (i : Nat) : Bool :=
  s.heldEntries.any (fun e => e.entry.getLsbD 62 && bits e.entry.toNat 48 14 = i)

/-- Post a stream record: after a commit that wrote bytes or changed a flag, at a turn's end, and the final record (R376, R377). -/
def State.record (i : Nat) (final : Bool) (ends : Nat) (s : State) : State :=
  let x := s.spool i
  let keep := (if x.late then 2 else 0) + (if x.mixedGen then 8 else 0)
  if !final && ends = 0 && x.wrote = 0 && !x.genNote && keep = x.posted then s
  else
    let d := (if final then 1 else 0) + keep + (if x.genNote then 4 else 0) + ends + min x.wrote 65535 * 65536 +
      (x.tokens - x.turnStart) % 2 ^ 24 * 2 ^ 32
    let s1 := s.updSpool i (fun y => { y with wrote := 0, posted := keep, genNote := false })
    s1.output (some x.panel) (.cq x.cq (entryBits x.tag (if final then x.final else St.OK) i true (BitVec.ofNat 64 d) x.outPos) false none false)

/-! ## The end of a spool (R338, R374, R377) -/

/-- Abandon the moves of a spool: their SENDs leave the service queues, their packets the network, and its park pages are free (R338,
R352, R384). -/
def State.abandonMove (i : Nat) (s : State) : State :=
  if (s.spool i).move.isNone then s
  else
    let mine (d : Desc) : Bool := match d.by_ with
      | .svc _ job => job % 3 = 0 && job / 3 / 2 ^ 22 = i
      | .step _ => false
    let s1 := { s with bobs := smap {} (fun _ b => { b with
      svcQ := b.svcQ.filter (fun d => !mine d), svcHold := b.svcHold.filter (fun d => !mine d)
      inbound := b.inbound.filter (fun w => w.spool ≠ some i) }) s.bobs }
    let x := s.spool i
    let mover := s.feid (epHost (48 + x.panel))
    let moves (f : Flight) : Bool :=
      (f.pkt.dst = mover && x.parkHandle ≤ f.pkt.addr / 65536 && f.pkt.addr / 65536 < x.parkHandle + x.parkPages) ||
      (f.pkt.src = mover && f.pkt.addr = i)
    let s2 := { s1 with noc := { s1.noc with flights := s1.noc.flights.filter (fun f => !moves f) } }
    s2.updSpool i (fun x => { x with move := none, parkPages := 0 })

/-- Enter DONE: blocks and chain records are released, held-back bytes leave (R338, R374). -/
def State.toDone (i : Nat) (code : Code) (s : State) : State :=
  let raw := (s.spool i).raw
  let s1 := (s.releaseBlocks i).updSpool i (fun x => { x with st := SP.done, final := code, raw := [], parkPages := 0 })
  s1.emitText i raw true

/-- A CANCELLING spool that no unended step and no move holds enters DONE (R338). -/
def State.settle (p i : Nat) (s : State) : State :=
  let x := s.spool i
  if x.st = SP.cancelling && !s.heldByStep p i && x.move.isNone then s.toDone i x.final else s

/-- Settle every spool of a panel. -/
def State.settleAll (p : Nat) (s : State) : State := (s.spoolsOf p).foldl (fun s i => s.settle p i) s

/-- Enter CANCELLING with a final status (R338). -/
def State.toCancelling (p i : Nat) (code : Code) (s : State) : State :=
  ((s.abandonMove i).updSpool i (fun x => { x with st := SP.cancelling, final := code })).settle p i

/-- A cancel of a spool is accepted (R352, R353, R363, R367). -/
def State.cancelSpool (p i : Nat) (code : Code) (s : State) : State :=
  let s1 := (s.stick (Reg.GSE_PCNT_CANCELS p) 1).updSpool i (fun x => { x with cancelReq := true })
  (s1.maskSpool p i).toCancelling p i code

/-- Lose a spool's KV: it is rebuilt from its history on the resident generation (R291, R330, R338). -/
def State.loseKv (i st : Nat) (s : State) : State :=
  (s.releaseBlocks i).updSpool i (fun x => { x with
    st := st, reprefill := true, kvTokens := 0, mixedGen := false, generation := s.rd (Reg.PNL_WGT_GEN_GEN x.panel) })

/-- Enter COLD: blocks and park pages are free, the history stays (R338, R382). -/
def State.toCold (i : Nat) (s : State) : State :=
  (s.releaseBlocks i).updSpool i (fun x => { x with st := SP.cold, parkPages := 0, kvTokens := 0, move := none })

/-- Enter IDLE: the idle threshold runs from here (R379). -/
def State.toIdle (i : Nat) (s : State) : State :=
  s.updSpool i (fun x => { x with
    st := SP.idle, idleAt := s.now
    idleLim := if x.idleMs = 0 then max 1 (s.rd (Reg.GSE_PARK_CFG_IDLE_MS x.panel)) else x.idleMs })

/-! ## Committing a token (R351, R372, R373) -/

/-- What a token at history index `at_` adds to a turn that holds back the bytes `raw`: the bytes that leave, those held back, and the
turn-end flags (R373). -/
def Spool.tokenText (x : Spool) (t : Tokenizer) (raw : List Byte) (at_ tok : Nat) : List Byte × List Byte × Nat :=
  let v := x.sampler.toNat
  let eos : Bool := t.eos.contains tok && tok != noToken && !smpIgnoreEos v
  let full : Bool := decide (x.maxNew ≤ at_ + 1 - x.turnStart)
  let buf := raw ++ (if eos then [] else t.bytesOf tok)
  let m := if eos then none else matchStops x.stops buf
  let ends := (if m.isSome then 16 else 0) + (if eos then 32 else 0) + (if full then 64 else 0)
  let out := match m with
    | some k => buf.take (if smpStopEmit v then k.1 else k.2)
    | none => if ends ≠ 0 then buf else buf.take (buf.length - holdTail x.stops buf)
  (out, if ends ≠ 0 then [] else buf.drop (buf.length - holdTail x.stops buf), ends)

/-- The panel's tokenizer. -/
def State.tokenizer (s : State) (p : Nat) : Tokenizer := ((s.serve p).tok).getD ⟨0, [], [], noToken, [], [], [], [], [], 0, 0⟩

/-- Append a committed token to a spool's history, stream its bytes, and test the end of the turn: the state and the turn-end flags. -/
def State.commitToken (p i tok : Nat) (s : State) : State × Nat :=
  let x := s.spool i
  let k := x.tokenText (s.tokenizer p) x.raw x.tokens tok
  let s1 := (s.histPut i x.tokens [tok]).updSpool i (fun y => { y with tokens := y.tokens + 1 })
  (((s1.updSpool i (fun y => { y with raw := k.2.1 })).emitText i k.1 (k.2.2 ≠ 0)).record i false k.2.2, k.2.2)

end Sys2Proof.Machine
end

