-- ==== Sys2Proof/Machine/Mirror.lean ====
section
/-! DEFINITION. Mirroring on the active twin: the records of a change, their group, and the outputs that wait for its acknowledgement
(spec/19 R469 to R473). -/

namespace Sys2Proof.Machine

/-- Does the device mirror changes of the panel? -/
def State.mirrors (s : State) (p : Nat) : Bool := s.mapped p && (s.tws = TW.activeSync || s.tws = TW.active)

/-- A packet to the twin agent of the peer (R469). -/
def State.twinPacket (s : State) (payload : List Byte) : Packet :=
  let pl := pad64 payload
  { dst := s.rd Reg.FAB_TWIN_STAT_PEER_COORD * 16384 + epHost 64, src := s.feid (epHost 64), tenant := 0, op := POp.ctrl, len := pl.length / 64
    payload := pl }

/-- The prefix of a record (R469). -/
def mirrorPrefix (mseq kind : Nat) (last : Bool) (p : Nat) : List Byte :=
  bytesOf 16 (mseq + kind * 2 ^ 32 + (if last then 2 ^ 40 else 0) + p % 16 * 2 ^ 44)

/-! ## Records (R469): kind, panel, body -/

/-- A record before its MSEQ. -/
structure MirrorRec where
  kind : Nat
  p : Nat
  body : List Byte
  deriving DecidableEq, Repr

/-- A stop entry (R364). -/
def stopEntry (b : List Byte) : List Byte := bytesOf 8 b.length ++ b ++ List.replicate (64 - b.length) 0

/-- STOPS records of a spool: at most six entries fit a packet. -/
def stopRecs (p i : Nat) (stops : List (List Byte)) : List MirrorRec :=
  (partsOf 6 (stops.length + 1) stops 0).map (fun k => ⟨3, p, bytesOf 2 i ++ k.2.flatMap stopEntry⟩)

/-- HIST records of entries from `at_`. -/
def histRecs (p i at_ : Nat) (ids : List Nat) : List MirrorRec :=
  (partsOf 112 (ids.length + 1) ids 0).map (fun k =>
    ⟨4, p, bytesOf 2 i ++ bytesOf 2 k.2.length ++ bytesOf 4 (at_ + 112 * k.1) ++ k.2.flatMap (bytesOf 4)⟩)

def spoolRec (p i : Nat) (x : Spool) (inStep : Bool) : MirrorRec := ⟨1, p, bytesOf 2 i ++ x.image inStep⟩

def streamRec (p i : Nat) (x : Spool) : MirrorRec :=
  ⟨2, p, bytesOf 2 i ++ bytesOf 2 x.cq ++ bytesOf 4 x.outBytes ++ bytesOf 8 x.outAddr ++ bytesOf 8 x.outPos.toNat ++ bytesOf 8 x.acked.toNat⟩

def parkRec (p i action first pages : Nat) : MirrorRec := ⟨7, p, bytesOf 2 i ++ bytesOf 1 action ++ bytesOf 4 first ++ bytesOf 4 pages⟩

/-- Value of PNL_WGT_STATE_p. -/
def State.wgtStateWord (s : State) (p : Nat) : Nat :=
  [Reg.PNL_WGT_STATE_STATE p, Reg.PNL_WGT_STATE_HEAD p, Reg.PNL_WGT_STATE_SHARD p, Reg.PNL_WGT_STATE_DEV_INDEX p, Reg.PNL_WGT_STATE_DEVICES p,
   Reg.PNL_WGT_STATE_DEVS_DONE p, Reg.PNL_WGT_STATE_POLICY p, Reg.PNL_WGT_STATE_RELEASE_WAIT p, Reg.PNL_WGT_STATE_HEAD_COORD p].foldl
    (fun a f => a + s.rd f * 2 ^ f.lo) 0

def State.panelRec (s : State) (p : Nat) : MirrorRec :=
  ⟨5, p, bytesOf 8 (s.rd (Reg.PNL_STEP_COUNT p)) ++ bytesOf 4 (s.rd (Reg.PNL_WGT_GEN_GEN p)) ++
    bytesOf 2 (s.rd (Reg.PNL_WGT_STATE_DEVICES p)) ++ bytesOf 8 (s.wgtStateWord p)⟩

/-- MEMBERS records: coordinates from a first device index. -/
def State.memberRecs (s : State) (p : Nat) : List MirrorRec :=
  let l := sortBy (fun a b => a.1 ≤ b.1) (s.wgt p).members
  (partsOf 200 (l.length + 1) l 0).map (fun k => ⟨6, p, bytesOf 2 (200 * k.1) ++ k.2.flatMap (fun m => bytesOf 2 m.2)⟩)

def markRec (p q m : Nat) : MirrorRec := ⟨8, p, bytesOf 2 q ++ bytesOf 4 m⟩

def tagRec (p : Nat) (t : TagEntry) : MirrorRec :=
  ⟨9, p, bytesOf 2 t.q ++ bytesOf 4 t.i ++ bytesOf 4 t.tag.toNat ++ bytesOf 2 t.status.toNat ++ bytesOf 8 t.detail.toNat⟩

/-! ## Marks (R473) -/

/-- The host submission queues of a panel. -/
def State.panelSqs (s : State) (p : Nat) : List Nat :=
  ((List.range (s.rd (Reg.PNL_PART_RANGE_Q_COUNT p))).map (fun k => s.rd (Reg.PNL_PART_RANGE_Q_BASE p) + k)).filter
    (fun q => s.bit (Reg.QCFG_CFG_ENABLE q) && s.rd (Reg.QCFG_CFG_TYPE q) = 1)

/-- QMARK records of the queues whose mark has moved. -/
def State.markRecs (s : State) (p : Nat) : List MirrorRec :=
  (s.panelSqs p).filterMap (fun q => if sget 0 s.twin.marks q = s.queueMark q then none else some (markRec p q (s.queueMark q)))

/-- Note the marks as sent. -/
def State.noteMarks (p : Nat) (s : State) : State :=
  (s.panelSqs p).foldl (fun s q => { s with twin := { s.twin with marks := sset 0 s.twin.marks q (s.queueMark q) } }) s

/-! ## The records of a change (R470) -/

/-- What has changed in one spool from `s` to `t`. -/
def spoolChange (p i : Nat) (s t : State) : List MirrorRec :=
  let x := s.spool i
  let y := t.spool i
  let from_ := if y.tokens < x.tokens || x.st = SP.free then 0 else x.tokens
  let img := if x.image (s.inStep p i) = y.image (t.inStep p i) then [] else [spoolRec p i y (t.inStep p i)]
  let str := if (x.outAddr, x.outBytes, x.cq, x.outPos, x.acked) = (y.outAddr, y.outBytes, y.cq, y.outPos, y.acked) then [] else [streamRec p i y]
  let stp := if x.stops = y.stops then [] else stopRecs p i y.stops
  let hst := if y.tokens ≤ from_ then [] else histRecs p i from_ (t.histGet i from_ (y.tokens - from_)).1
  let prk := if x.parkPages = y.parkPages then []
    else if y.parkPages = 0 then [parkRec p i 1 x.parkHandle x.parkPages] else [parkRec p i 0 y.parkHandle y.parkPages]
  img ++ str ++ stp ++ hst ++ prk

/-- The records of a change of a panel. -/
def changeRecs (p : Nat) (s t : State) : List MirrorRec :=
  let ids := ((s.spoolsOf p) ++ (t.spoolsOf p)).eraseDups
  ids.flatMap (fun i => spoolChange p i s t) ++ (if s.panelRec p = t.panelRec p then [] else [t.panelRec p]) ++
  (if (s.wgt p).members = (t.wgt p).members then [] else t.memberRecs p) ++ t.twin.newTags.map (tagRec p) ++ t.markRecs p

/-- Send the records of one group, the last marked LAST, and remember it until it is acknowledged (R469 to R471). -/
def State.sendGroup (recs : List MirrorRec) (s : State) : State :=
  if recs.isEmpty then s
  else
    let s1 := recs.zipIdx.foldl (fun s k =>
      s.send (epHost 64) (s.twinPacket (mirrorPrefix ((s.twin.mseq + k.2) % 2 ^ 32) k.1.kind (k.2 + 1 = recs.length) k.1.p ++ k.1.body))) s
    let last := (s.twin.mseq + recs.length - 1) % 2 ^ 32
    let g : MirrorGroup := ⟨last, s.now, false⟩
    { s1 with twin := { s1.twin with mseq := (s.twin.mseq + recs.length) % 2 ^ 32, groups := s1.twin.groups ++ [g] } }

/-- Let outputs go, in order. -/
def State.releaseAll (l : List HeldOut) (s : State) : State := l.foldl (fun s h => s.releaseOut h) s

/-- Make a change of a mirrored panel: its records form a group, and its outputs wait until the group is acknowledged; an output of a
change without records follows those that wait (R470, R471). A fenced device holds every output until SOLO (R474). -/
def State.mirrored (p : Nat) (f : State → State) (s : State) : State :=
  if s.twin.capture || !(s.mirrors p || (s.mapped p && s.tws = TW.fenced)) then f s
  else
    let t := f { s with twin := { s.twin with capture := true, captured := [], newTags := [] } }
    let recs := if s.mirrors p then changeRecs p s t else []
    let tags := t.twin.newTags
    let outs := t.twin.captured
    let t1 := ({ t with twin := { t.twin with capture := false, captured := [], newTags := [] } }.sendGroup recs)
    let key := (t1.twin.mseq + 2 ^ 32 - 1) % 2 ^ 32
    let t2 := { t1 with twin := { t1.twin with sentTags := t1.twin.sentTags ++ tags.map (fun x => (key, x)) } }
    let t3 := if recs.isEmpty then t2 else t2.noteMarks p
    if t3.twin.groups.isEmpty && t3.tws ≠ TW.fenced then t3.releaseAll outs
    else { t3 with twin := { t3.twin with held := t3.twin.held ++ outs.map (fun h => (key, h)) } }

end Sys2Proof.Machine
end

