-- ==== Sys2Proof/Machine/Serving.lean ====
section
/-! DEFINITION. The serving commands: spools, buckets, tokenizers, park areas (spec/13 R340 to R342, R352, R353, spec/14 R357, R358,
R364, R365, R375, R378, R383, R384). -/

namespace Sys2Proof.Machine

/-- Perform a command; a change of a mirrored panel goes to the standby (R470). -/
def CmdSpec.perform (k : CmdSpec) (idx : Option Nat) (c : Cmd) (s : State) : State :=
  match c.pnl with
  | some p => s.mirrored p (k.runAt idx c)
  | none => k.runAt idx c s

/-- Is the panel a follower of its instance (R331)? -/
def State.follower (s : State) (p : Nat) : Bool := s.wst p ≠ WS.none && !s.isHead p

/-- A serving command: a panel that exists and is no follower (R331, R393). -/
def State.servingCmd (j : Job) (f : Nat → State → State) (s : State) : State :=
  s.onPanel j (fun p s => if s.follower p then s.complete j St.GSE_NOT_HEAD else f p s)

/-- A serving command that names a spool of its panel in bytes 0 and 1 (R340). -/
def State.spoolCmd (j : Job) (f : Nat → Nat → State → State) (s : State) : State :=
  s.servingCmd j (fun p s =>
    let i := j.cmd.fld 0 2
    if s.spoolOwner i ≠ some p || (s.spool i).st = SP.free then s.complete j St.SPOOL_RANGE else f p i s)

/-- The spool in bytes 0 and 1 belongs to another panel (R391, R424). -/
def foreignSpool (c : Cmd) (s : State) : Bool :=
  match s.spoolOwner (c.fld 0 2) with
  | some p => c.pnl ≠ some p
  | none => false

/-! ## Buckets (R342, R348) -/

/-- Bytes of a step table, rounded up to 64 (R348). -/
def Bucket.tableBytes (b : Bucket) : Nat := cdiv (64 + 16 * b.maxSlots + 4 * b.slotPages * b.maxSlots + 4 * b.maxTokens) 64 * 64

/-- Enabled buckets of a panel, by rising index. -/
def State.buckets (s : State) (p : Nat) : List (Nat × Bucket) :=
  (s.serve p).buckets.filterMap (fun kv => kv.2.map (fun b => (kv.1, b)))

/-- The highest enabled bucket. -/
def State.topBucket (s : State) (p : Nat) : Option Bucket := (s.buckets p).getLast?.map (fun b => b.2)

/-- The tiles at virtual column 0, one for each virtual row, with the SHARED range of a key. -/
def Pattern.tableRanges (pat : Pattern) (key : Nat) : List (Nat × Option Range) :=
  (List.range pat.gridH).map (fun vy =>
    let t := pat.tiles.getD (vy * pat.gridW) 0
    (t, pat.ranges.find? (fun r => r.tile = t && r.shared && r.key = key)))

/-- Is the bucket legal for a panel (R342)? -/
def State.bucketOk (s : State) (p : Nat) (b : Bucket) : Bool :=
  let g := s.groups p
  match s.pattern? p b.handle with
  | none => false
  | some pat =>
    decide (b.entry < pat.entries.length) && decide (1 ≤ b.maxSlots) && decide (b.maxSlots ≤ s.rd Reg.DEV_FEAT_SVC_MAX_BATCH) &&
    g != 0 && b.maxSlots % g == 0 && decide (1 ≤ b.slotPages) && decide (b.slotPages ≤ 128) && decide (b.maxSlots ≤ b.maxTokens) &&
    decide (1 ≤ b.chunk) && decide (b.chunk ≤ b.maxTokens) && decide (b.maxSlots / g * b.slotPages ≤ 512) &&
    (pat.tableRanges b.key).all (fun r => match r.2 with
      | some x => decide (4 * b.tableBytes ≤ x.len)
      | none => false)

/-- Is the panel STRICT (R177)? -/
def State.strict (s : State) (p : Nat) : Bool := s.bit (Reg.PNL_CFG_STRICT p) || s.bit (Reg.PNL_PART_CFG_FORCE_STRICT p)

/-- BUCKET_SET (0x0406). -/
def specBucketSet : CmdSpec where
  opcode := 0x0406
  vf := true
  used := usedBytes 0 14 ||| usedBits 14 0 1 ||| usedBytes 16 4
  needs := fun _ _ => [domEngine]
  body := fun j s =>
    let c := j.cmd
    s.servingCmd j (fun p s => s.whileStopped j p (fun s =>
      let b : Bucket := ⟨c.fld 2 1, c.fld 3 1, c.fld 4 2, c.fld 6 2, c.fld 8 4, c.fld 12 2, c.fld 14 1 = 1, c.fld 16 4⟩
      let put (x : Option Bucket) (s : State) : State :=
        (s.updServe p (fun v => { v with buckets := sset none v.buckets (c.fld 0 1) x })).complete j St.OK
      if 31 < c.fld 0 1 || 1 < c.fld 1 1 then s.complete j St.BUCKET_INVALID
      else if c.fld 1 1 = 0 then put none s
      else if !s.bucketOk p b then s.complete j St.BUCKET_INVALID
      else if b.dep && s.strict p then s.complete j St.BATCH_DEP_STRICT
      else put (some b) s))

/-- BUCKET_SET: writes an entry of the bucket table (R342). -/
def execBucketSet (c : Cmd) (s : State) : Host.Outcome State Fault Refusal := .next (specBucketSet.perform none c s)

/-- The rule a panel start checks: no enabled bucket exceeds the highest (R342). -/
def State.bucketsOk (s : State) (p : Nat) : Bool :=
  match s.topBucket p with
  | none => true
  | some t => (s.buckets p).all (fun b => decide (b.2.maxSlots ≤ t.maxSlots) && decide (b.2.slotPages ≤ t.slotPages) &&
      decide (b.2.maxTokens ≤ t.maxTokens) && decide (b.2.chunk ≤ t.chunk))

/-! ## Text and its space (R341, R358, R362, R365) -/

/-- Does a history of `n` tokens with MAX_NEW fit the largest bucket? -/
def State.fitsBucket (s : State) (p n maxNew : Nat) : Bool :=
  match s.topBucket p with
  | none => false
  | some b => cdiv (n + maxNew) (s.tpp p) ≤ b.slotPages

/-- MAX_NEW is 1 to 16,777,215 (R335). -/
def maxNewOk (n : Nat) : Bool := 1 ≤ n && n < 2 ^ 24

/-- Fetch text and encode it: 0x0C1B without a tokenizer, 0x0106 where the DMA fails. -/
def State.withText (j : Job) (p a n : Nat) (bos : Bool) (f : List Nat → State → State) (s : State) : State :=
  match (s.serve p).tok with
  | none => s.complete j St.NO_TOKENIZER
  | some t => s.fetchFor j a n (fun text s => f (t.encode text bos) s)

/-- The parameter block of R364, from its bytes: checked against the panel's queues. -/
def State.paramOk (s : State) (p : Nat) (b : List Byte) : Bool :=
  let size := leAt b 40 4
  smpOk (leAt b 0 32) && decide (4096 ≤ size) && decide (size ≤ 2 ^ 30) && size == 2 ^ Nat.log2 size && leAt b 32 8 % size == 0 &&
  s.isCq (p + 1) (leAt b 44 2) && decide (leAt b 46 1 ≤ 8) && decide (leAt b 47 1 ≤ 1) && allZero (slice b 56 8) &&
  (List.range (leAt b 46 1)).all (fun k =>
    decide (1 ≤ leAt b (64 + 72 * k) 1) && decide (leAt b (64 + 72 * k) 1 ≤ 64) && allZero (slice b (65 + 72 * k) 7))

/-- The stop strings of a parameter block. -/
def paramStops (b : List Byte) : List (List Byte) :=
  (List.range (leAt b 46 1)).map (fun k => slice b (72 + 72 * k) (leAt b (64 + 72 * k) 1))

/-- The lowest FREE entry of the panel's range (R341). -/
def State.freeSpool (s : State) (p : Nat) : Option Nat :=
  ((List.range (s.rd (Reg.PNL_PART_HIST_SPOOL_COUNT p))).map (fun k => s.rd (Reg.PNL_PART_HIST_SPOOL_BASE p) + k)).find?
    (fun i => (s.spool i).st = SP.free)

/-- SPOOL_SUBMIT (0x0401). -/
def specSpoolSubmit : CmdSpec where
  opcode := 0x0401
  vf := true
  used := usedBytes 0 12 ||| usedBits 12 0 7 ||| usedBytes 16 28
  needs := fun _ _ => [domEngine]
  body := fun j s =>
    let c := j.cmd
    s.servingCmd j (fun p s =>
      if s.bit (Reg.DBG_PNL_CTL_REPLAY p) then s.complete j St.REPLAY_MODE
      else if bits (c.fld 12 1) 4 2 = 3 || !maxNewOk (c.fld 32 4) then s.complete j St.SPOOL_RANGE
      else match s.freeSpool p with
        | none => s.complete j St.SPOOL_TABLE_FULL
        | some i =>
          s.fetchFor j (c.fld 36 8) 64 (fun b0 s =>
            s.fetchFor j (c.fld 36 8) (64 + 72 * min 8 (leAt b0 46 1)) (fun b s =>
              s.withText j p (c.fld 0 8) (c.fld 8 4) ((leAt b 47 1) % 2 = 1) (fun ids s =>
                if !s.paramOk p b || ids.isEmpty then s.complete j St.SPOOL_RANGE
                else if !s.fitsBucket p ids.length (c.fld 32 4) then s.complete j St.SPOOL_TOO_LONG
                else match stopFit (leAt b 46 1) (s.rd Reg.GSE_CAP2_STOP_SLOTS) s.stopRuns 0 with
                  | none => s.complete j St.STOP_STORE_FULL
                  | some first =>
                    if !s.histFree p 0 (ids.length + c.fld 32 4) then s.complete j St.HISTORY_FULL
                    else
                      let x : Spool :=
                        { st := SP.admitted, panel := p, prio := bits (c.fld 12 1) 0 4, dlPolicy := bits (c.fld 12 1) 4 2
                          conv := (c.fld 12 1).testBit 6, tag := c.tag, admitAt := s.now, tokens := ids.length, turnStart := ids.length, maxNew := c.fld 32 4
                          deadline := BitVec.ofNat 64 (c.fld 16 8), seed := BitVec.ofNat 64 (c.fld 24 8)
                          generation := s.rd (Reg.PNL_WGT_GEN_GEN p), admitSeq := s.admitSeq, stopFirst := first
                          stopCount := leAt b 46 1, sampler := BitVec.ofNat 256 (leAt b 0 32), idleMs := leAt b 48 4, ttlS := leAt b 52 4
                          stops := paramStops b, outAddr := leAt b 32 8, outBytes := leAt b 40 4, cq := leAt b 44 2 }
                      let s1 := { s.setSpool i x with admitSeq := (s.admitSeq + 1) % 2 ^ 32 }
                      let s2 := (s1.histReserve p i (ids.length + c.fld 32 4)).getD s1
                      (s2.histPut i 0 ids).completeD j St.OK i 0))))

/-- SPOOL_SUBMIT: tokenises a request and allocates a spool entry (R341, R358, R362, R364). -/
def execSpoolSubmit (c : Cmd) (s : State) : Host.Outcome State Fault Refusal := .next (specSpoolSubmit.perform none c s)

/-! ## Unparking (R383) -/

/-- The packets that write one page of an unpark: seven stack words each behind the prefix of R122. -/
def State.movePackets (s : State) (p i b page : Nat) (bs : List Byte) : List Packet :=
  (List.range (cdiv bs.length 448)).map (fun k =>
    let d := slice bs (448 * k) 448
    let pl := pad64 (bytesOf 8 (page + 448 * k * 2 ^ 20 + d.length * 2 ^ 36) ++ d)
    { dst := s.feid (epBob b), src := s.feid (epHost (48 + p)), tenant := s.tenant p, tc := 1, op := POp.write, len := pl.length / 64
      addr := i, payload := pl })

/-- The unpark ends with the KV to be rebuilt: nothing was free, or a read failed (R383). -/
def State.unparkLost (i : Nat) (s : State) : State :=
  (s.loseKv i SP.admitted).updSpool i (fun x => { x with move := none, parkPages := 0 })

/-- Start an unpark: blocks in the group with the most free ones; the mover reads every park page and sends its words (R334, R383). -/
def State.startUnpark (p i : Nat) (s : State) : State :=
  let x := s.spool i
  let nb := cdiv x.kvTokens (s.tpp p)
  let g := s.mostFree p
  let r := s.reserveBlocks p i g x.kvTokens
  if !r.2 || s.groups p = 0 then s.unparkLost i
  else
    let l := s.lanes p
    let base := s.rd (Reg.GSE_PARK_BASE_ADDR p)
    (List.range (nb * l)).foldl (fun s k =>
      let a := base + (x.parkHandle + k) * 65536
      let m := ((s.spool i).move).getD { pages := nb * l }
      if m.failed then s
      else if (s.dmaFail (p + 1) a 65536).isSome then s.updSpool i (fun y => { y with move := some { m with failed := true } })
      else
        let b := s.laneBob p g (k % l)
        let page := s.pageOf b ((s.spool i).blocks.getD (k / l) 0 % 128)
        let s1 := (s.movePackets p i b page (s.hostRead a 65536)).foldl (fun s q => s.send (epHost (48 + p)) q) s
        s1.updSpool i (fun y => { y with move := some { m with done := m.done ++ [k] } }))
      (r.1.updSpool i (fun y => { y with st := SP.unparking, move := some { pages := nb * l } }))

/-- An append in the stitch of the spool's PARK_EXPIRY is performed first: the spool is PARKED again, and the expiry is disarmed (R384). -/
def State.unexpire (i : Nat) (s : State) : State :=
  match (s.spool i).expired with
  | some e => if (s.spool i).st = SP.cold && e.1 = s.now then
      s.updSpool i (fun y => { y with st := SP.parked, parkPages := e.2.1, kvTokens := e.2.2, expired := none }) else s
  | none => s

/-- SPOOL_APPEND (0x0402). -/
def specSpoolAppend : CmdSpec where
  opcode := 0x0402
  vf := true
  used := usedBytes 0 2 ||| usedBytes 8 16
  foreign := foreignSpool
  needs := fun _ _ => [domEngine]
  body := fun j s =>
    let c := j.cmd
    s.spoolCmd j (fun p i s =>
      let st := (s.spool i).st
      if s.bit (Reg.DBG_PNL_CTL_REPLAY p) then s.complete j St.REPLAY_MODE
      else if st ≠ SP.idle && st ≠ SP.parking && st ≠ SP.parked && st ≠ SP.cold then s.complete j St.SPOOL_STATE
      else if !maxNewOk (c.fld 20 4) then s.complete j St.SPOOL_RANGE
      else s.withText j p (c.fld 8 8) (c.fld 16 4) false (fun ids s =>
        let x := s.spool i
        let n := x.tokens + ids.length
        if !s.fitsBucket p n (c.fld 20 4) then s.complete j St.SPOOL_TOO_LONG
        else if !s.histFree p x.hist.length (n + c.fld 20 4) then s.complete j St.HISTORY_FULL
        else
          let s0 := s.unexpire i
          let st := (s0.spool i).st
          let s1 := (s0.histReserve p i (n + c.fld 20 4)).getD s0
          let s2 := (s1.histPut i x.tokens ids).updSpool i (fun y => { y with tokens := n, turnStart := n, maxNew := c.fld 20 4 })
          let s3 := if st = SP.parked then s2.startUnpark p i
            else if st = SP.cold then s2.loseKv i SP.admitted
            else (s2.abandonMove i).updSpool i (fun y => { y with st := SP.admitted })
          s3.complete j St.OK))

/-- SPOOL_APPEND: appends text to a conversation and starts a new turn (R338, R365, R384). -/
def execSpoolAppend (c : Cmd) (s : State) : Host.Outcome State Fault Refusal := .next (specSpoolAppend.perform none c s)

/-- The acceptance stitch of a cancel: within one stitch the sequencer performs every cancel before any commit, so one that comes after a
commit of this stitch is accepted at the next (R351). -/
def State.cancelStitch (s : State) (p : Nat) : W64 := if (s.serve p).commitAt = some s.now then s.now + 1 else s.now

/-- SPOOL_CANCEL (0x0403). -/
def specSpoolCancel : CmdSpec where
  opcode := 0x0403
  vf := true
  used := usedBytes 0 2
  foreign := foreignSpool
  needs := fun _ _ => [domEngine]
  body := fun j s =>
    s.spoolCmd j (fun p i s =>
      let st := (s.spool i).st
      if st = SP.done then s.complete j St.SPOOL_STATE
      else if st = SP.cancelling then s.complete j St.OK
      else
        let at_ := s.cancelStitch p
        ((s.updServe p (fun v => { v with cancelAt := some at_ })).cancelSpool p i St.SPOOL_CANCELLED).completeAt j St.OK 0 0 (some at_))

/-- SPOOL_CANCEL: cancels a spool and masks its slot in running and announced steps; the completion carries the acceptance stitch
(R351 to R353). -/
def execSpoolCancel (c : Cmd) (s : State) : Host.Outcome State Fault Refusal := .next (specSpoolCancel.perform none c s)

/-- SPOOL_CLOSE (0x0404). -/
def specSpoolClose : CmdSpec where
  opcode := 0x0404
  vf := true
  used := usedBytes 0 2
  foreign := foreignSpool
  needs := fun _ _ => [domEngine]
  body := fun j s =>
    s.spoolCmd j (fun p i s =>
      let st := (s.spool i).st
      if !([SP.idle, SP.parking, SP.parked, SP.cold, SP.unparking].contains st) then s.complete j St.SPOOL_STATE
      else (s.toCancelling p i St.OK).complete j St.OK)

/-- SPOOL_CLOSE: ends a conversation; one that is being moved has its moves abandoned (R338, R340, R384; DESIGN CHOICE, log entry 34). -/
def execSpoolClose (c : Cmd) (s : State) : Host.Outcome State Fault Refusal := .next (specSpoolClose.perform none c s)

/-- SPOOL_READ (0x0405). -/
def specSpoolRead : CmdSpec where
  opcode := 0x0405
  vf := true
  used := usedBytes 0 2 ||| usedBytes 8 8
  foreign := foreignSpool
  needs := fun _ _ => [domEngine]
  body := fun j s =>
    s.spoolCmd j (fun p i s => s.storeFor j (j.cmd.fld 8 8) ((s.spool i).image (s.inStep p i)) (fun s => s.complete j St.OK))

/-- SPOOL_READ: writes a spool entry to host memory (R340). -/
def execSpoolRead (c : Cmd) (s : State) : Host.Outcome State Fault Refusal := .next (specSpoolRead.perform none c s)

/-- SPOOL_ACK (0x0409). -/
def specSpoolAck : CmdSpec where
  opcode := 0x0409
  vf := true
  used := usedBytes 0 2 ||| usedBytes 8 8
  foreign := foreignSpool
  needs := fun _ _ => [domEngine]
  body := fun j s =>
    s.spoolCmd j (fun _ i s =>
      if (s.spool i).outPos.toNat < j.cmd.fld 8 8 then s.complete j St.SPOOL_RANGE
      else ((s.updSpool i (fun x => { x with acked := BitVec.ofNat 64 (j.cmd.fld 8 8) })).drainOut i).complete j St.OK)

/-- SPOOL_ACK: advances ACKED, which frees ring space for pending bytes (R375). -/
def execSpoolAck (c : Cmd) (s : State) : Host.Outcome State Fault Refusal := .next (specSpoolAck.perform none c s)

/-- TOKENIZER_LOAD (0x0407). -/
def specTokenizerLoad : CmdSpec where
  opcode := 0x0407
  vf := true
  used := usedBytes 0 12
  needs := fun _ _ => [domEngine]
  body := fun j s =>
    let c := j.cmd
    s.servingCmd j (fun p s => s.whileStopped j p (fun s =>
      if 33554432 < c.fld 8 4 then s.complete j St.TOKENIZER_FORMAT
      else s.fetchFor j (c.fld 0 8) (c.fld 8 4) (fun b s =>
        match tokCheck b with
        | none => s.complete j St.TOKENIZER_FORMAT
        | some t =>
          let held := s.tokStore p
          let total := (held.map (fun k => k.2)).sum + (if held.any (fun k => k.1 = t.digest) then 0 else t.bytes)
          if s.rd Reg.GSE_CAP2_TOK_STORE_MIB * 1048576 < total then s.complete j St.TOKENIZER_SPACE
          else
            let regs : List (Fld × Nat) := [(Reg.GSE_TOK_LOADED p, 1), (Reg.GSE_TOK_VOCAB p, t.vocab), (Reg.GSE_TOK_MERGES p, t.merges.length),
              (Reg.GSE_TOK_KIB p, cdiv t.bytes 1024)]
            (regs.foldl (fun s r => s.wr r.1 r.2) (s.updServe p (fun v => { v with tok := some t }))).complete j St.OK)))

/-- TOKENIZER_LOAD: reads and checks a tokenizer image and installs it for the panel (R357, R358). -/
def execTokenizerLoad (c : Cmd) (s : State) : Host.Outcome State Fault Refusal := .next (specTokenizerLoad.perform none c s)

/-- PARK_AREA_SET (0x0408). -/
def specParkAreaSet : CmdSpec where
  opcode := 0x0408
  vf := true
  used := usedBytes 0 12
  needs := fun _ _ => [domEngine]
  body := fun j s =>
    let c := j.cmd
    s.servingCmd j (fun p s => s.whileStopped j p (fun s =>
      if c.fld 8 4 = 0 then ((s.wr (Reg.GSE_PARK_BASE_ADDR p) 0).wr (Reg.GSE_PARK_CFG_PAGES p) 0).complete j St.OK
      else if c.fld 0 8 % 65536 ≠ 0 || 1048576 < c.fld 8 4 then s.complete j St.PARK_AREA_INVALID
      else ((s.wr (Reg.GSE_PARK_BASE_ADDR p) (c.fld 0 8)).wr (Reg.GSE_PARK_CFG_PAGES p) (c.fld 8 4)).complete j St.OK))

/-- PARK_AREA_SET: registers or removes the panel's park area (R378). -/
def execParkAreaSet (c : Cmd) (s : State) : Host.Outcome State Fault Refusal := .next (specParkAreaSet.perform none c s)

end Sys2Proof.Machine
end

