-- ==== Sys2Proof/Machine/Select.lean ====
section
/-! DEFINITION. The head engine builds a batch and announces a step: candidates, selection, the bucket, the launch stitch and the
messages (spec/13 R343 to R346, R349, spec/12 R322, R330, spec/20 R492). -/

namespace Sys2Proof.Machine

/-! ## Candidates (R343) -/

/-- Tokens that announced steps will add to a spool's KV. -/
def ahead (steps : List AnnStep) (i : Nat) : Nat :=
  ((steps.flatMap (fun t => t.picks)).filter (fun k => k.spool = i && !k.masked)).map (fun k => k.n) |>.sum

/-- A spool in a state that waits for a step, outside the spacing of its announced steps and before its deadline. -/
def State.isCand (s : State) (p : Nat) (newL : W64) (i : Nat) : Bool :=
  let x := s.spool i
  (x.st = SP.admitted || (x.st = SP.prefill && x.kvTokens < x.tokens) || x.st = SP.decode) &&
  !(s.serve p).steps.any (fun t => t.picks.any (s.isPickOf i) &&
    stDiff newL (t.l + BitVec.ofNat 64 (t.span + s.rd Reg.GSE_CTL2_TURN_ST)) > 0) &&
  !(x.deadline ≠ 0 && x.dlPolicy < 2 && reached s.now x.deadline)

/-- Waiting output or a held record excludes a spool (R375, R376). -/
def State.outWaits (s : State) (i : Nat) : Bool := !(s.spool i).pend.isEmpty || s.recordHeld i

/-- The order of candidates: PRIO descending, DEADLINE ascending with 0 last, ADMIT_SEQ ascending in serial order. -/
def State.candLe (s : State) (i j : Nat) : Bool :=
  let x := s.spool i
  let y := s.spool j
  let dl (a : Spool) : Nat × Int := if a.deadline = 0 then (1, 0) else (0, stDiff s.now a.deadline)
  if x.prio ≠ y.prio then y.prio < x.prio
  else if dl x ≠ dl y then (dl x).1 < (dl y).1 || ((dl x).1 = (dl y).1 && (dl x).2 < (dl y).2)
  else (y.admitSeq + 2 ^ 32 - x.admitSeq) % 2 ^ 32 < 2 ^ 31

/-- A choice before it is a pick: spool, slot, tokens. -/
abbrev Choice := Nat × Nat × Nat

/-- One candidate of the loop of R343: the state with its blocks reserved, and the choices with slots used per group. -/
def State.takeCand (p : Nat) (lim : Bucket) (i : Nat) (acc : State × List Choice) : State × List Choice :=
  let s := acc.1
  let x := s.spool i
  let g := s.groups p
  let t := if x.st = SP.decode then 1 else min (x.tokens - x.kvTokens) lim.chunk
  let home := x.home.getD (s.mostFree p)
  let used := (acc.2.filter (fun c => c.2.1 % max 1 g = home)).length
  if lim.maxSlots ≤ acc.2.length || lim.maxTokens < (acc.2.map (fun c => c.2.2)).sum + t || lim.maxSlots / max 1 g ≤ used then acc
  else
    let r := s.reserveBlocks p i home (x.kvTokens + ahead (s.serve p).steps i + t)
    if r.2 then (r.1, acc.2 ++ [(i, home + g * used, t)]) else (r.1, acc.2)

/-- The batch of R343. -/
def State.selectBatch (p : Nat) (lim : Bucket) (newL : W64) (s : State) : State × List Choice :=
  let cs := (s.spoolsOf p).filter (s.isCand p newL)
  let waits := (cs.filter s.outWaits).length
  let ok := sortBy s.candLe (cs.filter (fun i => !s.outWaits i))
  ok.foldl (fun acc i => State.takeCand p lim i acc) (s.stick (Reg.GSE_SAMP_OUT_WAIT p) waits, [])

/-- Do the limits of a bucket hold for a choice (R343)? -/
def State.holds (s : State) (b : Bucket) (cs : List Choice) : Bool :=
  cs.all (fun c => decide (c.2.1 < b.maxSlots) && decide ((s.spool c.1).blocks.length ≤ b.slotPages) && decide (c.2.2 ≤ b.chunk)) &&
  decide ((cs.map (fun c => c.2.2)).sum ≤ b.maxTokens)

/-- The lowest bucket that holds a choice; the highest enabled one where none does. -/
def State.pickBucket (s : State) (p : Nat) (cs : List Choice) : Option (Nat × Bucket) :=
  match (s.buckets p).find? (fun b => s.holds b.2 cs) with
  | some b => some b
  | none => (s.buckets p).getLast?

/-- A choice of firmware keeps the candidate rules and the limits of its bucket (R344), each spool in a slot of its home group, a new
one of the group with the most free blocks when its turn comes (R334): the state with its blocks reserved, or none. -/
def State.fwChoice (p : Nat) (newL : W64) (cs : List Choice) (b : Bucket) (s : State) : Option State :=
  let g := s.groups p
  let ok := cs.all (fun c =>
    let x := s.spool c.1
    (s.spoolsOf p).contains c.1 && s.isCand p newL c.1 && !s.outWaits c.1 && decide (1 ≤ c.2.2) && g != 0 &&
    (if x.st = SP.decode then c.2.2 = 1 else decide (c.2.2 ≤ x.tokens - x.kvTokens)))
  if !ok || !(cs.map (fun c => c.1)).Nodup || !(cs.map (fun c => c.2.1)).Nodup then none
  else
    let r := cs.foldl (fun (acc : State × Bool) c =>
      let x := acc.1.spool c.1
      let home := x.home.getD (acc.1.mostFree p)
      let q := acc.1.reserveBlocks p c.1 home (x.kvTokens + ahead (s.serve p).steps c.1 + c.2.2)
      (q.1, acc.2 && q.2 && c.2.1 % max 1 g = home)) (s, true)
    if r.2 && r.1.holds b cs then some r.1 else none

/-! ## The launch stitch (R345) -/

/-- Arithmetic clock in MHz at a point. -/
def mhz (point : Nat) : Nat := if point = 0 then 2400 else if point = 1 then 3300 else 3600

/-- f of R345: the lower of the two points while a change is pending. -/
def State.planMhz (s : State) : Nat :=
  let now := mhz (s.rd Reg.STI_CLK_POINT)
  if s.bit Reg.STI_CLK_PEND || s.clk.deferred then min now (mhz (s.rd Reg.STI_CLK_PEND_POINT)) else now

/-- The span of a bucket in stitches. -/
def State.spanOf (s : State) (p : Nat) (b : Bucket) : Nat :=
  match s.pattern? p b.handle with
  | none => 0
  | some pat => cdiv ((pat.entries.getD b.entry (0, 0)).2 * 1000) s.planMhz

/-- The later of two stitches. -/
def later (a b : W64) : W64 := if stDiff a b > 0 then b else a

/-- The windows a step of the instance keeps clear of, earliest first, each with its length: those armed on this device, and those that
other devices of the instance have asked for (R34, R36). -/
def State.windowsOf (s : State) (p : Nat) : List (W64 × Nat) :=
  let own := (s.clk.trimAt.map (fun w => (w, 200))).toList ++
    (if s.bit Reg.STI_CLK_PEND then [(BitVec.ofNat 64 (s.rd Reg.STI_CLK_WIN_WIN_START), 1500)] else [])
  sortBy (fun a b => stDiff a.1 b.1 ≥ 0) (own ++ (s.serve p).windows.filterMap (fun v => v.2))

/-- The earliest launch stitch; a step would not overlap an armed change window or trim window (R34, R36, R345). -/
def State.chooseL (s : State) (p span : Nat) : W64 :=
  let l0 := s.now + BitVec.ofNat 64 (max 52000 (s.rd Reg.GSE_CTL_LEAD_ST))
  let l1 := match (s.serve p).prevEnd with
    | some e => later l0 (e + BitVec.ofNat 64 (s.rd Reg.GSE_CTL_GAP_ST))
    | none => l0
  (s.windowsOf p).foldl (fun l w =>
    if stDiff l (w.1 + BitVec.ofNat 64 w.2) > 0 && stDiff w.1 (l + BitVec.ofNat 64 span) > 0 then w.1 + BitVec.ofNat 64 w.2 else l) l1

/-! ## Messages (R346, R349) -/

/-- Slots used: one beyond the highest. -/
def AnnStep.used (t : AnnStep) : Nat := t.picks.foldl (fun m k => max m (k.slot + 1)) 0

/-- Index of a slot's first input token in the token area. -/
def AnnStep.ofs (t : AnnStep) (slot : Nat) : Nat := ((t.picks.filter (fun k => k.slot < slot)).map (fun k => k.n)).sum

/-- The slot record of a slot (R349). -/
def AnnStep.slotRec (t : AnnStep) (slot : Nat) : List Byte :=
  match t.picks.find? (fun k => k.slot = slot) with
  | none => bytesOf 16 0xFFFF
  | some k => bytesOf 16 (k.spool + k.pos % 2 ^ 24 * 2 ^ 16 + k.n % 2 ^ 24 * 2 ^ 40 + t.ofs slot % 2 ^ 32 * 2 ^ 64 + (if k.sample then 2 ^ 96 else 0))

/-- ANNOUNCE: with the bucket's table sizes and key, which a follower has no other way to learn, and in a refit the mark of the last old
step so far (R322, R331, R348; DESIGN CHOICE, log entry 79). -/
def State.sendAnnounce (p : Nat) (t : AnnStep) (s : State) : State :=
  s.sendAll p 1 t.q 0 (bytesOf 8 t.l.toNat ++ bytesOf 8 t.c ++ bytesOf 4 t.gen ++ bytesOf 1 t.bucket.handle ++ bytesOf 1 t.bucket.entry ++
    bytesOf 2 t.used ++ bytesOf 2 (s.lanes p) ++ bytesOf 2 (s.groups p) ++ bytesOf 1 (s.kvFirst p) ++ bytesOf 1 (s.rd (Reg.GSE_KV_TPP_CODE p)) ++
    bytesOf 2 t.bucket.maxSlots ++ bytesOf 2 t.bucket.slotPages ++ bytesOf 4 t.bucket.maxTokens ++ bytesOf 4 t.bucket.key ++
    bytesOf 1 (if s.wst p = WS.refit then 1 else 0))

/-- SLOTS, in parts of 31 records. -/
def State.sendSlots (p : Nat) (t : AnnStep) (s : State) : State :=
  (partsOf 31 (t.used + 1) ((List.range t.used).map t.slotRec) 0).foldl (fun s k => s.sendAll p 2 t.q k.1 (k.2.flatMap id)) s

/-- BLOCKS of a slot, in parts of 123. -/
def State.sendBlocks (p : Nat) (t : AnnStep) (k : Pick) (s : State) : State :=
  (partsOf 123 129 (s.spool k.spool).blocks 0).foldl (fun s x =>
    s.sendAll p 3 t.q x.1 (bytesOf 2 k.slot ++ bytesOf 2 (123 * x.1) ++ x.2.flatMap (bytesOf 4))) s

/-- TOKENS of a slot, in parts of 123. -/
def State.sendTokens (p : Nat) (t : AnnStep) (k : Pick) (ids : List Nat) (s : State) : State :=
  (partsOf 123 (ids.length + 1) ids 0).foldl (fun s x =>
    s.sendAll p 4 t.q x.1 (bytesOf 4 (t.ofs k.slot + 123 * x.1) ++ x.2.flatMap (bytesOf 4))) s

/-- The inputs of a slot: its blocks, and its tokens as far as they are committed; a decode slot's token follows its commit (R346). -/
def State.sendSlotInputs (p : Nat) (t : AnnStep) (s : State) (k : Pick) : State :=
  if k.masked then s
  else
    let s1 := s.sendBlocks p t k
    if k.pos + k.n ≤ (s.spool k.spool).tokens then
      let r := s1.histGet k.spool k.pos k.n
      r.2.2.sendTokens p t k r.1
    else s1

/-- Send a whole announcement. -/
def State.sendStep (p : Nat) (t : AnnStep) (s : State) : State :=
  (t.picks.foldl (fun s k => State.sendSlotInputs p t s k) ((s.sendAnnounce p t).sendSlots p t)).sendMask p t

/-! ## Announcing (R345, R346, R350, R363) -/

/-- A pick of a choice: POS as it will stand when the steps announced so far commit; a chunk is clipped at TOKENS. -/
def State.mkPick (s : State) (p : Nat) (c : Choice) : Pick :=
  let x := s.spool c.1
  let pos := x.kvTokens + ahead (s.serve p).steps c.1
  let dec : Bool := x.st == SP.decode
  let n := if dec then 1 else min c.2.2 (x.tokens - pos)
  { spool := c.1, slot := c.2.1, n := n, pos := pos, sample := dec || (n != 0 && pos + n == x.tokens), dec := dec, masked := n == 0
    adm := x.admitSeq }

/-- Drop the picks whose input tokens lie in history pages that fail their check; their spools are cancelled (R363). -/
def State.checkHistory (p : Nat) (ks : List Pick) (s : State) : State × List Pick :=
  ks.foldl (fun (acc : State × List Pick) k =>
    if k.masked || (s.spool k.spool).tokens < k.pos + k.n then (acc.1, acc.2 ++ [k])
    else
      let r := acc.1.histGet k.spool k.pos k.n
      if r.2.1 then (r.2.2.cancelSpool p k.spool St.HISTORY_LOST, acc.2) else (r.2.2, acc.2 ++ [k])) (s, [])

/-- In a refit: would a step of a bucket launch at or after the barrier B (R322, R345)? -/
def State.tooLate (s : State) (p : Nat) (b : Bucket) : Bool :=
  s.wst p = WS.refit && stDiff (s.chooseL p (s.spanOf p b)) (BitVec.ofNat 64 (s.rd (Reg.PNL_WGT_BARRIER_STITCH p))) ≤ 0

/-- Enter a step: its number and stitch are fixed, its ADMITTED spools are PREFILL, and its messages go out. -/
def State.enterStep (p : Nat) (t0 : AnnStep) (s : State) : State :=
  let span := s.spanOf p t0.bucket
  let l := s.chooseL p span
  let v := s.serve p
  let t := { t0 with q := v.nextQ, l := l, span := span, gen := s.rd (Reg.PNL_WGT_GEN_GEN p) }
  let s1 := s.updServe p (fun v => { v with
    steps := v.steps ++ [t], nextQ := (v.nextQ + 1) % 65536, prevEnd := some (l + BitVec.ofNat 64 span) })
  let s2 := t.picks.foldl (fun s k => s.updSpool k.spool (fun x => if x.st = SP.admitted then { x with st := SP.prefill } else x)) s1
  ((s2.wr (Reg.GSE_PSTAT_LAST_Q p) t.q).wr (Reg.GSE_LAST_L_STITCH p) l.toNat).sendStep p t

/-- Announce a batch in a bucket; no picks announce nothing (R343), and nor does a step whose L the barrier of a refit forbids (R322). -/
def State.announceBatch (p bix : Nat) (b : Bucket) (cs : List Choice) (s : State) : State :=
  let r := s.checkHistory p (cs.map (s.mkPick p))
  if r.2.isEmpty || r.1.tooLate p b then r.1
  else r.1.enterStep p { c := s.rd (Reg.PNL_STEP_COUNT p) + (s.serve p).steps.length, bix := bix, bucket := b, picks := r.2 }

/-- The hardware selection, announced (R343). -/
def State.hardwareBatch (p : Nat) (s : State) : State :=
  match s.topBucket p with
  | none => s
  | some lim =>
    let r := s.selectBatch p lim (s.chooseL p 0)
    if r.2.isEmpty then r.1
    else match r.1.pickBucket p r.2 with
      | some b => r.1.announceBatch p b.1 b.2 r.2
      | none => r.1

/-- Announce the replacement of a discarded step: same c, bucket and slots; spools that have left it stay masked, and with BATCH_DEP so
does every slot that was masked at its end (R350). It waits where the barrier of a refit forbids its L (R322). One that every spool has been
withdrawn from is announced with no slot in use, so that the counters of the steps after it stand (DESIGN CHOICE, log entry 82). -/
def State.announceRedo (p : Nat) (t : AnnStep) (s : State) : State :=
  if s.tooLate p t.bucket then s else
  let fix (k : Pick) : Pick :=
    let pos := if k.dec then (s.spool k.spool).kvTokens + ahead (s.serve p).steps k.spool else k.pos
    { k with pos := pos, masked := k.gone || k.n == 0 || (t.bucket.dep && k.masked) }
  let r := (s.updServe p (fun v => { v with redo := v.redo.drop 1 })).checkHistory p (t.picks.map fix)
  r.1.enterStep p { t with picks := r.2, reported := [], endAt := none, lists := [], tokens := [], inputsShut := false, altered := false
                           was := t.q :: t.was }

/-! ## The policy of a refit (R330) -/

/-- The first new-generation step: each spool of an older generation is treated by POLICY. Under RESTART a discarded step of the old
generation has no replacement: its spools are prefilled again first. -/
def State.applyPolicy (p : Nat) (s : State) : State :=
  let gen := s.rd (Reg.PNL_WGT_GEN_GEN p)
  let restart : Bool := s.rd (Reg.PNL_WGT_STATE_POLICY p) = 0
  let one (s : State) (i : Nat) : State :=
    let x := s.spool i
    if x.generation = gen then s
    else if restart then
      let noted (s : State) : State := s.updSpool i (fun y => { y with genNote := true })
      if x.st = SP.decode || x.st = SP.prefill then noted (s.loseKv i SP.prefill)
      else if x.st = SP.idle then noted (s.loseKv i SP.idle)
      else if x.st = SP.admitted then noted (s.loseKv i SP.admitted)
      else if x.st = SP.parked then noted (s.toCold i)
      else if x.st = SP.cold || x.st = SP.parking || x.st = SP.unparking then noted s
      else s
    else if x.kvTokens = 0 then s.updSpool i (fun y => { y with generation := gen })
    else if x.st ≠ SP.cold then s.updSpool i (fun y => { y with mixedGen := true }) else s
  if (s.serve p).policyGen = gen then s
  else ((s.spoolsOf p).foldl one s).updServe p (fun v => { v with policyGen := gen, redo := if restart then [] else v.redo })

/-- The policy is applied before the first new-generation step, however its batch is chosen (R330). -/
def State.policed (p : Nat) (s : State) : State := if s.wst p = WS.ready then s.applyPolicy p else s

/-! ## STEP_ANNOUNCE (R343 to R346, R492) -/

/-- May the head announce another step now (R322, R345, R310, R474, R475)? -/
def State.canAnnounce (s : State) (p : Nat) : Bool :=
  let v := s.serve p
  s.isHead p && (s.pst p = PS.running || s.pst p = PS.frozen) && s.bit (Reg.GSE_PCFG_ENABLE p) && s.domOn domEngine && v.steps.length < 4 &&
  (s.wst p = WS.ready || (s.wst p = WS.refit && (s.buckets p).any (fun b => !s.tooLate p b.2))) &&
  !s.refetching p && v.recovering.isEmpty && v.moveWait.isEmpty && !(s.wgt p).awaiting &&
  !(s.mapped p && s.tws = TW.fenced) && !s.onStandby p &&
  s.rd (Reg.PNL_STEP_COUNT p) + v.steps.length < 2 ^ 48 - 1

/-- The next step of a replay: prefill up to the position, then the replayed step alone in its slot (R492). -/
def State.announceReplay (p : Nat) (r : Replay) (s : State) : State :=
  let x := s.spool r.spool
  let pos := x.replayPos.getD 0
  if r.launched || !(s.serve p).steps.isEmpty then s
  else if x.kvTokens < pos then
    match s.topBucket p with
    | none => s
    | some lim =>
      let t := min (pos - x.kvTokens) (min lim.chunk lim.maxTokens)
      let q := s.reserveBlocks p r.spool (r.slot % max 1 (s.groups p)) (x.kvTokens + t)
      let cs : List Choice := [(r.spool, r.slot % max 1 (s.groups p), t)]
      match q.2, q.1.pickBucket p cs with
      | true, some b =>
        let k : Pick := { spool := r.spool, slot := r.slot % max 1 (s.groups p), n := t, pos := x.kvTokens, sample := false, dec := false
                          masked := false, adm := x.admitSeq }
        let h := q.1.checkHistory p [k]
        if h.2.isEmpty then h.1 else h.1.enterStep p { c := s.rd (Reg.PNL_STEP_COUNT p), bix := b.1, bucket := b.2, picks := h.2 }
      | _, _ => q.1
  else
    match (s.buckets p).find? (fun b => b.1 = r.bucket) with
    | none => s
    | some b =>
      let q := s.reserveBlocks p r.spool (r.slot % max 1 (s.groups p)) (pos + r.n)
      if !q.2 then q.1
      else
        let k : Pick := { spool := r.spool, slot := r.slot, n := r.n, pos := pos, sample := r.sample, dec := false, masked := false
                          adm := x.admitSeq }
        let h := q.1.checkHistory p [k]
        let s1 := (h.1.wr (Reg.PNL_STEP_COUNT p) r.c).updServe p (fun v => { v with replay := some { r with launched := true } })
        s1.enterStep p { c := r.c, bix := b.1, bucket := b.2, picks := h.2, replay := true }

/-! ## Firmware mode (R344) -/

/-- Nothing is posted to firmware. -/
def Serve.fwDone (v : Serve) : Serve := { v with fwAt := none, fwPick := none }

/-- A fallback to the hardware selection (R344). -/
def State.fallback (p : Nat) (code : Code) (s : State) : State :=
  (((s.logN code (some p) 0 0).stick (Reg.GSE_PCNT_FALLBACK p) 1).updServe p Serve.fwDone).hardwareBatch p

/-- Use a choice that firmware has returned in time, or the hardware selection where it breaks a rule (R344). -/
def State.useChoice (p bucket : Nat) (picks : List (Nat × Nat × Nat)) (s : State) : State :=
  match (s.buckets p).find? (fun b => b.1 = bucket) with
  | none => s.fallback p St.FW_BATCH_INVALID
  | some b => match s.fwChoice p (s.chooseL p 0) picks b.2 with
    | none => s.fallback p St.FW_BATCH_INVALID
    | some s1 => (s1.updServe p Serve.fwDone).announceBatch p b.1 b.2 picks

/-- Post the candidate list to firmware; candidates that output excludes are counted (R344, R375). -/
def State.postCands (p : Nat) (s : State) : State :=
  let cs := (s.spoolsOf p).filter (s.isCand p (s.chooseL p 0))
  (s.stick (Reg.GSE_SAMP_OUT_WAIT p) (cs.filter s.outWaits).length).updServe p (fun v => { v with
    fwAt := some s.now, fwPick := none, fwCands := sortBy s.candLe (cs.filter (fun i => !s.outWaits i)) })

/-- The next step in firmware mode: the list is posted, or the choice that came while no step could be announced is used (R344). -/
def State.firmwareBatch (p : Nat) (s : State) : State :=
  match (s.serve p).fwAt, (s.serve p).fwPick with
  | none, _ => s.postCands p
  | some _, some k => s.useChoice p k.1 k.2
  | some _, none => s

/-- STEP_ANNOUNCE: the head engine applies a refit's policy, then announces a replacement that waits, or selects a batch and a bucket,
chooses L and announces the step; in firmware mode it posts the candidates, or uses the choice returned (R343 to R346, R350). -/
def State.announceStep (p : Nat) (s : State) : State :=
  if !s.canAnnounce p then s
  else if !(s.reloads p).isEmpty then s.postReloads p
  else
    let s1 := s.policed p
    match (s1.serve p).replay, (s1.serve p).redo with
    | some r, [] => s1.announceReplay p r
    | _, t :: _ => s1.announceRedo p t
    | none, [] =>
      if s.bit (Reg.DBG_PNL_CTL_REPLAY p) then s1
      else if s.rd (Reg.GSE_PCFG_MODE p) = 0 then (s1.updServe p Serve.fwDone).hardwareBatch p
      else s1.firmwareBatch p

/-- STEP_ANNOUNCE. -/
def execStepAnnounce (panel : Nat) (s : State) : Host.Outcome State Fault Refusal := .next (s.mirrored panel (State.announceStep panel))

/-- The firmware budget has passed since the candidate list was posted (R344). -/
def State.fwLate (s : State) (t : W64) : Bool := reached s.now (t + BitVec.ofNat 64 (1000 * s.rd Reg.GSE_CTL2_FW_BUDGET_US))

/-- Can the head announce a batch now, with no replacement that goes before it? -/
def State.batchOpen (s : State) (p : Nat) : Bool := s.canAnnounce p && (s.serve p).redo.isEmpty

/-- A choice returned at this stitch is within the budget: at most FW_BUDGET_US after the list was posted. -/
def State.fwInTime (s : State) (t : W64) : Bool :=
  s.now = t + BitVec.ofNat 64 (1000 * s.rd Reg.GSE_CTL2_FW_BUDGET_US) || !s.fwLate t

/-- FW_BATCH_RETURN: firmware returns picks and a bucket, which are checked and used, or replaced with 0x0C09; a choice after the budget
is replaced with 0x0C08; one that comes in time while no batch can be announced is kept (R344). -/
def execFwBatchReturn (panel bucket : Nat) (picks : List (Nat × Nat × Nat)) (s : State) : Host.Outcome State Fault Refusal :=
  .next (match (s.serve panel).fwAt, (s.serve panel).fwPick with
    | some t, none =>
      if s.batchOpen panel then
        s.mirrored panel (fun s => if s.fwInTime t then (s.policed panel).useChoice panel bucket picks
          else (s.policed panel).fallback panel St.FW_BATCH_LATE)
      else if s.fwInTime t then s.updServe panel (fun v => { v with fwPick := some (bucket, picks) })
      else s
    | _, _ => s)

/-- FW_BATCH_TIMEOUT: firmware has missed FW_BUDGET_US: the hardware selection is used, with 0x0C08, once a batch can be announced (R344). -/
def execFwBatchTimeout (panel : Nat) (s : State) : Host.Outcome State Fault Refusal :=
  .next (match (s.serve panel).fwAt, (s.serve panel).fwPick with
    | some t, none =>
      if s.fwLate t && s.batchOpen panel then
        s.mirrored panel (fun s => (s.policed panel).fallback panel St.FW_BATCH_LATE)
      else s
    | _, _ => s)

end Sys2Proof.Machine
end

