-- ==== Sys2Proof/Machine/Tick.lean ====
section
/-! DEFINITION. One arithmetic clock edge: the stitch count, the hold trees, and the step cycle of every tile that issued (spec/01 R16,
R29, R32, R35; spec/02 R61, R67, R68; spec/06 R181 to R183). -/

namespace Sys2Proof.Machine

/-- PWR_VIN.VIN_MV is updated every µs. -/
def State.showVin (s : State) : State := if s.now.toNat % 1000 = 0 then s.wr Reg.PWR_VIN_VIN_MV s.power.vin else s

/-- A stitch that a panel spends halted or braked does not count against LAT_FREEZE_LIMIT (R441, R485). -/
def State.lateStands (s : State) : State :=
  let stopped := panels16.filter (fun p => s.bit (Reg.DBG_PNL_STAT_HALTED p) || s.power.braked.contains p)
  stopped.foldl (fun s p => (s.runTiles p).foldl (fun s t => s.updTile t (fun x => { x with lateSince := x.lateSince.map (· + 1) })) s) s

/-- One stitch passes: the count advances by one (R16, R17), VIN_MV follows the input, and the slew governor moves on (R438). -/
def State.stitch (s : State) : State := (s.wrap Reg.STI_COUNT_COUNT 1).lateStands.showVin.governStitch

/-- One edge passes in stitch time: each edge is 10 / (edges in ten stitches) of a stitch (R16, R32). -/
def State.tickTime (s : State) : State :=
  let n := edgesPer10 (s.rd Reg.STI_CLK_POINT)
  let f := s.clk.phase + 10
  let s1 := if f ≥ n then s.stitch else s
  { s1 with clk := { s1.clk with edge := s1.clk.edge + 1, phase := if f ≥ n then f - n else f } }

/-- Enabled slots of a bundle, as a mask. -/
def enabledSlots (b : Nat) : BitVec 5 := BitVec.ofNat 5 (b % 32)

/-- Has every enabled slot of the tile's bundle issued on this edge (R132)? -/
def State.bundleDone (s : State) (t : Nat) : Bool :=
  let x := s.tile t
  let en := enabledSlots (x.bundle x.pc)
  x.slots &&& en = en && (x.slots ≠ 0 || s.bundleOk t)

/-- The step cycle of a tile ends: the data phases that begin by it take their channels, STEP_CY advances, the site's bobbin clock keeps to
its even cycles, and the next bundle is the branch target or the following one; a sequential fetch past bundle 8,191 faults (R67, R153,
R182). -/
def State.nextCycle (t : Nat) (s : State) : State :=
  let s := s.takePhases t ((s.tile t).cy / 2)
  let x := s.tile t
  let y := { x with cy := min (x.cy + 1) (2 ^ 40 - 1), slots := 0, branch := none, paid := 0, lateSince := none
                    bobOdd := if x.cy % 2 = 0 then decide (s.clk.edge % 2 = 1) else x.bobOdd }
  if x.ended then s.setTile t y
  else if x.ending then s.setTile t { y with ended := true, ending := false }
  else match x.branch with
    | some b => s.setTile t { y with pc := b }
    | none =>
      if x.pc + 1 ≥ 8192 then (s.setTile t y).tileFault t St.FETCH_RANGE (x.pc + 1) x.cy
      else s.setTile t { y with pc := x.pc + 1 }

/-- One tile of a running step over an edge: a held tile stays where it is; a tile that has issued its whole bundle, or has ended,
advances when the hold tree permits (R153, R181). -/
def State.tickTile (p t : Nat) (s : State) : State :=
  let x := s.tile t
  if x.held then s.setTile t { x with held := false }
  else if x.ended then
    (if x.run && !s.stopped p t && s.isLive p && s.treeOk p t then s.nextCycle t else s)
  else if s.mayIssue t && s.bundleDone t then s.nextCycle t
  else s

/-- Cycle 0 of the step: every tile begins with every register present; one halted since the launch stays so (R29, R53, R68, R485). -/
def beginTile (x : Tile) : Tile :=
  { x with run := true, ended := false, ending := false, held := false, cy := 0, sx := 0, slots := 0, branch := none,
           paid := 0, lateSince := none, absent := [], bcap := [], q := 0, phases := [],
           up0 := 0, up1 := 0, dn0 := 0, dn1 := 0 }

/-- Step bobbin cycle 0: the step queue is empty and the port is free (R101, R104). -/
def beginBob (b : Bobbin) : Bobbin := { b with stepQ := [], portFree := 0, op := 0, readEnd := 0, results := [], q := 0 }

/-- Cycle 0 at a tile and the bobbins above it. -/
def State.beginSite (t : Nat) (s : State) : State :=
  (List.range s.tiers).foldl (fun s k => s.updBob (bobAt k t) beginBob) (s.updTile t beginTile)

/-- At cycle 0 of every step the launch mask replaces the slot mask in each tile and each bobbin of the panel (R55, R124, R347). -/
def State.takeLaunchMask (t : Nat) (s : State) : State :=
  (List.range s.tiers).foldl (fun s k => s.updBob (bobAt k t) (fun b => { b with mask := b.launchMask }))
    (s.updTile t (fun x => { x with mask := x.launchMask, maskIn := none }))

/-- The hold tree over an edge: cycles counted six edges ago enter T (R181). -/
def Run.treeTick (r : Run) : Run :=
  let pipe := (r.lateNow :: r.pipe).take 6
  { r with treeT := r.treeT + (if pipe.getD 5 false then 1 else 0), pipe := pipe, lateNow := false }

/-- Every hold of the run has reached every tile: T no longer rises, and each tile has been held as often (R181, R184). -/
def State.treeQuiet (s : State) (r : Run) : Bool :=
  !r.lateNow && r.pipe.all (fun b => !b) && r.tiles.all (fun t => decide (r.treeT ≤ (s.tile t).sx))

/-- A panel's running step over an edge. -/
def State.tickRun (p : Nat) (s : State) : State :=
  match (s.panel p).run with
  | none => s
  | some r =>
    if !s.isLive p then s
    else if r.startIn > 0 then
      let s1 := s.updPanel p (fun q => { q with run := some { r with startIn := r.startIn - 1 } })
      if r.startIn = 1 then (s1.tilesOf p).foldl (fun s t => s.takeLaunchMask t) (r.tiles.foldl (fun s t => s.beginSite t) s1) else s1
    else
      let held := r.tiles.any (fun t => (s.tile t).held)
      let halted := s.bit (Reg.DBG_PNL_STAT_HALTED p) || s.power.braked.contains p
      let s1 := if r.lateNow then s.wrapOvf (Reg.LAT_PNL_CY_COUNT p) (Reg.LAT_PNL_CY_OVF p) 1 else s
      let s2 := r.tiles.foldl (fun s t => s.tickTile p t) s1
      let s3 := s2.updPanel p (fun q => { q with run := q.run.map Run.treeTick })
      let s4 := if held || halted then s3
        else (if s3.pst p = PS.frozen then s3.setPst p PS.running else s3).wr (Reg.LAT_PNL_FROZEN p) 0
      match (s4.panel p).run with
      | some r4 => if s4.treeQuiet r4 then s4.updPanel p (fun q => { q with frozen := false }) else s4
      | none => s4

/-- Cycles a panel spends halted or braked (R441, R485). -/
def State.tickStops (p : Nat) (s : State) : State :=
  let s1 := if s.bit (Reg.DBG_PNL_STAT_HALTED p) then s.wrapOvf (Reg.DBG_PNL_HALT_CY_COUNT p) (Reg.DBG_PNL_HALT_CY_OVF p) 1 else s
  if s.power.braked.contains p then s1.wrapOvf (Reg.PWR_PNL_BRK_BRAKE_CY p) (Reg.PWR_PNL_BRK_OVF p) 1 else s1

/-- Cycles on which a buffer of a selvedge router is full, or its limiter holds an ELASTIC packet (FAB_SELV_STAT; R205, R208, R209). -/
def State.tickSelvedge (s : State) : State :=
  let places := (s.noc.flights.map (fun f => f.loc)).eraseDups
  let full := places.filter (fun l => s.slotsOf l ≤ s.occupancy l)
  let at_ := (full.flatMap s.selvedgeOf).eraseDups
  let held := ((s.noc.flights.filterMap (fun f => match f.loc with
    | .ingress n => if s.limHolds n f.pkt then some n else none
    | _ => none))).eraseDups
  let s1 := at_.foldl (fun s n => s.stick (Reg.FAB_SELV_STAT_FULL_CY n) 1) s
  held.foldl (fun s n => s.stick (Reg.FAB_SELV_STAT_LIMIT_CY n) 1) s1

/-- Counters of a tile that run on every edge: cycles with a pass in the array, buffered writes that wait for their banks, and narrow ones
that wait for room in their group. TILE_PORT_WAIT adds one for every waiting write (R61, R68, R286; DESIGN CHOICE, log entry 74). -/
def State.tickCounters (t : Nat) (s : State) : State :=
  let x := s.tile t
  let s1 := if s.clk.edge < x.arrayFree then s.wrapOvf (Reg.TILE_PERF_ARRAY_COUNT t) (Reg.TILE_PERF_ARRAY_OVF t) 1 else s
  let s2 := if x.netBuf = [] then s1 else s1.stick (Reg.TILE_PORT_WAIT_NET_WAIT t) x.netBuf.length
  let s3 := if x.vertBuf = [] then s2 else s2.stick (Reg.TILE_PORT_WAIT_VERT_WAIT t) x.vertBuf.length
  if x.netBuf = [] && x.vertBuf = [] then s3 else x.mergeWaits.foldl (fun s k => s.bankConf t k) s3

/-- The tile has still to do something on this edge: write complete results, take a mask in, issue the rest of its bundle, or be held
(R55, R132, R133, R181). -/
def State.edgeOpen (s : State) (p t : Nat) : Bool :=
  let x := s.tile t
  x.owes s.clk.edge ||
    (match (s.panel p).run with
     | some r => s.isLive p && r.startIn = 0 && x.run && !x.held && !s.stopped p t &&
        (x.sx < r.treeT || (!x.ended && !(s.mayIssue t && s.bundleDone t)))
     | none => false)

/-- A tile of a running panel has still to do something on this edge; a tile outside the placement has only a mask to take. -/
def State.edgeWaits (s : State) : Bool :=
  panels16.any (fun p => match (s.panel p).run with
    | some r => r.tiles.any (s.edgeOpen p) || (s.tilesOf p).any (fun t => (s.tile t).maskDue s.clk.edge)
    | none => false)

/-- The bobbins above a site take a cycle of service on this edge: with the even step cycles of the tile while it steps, and on every second
edge while it does not. On a stopped edge the cycle is due with the next edge: where the tile then begins an even step cycle, the stopped
cycles were odd in number, and the one before has been stretched to 3 edges (R101, R182, log entry 74). -/
def State.siteService (t : Nat) (s : State) : State :=
  let x := s.tile t
  let go := s.stepGoes t
  let s1 := s.updTile t (fun y => { y with bobDue := !go && (decide (s.clk.edge % 2 = 1) == y.bobOdd) })
  if x.bobDue || (go && x.cy % 2 = 0) then (List.range s.tiers).foldl (fun s k => s.inboundCycle (bobAt k t)) s1 else s1

/-- One arithmetic clock edge. It does not pass while a tile of a running step has not issued its whole bundle or been held. With the rails
down nothing is clocked; inside a change window the arithmetic clocks are stopped and one stitch passes instead. A firmware update in progress
ends its passes first (R35, R431, R462; log entries 2 and 66). -/
def tick (s : State) : State :=
  if !s.power.on then s
  else if s.boot.update.isSome then s.finishUpdate
  else if s.clk.inWindow then s.stitch
  else if s.edgeWaits then s
  else
    let s0 := (s.tiles.map (fun kv => kv.1)).foldl (fun s t => (s.bankCycle t).tickCounters t) s
    let s1 := (((s0.bobs.filter (fun kv => kv.2.inbound ≠ [])).map (fun kv => bobTile kv.1)).eraseDups).foldl (fun s t => s.siteService t) s0
    (panels16.foldl (fun s p => (s.tickStops p).tickRun p) s1.tickSelvedge).tickTime

end Sys2Proof.Machine
end

