-- ==== Sys2Proof/Machine/Weights.lean ====
section
/-! DEFINITION. Weights: manifests, the ingest engine, loads, refits and the journal (spec/12 R300 to R329). -/

namespace Sys2Proof.Machine

/-! ## Model manifests (R300 to R304) -/

def mfDevices (m : List Byte) : Nat := leAt m 6 2
def mfModel (m : List Byte) : Nat := leAt m 8 8
def mfGen (m : List Byte) : Nat := leAt m 0x10 4
def mfLayers (m : List Byte) : Nat := leAt m 0x14 2
def mfSegs (m : List Byte) : Nat := leAt m 0x18 4
def mfKey (m : List Byte) : List Byte := slice m 0x40 96

/-- The shard table entry of a device, and the entry of segment `i` (R301, R302). -/
def mfShard (m : List Byte) (d : Nat) : List Byte := slice m (0xC0 + 64 * d) 64
def mfSeg (m : List Byte) (i : Nat) : List Byte := slice m (0xC0 + 64 * mfDevices m + 64 * i) 64

/-- A segment entry is well formed (R302). -/
def segOk (layers : Nat) (e : List Byte) : Bool :=
  decide (leAt e 0 2 < layers) && decide (leAt e 5 1 ≤ 127) && decide (1 ≤ leAt e 6 1) && decide (leAt e 6 1 ≤ 128 - leAt e 5 1) &&
  leAt e 7 1 == 0 && decide (1 ≤ leAt e 8 4) && decide (leAt e 8 4 ≤ leAt e 6 1 * 65536) && leAt e 12 4 == 0

/-- Offsets of the segments of a shard in its image, and the end of the last: each begins at a multiple of 4,096 (R303). -/
def segOffsets : List Nat → Nat → List Nat × Nat
  | [], o => ([], o)
  | n :: r, o =>
    let at_ := cdiv o 4096 * 4096
    let x := segOffsets r (at_ + n)
    (at_ :: x.1, x.2)

/-- The pages a segment entry takes, as (VX, VY, TIER, local page). -/
def segPages (e : List Byte) : List (Nat × Nat × Nat × Nat) :=
  (List.range (leAt e 6 1)).map (fun i => (leAt e 2 1, leAt e 3 1, leAt e 4 1, leAt e 5 1 + i))

/-- Segments [first, first + n). -/
def segRange (m : List Byte) (first n : Nat) : List (List Byte) := (List.range n).map (fun i => mfSeg m (first + i))

/-- Are the shards from device `d` contiguous and well formed, no two segments of one sharing a page (R301, R303, R313)? -/
def shardsOk (m : List Byte) : Nat → Nat → Nat → Bool
  | 0, _, next => next == mfSegs m
  | n + 1, d, next =>
    let e := mfShard m d
    let cnt := leAt e 4 4
    let segs := segRange m next cnt
    leAt e 0 4 == next && decide (1 ≤ cnt) && decide (cnt ≤ 1048576) && decide (next + cnt ≤ mfSegs m) &&
    leAt e 8 8 == (segOffsets (segs.map (fun x => leAt x 8 4)) 0).2 && decide (segs.flatMap segPages).Nodup &&
    slice e 16 48 == sha384 (segs.flatMap (fun x => slice x 16 48)) && shardsOk m n (d + 1) (next + cnt)

/-- The second check of R313: the manifest of `n` bytes, for a DEVICE_INDEX. -/
def manifestOk (m : List Byte) (n idx : Nat) : Bool :=
  decide (288 ≤ n) && leAt m 0 4 == 0x54464E4D && leAt m 4 2 == 1 && decide (1 ≤ mfDevices m) && decide (mfDevices m ≤ 1024) &&
  mfGen m != 0 && decide (1 ≤ mfLayers m) && decide (mfLayers m ≤ 512) && leAt m 0x16 2 == 0 && allZero (slice m 0x1C 36) &&
  allZero (slice m 0xA0 32) && n == 192 + 64 * mfDevices m + 64 * mfSegs m + 96 && decide (n ≤ 67108864) &&
  decide (idx < mfDevices m) && (segRange m 0 (mfSegs m)).all (segOk (mfLayers m)) && shardsOk m (mfDevices m) 0 0

/-- The model key hash the partition holds for a panel (R304, R387). -/
def State.modelKeyHash (s : State) (p : Nat) : List Byte :=
  (List.range 6).flatMap (fun i => bytesOf 8 (s.rd (Reg.PNL_PART_KEY_HASH p i)))

/-- Key hash and signature (R304). -/
def State.manifestSigned (s : State) (p : Nat) (m : List Byte) : Bool :=
  sha384 (mfKey m) == s.modelKeyHash p &&
  ecdsaOk (mfKey m) (m.drop (m.length - 96)) (m.take (m.length - 96))

/-- The device's segments where the placement puts them; none where one lies outside it (R302, R313). -/
def State.placeSegs (s : State) (p place : Nat) (m : List Byte) (idx : Nat) : Option (List Segment) :=
  match s.pattern? p place with
  | none => none
  | some pat =>
    let es := segRange m (leAt (mfShard m idx) 0 4) (leAt (mfShard m idx) 4 4)
    let offs := (segOffsets (es.map (fun x => leAt x 8 4)) 0).1
    if es.all (fun e => decide (leAt e 2 1 < pat.gridW) && decide (leAt e 3 1 < pat.gridH) && decide (leAt e 4 1 < s.tiers) &&
        decide (leAt e 5 1 + leAt e 6 1 ≤ s.rd (Reg.BOB_PNL_SPLIT_KV_FIRST p))) then
      some ((es.zip offs).map (fun x =>
        { layer := leAt x.1 0 2, bob := bobAt (leAt x.1 4 1) (pat.tiles.getD (leAt x.1 3 1 * pat.gridW + leAt x.1 2 1) 0)
          lpage := leAt x.1 5 1, npages := leAt x.1 6 1, bytes := leAt x.1 8 4, off := x.2
          digest := BitVec.ofNat 384 (natOfBE (slice x.1 16 48)) }))
    else none

/-- Page IDs of a segment. -/
def State.segPageIds (s : State) (g : Segment) : List Nat := (List.range g.npages).map (fun i => s.pageOf g.bob (g.lpage + i))

/-! ## Source lists (R305, R313, R319) -/

/-- One entry of a source list, or none where it is malformed. -/
def sourceOf (e : List Byte) : Option Source :=
  if 1 < leAt e 0 1 || leAt e 1 3 ≠ 0 || leAt e 7 1 ≠ 0 || (leAt e 0 1 = 0 && leAt e 8 8 % 4096 ≠ 0) then none
  else some { fabric := leAt e 0 1 == 1, feid := leAt e 4 3, addr := leAt e 8 8 }

/-- A source list of `n` entries. -/
def sourcesOf (bs : List Byte) (n : Nat) : Option (List Source) := (List.range n).mapM (fun i => sourceOf (slice bs (16 * i) 16))

/-- Read and check a source list (the first check of R313). -/
def State.withSources (j : Job) (a n : Nat) (f : List Source → State → State) (s : State) : State :=
  if n < 1 || 8 < n then s.complete j St.MANIFEST_FORMAT
  else s.fetchFor j a (16 * n) (fun bs s =>
    match sourcesOf bs n with
    | some l => f l s
    | none => s.complete j St.MANIFEST_FORMAT)

/-- The checks of R313 on a manifest at an address, in order; then `f` with the manifest, its sources and its segments. -/
def State.withManifest (j : Job) (p a n srcAddr srcCount place idx : Nat)
    (f : List Byte → List Source → List Segment → State → State) (s : State) : State :=
  if a % 64 ≠ 0 then s.complete j St.MANIFEST_FORMAT
  else s.withSources j srcAddr srcCount (fun srcs s =>
    if n < 288 || 67108864 < n then s.complete j St.MANIFEST_FORMAT
    else s.fetchFor j a n (fun m s =>
      if !manifestOk m n idx then s.complete j St.MANIFEST_FORMAT
      else if !s.manifestSigned p m then s.complete j St.MANIFEST_SIGNATURE
      else match s.placeSegs p place m idx with
        | none => s.complete j St.MANIFEST_PLACEMENT
        | some segs =>
          if (segs.flatMap s.segPageIds).any s.isRetired then s.complete j St.RETIRED_TARGET else f m srcs segs s))

/-! ## The state of a load -/

/-- A weight code of a panel, with the segment it concerns (PNL_WGT_ERR). -/
def State.wgtCode (p : Nat) (code : Code) (seg : Nat) (s : State) : State :=
  (s.wr (Reg.PNL_WGT_ERR_LAST_CODE p) code.toNat).wr (Reg.PNL_WGT_ERR_LAST_SEG p) seg

/-- A layer's generation tag. -/
def Wgt.tag (w : Wgt) (l : Nat) : Nat := sget 0 w.tags l

/-- Every layer's tag. -/
def tagAll (layers gen : Nat) : Store Nat := sblock 0 0 (List.replicate layers gen)

/-- Are all of a layer's segments verified? -/
def Wgt.layerDone (w : Wgt) (l : Nat) : Bool := w.segs.all (fun g => g.layer ≠ l || g.st = 2)

/-- LAYERS_DONE and SEGS_DONE, kept with the segments (PNL_WGT_PROG). -/
def State.progress (p : Nat) (s : State) : State :=
  let w := s.wgt p
  let layers := List.range (s.rd (Reg.PNL_WGT_PROG_LAYERS p))
  let done := if s.wst p = WS.refit || s.wst p = WS.stopped
    then (layers.filter (fun l => w.tag l = w.journal.newGen)).length
    else (layers.filter w.layerDone).length
  (s.wr (Reg.PNL_WGT_PROG_LAYERS_DONE p) done).wr (Reg.PNL_WGT_PROG_SEGS_DONE p) ((w.segs.filter (fun g => g.st = 2)).length)

/-- Begin a whole fetch of segment `i`: its first request goes to source (i mod SRC_COUNT), the others where R306 sends them. -/
def Segment.begin (i n : Nat) (g : Segment) : Segment :=
  { g with st := 1, todo := (List.range (cdiv g.bytes 65536)).map (fun k => (k, if k = 0 then some (i % max n 1) else none)), refetches := 0,
           src := i % max n 1 }

/-- Begin the fetch of the segments that `q` chooses and that are not verified. -/
def Wgt.start (w : Wgt) (q : Segment → Bool) : Wgt :=
  { w with segs := w.segs.zipIdx.map (fun x => if q x.1 && x.1.st = 0 then x.1.begin x.2 w.sources.length else x.1) }

/-- A resident segment with nothing of it to fetch. -/
def Segment.settled (g : Segment) : Segment := { g with st := 2, todo := [], want := [] }

/-- Stop fetching: no request is outstanding or to come. -/
def Wgt.halt (w : Wgt) : Wgt :=
  { w with reqs := [], segs := w.segs.map (fun g => { g with todo := [], st := if g.st = 2 then 2 else 0 }), old := w.old.map Segment.settled }

/-- Segment `i`: those of the present load or refit first, then those of the generation a refit replaces. -/
def Wgt.segAt (w : Wgt) (i : Nat) : Option Segment := (w.segs ++ w.old)[i]?

/-- Change segment `i`. -/
def Wgt.modSeg (w : Wgt) (i : Nat) (f : Segment → Segment) : Wgt :=
  if i < w.segs.length then { w with segs := lmod w.segs i f } else { w with old := lmod w.old (i - w.segs.length) f }

/-- The source list of segment `i`. -/
def Wgt.sourcesOf (w : Wgt) (i : Nat) : List Source := if i < w.segs.length then w.sources else w.oldSources

/-- Cancel the page refetches outstanding for a panel, with their requests; SUSPECT bits stay (R322). -/
def State.cancelRefetch (p : Nat) (s : State) : State :=
  let s1 := { s with integ := { s.integ with refetch := s.integ.refetch.filter (fun g => s.panelOfPage g ≠ some p) } }
  s1.updWgt p (fun w => { w with
    reqs := w.reqs.filter (fun r => (w.segAt r.seg).all (fun g => g.want.isEmpty))
    segs := w.segs.map (fun g => if g.want.isEmpty then g else g.settled), old := w.old.map Segment.settled })

/-- Send a report of the weights to the engine of another device, or of this one (R315, R325): the spec gives its content, and no
layout. Kind 1 VERIFIED, 2 READY, 3 REFIT_DONE, 4 new generation READY. -/
def State.tell (p coord kind : Nat) (s : State) : State :=
  s.emit (.message coord kind [p, s.rd (Reg.PNL_WGT_STATE_DEV_INDEX p), s.rd (Reg.PNL_WGT_MODEL_MODEL_ID p), s.rd (Reg.PNL_WGT_GEN_GEN p),
    s.rd (Reg.PNL_WGT_GEN_NEW_GEN p)])

/-- Set READY at the loaded or the new generation, whose manifest is now the one measured (R304, R315, R325). -/
def State.becomeReady (p : Nat) (s : State) : State :=
  if s.wst p = WS.refit then
    ((s.wr (Reg.PNL_WGT_GEN_GEN p) (s.rd (Reg.PNL_WGT_GEN_NEW_GEN p))).wr (Reg.PNL_WGT_GEN_NEW_GEN p) 0).setWst p WS.ready |>.updWgt p
      (fun w => { w with old := [], barrierHit := false, released := [], lastOld := none, digest := w.journal.digest, awaiting := false
                         journal := { w.journal with state := 3 } }) |>.tellHead p
  else (s.setWst p WS.ready).tellHead p

/-- Does the panel hold a shadow shard, which does not report to the instance: a mapped panel of a standby (R466, R468, R476)? -/
def State.isShadow (s : State) (p : Nat) : Bool := s.onStandby p

/-- Does a standby panel hold a shadow shard: READY with the active instance's model, loaded with DEVICE_INDEX 0? The mirror carries the
instance's DEVICES, and no MODEL_ID to compare (R469, R476, log entry 68). -/
def State.shadowShard (s : State) (p : Nat) : Bool :=
  s.isShadow p && s.wst p == WS.ready && s.rd (Reg.PNL_WGT_STATE_DEV_INDEX p) == 0 &&
    s.rd (Reg.PNL_WGT_STATE_DEVICES p) == (sget (0, 0, 0, 0) s.twin.panels p).2.2.1

/-- The members of the instance a promotion has made this device the head of, when a GEN and DEVICES are that instance's (R475, R476). -/
def State.takenOver (s : State) (p gen devices : Nat) : Option (List (Nat × Nat)) :=
  match (s.serve p).headOf with
  | some (g, d, ms) => if g = gen && d = devices then some ms else none
  | none => none

/-- Does a promoted head load its own shard of the instance it has taken over: the mirrored GEN and DEVICES (R476)? -/
def State.takesOver (s : State) (p : Nat) : Bool :=
  s.isHead p && (s.takenOver p (s.rd (Reg.PNL_WGT_GEN_GEN p)) (s.rd (Reg.PNL_WGT_STATE_DEVICES p))).isSome

/-- The shard is verified: tags, report, completion; a shadow, and a promoted head that loads its shard, need no report (R314, R476). -/
def State.loadVerified (p : Nat) (s : State) : State :=
  let w := s.wgt p
  let s1 := ((s.setShard p SH.verified).updWgt p (fun w => { w with
    tags := tagAll (s.rd (Reg.PNL_WGT_PROG_LAYERS p)) (s.rd (Reg.PNL_WGT_GEN_GEN p)), job := none, deadline := none }))
  let s2 := if s.isShadow p || s.takesOver p then (s1.setWst p WS.ready).updServe p (fun v => { v with headOf := none })
    else s1.tell p (s.rd (Reg.PNL_WGT_STATE_HEAD_COORD p)) 1
  match w.job with
  | some j => s2.completeJob j St.OK 0 0
  | none => s2

/-- End the command of a load or refit. -/
def State.endLoad (p : Nat) (code : Code) (s : State) : State :=
  let s1 := s.updWgt p (fun w => { w with job := none, deadline := none })
  match (s.wgt p).job with
  | some j => s1.completeJob j code 0 0
  | none => s1

/-- The shard becomes BAD and fetching stops: a load ends with the code, a refit stops (R309, R314, R326). -/
def State.shardBad (p : Nat) (code : Code) (seg : Nat) (s : State) : State :=
  let s1 := (((s.logN code (some p) seg 0).wgtCode p code seg).setShard p SH.bad).updWgt p Wgt.halt
  let s2 := if s.wst p = WS.refit then
      (s1.setWst p WS.stopped).updWgt p (fun w => { w with journal := { w.journal with state := 2 } })
    else s1
  s2.endLoad p code

/-- Add 1 to a segment's refetch count; beyond REFETCH_MAX the shard is BAD (R309). -/
def State.countRefetch (p i : Nat) (s : State) : State × Bool :=
  let s1 := (s.stick (Reg.PNL_WGT_ERR_REFETCHES p) 1).updWgt p (fun w => w.modSeg i (fun g => { g with refetches := g.refetches + 1 }))
  let n := (((s1.wgt p).segAt i).map (fun g => g.refetches)).getD 0
  if s.rd Reg.PNL_WGT_CTL_REFETCH_MAX < n then (s1.shardBad p St.SHARD_BAD i, true) else (s1, false)

/-! ## The reports of an instance (R315, R325) -/

/-- The head counts a device's report, once; when all have reported it sets READY and tells every other device. -/
def State.countReport (p dev coord kind : Nat) (s : State) : State :=
  let s1 := s.updWgt p (fun w => { w with reported := nins dev w.reported
                                          members := w.members.filter (fun m => m.1 ≠ dev) ++ [(dev, coord)] })
  let w := s1.wgt p
  let s2 := s1.wr (Reg.PNL_WGT_STATE_DEVS_DONE p) w.reported.length
  if w.reported.length = s.rd (Reg.PNL_WGT_STATE_DEVICES p) && s.wst p ≠ WS.stopped then
    (w.members.filter (fun m => m.1 ≠ 0)).foldl (fun s m => s.tell p m.2 kind) (s2.becomeReady p)
  else s2

/-- The head's load begins: the VERIFIED reports of its model and generation that came before count (R315). -/
def State.countEarly (p : Nat) (s : State) : State :=
  ((s.wgt p).early.filter (fun e => e.model = s.rd (Reg.PNL_WGT_MODEL_MODEL_ID p) && e.gen = s.rd (Reg.PNL_WGT_GEN_GEN p) &&
    e.dev < s.rd (Reg.PNL_WGT_STATE_DEVICES p))).foldl (fun s e => s.countReport p e.dev e.coord 2) s

/-! ## Commands (R311 to R319) -/

/-- Perform a weight command: the panel's state, when it must be STOPPED, then its weight state (R311, R396, log entry 26). -/
def State.weightCmd (j : Job) (stopped record : Bool) (ok : Nat → State → Bool) (f : Nat → State → State) (s : State) : State :=
  s.onPanel j (fun p s =>
    if stopped && s.pst p ≠ PS.stopped then
      (if record then s.refusePanel p St.PANEL_NOT_STOPPED 0 else s).complete j St.PANEL_NOT_STOPPED
    else if !ok p s then s.complete j St.WEIGHTS_BUSY
    else f p s)

/-- MODEL_LOAD (0x0310), parameters of R312. -/
def specModelLoad : CmdSpec where
  opcode := 0x0310
  vf := true
  used := usedBytes 0 26 ||| usedBytes 28 4
  body := fun j s =>
    let c := j.cmd
    s.weightCmd j true true (fun p s => s.wst p = WS.none || (s.wst p = WS.loading && s.shard p = SH.bad)) (fun p s =>
      s.withManifest j p (c.fld 0 8) (c.fld 8 4) (c.fld 16 8) (c.fld 13 1) (c.fld 12 1) (c.fld 14 2) (fun m srcs segs s =>
        let w := s.wgt p
        let retry : Bool := s.wst p = WS.loading
        let until_ := if c.fld 28 4 = 0 then none else some (s.now + BitVec.ofNat 64 (c.fld 28 4 * 1000000))
        if retry && w.digest ≠ digest384 m then s.complete j St.MANIFEST_DIGEST_MISMATCH
        else
          let s1 := if retry then s else
            let regs : List (Fld × Nat) := [(Reg.PNL_WGT_STATE_HEAD p, if c.fld 14 2 = 0 then 1 else 0),
              (Reg.PNL_WGT_STATE_DEV_INDEX p, c.fld 14 2), (Reg.PNL_WGT_STATE_DEVICES p, mfDevices m), (Reg.PNL_WGT_STATE_DEVS_DONE p, 0),
              (Reg.PNL_WGT_MODEL_MODEL_ID p, mfModel m), (Reg.PNL_WGT_GEN_GEN p, mfGen m), (Reg.PNL_WGT_GEN_NEW_GEN p, 0),
              (Reg.PNL_WGT_PROG_LAYERS p, mfLayers m), (Reg.PNL_WGT_PROG_SEGS p, segs.length)]
            regs.foldl (fun s r => s.wr r.1 r.2) s
          let s2 := (s1.wr (Reg.PNL_WGT_STATE_HEAD_COORD p) (c.fld 24 2)).updWgt p (fun x =>
            let y := if retry then { x with segs := x.segs.map (fun g => if g.st = 2 then g else { g with st := 0 }) }
              else { x with segs := segs, old := [], tags := [], digest := digest384 m, reported := []
                            members := if c.fld 14 2 = 0 then (s.takenOver p (mfGen m) (mfDevices m)).getD [] else [] }
            ({ y with sources := srcs, srcFn := c.fn, place := c.fld 12 1, job := some j.id, deadline := until_ }).start (fun _ => true))
          let s3 := ((s2.setWst p WS.loading).setShard p SH.fetching).progress p
          if retry || c.fld 14 2 ≠ 0 then s3 else s3.countEarly p))

/-- MODEL_LOAD: checks a manifest and starts fetching the device's shard (R312 to R314). -/
def execModelLoad (c : Cmd) (s : State) : Host.Outcome State Fault Refusal := .next (specModelLoad.perform none c s)

/-- The weight state becomes NONE: fetches are cancelled, every tag is 0, a load in progress ends with 0x0107; the release tables stay
with their patterns (R317, R318, R328). -/
def State.unloadModel (p : Nat) (s : State) : State :=
  let s1 := (s.endLoad p St.CMD_ABORTED).cancelRefetch p
  let s2 := (s1.updWgt p (fun w => { journal := w.journal, releases := w.releases, early := w.early })).updServe p (fun v => { v with
    badBlocks := [], recovering := [], sentRetired := [], sentRecover := false })
  let regs := [Reg.PNL_WGT_STATE_HEAD p, Reg.PNL_WGT_STATE_DEV_INDEX p, Reg.PNL_WGT_STATE_DEVICES p, Reg.PNL_WGT_STATE_DEVS_DONE p,
    Reg.PNL_WGT_STATE_HEAD_COORD p, Reg.PNL_WGT_MODEL_MODEL_ID p, Reg.PNL_WGT_GEN_GEN p, Reg.PNL_WGT_GEN_NEW_GEN p,
    Reg.PNL_WGT_PROG_LAYERS p, Reg.PNL_WGT_PROG_LAYERS_DONE p, Reg.PNL_WGT_PROG_SEGS p, Reg.PNL_WGT_PROG_SEGS_DONE p]
  ((regs.foldl (fun s f => s.wr f 0) s2).setWst p WS.none).setShard p SH.absent

/-- MODEL_UNLOAD (0x0311). -/
def specModelUnload : CmdSpec where
  opcode := 0x0311
  vf := true
  used := 0
  body := fun j s => s.weightCmd j true true (fun p s => s.wst p ≠ WS.refit) (fun p s =>
    ((s.unloadModel p).updServe p (fun v => { v with headOf := none })).complete j St.OK)

/-- MODEL_UNLOAD: cancels all fetches; every tag becomes 0 and the state NONE; page contents stay (R317). -/
def execModelUnload (c : Cmd) (s : State) : Host.Outcome State Fault Refusal := .next (specModelUnload.perform none c s)

/-- WGT_RELEASE (0x0314). -/
def specWgtRelease : CmdSpec where
  opcode := 0x0314
  vf := true
  used := usedBytes 0 4 ||| usedBytes 8 8
  body := fun j s =>
    let c := j.cmd
    s.weightCmd j false false (fun p s => s.wst p ≠ WS.refit) (fun p s =>
      let known := match s.pattern? p (c.fld 0 1) with | some pat => decide (c.fld 1 1 < pat.entries.length) | none => false
      if !known || s.wst p = WS.none || c.fld 2 2 ≠ s.rd (Reg.PNL_WGT_PROG_LAYERS p) then s.complete j St.RELEASE_TABLE
      else s.fetchFor j (c.fld 8 8) (4 * c.fld 2 2) (fun bs s =>
        let t : ReleaseTable := ⟨c.fld 0 1, c.fld 1 1, (List.range (c.fld 2 2)).map (fun i => leAt bs (4 * i) 4)⟩
        (s.updWgt p (fun w => { w with
          releases := w.releases.filter (fun r => !(r.handle = t.handle && r.entry = t.entry)) ++ [t] })).complete j St.OK))

/-- WGT_RELEASE: installs the release table of a pattern entry (R318). -/
def execWgtRelease (c : Cmd) (s : State) : Host.Outcome State Fault Refusal := .next (specWgtRelease.perform none c s)

/-- MODEL_SOURCE (0x0315). -/
def specModelSource : CmdSpec where
  opcode := 0x0315
  vf := true
  used := usedBytes 0 9
  body := fun j s =>
    let c := j.cmd
    s.onPanel j (fun p s => s.withSources j (c.fld 0 8) (c.fld 8 1) (fun l s =>
      (s.updWgt p (fun w => { w with sources := l, srcFn := c.fn, reqs := w.reqs.map (fun r => { r with src := none }) })).complete j St.OK))

/-- MODEL_SOURCE: replaces the source list; outstanding requests complete from their old sources (R319). -/
def execModelSource (c : Cmd) (s : State) : Host.Outcome State Fault Refusal := .next (specModelSource.perform none c s)

/-- The 192 bytes of a journal (R327). -/
def Journal.bytes (j : Journal) : List Byte :=
  bytesOf 8 j.model ++ bytesOf 4 j.oldGen ++ bytesOf 4 j.newGen ++ bytesOf 8 j.barrier ++ bytesOf 1 j.policy ++ bytesOf 1 j.state ++
  bytesOf 2 j.layers ++ bytesOf 2 j.done.length ++ bytesOf 2 0 ++ bytesBE 48 j.digest.toNat ++
  bytesOf 64 ((j.done.map (fun l => 2 ^ l)).sum) ++ bytesOf 48 0

/-- REFIT_JOURNAL (0x0316). -/
def specRefitJournal : CmdSpec where
  opcode := 0x0316
  vf := true
  used := usedBytes 0 8
  body := fun j s =>
    s.onPanel j (fun p s =>
      if j.cmd.fld 0 8 % 64 ≠ 0 then s.complete j St.MANIFEST_FORMAT
      else s.storeFor j (j.cmd.fld 0 8) (s.wgt p).journal.bytes (fun s => s.complete j St.OK))

/-- REFIT_JOURNAL: writes the panel's refit journal to host memory (R327). -/
def execRefitJournal (c : Cmd) (s : State) : Host.Outcome State Fault Refusal := .next (specRefitJournal.perform none c s)

/-- The latest step announced to this device: the last old step, unless the head announces another one (R322). -/
def State.latestOld (s : State) (p : Nat) : Option Nat :=
  match (s.serve p).launches.getLast? with
  | some l => some l.q
  | none => (s.panel p).run.map (fun r => r.q)

/-- The refit begins: journal, state, refetches; the source list of the resident generation is kept for its pages (R310, R322). -/
def State.beginRefit (j : Job) (p : Nat) (m : List Byte) (srcs : List Source) (segs : List Segment) (s : State) : State :=
  let c := j.cmd
  let s1 := (((((s.cancelRefetch p).setWst p WS.refit).setShard p SH.fetching).wr (Reg.PNL_WGT_GEN_NEW_GEN p) (mfGen m)).wr
    (Reg.PNL_WGT_STATE_POLICY p) (c.fld 12 1)).wr (Reg.PNL_WGT_BARRIER_STITCH p) (c.fld 16 8)
  let s2 := (s1.wr (Reg.PNL_WGT_STATE_DEVS_DONE p) 0).wr (Reg.PNL_WGT_PROG_SEGS p) segs.length
  ((s2.updWgt p (fun w => { w with
    segs := segs, old := w.segs, sources := srcs, srcFn := c.fn, oldSources := w.sources, oldFn := w.srcFn
    reqs := [], job := some j.id, deadline := none, reported := [], barrierHit := false, released := [], lastOld := s.latestOld p
    journal := { model := mfModel m, oldGen := s.rd (Reg.PNL_WGT_GEN_GEN p), newGen := mfGen m, barrier := c.fld 16 8,
                 policy := c.fld 12 1, state := 1, layers := mfLayers m, digest := digest384 m, done := [] } })).progress p).tellHead p

/-- MODEL_REFIT (0x0312). -/
def specModelRefit : CmdSpec where
  opcode := 0x0312
  vf := true
  used := usedBytes 0 14 ||| usedBytes 16 16
  body := fun j s =>
    let c := j.cmd
    s.weightCmd j false false (fun p s => s.wst p = WS.ready) (fun p s =>
      if 1 < c.fld 12 1 then s.complete j St.MANIFEST_FORMAT
      else s.withManifest j p (c.fld 0 8) (c.fld 8 4) (c.fld 24 8) (c.fld 13 1) (s.wgt p).place (s.rd (Reg.PNL_WGT_STATE_DEV_INDEX p))
        (fun m srcs segs s =>
          let old := (s.wgt p).segs
          let clash := segs.any (fun g => old.any (fun o => o.layer ≠ g.layer && (s.segPageIds g).any (fun x => (s.segPageIds o).contains x)))
          if mfModel m ≠ s.rd (Reg.PNL_WGT_MODEL_MODEL_ID p) || mfLayers m ≠ s.rd (Reg.PNL_WGT_PROG_LAYERS p)
              || mfDevices m ≠ s.rd (Reg.PNL_WGT_STATE_DEVICES p) || mfGen m = s.rd (Reg.PNL_WGT_GEN_GEN p) then
            s.complete j St.REFIT_MODEL_MISMATCH
          else if clash then s.complete j St.MANIFEST_PLACEMENT
          else if stDiff s.now (BitVec.ofNat 64 (c.fld 16 8)) < 100000 then s.complete j St.REFIT_BARRIER_TOO_SOON
          else s.beginRefit j p m srcs segs))

/-- MODEL_REFIT: accepts a refit manifest with a barrier stitch and enters REFIT (R321, R322). -/
def execModelRefit (c : Cmd) (s : State) : Host.Outcome State Fault Refusal := .next (specModelRefit.perform none c s)

/-- REFIT_RESUME (0x0313). -/
def specRefitResume : CmdSpec where
  opcode := 0x0313
  vf := true
  used := usedBytes 0 12 ||| usedBytes 13 1 ||| usedBytes 24 8
  body := fun j s =>
    let c := j.cmd
    s.weightCmd j true false (fun p s => s.wst p = WS.stopped) (fun p s =>
      s.withManifest j p (c.fld 0 8) (c.fld 8 4) (c.fld 24 8) (c.fld 13 1) (s.wgt p).place (s.rd (Reg.PNL_WGT_STATE_DEV_INDEX p))
        (fun m srcs segs s =>
          let w := s.wgt p
          if digest384 m ≠ w.journal.digest then s.complete j St.MANIFEST_DIGEST_MISMATCH
          else
            let left := (List.range w.journal.layers).filter (fun l => !w.journal.done.contains l)
            let segs1 := segs.map (fun g => if left.contains g.layer then g else { g with st := 2 })
            let s1 := ((s.setWst p WS.refit).setShard p SH.fetching).updWgt p (fun x =>
              ({ x with segs := segs1, sources := srcs, srcFn := c.fn, job := some j.id, barrierHit := true, released := left
                        journal := { x.journal with state := 1 } }).start (fun g => left.contains g.layer))
            s1.progress p))

/-- REFIT_RESUME: every layer whose DONE bit is clear is eligible at once (R329). -/
def execRefitResume (c : Cmd) (s : State) : Host.Outcome State Fault Refusal := .next (specRefitResume.perform none c s)

/-! ## The refit wave (R320, R324) -/

/-- No old step remains: none announced, none running (R322, R324). -/
def State.noOldStep (s : State) (p : Nat) : Bool := (s.serve p).launches.isEmpty && (s.panel p).run.isNone

/-- Is a layer eligible for the wave (R324)? -/
def State.eligible (s : State) (p l : Nat) : Bool :=
  let w := s.wgt p
  w.barrierHit && (w.released.contains l || s.noOldStep p || s.pst p = PS.stopped)

/-- The pages of a layer that the wave now rewrites are refetched no more. -/
def State.overwrite (p l : Nat) (s : State) : State :=
  let w := s.wgt p
  if !s.eligible p l then s
  else
    let gone := (w.old.filter (fun g => g.layer = l && !g.want.isEmpty)).flatMap s.segPageIds
    if gone.isEmpty then s
    else State.updWgt p (fun w => { w with
      reqs := w.reqs.filter (fun r => !r.old || (w.segAt r.seg).all (fun g => g.layer ≠ l))
      old := w.old.map (fun g => if g.layer = l then g.settled else g) })
      { s with integ := { s.integ with refetch := s.integ.refetch.filter (fun g => !gone.contains g) } }

/-- The wave moves on: segments of eligible layers are fetched, in ascending layer order (R324). -/
def State.wave (p : Nat) (s : State) : State :=
  if s.wst p = WS.refit then
    let w := s.wgt p
    let s1 := ((List.range w.journal.layers).foldl (fun s l => s.overwrite p l) s).updWgt p (fun w => w.start (fun g => s.eligible p g.layer))
    s1.wr (Reg.PNL_WGT_STATE_RELEASE_WAIT p)
      (if w.barrierHit && w.segs.any (fun g => g.st = 0 && !s.eligible p g.layer) && (s1.wgt p).segs.all (fun g => g.st ≠ 1) then 1 else 0)
  else s

/-- REFIT_BARRIER: stitch B is reached: layers become eligible for the wave (R324, R26). -/
def execRefitBarrier (panel : Nat) (s : State) : Host.Outcome State Fault Refusal :=
  .next (if s.wst panel = WS.refit && !(s.wgt panel).barrierHit && reached s.now (BitVec.ofNat 64 (s.rd (Reg.PNL_WGT_BARRIER_STITCH panel)))
    then s.mirrored panel (fun s => (s.updWgt panel (fun w => { w with barrierHit := true })).wave panel) else s)

/-- Has the last old step on this device passed the release cycle of a layer (R320)? -/
def State.passedRelease (s : State) (p l : Nat) : Bool :=
  match (s.panel p).run with
  | none => false
  | some r =>
    r.startIn = 0 && (s.wgt p).lastOld = some r.q &&
    (s.wgt p).releases.any (fun t => t.handle = r.handle && t.entry = r.entry &&
      (match t.cys[l]? with
       | some cy => cy ≠ 0xFFFFFFFF && r.tiles.all (fun x => decide (cy < (s.tile x).cy))
       | none => false))

/-- LAYER_RELEASE: every tile of the last old step has issued a layer's RELEASE_CY: the wave may rewrite the layer (R320, R324). -/
def execLayerRelease (panel layer : Nat) (s : State) : Host.Outcome State Fault Refusal :=
  .next (if s.wst panel = WS.refit && (s.wgt panel).barrierHit && s.passedRelease panel layer then
      s.mirrored panel (fun s => (s.updWgt panel (fun w => { w with released := nins layer w.released })).wave panel)
    else s)

/-! ## The ingest engine (R306 to R310) -/

/-- A segment takes the refetches asked for in its pages (R291, R310). -/
def State.wanted (s : State) (g : Segment) : Segment :=
  let new := (List.range g.npages).filter (fun k => s.integ.refetch.contains (s.pageOf g.bob (g.lpage + k)) && !g.want.contains k)
  if g.st = 2 && new ≠ [] then
    { g with want := g.want ++ new, st := 1, todo := g.todo ++ (new.filter (fun k => decide (k < cdiv g.bytes 65536))).map (fun k => (k, none)) }
  else g

/-- Page refetches asked for (R291) enter the work of their segments; in a refit those of the resident generation, of the layers the
wave has not reached, and those of the layers it has rewritten (R310, R322). -/
def State.takeRefetches (p : Nat) (s : State) : State :=
  if (s.wst p = WS.ready || s.wst p = WS.loading || s.wst p = WS.refit) && s.shard p ≠ SH.bad then
    s.updWgt p (fun w => { w with
      segs := w.segs.map s.wanted
      old := w.old.map (fun g => if s.eligible p g.layer then g else s.wanted g) })
  else s

/-- Requests outstanding at a source of the list of segment `i`. -/
def Wgt.outstanding (w : Wgt) (i k : Nat) : Nat :=
  (w.reqs.filter (fun r => r.src = some k && r.old = decide (w.segs.length ≤ i))).length

/-- The source with the fewest outstanding requests, the lowest of equals (R306). -/
def Wgt.leastBusy (w : Wgt) (i : Nat) : Nat :=
  (List.range (w.sourcesOf i).length).foldl (fun b k => if w.outstanding i k < w.outstanding i b then k else b) 0

/-- The next request: segment, page, source, when a window has room (R306). Segments of lower layers come first in a refit (R324). -/
def State.nextRequest (s : State) (p : Nat) : Option (Nat × Nat × Nat) :=
  let w := s.wgt p
  let win := max 1 (s.rd Reg.PNL_WGT_CTL_REQ_WINDOW)
  let all := (w.segs ++ w.old).zipIdx
  let order : List (Segment × Nat) := if s.wst p = WS.refit then sortBy (fun a b => a.1.layer ≤ b.1.layer) all else all
  (order.flatMap (fun g => g.1.todo.map (fun t => (g.2, t)))).findSome? (fun x =>
    let n := (w.sourcesOf x.1).length
    let k := match x.2.2 with | some k => k % max 1 n | none => w.leastBusy x.1
    if w.outstanding x.1 k < win && k < n then some (x.1, x.2.1, k) else none)

/-- The 64 payload bytes of a FABRIC request (R307). -/
def State.requestBytes (s : State) (p : Nat) (old : Bool) (off len id : Nat) : List Byte :=
  let gen := if s.wst p = WS.refit && !old then s.rd (Reg.PNL_WGT_GEN_NEW_GEN p) else s.rd (Reg.PNL_WGT_GEN_GEN p)
  pad64 (bytesOf 8 (s.rd (Reg.PNL_WGT_MODEL_MODEL_ID p)) ++ bytesOf 4 gen ++ bytesOf 2 (s.rd (Reg.PNL_WGT_STATE_DEV_INDEX p)) ++
    bytesOf 2 0 ++ bytesOf 8 off ++ bytesOf 4 len ++ bytesOf 4 id)

/-- INGEST_REQUEST: the next page request of a panel goes to its source (R306, R307). The engine takes what is to be fetched with it:
page refetches, and the layers that have become eligible (R310, R324). -/
def State.ingestNext (panel : Nat) (s : State) : State :=
  let s0 := ((s.takeRefetches panel).wave panel).tellHead panel
  match s0.nextRequest panel with
    | none => s0
    | some (i, k, src) =>
      let w := s0.wgt panel
      match w.segAt i, (w.sourcesOf i)[src]? with
      | some g, some so =>
        let old : Bool := decide (w.segs.length ≤ i)
        let off := g.off + 65536 * k
        let len := min 65536 (g.bytes - 65536 * k)
        let id := w.nextReq % 2 ^ 32
        let r : IngestReq := { id := id, seg := i, page := k, src := some src, source := so, sentAt := s.now, off := off, len := len
                               fn := if old then w.oldFn else w.srcFn, old := old }
        let s1 := s0.setWgt panel ({ w with reqs := w.reqs ++ [r], nextReq := w.nextReq + 1 }.modSeg i (fun g =>
          { g with todo := g.todo.eraseP (fun t => t.1 = k) }))
        if so.fabric then
          s1.send (epHost (16 + panel)) { dst := so.feid, src := s.feid (epHost (16 + panel)), tenant := s.tenant panel, tc := 1,
                                          op := POp.ctrl, len := 1, payload := s.requestBytes panel old off len id }
        else s1
      | _, _ => s0

/-- INGEST_REQUEST. -/
def execIngestRequest (panel : Nat) (s : State) : Host.Outcome State Fault Refusal := .next (s.mirrored panel (State.ingestNext panel))

/-- Data of a request is accepted: written to its segment's pages, counted; the request leaves when its count is LENGTH (R308). -/
def State.acceptData (p : Nat) (r : IngestReq) (g : Segment) (imgOff : Nat) (bs : List Byte) (s : State) : State :=
  let s1 := (s.bobWrite g.bob (65536 * g.lpage + (imgOff - g.off)) bs false).wrapOvf (Reg.PNL_WGT_BYTES_COUNT p) (Reg.PNL_WGT_BYTES_OVF p)
    bs.length
  let r1 := { r with count := r.count + bs.length }
  s1.updWgt p (fun w => { w with
    reqs := if r1.count = r1.len then w.reqs.filter (fun x => x.id ≠ r.id) else w.reqs.map (fun x => if x.id = r.id then r1 else x) })

/-- The next reply in a panel's ingest endpoint. -/
def State.replyAt (s : State) (p : Nat) : Option (Nat × Flight) := s.ejected (epHost (16 + p)) (fun _ => true)

/-- The bytes of a reply that lie in its request's range: the last 64-byte unit may hold padding past its end (R155, R307, R308). -/
def replyData (r : IngestReq) (p : Packet) : Option (Nat × List Byte) :=
  let at_ := leAt p.payload 8 8
  let n := 64 * p.len - 16
  if p.len = 0 || at_ < r.off || r.off + r.len ≤ at_ || r.off + r.len + 64 ≤ at_ + n then none
  else some (at_, slice p.payload 16 (min n (r.off + r.len - at_)))

/-- INGEST_REPLY: the data of HOST request `req`, read by DMA, or (none) the oldest packet in the panel's ingest endpoint, is accepted
and written, or dropped; while the bobbin it is for is not Active it waits, and the domain begins to wake (R305, R307, R308, R436). -/
def execIngestReply (panel : Nat) (req : Option Nat) (s : State) : Host.Outcome State Fault Refusal :=
  let w := s.wgt panel
  .next (match req with
    | some id =>
      (match w.reqs.find? (fun r => r.id = id && !r.source.fabric) with
       | none => s
       | some r =>
         match w.segAt r.seg with
         | none => s
         | some g =>
           if !s.bobOn g.bob then s.demand (domOfBob g.bob)
           else if (s.dmaFail r.fn (r.source.addr + r.off) r.len).isSome then s
           else s.acceptData panel r g r.off (s.hostRead (r.source.addr + r.off) r.len))
    | none =>
      (match s.replyAt panel with
       | none => s
       | some (i, f) =>
         let s1 := s.dropFlight i
         if f.pkt.tenant ≠ s.tenant panel then s1.logN St.INGEST_TENANT (some panel) f.pkt.src f.pkt.tenant
         else match w.reqs.find? (fun r => r.id = leAt f.pkt.payload 0 4 && r.source.fabric) with
           | none => s1
           | some r =>
             match w.segAt r.seg, replyData r f.pkt with
             | some g, some (o, bs) =>
               if !s.bobOn g.bob then s.demand (domOfBob g.bob)
               else (s1.acceptData panel r g o bs).countArrival (epHost (16 + panel)) f.pkt
             | _, _ => s1))

/-- INGEST_REQUEST_TIMEOUT: a request incomplete after REQ_TIMEOUT_US goes to the next source in list order (R309). -/
def execIngestRequestTimeout (panel req : Nat) (s : State) : Host.Outcome State Fault Refusal :=
  let w := s.wgt panel
  let us := max 1 (s.rd Reg.PNL_WGT_CTL_REQ_TIMEOUT_US)
  .next (match w.reqs.find? (fun r => r.id = req) with
    | none => s
    | some r =>
      if us * 1000 ≤ (s.now - r.sentAt).toNat then s.mirrored panel (fun s =>
        let s1 := s.updWgt panel (fun w => { w with reqs := w.reqs.filter (fun x => x.id ≠ req) })
        let x := s1.countRefetch panel r.seg
        if x.2 then x.1
        else x.1.updWgt panel (fun w => w.modSeg r.seg (fun g =>
          { g with todo := g.todo ++ [(r.page, some ((r.src.getD 0 + 1) % max 1 (w.sourcesOf r.seg).length))] })))
      else s)

/-- Zero bytes from BYTES to the end of a segment's last page (R302). -/
def State.zeroTail (g : Segment) (s : State) : State :=
  let a := 65536 * g.lpage + g.bytes
  let up := cdiv a 64 * 64
  let s1 := if up = a then s else s.bobWrite g.bob a (List.replicate (up - a) 0) false
  s1.bobZero g.bob up (65536 * (g.lpage + g.npages) - up)

/-- A layer of a refit is rewritten (R324). -/
def State.layerRewritten (p l : Nat) (s : State) : State :=
  s.updWgt p (fun w => { w with
    tags := sset 0 w.tags l w.journal.newGen, journal := { w.journal with done := nins l w.journal.done } })

/-- A segment is verified: what a load (R314) or a refit (R324, R325) does next. -/
def State.segmentVerified (p i : Nat) (s : State) : State :=
  let s1 := s.updWgt p (fun w => w.modSeg i (fun g => { g with st := 2 }))
  let w := s1.wgt p
  let all := w.segs.all (fun g => g.st = 2)
  let s2 :=
    if s.wst p = WS.loading then (if all && s.shard p = SH.fetching then s1.loadVerified p else s1)
    else if s.wst p = WS.refit && s.shard p = SH.fetching then
      let layers := (List.range w.journal.layers).filter (fun l => w.layerDone l && (all || s1.eligible p l) && w.tag l ≠ w.journal.newGen)
      let s3 := layers.foldl (fun s l => s.layerRewritten p l) s1
      if !all then s3
      else
        let s4 := s3.setShard p SH.verified
        (if s.isShadow p then s4.becomeReady p else s4.tell p (s.rd (Reg.PNL_WGT_STATE_HEAD_COORD p)) 3).endLoad p St.OK
    else s1
  s2.progress p

/-- SEGMENT_VERIFY: every request of segment `seg` is complete: its trailing zeros are written, it is read back and hashed, then
verified, or fetched again from the next source (R309, R310). -/
def execSegmentVerify (panel seg : Nat) (s : State) : Host.Outcome State Fault Refusal :=
  let w := s.wgt panel
  .next (match w.segAt seg with
    | none => s
    | some g =>
      if g.st ≠ 1 || g.todo ≠ [] || w.reqs.any (fun r => r.seg = seg) then s
      else s.mirrored panel (fun s =>
        let s1 := s.zeroTail g
        let a := 65536 * g.lpage
        let x := s1.bob g.bob
        let bad := x.anyBad g.bob a g.bytes
        let s2 := s1.bobCheck g.bob a g.bytes false
        if !bad && digest384 (x.bytes a g.bytes) = g.digest then s2.segmentVerified panel seg
        else
          let y := ((s2.logN St.SEGMENT_DIGEST (some panel) seg 0).wgtCode panel St.SEGMENT_DIGEST seg).countRefetch panel seg
          if y.2 then y.1
          else y.1.updWgt panel (fun w => w.modSeg seg (fun g =>
            let nx := (g.src + 1) % max 1 (w.sourcesOf seg).length
            { g with src := nx, todo := (List.range (cdiv g.bytes 65536)).map (fun k => (k, some nx)) }))))

/-- A page refetch is no longer outstanding. -/
def State.refetched (page : Nat) (s : State) : State := { s with integ := { s.integ with refetch := ndel page s.integ.refetch } }

/-- PAGE_REFETCH_DONE: the segment of a SUSPECT page is verified after its refetch, or no resident segment holds the page: the refetch
is no longer outstanding, and the head is told (R291, R310). -/
def execPageRefetchDone (page : Nat) (s : State) : Host.Outcome State Fault Refusal :=
  let asks (g : Segment) : Bool := g.want.any (fun k => s.pageOf g.bob (g.lpage + k) = page)
  let answer (g : Segment) : Segment := { g with want := g.want.filter (fun k => s.pageOf g.bob (g.lpage + k) ≠ page) }
  .next (match s.panelOfPage page with
    | none => s.refetched page
    | some p =>
      let w := s.wgt p
      match (w.segs ++ w.old).find? asks with
      | none => if (w.segs ++ w.old).any (fun g => (s.segPageIds g).contains page) then s else (s.refetched page).tellHead p
      | some g =>
        if g.st = 2 && s.integ.refetch.contains page then
          ((s.refetched page).updWgt p (fun w => { w with segs := w.segs.map answer, old := w.old.map answer })).tellHead p
        else s)

/-- LOAD_TIMEOUT: TIMEOUT_MS has passed: the shard becomes BAD, fetching stops and the command completes with 0x0B07 (R314). -/
def execLoadTimeout (panel : Nat) (s : State) : Host.Outcome State Fault Refusal :=
  .next (match (s.wgt panel).deadline with
    | none => s
    | some t =>
      if s.wst panel = WS.loading && s.shard panel = SH.fetching && reached s.now t then s.mirrored panel (State.shardBad panel St.LOAD_TIMEOUT 0) else s)

/-! ## The instance (R315, R325) -/

/-- VERIFIED_REPORT: a device of the instance reports VERIFIED to the head (R315). The head's own report counts once its shard is
VERIFIED; another's that comes before the head has taken its MODEL_LOAD is kept for it (log entry 81). -/
def execVerifiedReport (panel dev coord : Nat) (model : W64) (gen : W32) (s : State) : Host.Outcome State Fault Refusal :=
  .next (s.mirrored panel (fun s =>
    if s.wst panel = WS.loading && s.isHead panel && model.toNat = s.rd (Reg.PNL_WGT_MODEL_MODEL_ID panel)
      && gen.toNat = s.rd (Reg.PNL_WGT_GEN_GEN panel) && dev < s.rd (Reg.PNL_WGT_STATE_DEVICES panel)
      && (dev ≠ 0 || s.shard panel = SH.verified) then s.countReport panel dev (if dev = 0 then s.coord else coord) 2
    else if dev = 0 then s
    else s.updWgt panel (fun w => { w with
      early := w.early.filter (fun e => e.dev ≠ dev) ++ [{ dev := dev, coord := coord, model := model.toNat, gen := gen.toNat }] })))

/-- READY_MESSAGE: a device receives READY from the head: its weight state becomes READY, at the loaded or the new generation (R315,
R325). -/
def execReadyMessage (panel : Nat) (model : W64) (gen : W32) (s : State) : Host.Outcome State Fault Refusal :=
  let load := s.wst panel = WS.loading && s.shard panel = SH.verified && gen.toNat = s.rd (Reg.PNL_WGT_GEN_GEN panel)
  let refit := s.wst panel = WS.refit && s.shard panel = SH.verified && gen.toNat = s.rd (Reg.PNL_WGT_GEN_NEW_GEN panel)
  .next (if model.toNat = s.rd (Reg.PNL_WGT_MODEL_MODEL_ID panel) && (load || refit) then s.mirrored panel (State.becomeReady panel) else s)

/-- A head that a reset has left READY at the new generation counts a device's REFIT_DONE; once all have reported, every other device is set
READY, and launches may go on (R325, R328, R329). -/
def State.countAwaited (p dev coord : Nat) (s : State) : State :=
  let s1 := s.updWgt p (fun w => { w with reported := nins 0 (nins dev w.reported)
                                          members := if dev = 0 then w.members else w.members.filter (fun m => m.1 ≠ dev) ++ [(dev, coord)] })
  let w := s1.wgt p
  let s2 := s1.wr (Reg.PNL_WGT_STATE_DEVS_DONE p) w.reported.length
  if w.reported.length = s.rd (Reg.PNL_WGT_STATE_DEVICES p) then
    (w.members.filter (fun m => m.1 ≠ 0)).foldl (fun s m => s.tell p m.2 4) (s2.updWgt p (fun w => { w with awaiting := false }))
  else s2

/-- REFIT_DONE_REPORT: a device reports REFIT_DONE; when all have, the head sets READY at the new generation on every device (R325). A head that is
REFIT_STOPPED counts them too: the other devices finish their own waves (R329). -/
def State.refitDone (panel dev coord : Nat) (model : W64) (gen : W32) (s : State) : State :=
  if s.wst panel = WS.ready && (s.wgt panel).awaiting && s.isHead panel && model.toNat = s.rd (Reg.PNL_WGT_MODEL_MODEL_ID panel) &&
      gen.toNat = s.rd (Reg.PNL_WGT_GEN_GEN panel) && dev < s.rd (Reg.PNL_WGT_STATE_DEVICES panel) then s.countAwaited panel dev coord
  else if (s.wst panel = WS.refit || (s.wst panel = WS.stopped && dev ≠ 0)) && s.isHead panel && model.toNat = s.rd (Reg.PNL_WGT_MODEL_MODEL_ID panel)
      && gen.toNat = s.rd (Reg.PNL_WGT_GEN_NEW_GEN panel) && dev < s.rd (Reg.PNL_WGT_STATE_DEVICES panel)
      && (dev ≠ 0 || s.shard panel = SH.verified) then s.countReport panel dev (if dev = 0 then s.coord else coord) 4
    else s

/-- REFIT_DONE_REPORT. -/
def execRefitDoneReport (panel dev coord : Nat) (model : W64) (gen : W32) (s : State) : Host.Outcome State Fault Refusal :=
  .next (s.mirrored panel (State.refitDone panel dev coord model gen))

/-! ## Resets (R328) -/

/-- The layers' generations: are they all one? -/
def State.mixedLayers (s : State) (p : Nat) : Bool :=
  let w := s.wgt p
  ((List.range (s.rd (Reg.PNL_WGT_PROG_LAYERS p))).map w.tag).eraseDups.length > 1

/-- What a warm or panel reset makes of a panel's weight state (R328). -/
def State.resetWeights (p : Nat) (s : State) : State :=
  let w := s.wgt p
  if s.wst p = WS.loading then s.unloadModel p
  else if s.wst p = WS.refit || s.wst p = WS.stopped then
    let tags := (List.range w.journal.layers).map w.tag
    let s1 := (s.endLoad p St.CMD_ABORTED).updWgt p Wgt.halt
    if tags.all (fun t => t = w.journal.oldGen) then
      ((s1.setWst p WS.ready).setShard p SH.verified).wr (Reg.PNL_WGT_GEN_NEW_GEN p) 0 |>.updWgt p (fun x =>
        { x with segs := w.old.map Segment.settled, old := [], sources := w.oldSources, srcFn := w.oldFn, lastOld := none
                 journal := { x.journal with state := 4 } })
    else if tags.all (fun t => t = w.journal.newGen) then
      (((s1.setWst p WS.ready).setShard p SH.verified).wr (Reg.PNL_WGT_GEN_GEN p) w.journal.newGen).wr (Reg.PNL_WGT_GEN_NEW_GEN p) 0 |>.updWgt p
        (fun x => { x with old := [], digest := w.journal.digest, lastOld := none, journal := { x.journal with state := 3 }
                           awaiting := s.isHead p && (nins 0 w.reported).length < s.rd (Reg.PNL_WGT_STATE_DEVICES p) })
    else (s1.setWst p WS.stopped).updWgt p (fun x => { x with journal := { x.journal with state := 2 } })
  else s

end Sys2Proof.Machine
end

