-- ==== Sys2Proof/Machine/Inputs.lean ====
section
/-! DEFINITION. The device's side of a step: the announcement and its inputs, the step table, the launch, and the step end (spec/13 R346
to R349, spec/01 R28, R29, spec/06 R184, R187, spec/15 R395, spec/20 R487). -/

namespace Sys2Proof.Machine

/-! ## Engine messages (R346) -/

/-- Take the next engine message of a kind from the panel's engine endpoint; one from a head that has been replaced is dropped with 0x0F05,
but for its reports as a member, and the HEAD_MOVE of a device promoted again (R475). -/
def State.takeMsg (p kind : Nat) (f : Packet → State → State) (s : State) : State :=
  match s.ejected (epHost (32 + p)) (fun k => k.op = POp.ctrl && msgKind k.payload = kind) with
  | none => s
  | some (i, fl) =>
    let s1 := s.dropFlight i
    if (s.serve p).staleHeads.contains (feidCoord fl.pkt.src) && kind ≠ 6 && kind ≠ 7 then
      s1.event 5 St.TWIN_STALE_HEAD (some p) (feidCoord fl.pkt.src) kind
    else f fl.pkt s1

/-- Refuse launch q: recorded, reported to the head, and no longer armed (R28, R346, R396). -/
def State.refuseLaunch (p q : Nat) (code : Code) (s : State) : State :=
  let s1 := s.updServe p (fun v => { v with launches := v.launches.filter (fun l => l.q ≠ q) })
  (s1.refusePanel p code 0).report p q 1 code false

/-- Is the device LOCKED or in HOLDOVER (R28)? -/
def State.timed (s : State) : Bool := s.rd Reg.STI_STATUS_STATE = 2 || s.rd Reg.STI_STATUS_STATE = 3

/-- An instance that spans devices needs the stitch (R28). -/
def State.unlocked (s : State) (p : Nat) : Bool := 1 < s.rd (Reg.PNL_WGT_STATE_DEVICES p) && !s.timed

/-- ANNOUNCE: the launch is armed in place of those it replaces, or refused: too soon, not locked, another KV geometry, or the panel is
draining (R28, R333, R346, R350, R395). In a refit a step of the resident generation is the last old one so far, whether its message was
sent before the head's acceptance or after it (R322). -/
def State.announced (p : Nat) (k : Packet) (s : State) : State :=
  let b := k.payload.drop 16
  let c := leAt b 8 8
  let l : Launch :=
    { q := msgQ k.payload, l := BitVec.ofNat 64 (leAt b 0 8), c := c, gen := leAt b 16 4, handle := leAt b 20 1, entry := leAt b 21 1
      slots := leAt b 22 2, at_ := s.now, coord := feidCoord k.src
      bucket := { handle := leAt b 20 1, entry := leAt b 21 1, maxSlots := leAt b 30 2, slotPages := leAt b 32 2
                  maxTokens := leAt b 34 4, chunk := 0, dep := false, key := leAt b 38 4 } }
  let same : Bool := leAt b 24 2 == s.lanes p && leAt b 26 2 == s.groups p && leAt b 28 1 == s.kvFirst p &&
    leAt b 29 1 == s.rd (Reg.GSE_KV_TPP_CODE p)
  let s0 := if s.wst p = WS.refit && l.gen = s.rd (Reg.PNL_WGT_GEN_GEN p) then s.updWgt p (fun w => { w with lastOld := some l.q }) else s
  let s1 := s0.updServe p (fun v => { v with launches := v.launches.filter (fun x => x.c < c) ++ [l] })
  if stDiff s.now l.l < 50000 then s1.refuseLaunch p l.q St.LAUNCH_TOO_SOON
  else if s.unlocked p then s1.refuseLaunch p l.q St.STITCH_UNLOCKED
  else if !same then s1.refuseLaunch p l.q St.KV_GEOMETRY
  else if s.pst p = PS.draining then s1.refuseLaunch p l.q St.PANEL_NOT_RUNNING
  else s1

/-- ANNOUNCE. -/
def execAnnounce (panel : Nat) (s : State) : Host.Outcome State Fault Refusal := .next (s.takeMsg panel 1 (State.announced panel))

/-! ## Step inputs (R346 to R349) -/

def recSpool (r : BitVec 128) : Nat := bits r.toNat 0 16
def recPos (r : BitVec 128) : Nat := bits r.toNat 16 24
def recNew (r : BitVec 128) : Nat := bits r.toNat 40 24
def recOfs (r : BitVec 128) : Nat := bits r.toNat 64 32

/-- The record of a slot, an empty one where none has come. -/
def Launch.recOf (l : Launch) (slot : Nat) : BitVec 128 := (sget none l.recs slot).getD 0xFFFF

/-- Is a slot in use and unmasked? -/
def Launch.live (l : Launch) (slot : Nat) : Bool :=
  recSpool (l.recOf slot) ≠ 0xFFFF && !(l.mask.getD (BitVec.allOnes 512)).getLsbD slot

/-- The slot whose input tokens take in an index of the token area. -/
def Launch.slotAt (l : Launch) (i : Nat) : Option Nat :=
  (List.range l.slots).find? (fun k => recSpool (l.recOf k) ≠ 0xFFFF && recOfs (l.recOf k) ≤ i && i < recOfs (l.recOf k) + recNew (l.recOf k))

/-- The input token at an index of the token area: that of the last message for the index's slot that reaches it. What a payload holds
beyond its slot's tokens is padding (R346). -/
def Launch.tokAt (l : Launch) (i : Nat) : Option Nat :=
  match l.slotAt i with
  | none => none
  | some k => l.toks.findSome? (fun m => if l.slotAt m.1 = some k && m.1 ≤ i then m.2[i - m.1]? else none)

/-- Every input of the launch is here: records, mask, and the blocks and tokens of the unmasked slots. -/
def Launch.complete (l : Launch) (tpp : Nat) : Bool :=
  l.mask.isSome && (List.range l.slots).all (fun k => (sget none l.recs k).isSome) &&
  (List.range l.slots).all (fun k =>
    let r := l.recOf k
    !l.live k ||
    ((List.range (cdiv (recPos r + recNew r) tpp)).all (fun i => (sget none l.blocks (k * 1024 + i)).isSome) &&
      (List.range (recNew r)).all (fun i => (l.tokAt (recOfs r + i)).isSome)))

/-- Tokens in the token area. -/
def Launch.tokens (l : Launch) : Nat :=
  ((List.range l.slots).filter (fun k => recSpool (l.recOf k) ≠ 0xFFFF)).foldl (fun m k => max m (recOfs (l.recOf k) + recNew (l.recOf k))) 0

/-- The bytes of the step table of a bucket (R348). -/
def Launch.table (l : Launch) (b : Bucket) : List Byte :=
  let head := bytesOf 64 (l.c % 2 ^ 48 + l.slots * 2 ^ 48 + l.tokens * 2 ^ 64 + l.q * 2 ^ 96)
  let recs := (List.range b.maxSlots).flatMap (fun k => bytesOf 16 (l.recOf k).toNat)
  let blks := (List.range b.maxSlots).flatMap (fun k => (List.range b.slotPages).flatMap (fun i =>
    bytesOf 4 ((sget none l.blocks (k * 1024 + i)).getD 0)))
  let toks := (List.range b.maxTokens).flatMap (fun i => bytesOf 4 ((l.tokAt i).getD 0))
  let all := head ++ recs ++ blks ++ toks
  all ++ List.replicate (b.tableBytes - all.length) 0

/-- Put bytes at a tile's network port, which takes them into its buffer word by word (R60, R61, R348). -/
def State.portWrite (t a : Nat) (bs : List Byte) (s : State) : State :=
  s.updTile t (fun x => { x with tabIn := x.tabIn ++ bufWrites a x.nextId s.clk.edge bs, nextId := x.nextId + 1 })

/-- Write the step table of a launch whose inputs are complete, once the step four before it has ended, at position c mod 4 of the
TABLE_KEY range of each tile at virtual column 0 (R348). -/
def State.writeTable (p q : Nat) (s : State) : State :=
  match (s.serve p).launches.find? (fun l => l.q = q) with
  | none => s
  | some l =>
    let busy : Bool := match (s.panel p).run with | some r => decide (r.ctr.toNat + 4 ≤ l.c) | none => false
    if l.written || busy || !l.complete (s.tpp p) then s
    else
      let s1 := s.updServe p (fun v => { v with launches := v.launches.map (fun x => if x.q = q then { x with written := true } else x) })
      match s.pattern? p l.handle with
      | some pat =>
        (pat.tableRanges l.bucket.key).foldl (fun s r => match r.2 with
          | some x => s.portWrite r.1 (x.start + l.bucket.tableBytes * (l.c % 4)) (l.table l.bucket)
          | none => s) s1
      | none => s1

/-- Put inputs into a launch, and write its table when that completes them. -/
def State.intoLaunch (p q : Nat) (f : Launch → Launch) (s : State) : State :=
  (s.updServe p (fun v => { v with launches := v.launches.map (fun l => if l.q = q then f l else l) })).writeTable p q

/-- SLOTS: slot records of an announced step; a record sent again has the table written again (R346, R349). -/
def execSlots (panel : Nat) (s : State) : Host.Outcome State Fault Refusal :=
  .next (s.takeMsg panel 2 (fun k => State.intoLaunch panel (msgQ k.payload) (fun l =>
    let b := k.payload.drop 16
    let at_ := 31 * msgPart k.payload
    { l with recs := ssetList none l.recs at_ ((List.range (min (b.length / 16) (min 31 (l.slots - at_)))).map (fun i =>
               some (BitVec.ofNat 128 (leAt b (16 * i) 16)))), written := false })))

/-- BLOCKS: block IDs of a slot, at most up to its 1,024th page; what follows is padding (R346). -/
def execBlocks (panel : Nat) (s : State) : Host.Outcome State Fault Refusal :=
  .next (s.takeMsg panel 3 (fun k => State.intoLaunch panel (msgQ k.payload) (fun l =>
    let b := k.payload.drop 16
    { l with blocks := ssetList none l.blocks (leAt b 0 2 * 1024 + leAt b 2 2)
               ((List.range (min ((b.length - 4) / 4) (1024 - leAt b 2 2))).map (fun i => some (leAt b (4 + 4 * i) 4 % 2 ^ 20))) })))

/-- TOKENS: input token IDs; the step table is written, or written again, with them (R346, R348). -/
def execTokens (panel : Nat) (s : State) : Host.Outcome State Fault Refusal :=
  .next (s.takeMsg panel 4 (fun k => State.intoLaunch panel (msgQ k.payload) (fun l =>
    let b := k.payload.drop 16
    { l with toks := (leAt b 0 4, (List.range ((b.length - 4) / 4)).map (fun i => leAt b (4 + 4 * i) 4)) :: l.toks, written := false })))

/-- Write the launch mask of every tile and bobbin of a panel (R347). -/
def State.setLaunchMask (p : Nat) (m : BitVec 512) (s : State) : State :=
  (s.tilesOf p).foldl (fun s t =>
    (List.range s.tiers).foldl (fun s k => s.updBob (bobAt k t) (fun b => { b with launchMask := m }))
      (s.updTile t (fun x => { x with launchMask := m }))) s

/-- Give the panel's tiles and bobbins a slot mask to apply (R55, R124, R352); one that comes before cycle 0 goes to the launch mask as well,
which would replace it (R347). -/
def State.midMask (p : Nat) (r : Run) (m : BitVec 512) (s : State) : State :=
  (s.tilesOf p).foldl (fun s t => s.updTile t (fun x => { x with maskIn := some (s.clk.edge, m) }))
    (if r.startIn = 0 then s else s.setLaunchMask p m)

/-- MASK_MESSAGE: a launch mask, or a mid-step mask for the running step, which goes to the panel's tiles and bobbins (R347, R352). -/
def execMaskMessage (panel : Nat) (s : State) : Host.Outcome State Fault Refusal :=
  .next (s.takeMsg panel 5 (fun k s =>
    let m := BitVec.ofNat 512 (leAt k.payload 16 64)
    if msgPart k.payload = 0xFF then
      (match (s.panel panel).run with
        | some r => if r.q = msgQ k.payload then s.midMask panel r m else s
        | none => s)
    else s.intoLaunch panel (msgQ k.payload) (fun l => { l with mask := some m })))

/-- STEP_INPUT_DEADLINE: at L − TABLE_ST a launch whose inputs are incomplete is refused with 0x0C0C (R346). -/
def execStepInputDeadline (panel q : Nat) (s : State) : Host.Outcome State Fault Refusal :=
  .next (match (s.serve panel).launches.find? (fun l => l.q = q) with
    | none => s
    | some l =>
      if reached s.now (l.l - BitVec.ofNat 64 (s.rd Reg.GSE_CTL_TABLE_ST)) && !l.complete (s.tpp panel) then
        (s.logN St.INPUT_LATE (some panel) q 0).refuseLaunch panel q St.INPUT_LATE
      else s)

/-! ## The launch (R28, R29, R187, R316, R323, R395, R487) -/

/-- Why a launch whose stitch is reached is refused. -/
def State.launchRefusal (s : State) (p : Nat) (l : Launch) : Code :=
  let pst := s.pst p
  let old : Bool := s.wst p = WS.refit && l.gen = s.rd (Reg.PNL_WGT_GEN_GEN p)
  if (s.panel p).run.isSome then St.STEP_OVERLAP
  else if s.bit (Reg.DBG_PNL_STAT_HALTED p) then St.DBG_HALTED_LAUNCH
  else if s.mapped p && s.tws = TW.fenced then St.TWIN_HEARTBEAT_LOST
  else if pst = PS.draining && stDiff (s.panel p).stopAt l.at_ ≥ 0 then St.PANEL_NOT_RUNNING
  else if pst ≠ PS.running && pst ≠ PS.draining then St.PANEL_NOT_RUNNING
  else if s.wst p ≠ WS.ready && !old then St.WEIGHTS_NOT_READY
  else if s.rd (Reg.PNL_STEP_COUNT p) = 2 ^ 48 - 1 then St.STEP_COUNTER_LIMIT
  else if s.unlocked p then St.STITCH_UNLOCKED
  else if !l.complete (s.tpp p) then St.INPUT_LATE
  else match s.pattern? p l.handle with
    | some pat => if l.entry < pat.entries.length then St.OK else St.PAT_HANDLE
    | none => St.PAT_HANDLE

/-- The replay whose replayed step the panel is running (R492). -/
def State.replaying (s : State) (p : Nat) : Option Replay :=
  match (s.panel p).run, (s.serve p).replay with
  | some r, some y => if (s.serve p).steps.any (fun t => t.q = r.q && t.replay) then some y else none
  | _, _ => none

/-- STEP_CY of a dump record. -/
def dumpCy (b : List Byte) : Nat := leAt b 0 4

/-- The step cycle the panel is to halt before next: that of a DBG_HALT or DBG_RESUME, or that of the next dump record of a replay. -/
def State.haltTarget (s : State) (p : Nat) : Option Nat :=
  let dump := (s.replaying p).bind (fun r => (r.items.drop r.written).head?.map dumpCy)
  match (s.panel p).haltAt, dump with
  | some a, some b => some (min a b)
  | some a, none => some a
  | none, b => b

/-- Show the armed halt of a panel (R485, R492). -/
def State.rearmHalt (p : Nat) (s : State) : State :=
  match s.haltTarget p with
  | some c => (s.wr (Reg.DBG_PNL_STAT_HALT_ARMED p) 1).wr (Reg.DBG_PNL_STAT_HALT_AT p) c
  | none => s.wr (Reg.DBG_PNL_STAT_HALT_ARMED p) 0

/-- A replayed step begins: its dump list starts from the first record. -/
def State.armReplay (p : Nat) (s : State) : State :=
  match s.replaying p with
  | some r => (s.updServe p (fun v => { v with replay := some { r with written := 0, absent := 0 } })).rearmHalt p
  | none => s

/-- The serving engine writes the list stores of the panel's KV bobbins directly, while no step of the panel runs (R111; which entries, and
what they hold, is a free value: log entry 86). -/
def State.engineLists (p c : Nat) (s : State) : State :=
  if (s.panel p).run.isSome then s
  else (s.kvBobs p).foldl (fun s b => s.updBob b (fun x => { x with
    list := (Config.engineList c b).foldl (fun l e => sset 0 l (e.1 % 512) e.2) x.list })) s

/-- Begin a step: the launch reaches every tile of the placement; cycle 0 is the 16th edge after the first edge strictly after the start
of stitch L (R29). The launch mask is with every tile and bobbin of the panel (R347). -/
def State.startRun (p : Nat) (l : Launch) (pat : Pattern) (s : State) : State :=
  let r : Run :=
    { handle := l.handle, entry := l.entry, launch := l.l, q := l.q, ctr := BitVec.ofNat 64 l.c, maxCy := (pat.entries.getD l.entry (0, 0)).1
      startIn := 16 + (if s.clk.phase = 0 then 1 else 0), tiles := pat.tiles }
  let s1 := (s.engineLists p l.c).updServe p (fun v => { v with launches := v.launches.filter (fun x => x.q ≠ l.q) })
  pat.tiles.zipIdx.foldl (fun s t => s.updTile t.1 (fun x => { x with
    halted := false, vx := t.2 % max 1 pat.gridW, vy := t.2 / max 1 pat.gridW, pc := (pat.starts.getD t.2 []).getD l.entry 0 }))
    ((s1.setLaunchMask p (l.mask.getD (BitVec.allOnes 512))).updPanel p (fun x => { x with run := some r }))

/-- The domains of a panel's wake group are Active at L: their pre-wake has brought them there (R436). -/
def State.awake (p : Nat) (s : State) : State := (s.wakeGroup p).foldl (fun s d => s.activate d) s

/-- STEP_LAUNCH: at stitch L the earliest armed launch begins its step, with its domains Active, or is refused and reported to the head
(R28, R29, R187, R316, R323, R395, R436, R442, R443, R487). -/
def execStepLaunch (panel : Nat) (s : State) : Host.Outcome State Fault Refusal :=
  .next (match sortBy (fun a b => stDiff a.l b.l ≥ 0) ((s.serve panel).launches.filter (fun l => reached s.now l.l)) with
    | [] => s
    | l :: _ =>
      if !s.inTurn Ev.launch then s else
      let code := s.launchRefusal panel l
      if code ≠ St.OK then s.refuseLaunch panel l.q code
      else match s.pattern? panel l.handle with
        | some pat => (((s.awake panel).startRun panel l pat).setEnvelope panel).armReplay panel
        | none => s)

/-! ## The step end (R184, R290, R291, R488) -/

/-- Bobbins above the tiles of a run. -/
def State.runBobs (s : State) (r : Run) : List Nat := r.tiles.flatMap (fun t => (List.range s.tiers).map (fun k => bobAt k t))

/-- Every tile of the placement is IDLE, every step descriptor's result is present, and T rises no longer. -/
def State.stepOver (s : State) (r : Run) : Bool :=
  r.startIn = 0 && r.tiles.all (fun t => (s.tile t).ended && (s.tile t).sends.isEmpty) &&
  (s.runBobs r).all (fun b => (s.bob b).stepQ.isEmpty && (s.bob b).results.isEmpty) && s.treeQuiet r

/-- The merge buffers of the panel's tiles and bobbins are written back, after the stores that have issued (R123, R184, R286). -/
def State.flushPanel (p : Nat) (s : State) : State :=
  (s.tilesOf p).foldl (fun s t =>
    (List.range s.tiers).foldl (fun s k => s.bobFlush (bobAt k t)) ((s.updTile t Tile.lsettle).spFlushAll t)) s

/-- What follows the end of a step on this device: the reloads it asked for, the report with the KV blocks that failed before it, the
wave, and a waiting step table. A follower keeps the counter of a good end for its commit; a step that runs again takes the place of what was
kept of it and of the steps after it (R350, R351). -/
def State.endRun (p : Nat) (r : Run) (s : State) : State :=
  let detect := r.detect || (r.altered && !s.bit (Reg.DBG_PNL_CTL_KEEP_ALTERED p))
  let s1 := ((((s.haltRun p).dropTileWaits p).rearmHalt p).postReloads p).tellHead p
  let lost := if detect then (r.kvBad.filterMap (s.blockOfPage p)).eraseDups else []
  let s2 := (if lost.isEmpty then s1 else s1.reportBlocks p r.q RK.lost lost).report p r.q RK.stepEnd St.OK detect (altered := r.altered)
  let s3 := s2.updServe p (fun v => { v with
    endedC := if detect || s.isHead p then v.endedC else v.endedC.filter (fun c => c < r.ctr.toNat) ++ [r.ctr.toNat] })
  let s4 := s3.wave p
  ((s4.serve p).launches.map (fun l => l.q)).foldl (fun s q => s.writeTable p q) s4

/-- STEP_END: the step is over: merge buffers are written back and the end is reported; UNWRITTEN faults the panel (R184, R290). -/
def execStepEnd (panel : Nat) (s : State) : Host.Outcome State Fault Refusal :=
  .next (match (s.panel panel).run with
    | none => s
    | some r =>
      if !s.isLive panel || !s.stepOver r then s
      else
        let s1 := s.flushPanel panel
        if r.unwritten then s1.faultLog panel St.CHECK_UNWRITTEN r.ctr.toNat 0 else s1.endRun panel r)

end Sys2Proof.Machine
end

