-- ==== Sys2Proof/Machine/Commit.lean ====
section
/-! DEFINITION. The sequencer of the head engine: reports, the decode deadline, candidate lists, commits, deadlines and final records
(spec/13 R346, R350, R351, R354, spec/14 R366 to R377, spec/11 R290 to R292, spec/20 R489, R492). -/

namespace Sys2Proof.Machine

/-! ## Spools past a FINISH deadline (R354) -/

/-- Does an announced step, or one that waits for its replacement, hold the spool? -/
def State.inAnnounced (s : State) (p i : Nat) : Bool :=
  ((s.serve p).steps ++ (s.serve p).redo).any (fun t => t.picks.any (fun k => k.spool = i && !k.gone))

/-- A spool whose FINISH deadline has passed and that no announced step holds goes to CANCELLING with 0x0C12. -/
def State.finishLate (p : Nat) (s : State) : State :=
  (s.spoolsOf p).foldl (fun s i =>
    let x := s.spool i
    if x.dlDone && x.dlPolicy = 1 && x.st < SP.cancelling && !s.inAnnounced p i then s.toCancelling p i St.SPOOL_LATE else s) s

/-! ## REPORT (R290 to R292, R350, R475) -/

/-- Withdraw the spools that hold blocks with failed KV pages: they are rebuilt in other blocks (R291). -/
def State.withdraw (p : Nat) (lost : List Nat) (s : State) : State :=
  let hit (i : Nat) : Bool := (s.spool i).blocks.any lost.contains
  let ids := (s.spoolsOf p).filter (fun i => ((s.spool i).st = SP.prefill || (s.spool i).st = SP.decode) && hit i)
  let s1 := ids.foldl (fun s i => (s.loseKv i SP.prefill).updSpool i (fun x => { x with avoid := lost })) s
  s1.updServe p (fun v => { v with
    kvLost := []
    redo := v.redo.map (fun t => { t with picks := t.picks.filter (fun k => !ids.contains k.spool) }) })

/-- Discard step q and every later one announced: replacements wait in order; a counter value discarded too often faults the panel
(R290, R292, R350). -/
def State.discardFrom (p q : Nat) (s : State) : State :=
  let v := s.serve p
  let keep := v.steps.takeWhile (fun t => t.q ≠ q)
  let out := v.steps.drop keep.length
  let seen := out.foldl (fun d t => supd 0 d t.c (· + 1)) v.discards
  let s1 := (s.stick (Reg.GSE_PCNT_DISCARDED p) out.length).updServe p (fun v => { v with
    steps := keep, redo := out ++ v.redo, discards := seen })
  let s2 := s1.withdraw p (s1.serve p).kvLost
  let s3 := match out.find? (fun t => s.rd Reg.INT_RECOVER_CTL_REPLAY_MAX < sget 0 seen t.c) with
    | some t => (s2.updServe p (fun v => { v with redo := [] })).faultLog p St.REPLAY_LIMIT t.c 0
    | none => s2
  (s3.settleAll p).finishLate p

/-- A device has ended step q without a detection: the step ends when every device has (R350); results that a debug write altered are marked
(R488). -/
def State.stepGood (p q dev : Nat) (altered : Bool) (s : State) : State :=
  let n := s.rd (Reg.PNL_WGT_STATE_DEVICES p)
  let upd (t : AnnStep) : AnnStep :=
    if t.q = q then
      let r := nins dev t.reported
      { t with reported := r, endAt := if t.endAt.isNone && n ≤ r.length then some s.now else t.endAt, altered := t.altered || altered }
    else t
  (s.updServe p (fun v => { v with steps := v.steps.map upd })).settleAll p

/-- A step that read unwritten words is not replayed (R290). -/
def State.noReplay (p : Nat) (code : Code) (s : State) : State :=
  if code = St.CHECK_UNWRITTEN then s.updServe p (fun v => { v with redo := [] }) else s

/-- The announced step that replaces step q (R350). -/
def State.replacement (s : State) (p q : Nat) : Option AnnStep := (s.serve p).steps.find? (fun t => t.was.contains q)

/-- A step end or a refusal of step q, from device `dev` (R290, R350). Of a step that is discarded already, a report that it read unwritten
words still has it not replayed (R290). -/
def State.stepReport (p q kind dev : Nat) (code : Code) (detect altered : Bool) (s : State) : State :=
  if (s.serve p).steps.any (fun t => t.q = q) then
    (if kind = RK.stepEnd && !detect then s.stepGood p q dev altered else (s.discardFrom p q).noReplay p code)
  else if code ≠ St.CHECK_UNWRITTEN then s
  else match s.replacement p q with
    | some t => (s.discardFrom p t.q).noReplay p code
    | none => if (s.serve p).redo.any (fun t => t.q = q || t.was.contains q) then s.noReplay p code else s

/-- KV blocks that failed in step q: they wait for the report that discards the step; of a step that is discarded already, the spools that
hold them are withdrawn at once, and a replacement already announced is discarded with them (R291; DESIGN CHOICE, log entry 82). -/
def State.lostReport (p q : Nat) (blocks : List Nat) (s : State) : State :=
  let s1 := s.updServe p (fun v => { v with kvLost := (v.kvLost ++ blocks).eraseDups })
  if (s.serve p).steps.any (fun t => t.q = q) then s1
  else match s.replacement p q with
    | some t => s1.discardFrom p t.q
    | none => s1.withdraw p (s1.serve p).kvLost

/-- A device of the instance asks for a window (R34, R36). -/
def State.windowAsked (p dev : Nat) (w : W64) (n : Nat) (s : State) : State :=
  s.updServe p (fun v => { v with windows := sset none v.windows (2 * dev + (if n < 1500 then 1 else 0)) (some (w, n)) })

/-- A report that has reached the head, from device `dev` of the instance. -/
def State.reportFrom (p dev : Nat) (k : Packet) (s : State) : State :=
  let b := k.payload.drop 16
  let kind := leAt b 2 1
  if kind = RK.lost then s.lostReport p (leAt b 0 2) (blocksIn b)
  else if kind = RK.window then s.windowAsked p dev (BitVec.ofNat 64 (leAt b 6 8)) (leAt b 14 4)
  else if kind = RK.retired then
    s.updServe p (fun v => { v with
      badBlocks := supd [] v.badBlocks dev (fun l => if msgPart k.payload = 0 then blocksIn b else l ++ blocksIn b) })
  else if kind = RK.recovering then
    s.updServe p (fun v => { v with recovering := if leAt b 5 1 = 1 then nins dev v.recovering else ndel dev v.recovering })
  else s.stepReport p (leAt b 0 2) kind dev (BitVec.ofNat 16 (leAt b 3 2)) ((leAt b 5 1).testBit 0) ((leAt b 5 1).testBit 1)

/-- A report: an answer to HEAD_MOVE, or one of a device of the instance this device heads. -/
def State.reported (p : Nat) (k : Packet) (s : State) : State :=
  if leAt (k.payload.drop 16) 2 1 = RK.moved then
    s.updServe p (fun v => { v with moveWait := v.moveWait.filter (fun c => c ≠ feidCoord k.src) })
  else if !s.isHead p then s
  else match (s.wgt p).members.find? (fun m => m.2 = feidCoord k.src) with
    | none => s
    | some m => s.reportFrom p m.1 k

/-- REPORT: the head keeps or discards the step a device reports, and learns of KV blocks, recoveries and windows (R36, R290 to R292, R310,
R333, R350, R488). -/
def execReport (panel : Nat) (s : State) : Host.Outcome State Fault Refusal :=
  .next (s.mirrored panel (State.takeMsg panel 6 (State.reported panel)))

/-! ## DECODE_INPUT_DEADLINE (R346) -/

/-- A later step's POS of a spool after an earlier slot of it has been masked; its record is sent again. -/
def State.rePos (p i : Nat) (t : AnnStep) (s : State) : State :=
  if t.picks.any (fun k => k.spool = i && k.dec) then
    let t1 := { t with picks := t.picks.map (fun k => if k.spool = i && k.dec then { k with pos := k.pos - 1 } else k) }
    (s.updServe p (fun v => { v with steps := v.steps.map (fun x => if x.q = t.q then t1 else x) })).sendSlots p t1
  else s

/-- Mask a decode slot whose input is not committed: its spool is not changed by the step (R346). -/
def State.maskLate (p q : Nat) (k : Pick) (s : State) : State :=
  let s1 := (s.logN St.INPUT_LATE (some p) q k.slot).stick (Reg.GSE_PCNT_INPUT_LATE p) 1
  let s2 := s1.updServe p (fun v => { v with steps := v.steps.map (fun t =>
    if t.q = q then { t with picks := t.picks.map (fun x => if x.slot = k.slot then { x with masked := true } else x) } else t) })
  ((s2.serve p).steps.dropWhile (fun t => t.q ≠ q)).drop 1 |>.foldl (fun s t => s.rePos p k.spool t) s2

/-- DECODE_INPUT_DEADLINE: at L − TABLE_ST − 2,000 the decode slots whose input is not committed are masked (R346). -/
def execDecodeInputDeadline (panel q : Nat) (s : State) : Host.Outcome State Fault Refusal :=
  .next (match (s.serve panel).steps.find? (fun t => t.q = q) with
    | none => s
    | some t =>
      if t.inputsShut || !reached s.now (t.l - BitVec.ofNat 64 (s.rd Reg.GSE_CTL_TABLE_ST + 2000)) then s
      else
        s.mirrored panel (fun s =>
          let late := t.picks.filter (fun k => k.dec && !k.masked && (s.spool k.spool).tokens ≤ k.pos)
          let s1 := s.updServe panel (fun v => { v with steps := v.steps.map (fun x => if x.q = q then { x with inputsShut := true } else x) })
          let s2 := late.foldl (fun s k => s.maskLate panel q k) s1
          match (s2.serve panel).steps.find? (fun x => x.q = q) with
          | some x => if late.isEmpty then s2 else s2.sendMask panel x
          | none => s2))

/-! ## Candidate lists (R366 to R371) -/

/-- Change the announced step of a number. -/
def State.updStep (p q : Nat) (f : AnnStep → AnnStep) (s : State) : State :=
  s.updServe p (fun v => { v with steps := v.steps.map (fun t => if t.q = q then f t else t) })

/-- The parts of a list whose records have all arrived: every packet named the same number of parts. -/
def CandList.complete (l : CandList) : Bool :=
  match l.nparts with
  | [] => false
  | n :: rest =>
    rest.all (· = n) && (List.range n).all (fun k =>
      let rs := l.recs.filter (fun r => r.1 = k)
      match rs with
      | [] => false
      | r :: _ => rs.all (fun x => x.2.1 = r.2.1) && rs.length = r.2.1)

/-- The logits and token IDs of a list. -/
def CandList.cands (l : CandList) : List (W32 × Nat) := l.recs.map (fun r => (BitVec.ofNat 32 r.2.2.2, bits r.2.2.2 32 18))

/-- A list that is bad or late samples nothing: its spool is cancelled with 0x0C15 (R367). -/
def State.listBad (p i : Nat) (s : State) : State := (s.stick (Reg.GSE_SAMP_BAD_LISTS p) 1).cancelSpool p i St.SAMPLER_INPUT

/-- Sample the token of a slot whose list is complete (R363, R367 to R371). -/
def State.sampleSlot (p : Nat) (t : AnnStep) (k : Pick) (l : CandList) (s : State) : State :=
  let x := s.spool k.spool
  let v := x.sampler.toNat
  if badList (s.rd (Reg.GSE_TOK_VOCAB p)) l.cands then s.listBad p k.spool
  else
    let w := min (smpWindow v) (k.pos + k.n)
    let h := s.histGet k.spool (k.pos + k.n - w) w
    if h.2.1 then h.2.2.cancelSpool p k.spool St.HISTORY_LOST
    else
      let r := sampDraw x.seed t.gen (k.pos + k.n) (smpStream v)
      let fv := Config.nanCount (v :: r.toNat :: h.1 ++ l.cands.flatMap (fun c => [c.1.toNat, c.2]))
      let tok := sampleToken (s.rd Reg.GSE_CAP2_CAND_MAX) v h.1 r fv l.cands
      h.2.2.updStep p t.q (fun t => { t with tokens := sset none t.tokens k.slot (some tok) })

/-- The records of a candidate packet: (part, PART_TOTAL, index, record). -/
def candRecs (b : List Byte) : List (Nat × Nat × Nat × Nat) :=
  (List.range (leAt b 10 1)).map (fun i => (leAt b 4 1, leAt b 6 2, leAt b 8 2 + i, leAt b (16 + 8 * i) 8))

/-- Are the fields of the prefix of R366 in their ranges, and do the records fit the part and the payload? -/
def candOk (b : List Byte) : Bool :=
  decide (1 ≤ leAt b 5 1) && decide (leAt b 5 1 ≤ 16) && decide (leAt b 4 1 < leAt b 5 1) && decide (1 ≤ leAt b 6 2) &&
  decide (leAt b 6 2 ≤ 1024) && decide (1 ≤ leAt b 10 1) && decide (leAt b 10 1 ≤ 62) &&
  decide (leAt b 8 2 + leAt b 10 1 ≤ leAt b 6 2) && decide (16 + 8 * leAt b 10 1 ≤ b.length)

/-- A candidate packet at the engine: its records join the list of its slot, or it is dropped and counted; a complete list is sampled. -/
def State.takeCandidate (p : Nat) (pk : Packet) (s : State) : State :=
  let b := pk.payload
  let drop := s.stick (Reg.GSE_SAMP_DROPPED p) 1
  let slot := leAt b 2 2
  match (s.serve p).steps.find? (fun t => t.q = leAt b 0 2) with
  | none => drop
  | some t =>
    match t.picks.find? (fun k => k.slot = slot && k.sample) with
    | none => drop
    | some k =>
      let l := sget {} t.lists slot
      let new := candRecs b
      if !candOk b || new.any (fun r => l.recs.any (fun o => o.1 = r.1 && o.2.2.1 = r.2.2.1)) then drop
      else
        let l1 : CandList := { nparts := l.nparts ++ [leAt b 5 1], recs := l.recs ++ new }
        let s1 := (s.updStep p t.q (fun t => { t with lists := sset {} t.lists slot l1 })).countArrival (epHost (32 + p)) pk
        if l1.complete && !k.masked then s1.sampleSlot p t k l1 else s1

/-- CANDIDATE_PACKET: the head engine takes part of a slot's candidate list, and samples once the list is complete (R366 to R371). -/
def execCandidatePacket (panel : Nat) (s : State) : Host.Outcome State Fault Refusal :=
  .next (match s.ejected (epHost (32 + panel)) (fun k => k.op = POp.write) with
    | none => s
    | some (i, f) => (s.dropFlight i).mirrored panel (State.takeCandidate panel f.pkt))

/-- CANDIDATE_TIMEOUT: lists not complete TIMEOUT_US after the step's end are late (R367). -/
def execCandidateTimeout (panel : Nat) (s : State) : Host.Outcome State Fault Refusal :=
  let lim := BitVec.ofNat 64 (1000 * max 1 (s.rd Reg.GSE_SAMP_CTL_TIMEOUT_US))
  let late := ((s.serve panel).steps.filter (fun t => match t.endAt with | some e => reached s.now (e + lim) | none => false)).flatMap
    (fun t => (t.picks.filter (fun k => k.sample && !k.masked && (sget none t.tokens k.slot).isNone)).map (fun k => k.spool))
  .next (if late.isEmpty then s else s.mirrored panel (fun s => late.foldl (fun s i => s.listBad panel i) s))

/-! ## The step log (R489) -/

/-- The record of a slot of a committed step. -/
def stepRecord (t : AnnStep) (k : Pick) (c : W64) : List Byte :=
  bytesOf 6 t.c ++ bytesOf 1 t.bix ++ bytesOf 1 ((if k.sample then 1 else 0) + (if t.altered then 2 else 0)) ++ bytesOf 2 k.slot ++
  bytesOf 2 k.spool ++ bytesOf 4 (k.pos % 2 ^ 24) ++ bytesOf 4 (k.n % 2 ^ 24) ++ bytesOf 4 t.gen ++ bytesOf 8 c.toNat

/-- Write one record, or drop it where the ring is full: counted, and logged once per episode. -/
def State.logStep (p : Nat) (t : AnnStep) (k : Pick) (s : State) : State :=
  let size := 2 ^ s.rd (Reg.DBG_PNL_CTL_LOG2 p)
  let prod := s.rd (Reg.DBG_STEPLOG_IDX_PROD p)
  let a := s.rd (Reg.DBG_STEPLOG_ADDR_ADDR p) * 4096 + 32 * (prod % size)
  if (prod + 2 ^ 24 - s.rd (Reg.DBG_STEPLOG_IDX_HOST p)) % 2 ^ 24 < size then
    let s1 := if (s.dmaFail (p + 1) a 32).isSome then s else s.outWrite (some p) a (stepRecord t k s.now)
    (s1.wrap (Reg.DBG_STEPLOG_IDX_PROD p) 1).updServe p (fun v => { v with logFull := false })
  else
    let s1 := s.stick (Reg.DBG_STEPLOG_IDX_LOST p) 1
    if (s.serve p).logFull then s1
    else (s1.event 7 St.STEPLOG_OVERRUN (some p) prod 0).updServe p (fun v => { v with logFull := true })

/-- The step log of a commit. -/
def State.logCommit (p : Nat) (t : AnnStep) (ks : List Pick) (s : State) : State :=
  if s.bit (Reg.DBG_PNL_CTL_STEPLOG p) then ks.foldl (fun s k => s.logStep p t k) s else s

/-! ## STEP_COMMIT (R338, R351 to R354, R372 to R376) -/

/-- A token just committed goes to the later announced steps whose decode slot takes it as input (R346). -/
def State.feedSteps (p i tok : Nat) (s : State) : State :=
  (s.serve p).steps.foldl (fun s t =>
    t.picks.foldl (fun s k =>
      if k.spool = i && k.dec && !k.masked && !t.inputsShut && k.pos + 1 = (s.spool i).tokens then s.sendTokens p t k [tok] else s) s) s

/-- The turn of a spool has ended: it leaves the later steps, and is IDLE, or DONE with status 0x0000 (R338, R351). -/
def State.endTurn (p i : Nat) (s : State) : State :=
  if (s.spool i).conv then (s.maskSpool p i).toIdle i else (s.maskSpool p i).toDone i St.OK

/-- Commit one slot of a good step (R351). A spool whose KV was lost after the step read it keeps KV_TOKENS = 0 (R291). -/
def State.commitSlot (p : Nat) (t : AnnStep) (k : Pick) (s : State) : State :=
  let x := s.spool k.spool
  let kept : Bool := x.kvTokens == k.pos
  let full : Bool := kept && x.st == SP.prefill && x.kvTokens + k.n == x.tokens
  let s1 := if kept then s.updSpool k.spool (fun y => { y with kvTokens := y.kvTokens + k.n }) else s
  if t.replay then s1
  else
    let s2 := if full then s1.updSpool k.spool (fun y => { y with st := SP.decode, reprefill := false }) else s1
    match k.sample, sget none t.tokens k.slot with
    | true, some tok =>
      let r := s2.commitToken p k.spool tok
      if r.2 = 0 then r.1.feedSteps p k.spool tok else r.1.endTurn p k.spool
    | _, _ => s2.record k.spool false 0

/-- A replayed step completes its command: DETAIL the sampled token or 0x3FFFF, DETAIL2 the items whose register was absent (R492). -/
def State.replayDone (p : Nat) (t : AnnStep) (s : State) : State :=
  match (s.serve p).replay with
  | some r =>
    if t.replay then
      (s.updServe p (fun v => { v with replay := none })).completeJob r.job St.OK
        (if r.sample then ((sget none t.tokens r.slot).getD 0x3FFFF) else 0x3FFFF) r.absent
    else s
  | none => s

/-- Has a DROP deadline of the panel passed and not been performed? Within a stitch it precedes any commit (R351). -/
def State.dropDue (s : State) (p : Nat) : Bool :=
  (s.spoolsOf p).any (fun i =>
    let x := s.spool i
    x.dlPolicy = 0 && s.deadlineDue i x)

/-- A cancel has been accepted at a stitch still to come: it goes before the next commit (R351). -/
def State.cancelAhead (s : State) (p : Nat) : Bool := (s.serve p).cancelAt.any (fun c => stDiff s.now c > 0)

/-- Every unmasked SAMPLE slot has its token. -/
def AnnStep.sampled (t : AnnStep) : Bool := t.picks.all (fun k => k.masked || !k.sample || (sget none t.tokens k.slot).isSome)

/-- Send a commit to a follower, after the standby's acknowledgement where the panel is mirrored (R351, R471). -/
def State.sendCommit (p coord : Nat) (body : List Nat) (s : State) : State := s.output (some p) (.commit coord body)

/-- The step counter after a committed step: it holds its maximum, and reaching it is logged (R10). -/
def State.stepCounted (p c : Nat) (s : State) : State :=
  let n := min (c + 1) (2 ^ 48 - 1)
  let s1 := s.wr (Reg.PNL_STEP_COUNT p) n
  if n = 2 ^ 48 - 1 && s.rd (Reg.PNL_STEP_COUNT p) ≠ n then s1.logN St.STEP_COUNTER_LIMIT (some p) 0 0 else s1

/-- The commit of a good step on the head. -/
def State.commitStep (p : Nat) (t : AnnStep) (s : State) : State :=
  let ks := sortBy (fun a b => a.slot ≤ b.slot) (t.picks.filter (fun k => !k.masked))
  let s1 := s.updServe p (fun v => { v with steps := v.steps.drop 1, discards := sdel v.discards t.c, commitAt := some s.now })
  let s2 := s1.logCommit p t ks
  let s3 := ks.foldl (fun s k => s.commitSlot p t k) s2
  let s4 := ((s3.stepCounted p t.c).wrapOvf (Reg.GSE_PSTEPS_COUNT p) (Reg.GSE_PSTEPS_OVF p) 1).wr
    (Reg.GSE_LAST_C_STITCH p) s.now.toNat
  let s5 := ((s4.memberCoords p).filter (fun c => c ≠ s.coord)).foldl (fun s c => s.sendCommit p c [p, t.q, t.c]) s4
  ((s5.settleAll p).finishLate p).replayDone p t

/-- The commit reaches a follower: its step counter advances (R351). -/
def State.followCommit (p : Nat) (s : State) : State :=
  match (s.serve p).endedC with
  | [] => s
  | c :: rest => (s.updServe p (fun v => { v with endedC := rest })).stepCounted p c

/-- STEP_COMMIT: the sequencer commits the oldest announced step once every device has ended it and every token is sampled: tokens are
appended and streamed, states move, and the step counter advances (R351). -/
def execStepCommit (panel : Nat) (s : State) : Host.Outcome State Fault Refusal :=
  .next (if s.isHead panel then
      (match (s.serve panel).steps with
        | [] => s
        | t :: _ => if t.endAt.isNone || !t.sampled || s.dropDue panel || s.cancelAhead panel then s else s.mirrored panel (State.commitStep panel t))
    else s.followCommit panel)

/-! ## REQUEST_DEADLINE (R354) -/

/-- The deadline of a spool is delivered. -/
def State.deadlineHit (p i : Nat) (s : State) : State :=
  let x := s.spool i
  let s1 := (s.stick (Reg.GSE_PCNT_DEADLINE p) 1).updSpool i (fun y => { y with dlDone := true, late := y.late || x.dlPolicy ≠ 0 })
  if x.dlPolicy = 0 then s1.cancelSpool p i St.SPOOL_DEADLINE
  else if x.dlPolicy = 1 then s1.finishLate p
  else s1

/-- REQUEST_DEADLINE: the DEADLINE of a spool not FREE, DONE or CANCELLING is reached: DROP, FINISH or CONTINUE (R354). -/
def execRequestDeadline (spool : Nat) (s : State) : Host.Outcome State Fault Refusal :=
  let x := s.spool spool
  .next (match s.spoolOwner spool with
    | none => s
    | some p =>
      if !s.deadlineDue spool x || !s.inTurn Ev.deadline then s
      else s.mirrored p (State.deadlineHit p spool))

/-! ## FINAL_RECORD_POST (R338, R377) -/

/-- The final record is posted, and the entry is FREE; a replay spool streams nothing (R377, R490). -/
def State.finalRecord (i : Nat) (s : State) : State :=
  (if (s.spool i).replayPos.isSome then s else s.record i true 0).setSpool i {}

/-- FINAL_RECORD_POST: a DONE spool whose bytes are written posts its final record when its queue can take it (R339, R376, R377). -/
def execFinalRecordPost (spool : Nat) (s : State) : Host.Outcome State Fault Refusal :=
  let x := s.spool spool
  .next (match s.spoolOwner spool with
    | none => s
    | some p =>
      if s.onStandby p || x.st ≠ SP.done || !x.pend.isEmpty || (x.replayPos.isNone && (s.recordHeld spool || s.qcap x.cq ≤ s.qused x.cq)) then s
      else s.mirrored p (State.finalRecord spool))

end Sys2Proof.Machine
end

