-- ==== Sys2Proof/Machine/Park.lean ====
section
/-! DEFINITION. Parking and unparking (spec/14 R378 to R384). -/

namespace Sys2Proof.Machine

/-- Park pages of the panel held by spools, and by a context (R379, R398). -/
def State.parkRuns (s : State) (p : Nat) : List (Nat × Nat) :=
  sortBy (fun a b => a.1 ≤ b.1) ((((s.spoolsOf p).map (fun i => ((s.spool i).parkHandle, (s.spool i).parkPages))).filter (fun r => 0 < r.2)) ++
    (s.serve p).ctx)

/-- Park pages that an expiry of this stitch has freed: an append of the same stitch still finds them (R384). -/
def State.expiredRuns (s : State) (p : Nat) : List (Nat × Nat) :=
  (s.spoolsOf p).filterMap (fun i => match (s.spool i).expired with
    | some e => if e.1 = s.now && 0 < e.2.1 then some ((s.spool i).parkHandle, e.2.1) else none
    | none => none)

/-- Free park pages (GSE_PARK_STAT). -/
def State.parkFree (s : State) (p : Nat) : Nat := s.rd (Reg.GSE_PARK_CFG_PAGES p) - ((s.parkRuns p).map (fun r => r.2)).sum

/-- The lowest free run of `n` park pages (R379). -/
def State.parkFit (s : State) (p n : Nat) : Option Nat :=
  stopFit n (s.rd (Reg.GSE_PARK_CFG_PAGES p)) (sortBy (fun a b => a.1 ≤ b.1) (s.parkRuns p ++ s.expiredRuns p)) 0

/-- Park and unpark moves in progress. -/
def State.moving (s : State) (p : Nat) : Nat := ((s.spoolsOf p).filter (fun i => (s.spool i).move.isSome)).length

/-- The SEND descriptor of a park page: no slot, LEN 65,536, to the park mover (R121, R380). -/
def State.parkSend (s : State) (p b page off : Nat) : BitVec 512 :=
  BitVec.ofNat 512 (0x42 + bobTier b * 256 + 0xFFFF * 2 ^ 32 + page * 2 ^ 128 + 65536 * 2 ^ 164 + s.feid (epHost (48 + p)) * 2 ^ 192 +
    off * 2 ^ 256)

/-- Begin to park a spool: the run is allocated and one SEND a page is posted (R379, R380). -/
def State.beginPark (p i first : Nat) (s : State) : State :=
  let x := s.spool i
  let l := s.lanes p
  let n := cdiv x.kvTokens (s.tpp p) * l
  let s1 := s.updSpool i (fun y => { y with st := SP.parking, parkHandle := first, parkPages := n, move := some { pages := n } })
  (List.range n).foldl (fun s k =>
    let b := s.laneBob p (x.home.getD 0) (k % l)
    s.postSvc b (s.parkSend p b (s.pageOf b (x.blocks.getD (k / l) 0 % 128)) ((first + k) * 65536)) (some p) (posterPark i k)) s1

/-- Test one spool. -/
def State.idleTest (p i : Nat) (s : State) : State :=
  let x := s.spool i
  let due := x.idleAt + BitVec.ofNat 64 (x.idleLim * 1000000)
  if x.st ≠ SP.idle || !reached s.now due || s.rd (Reg.GSE_PARK_CFG_PAGES p) = 0 ||
      max 1 (s.rd (Reg.GSE_PARK_CFG_MAX_MOVES p)) ≤ s.moving p then s
  else match s.parkFit p (cdiv x.kvTokens (s.tpp p) * s.lanes p) with
    | some first => s.mirrored p (State.beginPark p i first)
    | none => s

/-- IDLE_TEST: once a µs, spools IDLE past their threshold begin to park (R379). -/
def execIdleTest (s : State) : Host.Outcome State Fault Refusal :=
  .next (if s.now.toNat % 1000 = 0 then
      panels16.foldl (fun s p => if s.enabled p && !s.onStandby p then (s.spoolsOf p).foldl (fun s i => s.idleTest p i) s else s) s
    else s)

/-- The panel a spool belongs to, if the spool is in a state. -/
def State.spoolIn (s : State) (i st : Nat) : Option Nat := if (s.spool i).st = st then s.spoolOwner i else none

/-- Time to live of a spool that becomes PARKED, in stitches (R364, R378). -/
def State.ttl (s : State) (p i : Nat) : W64 :=
  BitVec.ofNat 64 ((if (s.spool i).ttlS = 0 then max 1 (s.rd (Reg.GSE_PARK_CFG_TTL_S p)) else (s.spool i).ttlS) * 1000000000)

/-- A step of a newer generation has run under RESTART since the spool's KV was made (R330, R384). -/
def State.staleKv (s : State) (p i : Nat) : Bool :=
  let gen := s.rd (Reg.PNL_WGT_GEN_GEN p)
  (s.spool i).generation ≠ gen && (s.serve p).policyGen = gen && s.rd (Reg.PNL_WGT_STATE_POLICY p) = 0

/-- Enter PARKED with an expiry: the blocks are free; after a refit under RESTART the park becomes COLD (R338, R380, R384). -/
def State.toParked (p i : Nat) (expiry : W64) (s : State) : State :=
  let s1 := (s.releaseBlocks i).updSpool i (fun x => { x with st := SP.parked, parkExpiry := expiry, parkedAt := s.now, move := none })
  if s.staleKv p i then s1.toCold i else s1

/-- PARK_COMPLETE: every SEND and its DMA have finished: PARKED, with its expiry (R338, R380, R384). -/
def execParkComplete (spool : Nat) (s : State) : Host.Outcome State Fault Refusal :=
  .next (match s.spoolIn spool SP.parking, (s.spool spool).move with
    | some p, some m =>
      if !m.failed && m.pages ≤ m.done.length && m.pages * 65536 ≤ m.bytes then
        s.mirrored p (fun s => s.toParked p spool (s.now + s.ttl p spool))
      else s
    | _, _ => s)

/-- A failed park is PARKED, and expires at the next stitch (R27, R381). -/
def State.parkFail (p i : Nat) (s : State) : State :=
  let pages := (s.spool i).parkPages
  let first := (s.spool i).parkHandle
  (((s.abandonMove i).updSpool i (fun x => { x with parkHandle := first, parkPages := pages })).toParked p i s.now).stick
    (Reg.GSE_PARK_STAT_MOVES_FAIL p) 1

/-- PARK_MOVE_FAIL: a SEND has failed its check, or a DMA write has failed (R381). -/
def execParkMoveFail (spool : Nat) (s : State) : Host.Outcome State Fault Refusal :=
  .next (match s.spoolIn spool SP.parking, (s.spool spool).move with
    | some p, some m => if m.failed then s.mirrored p (State.parkFail p spool) else s
    | _, _ => s)

/-- At PARK_EXPIRY a PARKED spool becomes COLD (R338, R382). -/
def State.parkExpire (i : Nat) (s : State) : State :=
  let x := s.spool i
  (s.toCold i).updSpool i (fun y => { y with expired := some (s.now, x.parkPages, x.kvTokens) })

/-- PARK_TTL_EXPIRY: at PARK_EXPIRY a PARKED spool becomes COLD (R338, R382). -/
def execParkTtlExpiry (spool : Nat) (s : State) : Host.Outcome State Fault Refusal :=
  .next (match s.spoolIn spool SP.parked with
    | some p => if s.parkDue spool (s.spool spool) && s.inTurn Ev.parkExpiry then s.mirrored p (State.parkExpire spool) else s
    | none => s)

/-- The unpark is complete: the park pages are free and the spool is ADMITTED; after a refit under RESTART its KV is rebuilt (R383,
R384). -/
def State.unparked (p i : Nat) (s : State) : State :=
  if s.staleKv p i then s.unparkLost i else s.updSpool i (fun x => { x with st := SP.admitted, move := none, parkPages := 0 })

/-- UNPARK_COMPLETE: the last word of an unpark is written (R338, R383, R384). -/
def execUnparkComplete (spool : Nat) (s : State) : Host.Outcome State Fault Refusal :=
  .next (match s.spoolIn spool SP.unparking, (s.spool spool).move with
    | some p, some m =>
      if !m.failed && m.pages ≤ m.done.length && m.pages * 65536 ≤ m.bytes then s.mirrored p (State.unparked p spool) else s
    | _, _ => s)

/-- UNPARK_READ_FAIL: a DMA read of an unpark has failed: it completes at once with REPREFILL = 1 and KV_TOKENS = 0 (R383). -/
def execUnparkReadFail (spool : Nat) (s : State) : Host.Outcome State Fault Refusal :=
  .next (match s.spoolIn spool SP.unparking, (s.spool spool).move with
    | some p, some m =>
      if m.failed then s.mirrored p (fun s => ((s.abandonMove spool).unparkLost spool).stick (Reg.GSE_PARK_STAT_MOVES_FAIL p) 1) else s
    | _, _ => s)

end Sys2Proof.Machine
end

