-- ==== Sys2Proof/Machine/Panels.lean ====
section
/-! DEFINITION. Panels: start, stop, reset, suspend and restore (spec/15 R392 to R399; spec/10 R279, R280; spec/13 R339; spec/16 R420,
R421). -/

namespace Sys2Proof.Machine

/-- Perform a panel command in one of the states the table of R393 lists: 0x0204 for no panel or an EMPTY one, 0x0202 elsewhere, which
PNL_LAST records (R393, R396, log entry 29). -/
def State.panelIn (j : Job) (ok : List Nat) (f : Nat → State → State) (s : State) : State :=
  s.onPanel j (fun p s =>
    if ok.contains (s.pst p) then f p s else (s.refusePanel p St.PANEL_NOT_STOPPED 0).complete j St.PANEL_NOT_STOPPED)

/-- Refuse a command of a panel with a code that PNL_LAST records. -/
def State.refuseCmd (j : Job) (p : Nat) (code : Code) (s : State) : State := (s.refusePanel p code 0).complete j code

/-- The panel leaves STOPPED: its freeze record is cleared (LAT_PNL_p). -/
def State.leaveStopped (p : Nat) (s : State) : State :=
  [Reg.LAT_PNL_FREEZES p, Reg.LAT_PNL_LAST_X p, Reg.LAT_PNL_LAST_Y p, Reg.LAT_PNL_LAST_CAUSE p, Reg.LAT_PNL_FROZEN p].foldl
    (fun s f => s.wr f 0) s

/-- The states of a panel that is not EMPTY. -/
abbrev PS.nonEmpty : List Nat := [PS.stopped, PS.running, PS.frozen, PS.draining, PS.suspended, PS.faulted]

/-! ## Start and stop (R393, R395) -/

/-- PANEL_START (0x0201). -/
def specPanelStart : CmdSpec where
  opcode := 0x0201
  vf := true
  used := 0
  body := fun j s => s.panelIn j [PS.stopped] (fun p s =>
    if s.mixedLayers p then s.refuseCmd j p St.MIXED_GENERATION
    else if !s.bucketsOk p then s.refuseCmd j p St.BUCKET_INVALID
    else (((s.leaveStopped p).setPst p PS.running).wr (Reg.GSE_KV_GROUPS p) (s.groups p) |>.tellHead p).complete j St.OK)

/-- PANEL_START: a STOPPED panel becomes RUNNING; GSE_KV.GROUPS shows the groups it starts with (R328, R333, R342, R393). -/
def execPanelStart (c : Cmd) (s : State) : Host.Outcome State Fault Refusal := .next (specPanelStart.perform none c s)

/-- STOPPED at once: tiles and engines stop and the running step is discarded (R395). -/
def State.stopNow (p : Nat) (s : State) : State := (s.discardRun p St.PANEL_NOT_RUNNING).setPst p PS.stopped

/-- PANEL_STOP (0x0202). -/
def specPanelStop : CmdSpec where
  opcode := 0x0202
  vf := true
  used := usedBits 0 0 1
  body := fun j s => s.panelIn j [PS.running, PS.frozen, PS.faulted] (fun p s =>
    if s.pst p = PS.faulted || j.cmd.fld 0 1 = 1 then (s.stopNow p).complete j St.OK
    else (s.setPst p PS.draining).updPanel p (fun x => { x with stopJob := some j.id, stopAt := s.now }))

/-- PANEL_STOP: the panel drains, or stops at once (R393, R395). -/
def execPanelStop (c : Cmd) (s : State) : Host.Outcome State Fault Refusal := .next (specPanelStop.perform none c s)

/-- Has the last step the panel accepted ended (R395)? -/
def State.drained (s : State) (p : Nat) : Bool :=
  s.pst p = PS.draining && !s.bit (Reg.DBG_PNL_STAT_HALTED p) && (s.panel p).run.isNone &&
    (s.serve p).launches.all (fun l => stDiff l.at_ (s.panel p).stopAt ≤ 0)

/-- DRAIN_COMPLETE: the last accepted step of a DRAINING panel has ended: it is STOPPED, and PANEL_STOP completes (R395). -/
def execDrainComplete (panel : Nat) (s : State) : Host.Outcome State Fault Refusal :=
  .next (if s.drained panel then s.mirrored panel (fun s =>
      let s1 := (s.setPst panel PS.stopped).dropTileWaits panel
      match (s1.panel panel).stopJob with
      | some j => (s1.updPanel panel (fun x => { x with stopJob := none })).completeJob j St.OK 0 0
      | none => s1)
    else s)

/-! ## Reset (R279, R328, R339, R394, R420, R484) -/

/-- The knots a panel owns that hold anything. -/
def State.panelKnots (s : State) (p : Nat) : List Nat := (s.knots.map (fun v => v.1)).filter (fun k => s.knotOwner k = some p)

/-- A reset clears a knot: its host waits complete with 0x0A06 (R279). -/
def State.clearKnot (k : Nat) (s : State) : State :=
  ((s.knot k).waiters.filterMap (fun w => w.job)).foldl (fun s j => s.completeJob j St.KNOT_WAIT_ABORTED 0 0) (s.setKnot k {})

/-- A reset ends every spool of a panel that is not FREE, a DONE one too, with 0x0C13 (R339). -/
def State.endSpools (p : Nat) (s : State) : State :=
  (s.spoolsOf p).foldl (fun s i => (s.abandonMove i).toDone i St.SPOOL_ABORTED) s

/-- Nothing of the steps a panel has announced or been told of is left. -/
def Serve.forget (v : Serve) : Serve :=
  { v with
    steps := [], redo := [], launches := [], prevEnd := none, discards := [], endedC := [], fwAt := none, fwPick := none, replay := none, kvLost := []
    moveWait := [] }

/-- PANEL_RESET of a queue: empty, at the host's index; a completion queue is left as it is (R420). -/
def State.resetQueue (q : Nat) (s : State) : State :=
  if s.rd (Reg.QCFG_CFG_TYPE q) = 2 then s
  else
    let n := s.rd (Reg.QCFG_PROD_HOST q)
    let s1 := [Reg.QCFG_PROD_PROD q, Reg.QCFG_CONS_READ q, Reg.QCFG_CONS_RELEASE q, Reg.QCFG_MARK_MARK q].foldl (fun s f => s.wr f n) s
    (s1.wr (Reg.QCFG_MARK_MARK_VALID q) 0).updQueue q (fun x => { x with slots := [], starts := [], area := [], moving := [], irqNow := [] })

/-- The queues of a panel. -/
def State.panelQueues (s : State) (p : Nat) : List Nat :=
  (List.range (s.rd (Reg.PNL_PART_RANGE_Q_COUNT p))).map (fun k => s.rd (Reg.PNL_PART_RANGE_Q_BASE p) + k)

/-- The panel's commands in progress complete with 0x0107, all but the reset itself (R420). -/
def State.abortJobs (p : Nat) (self : Option Nat) (s : State) : State :=
  let mine : Job → Bool := fun j => self != some j.id && (j.cmd.pnl = some p || s.queueOwner j.cmd.sq = some p)
  let ids := (s.jobs.filter mine).map (fun j => j.id)
  let s1 := ids.foldl (fun s j => s.completeJob j St.CMD_ABORTED 0 0) s
  { s1 with integ := { s1.integ with fills := s1.integ.fills.filter (fun f => !ids.contains f.job) } }

/-- No function holds debug authorisation for a panel (R484). -/
def State.dropAuth (p : Nat) (s : State) : State :=
  let clr : Nat → Nat := fun v => if v.testBit p then v - 2 ^ p else v
  (s.wr Reg.DBG_AUTH_STAT_VF_AUTH (clr (s.rd Reg.DBG_AUTH_STAT_VF_AUTH))).wr Reg.DBG_AUTH_STAT_PF_AUTH (clr (s.rd Reg.DBG_AUTH_STAT_PF_AUTH))

/-- PANEL_RESET: the panel is STOPPED, its knots and spools are cleared, its queues are empty and its commands end (R279, R328, R339,
R394, R420, R484). -/
def State.resetPanel (p : Nat) (self : Option Nat) (s : State) : State :=
  let s1 := (s.updPanel p (fun x => { x with stopJob := none, haltJob := none })).stopNow p
  let s2 := (s1.panelKnots p).foldl (fun s k => s.clearKnot k) s1
  let s3 := ((s2.endSpools p).updServe p Serve.forget).resetWeights p
  let s4 := (s3.abortJobs p self).dropAuth p
  (s4.panelQueues p).foldl (fun s q => s.resetQueue q) s4

/-- PANEL_RESET (0x0203). -/
def specPanelReset : CmdSpec where
  opcode := 0x0203
  vf := true
  used := 0
  body := fun j s => s.panelIn j PS.nonEmpty (fun p s => (s.resetPanel p (some j.id)).complete j St.OK)

/-- PANEL_RESET: the panel becomes STOPPED, with its knots and spools cleared (R393, R394). -/
def execPanelReset (c : Cmd) (s : State) : Host.Outcome State Fault Refusal := .next (specPanelReset.perform none c s)

/-! ## The context (R280, R398, R399, R421) -/

/-- Bytes of a context's header and of a tile block. -/
abbrev ctxHeader : Nat := 4096
abbrev ctxTile : Nat := 143360

/-- Zero bytes. -/
def zeros (n : Nat) : List Byte := List.replicate n 0

/-- The saved block of a tile: registers and presence bits (R398). -/
def Tile.saved (x : Tile) : List Byte :=
  let here (k : Nat) : Nat := if x.absent.any (fun a => a.1 = k) then 0 else 2 ^ k
  x.tbytes 0 0 131072 ++ (sgetList 0 x.vreg 0 2048).flatMap (fun w => bytesOf 4 w.toNat) ++
    ((List.range 32).flatMap (fun r => bytesOf 8 (x.s r).toNat)) ++ ((List.range 8).flatMap (fun r => bytesOf 8 (x.p r).toNat)) ++
    bytesOf 16 ((List.range 104).map here).sum ++ zeros (ctxTile - 0x22150)

/-- Restore a tile's registers and presence bits from its saved block (R399). -/
def Tile.restored (x : Tile) (edge : Nat) (b : List Byte) : Tile :=
  let pres := leAt b 0x22140 16
  { x with
    treg := sblock 0 0 (b.take 131072)
    vreg := sblock 0 0 ((List.range 2048).map (fun i => BitVec.ofNat 32 (leAt b (0x20000 + 4 * i) 4)))
    sreg := sblock 0 0 ((List.range 32).map (fun i => BitVec.ofNat 64 (leAt b (0x22000 + 8 * i) 8)))
    preg := sblock 0 0 ((List.range 8).map (fun i => BitVec.ofNat 64 (leAt b (0x22100 + 8 * i) 8)))
    absent := ((List.range 104).filter (fun k => !pres.testBit k)).map (fun k => (k, edge))
    capture := [], bcap := [], inflight := [] }

/-- Microseconds left of a timeout, rounded up and at least 1; 0 for none (R280). -/
def State.usLeft (s : State) (t : Option W64) : Nat :=
  match t with
  | none => 0
  | some t => max 1 (((stDiff s.now t).toNat + 999) / 1000)

/-- The saved record of a knot with its waiters (R280). -/
def State.knotSaved (s : State) (k : Nat) : List Byte :=
  let x := s.knot k
  bytesOf 16 (k + x.waiters.length * 2 ^ 16 + (if x.stuck then 2 ^ 28 else 0) + x.count * 2 ^ 64) ++
    x.waiters.flatMap (fun w => bytesOf 16 (w.feid % 2 ^ 24 + (if w.all then 2 ^ 24 else 0) + w.prio % 4 * 2 ^ 26 + w.token % 65536 * 2 ^ 28 +
      w.n % 2 ^ 32 * 2 ^ 64 + s.usLeft w.timeout % 2 ^ 32 * 2 ^ 96))

/-- Every knot a panel owns, in ascending ID: those homed in its tiles, then its host-die knots (R264, R265, R385). -/
def State.knotsOf (s : State) (p : Nat) : List Nat :=
  let per := s.rd Reg.DBG_KNOT_CAP_PER_TILE
  ((s.tilesOf p).flatMap (fun t => (List.range per).map (fun i => s.ordinal t * per + i))) ++
    (List.range (s.rd (Reg.PNL_PART_RANGE_KNOT_COUNT p))).map (fun k => s.rd (Reg.PNL_PART_RANGE_KNOT_BASE p) + k)

/-- The pointer record of a queue (R421). -/
def State.queueSaved (s : State) (q : Nat) : List Byte :=
  bytesOf 32 (s.rd (Reg.QCFG_PROD_PROD q) + s.rd (Reg.QCFG_PROD_HOST q) * 2 ^ 32 + s.rd (Reg.QCFG_CONS_READ q) * 2 ^ 64 +
    s.rd (Reg.QCFG_CONS_RELEASE q) * 2 ^ 96 + s.rd (Reg.QCFG_MARK_MARK q) * 2 ^ 128 + s.rd (Reg.QCFG_MARK_MARK_VALID q) * 2 ^ 160 +
    s.rd (Reg.QCFG_STAT_STOPPED q) * 2 ^ 161 + s.rd (Reg.QCFG_CFG_ENABLE q) * 2 ^ 162)

/-- Park pages a suspend may need (PNL_CTX_p.MAX_PAGES). -/
def State.ctxMax (s : State) (p : Nat) : Nat :=
  cdiv (ctxHeader + ctxTile * (s.tilesOf p).length + 16 * (s.knotsOf p).length + 16 * s.rd Reg.DBG_KNOT_CAP_HOST_WAITERS +
    32 * s.rd (Reg.PNL_PART_RANGE_Q_COUNT p)) 65536

/-- SHA-384 of the panel's partition entry. -/
def State.partDigest (s : State) (p : Nat) : List Byte := sha384 (sget [] s.boot.entries p)

/-- A context's header; the bytes behind it and its length are given. -/
def State.ctxHead (s : State) (p : Nat) (knotBytes : Nat) (body : List Byte) : List Byte :=
  bytesOf 4 0x58544350 ++ bytesOf 2 1 ++ bytesOf 1 p ++ bytesOf 1 (s.tenant p) ++ bytesOf 2 (s.tilesOf p).length ++
    bytesOf 2 (s.rd (Reg.PNL_PART_RANGE_Q_COUNT p)) ++ bytesOf 4 knotBytes ++ bytesOf 8 (s.rd Reg.FAB_SERIAL_SERIAL) ++
    bytesOf 8 (s.rd (Reg.PNL_STEP_COUNT p)) ++ bytesOf 4 (s.genShown p) ++ bytesOf 4 0 ++
    bytesOf 8 (ctxHeader + body.length) ++ s.partDigest p ++ sha384 body ++ bytesOf 4 1 ++ zeros (ctxHeader - 148)

/-- The context of a panel (R398). -/
def State.context (s : State) (p : Nat) : List Byte :=
  let knots := (s.knotsOf p).flatMap (fun k => s.knotSaved k)
  let body := (s.tilesOf p).flatMap (fun t => (s.tile t).saved) ++ knots ++ (s.panelQueues p).flatMap (fun q => s.queueSaved q)
  s.ctxHead p knots.length body ++ body

/-- Are `n` park pages from `first` free and inside the park area? -/
def State.parkPagesFree (s : State) (p first n : Nat) : Bool :=
  first + n ≤ s.rd (Reg.GSE_PARK_CFG_PAGES p) && (s.parkRuns p).all (fun r => first + n ≤ r.1 || r.1 + r.2 ≤ first)

/-- Host address of a park page. -/
def State.parkAddr (s : State) (p page : Nat) : Nat := s.rd (Reg.GSE_PARK_BASE_ADDR p) + 65536 * page

/-- The domains of the rows that hold the tiles of the panel a command names (R433, R436). -/
def State.rowDoms (s : State) (c : Cmd) : List Nat := match c.pnl with | some p => ((s.tilesOf p).map domOfTile).eraseDups | none => []

/-- PANEL_SUSPEND (0x0204). -/
def specPanelSuspend : CmdSpec where
  opcode := 0x0204
  vf := true
  used := usedBytes 0 4
  needs := fun c s => s.rowDoms c
  body := fun j s => s.panelIn j [PS.stopped] (fun p s =>
    let first := j.cmd.fld 0 4
    if s.rd (Reg.GSE_PARK_CFG_PAGES p) = 0 || !s.parkPagesFree p first (s.ctxMax p) then s.complete j St.CTX_NO_SPACE
    else
      let ctx := s.context p
      match s.dmaFail (p + 1) (s.parkAddr p first) ctx.length with
      | some bad => s.completeD j St.DMA_ERROR bad 0
      | none =>
        let s1 := ((s.hostWrite (s.parkAddr p first) ctx).leaveStopped p).setPst p PS.suspended
        (s1.updServe p (fun v => { v with ctx := (first, cdiv ctx.length 65536) :: v.ctx })).complete j St.OK)

/-- PANEL_SUSPEND: the panel's context is saved to its park area, and it is SUSPENDED (R398, R421). -/
def execPanelSuspend (c : Cmd) (s : State) : Host.Outcome State Fault Refusal := .next (specPanelSuspend.perform none c s)

/-- The header checks of R399, and that the lengths it gives are those of this panel's context. -/
def State.ctxHeadOk (s : State) (p : Nat) (h : List Byte) : Bool :=
  leAt h 0 4 = 0x58544350 && leAt h 4 2 = 1 && leAt h 144 4 = 1 && leAt h 6 1 = p && leAt h 7 1 = s.tenant p &&
    leAt h 16 8 = s.rd Reg.FAB_SERIAL_SERIAL && slice h 48 48 = s.partDigest p && leAt h 32 4 = s.genShown p &&
    leAt h 8 2 = (s.tilesOf p).length && leAt h 10 2 = s.rd (Reg.PNL_PART_RANGE_Q_COUNT p) &&
    leAt h 40 8 = ctxHeader + ctxTile * leAt h 8 2 + leAt h 12 4 + 32 * leAt h 10 2 && leAt h 40 8 ≤ 65536 * s.ctxMax p

/-- A saved waiter; a host wait still in progress is found by its token. -/
def State.waiterOf (s : State) (arr : Nat) (b : List Byte) : Waiter :=
  let v := natOf b
  let host : Bool := feidEp (bits v 0 24) = epHost 0
  { feid := bits v 0 24, all := bits v 24 1 = 1, n := bits v 64 32, prio := bits v 26 2, token := bits v 28 16, at_ := s.now
    timeout := s.timeoutAt (bits v 96 32), arr := arr
    job := if host then s.waitJob (bits v 28 16) else none }

/-- Restore the knot area: each record to its knot, its waiters in order, then the release rule; `fuel` bounds the records (R280). -/
def State.restoreKnots : Nat → List Byte → State → State
  | 0, _, s => s
  | _, [], s => s
  | n + 1, b, s =>
    let v := natOf (b.take 16)
    let k := bits v 0 16
    let m := bits v 16 12
    let ws := (List.range m).map (fun i => s.waiterOf i (slice b (16 + 16 * i) 16))
    let s1 := s.setKnot k { count := bits v 64 32, stuck := bits v 28 1 = 1, waiters := ws, appended := m }
    restoreKnots n (b.drop (16 + 16 * m)) (s1.release k)

/-- Restore the pointers of a queue (R399, R421). -/
def State.restoreQueue (q : Nat) (b : List Byte) (s : State) : State :=
  let v := natOf b
  [(Reg.QCFG_PROD_PROD q, bits v 0 32), (Reg.QCFG_PROD_HOST q, bits v 32 32), (Reg.QCFG_CONS_READ q, bits v 64 32),
   (Reg.QCFG_CONS_RELEASE q, bits v 96 32), (Reg.QCFG_MARK_MARK q, bits v 128 32), (Reg.QCFG_MARK_MARK_VALID q, bits v 160 1),
   (Reg.QCFG_STAT_STOPPED q, bits v 161 1), (Reg.QCFG_CFG_ENABLE q, bits v 162 1)].foldl (fun s f => s.wr f.1 f.2) s

/-- Take a context into the panel (R399). -/
def State.restoreCtx (p : Nat) (h body : List Byte) (s : State) : State :=
  let tiles := s.tilesOf p
  let n := leAt h 12 4
  let s1 := tiles.zipIdx.foldl (fun s k => s.updTile k.1 (fun x => x.restored s.clk.edge (slice body (ctxTile * k.2) ctxTile))) s
  let s2 := State.restoreKnots (n / 16) (slice body (ctxTile * tiles.length) n) s1
  let s3 := (s.panelQueues p).zipIdx.foldl (fun s k => s.restoreQueue k.1 (slice body (ctxTile * tiles.length + n + 32 * k.2) 32)) s2
  s3.wr (Reg.PNL_STEP_COUNT p) (leAt h 24 8)

/-- The pages of a context are free again (R398). -/
def State.freeCtx (p first : Nat) (s : State) : State :=
  s.updServe p (fun v => { v with ctx := v.ctx.filter (fun c => c.1 ≠ first) })

/-- PANEL_RESTORE (0x0205). -/
def specPanelRestore : CmdSpec where
  opcode := 0x0205
  vf := true
  used := usedBytes 0 4
  needs := fun c s => s.rowDoms c
  body := fun j s => s.panelIn j [PS.stopped, PS.suspended] (fun p s =>
    let first := j.cmd.fld 0 4
    let a := s.parkAddr p first
    if s.rd (Reg.GSE_PARK_CFG_PAGES p) ≤ first then s.complete j St.CTX_INVALID
    else match s.dmaFail (p + 1) a ctxHeader with
      | some bad => s.completeD j St.DMA_ERROR bad 0
      | none =>
        let h := s.hostRead a ctxHeader
        let n := leAt h 40 8 - ctxHeader
        if !s.ctxHeadOk p h || s.rd (Reg.GSE_PARK_CFG_PAGES p) < first + cdiv (leAt h 40 8) 65536 then s.complete j St.CTX_INVALID
        else match s.dmaFail (p + 1) (a + ctxHeader) n with
          | some bad => s.completeD j St.DMA_ERROR bad 0
          | none =>
            let body := s.hostRead (a + ctxHeader) n
            if sha384 body ≠ slice h 96 48 then s.complete j St.CTX_INVALID
            else (((s.restoreCtx p h body).freeCtx p first).setPst p PS.stopped).complete j St.OK)

/-- PANEL_RESTORE: checks a saved context, then writes registers, presence bits, knots, queue pointers and the step counter; the panel is
STOPPED and the pages are free (R280, R399, R421). -/
def execPanelRestore (c : Cmd) (s : State) : Host.Outcome State Fault Refusal := .next (specPanelRestore.perform none c s)

/-- PANEL_CTX_RELEASE (0x0206). -/
def specPanelCtxRelease : CmdSpec where
  opcode := 0x0206
  vf := true
  used := usedBytes 0 4
  body := fun j s => s.panelIn j PS.nonEmpty (fun p s => (s.freeCtx p (j.cmd.fld 0 4)).complete j St.OK)

/-- PANEL_CTX_RELEASE: frees the park pages of the context at PARK_PAGE (R393, R398). -/
def execPanelCtxRelease (c : Cmd) (s : State) : Host.Outcome State Fault Refusal := .next (specPanelCtxRelease.perform none c s)

end Sys2Proof.Machine
end

