-- ==== Sys2Proof/Machine/Reset.lean ====
section
/-! DEFINITION. Cold and warm resets of the whole device (spec/18 R458 to R460; spec/10 R279; spec/12 R328; spec/13 R339; spec/16 R420). -/

namespace Sys2Proof.Machine

/-! ## Fuses (R463) -/

/-- Bytes 8i to 8i + 7 of a hash register block. -/
def State.wrHash (f : Nat → Fld) (bs : List Byte) (s : State) : State :=
  (List.range 6).foldl (fun s i => s.wr (f i) (leAt bs (8 * i) 8)) s

/-- The 48 bytes of a hash register block. -/
def State.rdHash (s : State) (f : Nat → Fld) : List Byte := (List.range 6).flatMap (fun i => bytesOf 8 (s.rd (f i)))

/-- Fuse writes take effect at a reset (R463). -/
def State.takeFuses (s : State) : State :=
  let s1 := match s.boot.newSvn with
    | some v => s.wr Reg.DEV_FUSE_STAT_SVN_MIN v
    | none => s
  let s2 := match s.boot.newOwner with
    | some h => (s1.wrHash Reg.DEV_OWNER_HASH_HASH h).wr Reg.DEV_FUSE_STAT_OWNER_FUSED 1
    | none => s1
  { s2 with boot := { s2.boot with newSvn := none, newOwner := none } }

/-- Register fields that a cold reset leaves: fused ones, and PWR_EVT, which the standby section keeps (R433, R449, PWR_EVT). -/
def coldKept (key : Nat) : Bool :=
  let off := key / 64
  off < 0x100 || off = 0x138 || (0x200 ≤ off && off < 0x270) || off = 0x2100010 || off = 0x100000 || off = 0x100028 ||
    (0x100100 ≤ off && off < 0x1003A0 && (key % 64 = 4 || key % 64 = 8)) || off = 0x3900000 || off = 0x3F00000 || off = 0x3A00000 ||
    (0x3A00100 ≤ off && off < 0x3A00200)

/-! ## Cold reset (R460) -/

/-- A cold reset: every register at its reset value, memories, queues, knots and spools with nothing in them, ports OFF, seams open, the
count 0, AS_ROOT as strapped. What lies outside stays: fuses, flash, the standby section, host memory (R30, R18, R52, R236, R279, R339, R420, R460). -/
def State.coldReset (cause : Nat) (s : State) : State :=
  let p := s.power
  let t : State :=
    { part := s.part, csr := s.csr.filter (fun e => coldKept e.1), hostMem := s.hostMem, dmaBad := s.dmaBad, pending := s.pending
      out := s.out, free := s.free
      power := { vin := p.vin, lowEp := p.lowEp, highEp := p.highEp, pwrEn := p.pwrEn, on := p.on, starting := p.starting,
                 deferredStart := p.deferredStart, fell := p.fell, tripLow := p.tripLow, timeIn := p.timeIn }
      boot := { rstLow := s.boot.rstLow, flashOk := s.boot.flashOk, flashFail := s.boot.flashFail, flash := s.boot.flash,
                newSvn := s.boot.newSvn, newOwner := s.boot.newOwner } }
  ((t.wr Reg.DEV_RST_CAUSE_CAUSE cause).wr Reg.FAB_CTL_AS_ROOT (if s.part.rootSel then 1 else 0)).takeFuses

/-! ## Warm reset (R460) -/

/-- Is this the key of a queue's ENABLE bit? -/
def isEnableKey (key : Nat) : Bool :=
  0x800000 * 64 ≤ key && key < 0x900000 * 64 && (key - 0x800000 * 64) % (0x40 * 64) = 0

/-- ENABLE = 0 on every queue; no slot is reserved for a command any more (R420). -/
def State.stopQueues (s : State) : State :=
  { s with
    csr := s.csr.filter (fun e => !isEnableKey e.1)
    queues := smap {} (fun _ x => { x with reserved := 0, turn := 0 }) s.queues
    turn := 0 }

/-- Every command taken and not completed is abandoned without a completion, with whatever waits for one (R420). -/
def State.abandonAll (s : State) : State :=
  let s1 : State :=
    { s with
      jobs := [], homes := [], tileGo := none, bobGo := none
      integ := { s.integ with fills := [] }
      noc := { s.noc with upd := none, swapJob := none, homeWait := [], mail := [] }
      fab := { s.fab with jobs := [] }
      boot := { s.boot with update := none }
      ports := smap {} (fun _ x => { x with offJobs := [] }) s.ports
      panels := smap {} (fun _ x => { x with stopJob := none, haltJob := none }) s.panels
      power := { s.power with jobsWait := [] }
      wgts := smap {} (fun _ x => { x with job := none }) s.wgts }
  [Reg.FAB_RDIR_STAT_SWAP_ARMED, Reg.FAB_RDIR_STAT_SHADOW_LOCKED, Reg.TILE_MEM_STAT_BUSY, Reg.BOB_MEM_STAT_BUSY].foldl
    (fun s f => s.wr f 0) s1.stopQueues

/-- A panel at the beginning of a warm reset: its tiles stop, its spools end, its weight state is settled, and it is STOPPED (R328, R339,
R460). -/
def State.warmPanel (p : Nat) (s : State) : State :=
  let s1 := (s.unhold p).haltRun p
  if s1.pst p = PS.empty then s1
  else (((s1.setPst p PS.stopped).endSpools p).updServe p Serve.forget).resetWeights p

/-- What a tile holds for a step is gone; its registers and memories stay (R52, R460). -/
def Tile.warm (x : Tile) : Tile :=
  { x with
    absent := [], capture := [], bcap := [], inflight := [], netBuf := [], netIn := [], tabIn := [], vertBuf := [], done := [], resv := []
    loads := [], lstores := [], phases := [], maskIn := none
    run := false, ended := false, ending := false, halted := false, slots := 0, branch := none, held := false, lateSince := none
    sends := [], wins := [], waits := [] }

/-- What a bobbin holds of descriptors is gone. -/
def Bobbin.warm (x : Bobbin) : Bobbin := { x with stepQ := [], svcQ := [], svcHold := [], inbound := [], results := [], portFree := 0, op := 0, readEnd := 0 }

/-- Stores that have issued reach their banks, inbound data its words, merge buffers are written back, and tiles and bobbins stop (R123, R286, R460). -/
def State.warmUnits (s : State) : State :=
  let s0 : State := { s with tiles := smap {} (fun _ x => x.lsettle) s.tiles }
  let s1 := (s0.tiles.map (fun v => v.1)).foldl (fun s t => s.spFlushAll t) s0
  let s2 := (s1.bobs.map (fun v => v.1)).foldl (fun s b =>
    ((s.bob b).inbound.foldl (fun s i => s.bobWrite b i.at_ i.bytes false) s).bobFlush b) s1
  { s2 with tiles := smap {} (fun _ x => x.warm) s2.tiles, bobs := smap {} (fun _ x => x.warm) s2.bobs }

/-- The fields start at the low point, untrained (R33); every row is at its trained voltage (R37). -/
def State.warmClocks (s : State) : State :=
  let s1 := [Reg.STI_CLK_POINT, Reg.STI_CLK_PEND_POINT, Reg.STI_CLK_PEND, Reg.STI_CLK_TRAINED, Reg.STI_CLK_BOOST_OK].foldl (fun s f => s.wr f 0) s
  let s2 := (List.range 64).foldl (fun s r => s.wr (Reg.STI_MARGIN_VSTEPS r) 0) s1
  { s2 with clk := { s2.clk with inWindow := false, inTrim := false, trimAt := none, deferred := false, vAsk := [], lowerAsk := false, phase := 0 } }

/-- The device is paired with nobody, and no function holds debug authorisation (R460, R478, R484). -/
def State.warmAgents (s : State) : State :=
  let s1 := [Reg.FAB_TWIN_STAT_STATE, Reg.FAB_TWIN_STAT_MISSES, Reg.FAB_TWIN_STAT_PEER_COORD, Reg.FAB_TWIN_STAT_PEER_VALID,
    Reg.FAB_TWIN_STAT_MSEQ_ACKED, Reg.DBG_AUTH_STAT_VF_AUTH, Reg.DBG_AUTH_STAT_PF_AUTH].foldl (fun s f => s.wr f 0) s
  { s1 with twin := {}, power := { s1.power with braked := [] } }

/-- DEV_ registers and boot state at a warm reset (R448, R456, R458, R463). -/
def State.warmBoot (cause core : Nat) (s : State) : State :=
  let s1 := [(Reg.DEV_BOOT_STAT_STAGE, 0), (Reg.DEV_BOOT_STAT_SOURCE, 0), (Reg.DEV_BOOT_STAT_CODE, 0), (Reg.DEV_BOOT_STAT_PUSHES, 0),
    (Reg.DEV_LOCK_STAT_LOCKED, 0), (Reg.PNL_PART_STAT_LOCKED, 0), (Reg.DEV_RST_CAUSE_CAUSE, cause), (Reg.DEV_RST_CAUSE_COLD, 0),
    (Reg.DEV_RST_CAUSE_CORE, core), (Reg.DEV_WDT_KICK_LAST, if cause = 5 then 2 ^ core else 0)].foldl (fun s f => s.wr f.1 f.2) s
  let s2 := s1.stick Reg.DEV_RST_CAUSE_WARM_COUNT 1
  let fault := if cause = 5 then some (St.CORE_WATCHDOG, core) else if cause = 6 then some (St.CORE_PARITY, core) else none
  { s2 with boot := { s2.boot with cores := [], resets := [], resetWait := [], coreFault := fault } }.takeFuses

/-- A warm reset for a cause (DEV_RST_CAUSE), with the core of a watchdog or parity failure: every knot is cleared, host waits complete,
then commands are abandoned, panels are STOPPED, and the boot ROM runs next (R279, R328, R339, R420, R458, R460). -/
def State.warmReset (cause core : Nat) (s : State) : State :=
  let s1 := { (s.knots.map (fun v => v.1)).foldl (fun s k => s.clearKnot k) s with knots := [] }
  let s2 := panels16.foldl (fun s p => s.warmPanel p) s1.abandonAll
  s2.warmUnits.warmClocks.warmAgents.warmBoot cause core

end Sys2Proof.Machine
end

