-- ==== Sys2Proof/Machine/Stitch.lean ====
section
/-! DEFINITION. Stitch time and the clocks: roles, timing frames, acquisition and holdover, clock-change and trim windows, and the timing
margin (spec/01 R16 to R38; spec/08 R232). -/

namespace Sys2Proof.Machine

/-! ## The stitch master (R22, R23) -/

/-- STI_STATUS.STATE values (R21). -/
abbrev SS.freerun : Nat := 0
abbrev SS.acquire : Nat := 1
abbrev SS.locked : Nat := 2
abbrev SS.holdover : Nat := 3

/-- Enter LOCKED (R21). -/
def State.enterLocked (s : State) : State := (s.wr Reg.STI_STATUS_STATE SS.locked).wrap Reg.STI_LOCK_CNT_COUNT 1

/-- Give the device a role: a master follows nobody, and an ACQUIRE it was in ends without a step (R18, R22). STI_STATUS.STATE of a device
that becomes master stays what it was, and a former master's time without a path counts from here (DESIGN CHOICE, log entry 73). -/
def State.setRole (r : Nat) (s : State) : State :=
  let was : Bool := s.bit Reg.STI_STATUS_IS_MASTER
  let s1 := (s.wr Reg.STI_CTL_ROLE r).wr Reg.STI_STATUS_IS_MASTER (if r = 1 then 1 else 0)
  if r = 1 then
    let s2 := ((s1.wr Reg.STI_STATUS_MASTER_COORD s1.coord).wr Reg.STI_STATUS_UPSTREAM_PORT 0x1F).wr Reg.STI_STATUS_HOPS 0
    { s2 with clk := { s2.clk with master := none, conv := 0, fromFreerun := false, lostAt := none } }
  else if was then { s1 with clk := { s1.clk with reachAt := s1.now } }
  else s1

/-! ## Steps of the count (R18, R25, R27) -/

/-- Move the stitches that running intervals are measured from by `d`: they count ticks of the time domain, which a step of the count does
not disturb (R16, R18). Targets of stitch-scheduled events stay (R27). -/
def State.moveStamps (d : W64) (s : State) : State :=
  let mv : Option W64 → Option W64 := fun o => o.map (fun t => t + d)
  { s with
    clk := { s.clk with lostAt := mv s.clk.lostAt, sentAt := mv s.clk.sentAt, trimLast := s.clk.trimLast + d, reachAt := s.clk.reachAt + d
                        frameAt := smap none (fun _ o => mv o) s.clk.frameAt }
    ports := smap {} (fun _ x => { x with
      nakAt := x.nakAt + d, violations := x.violations.map (fun t => t + d), uncorr := x.uncorr.map (fun t => t + d)
      stateAt := x.stateAt + d, retrainAt := x.retrainAt + d, retryAt := x.retryAt + d, identAt := mv x.identAt
      pairAt := x.pairAt + d * 256, txStamps := x.txStamps.map (fun v => (v.1, v.2 + d * 256)), peerRx := x.peerRx + d * 256 }) s.ports
    fab := { s.fab with candAt := mv s.fab.candAt, rootAt := mv s.fab.rootAt, checkAt := s.fab.checkAt + d
                        jobs := s.fab.jobs.map (fun j => (j.1, j.2 + d)), firstActive := mv s.fab.firstActive }
    noc := { s.noc with injected := smap [] (fun _ l => l.map (fun v => (v.1 + d, v.2))) s.noc.injected
                        echoes := s.noc.echoes.map (fun v => (v.1, v.2 + d)) }
    power := { s.power with throttleAt := mv s.power.throttleAt, coolSince := mv s.power.coolSince
                            waking := smap none (fun _ o => mv o) s.power.waking }
    integ := { s.integ with patrolAt := s.integ.patrolAt + d }
    boot := { s.boot with cores := smap none (fun _ o => mv o) s.boot.cores, resets := s.boot.resets.map (fun r => (r.1 + d, r.2)) }
    tiles := smap {} (fun _ x => { x with lateSince := mv x.lateSince }) s.tiles
    knots := smap {} (fun _ k => { k with waiters := k.waiters.map (fun w => { w with at_ := w.at_ + d }) }) s.knots
    queues := smap {} (fun _ x => { x with unsigAt := x.unsigAt + d }) s.queues
    serves := smap {} (fun _ v => { v with
      fwAt := mv v.fwAt, commitAt := mv v.commitAt, cancelAt := mv v.cancelAt, steps := v.steps.map (fun t => { t with endAt := mv t.endAt })
      launches := v.launches.map (fun l => { l with at_ := l.at_ + d }) }) s.serves
    spools := smap {} (fun _ x => { x with idleAt := x.idleAt + d, expired := x.expired.map (fun e => (e.1 + d, e.2)) }) s.spools
    wgts := smap {} (fun _ w => { w with deadline := mv w.deadline, reqs := w.reqs.map (fun r => { r with sentAt := r.sentAt + d }) }) s.wgts
    twin := { s.twin with groups := s.twin.groups.map (fun g => { g with at_ := g.at_ + d }) } }

/-- The count steps to a new value; what is measured in ticks goes on (R18, R25). -/
def State.stepCount (v : W64) (s : State) : State := (s.moveStamps (v - s.now)).wr Reg.STI_COUNT_COUNT v.toNat

/-- STITCH_ROLE (0x0110). -/
def specStitchRole : CmdSpec where
  opcode := 0x0110
  vf := false
  used := usedBytes 0 1
  body := fun j s =>
    let r := j.cmd.fld 0 1
    if 2 < r then s.complete j St.CMD_FORMAT
    else ({ s with clk := { s.clk with roleSet := true } }.setRole r).complete j St.OK

/-- STITCH_ROLE: sets STI_CTL.ROLE, refusing values above 2 (R22). -/
def execStitchRole (c : Cmd) (s : State) : Host.Outcome State Fault Refusal := .next (specStitchRole.perform none c s)

/-! ## Timing frames (R19, R24, R232) -/

/-- Queue a timing frame at a port; its number, stamps and the rest are put in when it leaves (R232). -/
def State.sendTime (n : Nat) (s : State) : State := s.updPort n (fun x => { x with ctrlOut := x.ctrlOut ++ [[1]] })

/-- TIME_FRAME_SEND: every 4 µs a timing frame goes out on every trained port (R19, R232). -/
def execTimeFrameSend (s : State) : Host.Outcome State Fault Refusal :=
  let due : Bool := match s.clk.sentAt with | none => true | some t => s.lasted t 4000
  .next (if due then
      let s1 := ((List.range 24).filter (fun n => s.portPresent n && s.lst n = LS.active)).foldl (fun s n => s.sendTime n) s
      { s1 with clk := { s1.clk with sentAt := some s1.now } }
    else s)

/-- A port carries timing frames: it is ACTIVE, and one has come within two sending periods (R19; how long a silent port still counts is
a DESIGN CHOICE, log entry 73). -/
def State.carries (s : State) (n : Nat) : Bool :=
  s.lst n = LS.active && (match sget none s.clk.frameAt n with | some t => decide ((s.now - t).toNat ≤ 8000) | none => false)

/-- The lowest-numbered port whose neighbour reports a hop count to the master one less than the device's own, which is one more than the
least any neighbour reports (R19). -/
def State.nearest (s : State) (m : Nat) : Option Nat :=
  let ports := (List.range 24).filter (fun n => s.carries n && (s.port n).peerMaster = some m)
  let least := ports.foldl (fun a n => min a (s.port n).peerHops) 255
  ports.find? (fun n => (s.port n).peerHops = least)

/-- The upstream port: the lowest in-service member of the role toward the master; when that carries no timing frames, the lowest port
whose neighbour is one hop nearer (R19, R249). -/
def State.upstream (s : State) : Option Nat :=
  match s.clk.master with
  | none => none
  | some m =>
    let first := match s.cubeRole m 0 with
      | some r => (List.range 24).find? (fun n => s.role? n = some r && s.inService n)
      | none => none
    match first with
    | some n => if s.carries n then some n else s.nearest m
    | none => s.nearest m

/-- Does the frame name a master: one of a device that follows one, or of the master itself (log entry 21)? -/
def State.namesMaster (s : State) (n : Nat) (f : TimeFrame) : Bool :=
  f.sstate.toNat ≠ SS.freerun || (f.hops = 0 && s.bit (Reg.FAB_NBR_VALID n) && s.rd (Reg.FAB_NBR_COORD n) = f.master.toNat)

/-- Begin to converge on a master (R21, R24). Until TIME_IN has been present once the device does not leave FREERUN (R509). -/
def State.acquire (m : Nat) (s : State) : State :=
  if s.sst == SS.freerun && !s.boot.timeSeen then { s with clk := { s.clk with master := some m, conv := 0, hasOff := false } }
  else
    let free : Bool := s.sst == SS.freerun || (s.sst == SS.acquire && s.clk.fromFreerun)
    let s1 := (s.wr Reg.STI_STATUS_STATE SS.acquire).wr Reg.STI_STATUS_MASTER_COORD m
    { s1 with clk := { s1.clk with master := some m, conv := 0, hasOff := false, fromFreerun := free, lostAt := none } }

/-- Follow, keep or change the master a frame names; 0x0963 when there are two, at each frame that names the other one (R21, R24; how often
is a DESIGN CHOICE, log entry 73). -/
def State.heedMaster (m : Nat) (s : State) : State :=
  if s.bit Reg.STI_STATUS_IS_MASTER then
    if m < s.coord then
      (((s.wr Reg.STI_CTL_ROLE 0).wr Reg.STI_STATUS_IS_MASTER 0).event 4 St.STITCH_MASTER_CONFLICT none s.coord m).acquire m
    else s
  else match s.clk.master with
    | none => s.acquire m
    | some k =>
      if m < k then (s.event 4 St.STITCH_MASTER_CONFLICT none k m).acquire m
      else if k < m then s.event 4 St.STITCH_MASTER_CONFLICT none k m
      else if s.sst = SS.holdover || s.sst = SS.freerun then s.acquire m
      else s

/-- Frames missed before this one on the upstream port, at one every 4 µs (R19). -/
def State.missed (s : State) (n : Nat) : Nat :=
  match sget none s.clk.frameAt n with
  | some t => ((s.now - t).toNat + 2000) / 4000 - 1
  | none => 0

/-- Offset and delay from the stamps of an exchange, in 1/256 st (R232). -/
def timeOffset (t1 t2 t3 t4 : W64) : Int := ((t2 - t1).toInt - (t4 - t3).toInt) / 2
def timeDelay (t1 t2 t3 t4 : W64) : Int := ((t2 - t1).toInt + (t4 - t3).toInt) / 2

/-- Is a measurement within ±0.5 st: of the last one in an ACQUIRE from FREERUN, of the master otherwise (R21)? The first of an ACQUIRE has
none before it. -/
def State.steady (s : State) (off : Int) : Bool :=
  let d := if s.clk.fromFreerun then (if s.clk.hasOff then off - s.clk.offset else 0) else off
  d ≤ 128 && -128 ≤ d

/-- Consecutive frames of the run of steady offsets after a measurement: in an ACQUIRE from FREERUN one that varies begins a new run. -/
def State.convNext (s : State) (off : Int) : Nat :=
  if s.steady off then s.clk.conv + 1 else if s.clk.fromFreerun then 1 else 0

/-- Use the exchange a frame on the upstream port completes: the offset, its run of steady values and the frequency correction, which
the spec does not compute (R21, R232, log entry 22). -/
def State.measure (n : Nat) (f : TimeFrame) (s : State) : State :=
  let x := s.port n
  match x.txStamps.find? (fun v => v.1 = f.peerTseq.toNat), x.peerTseq with
  | some t1, some k =>
    if (k + 1) % 65536 ≠ f.tseq.toNat then s
    else
      let off := timeOffset t1.2 f.peerRx f.prevTx x.peerRx
      let adj := ((Config.freeValue s.free).toNat % 20001 : Int) - 10000
      let c := { s.clk with conv := s.convNext off, hasOff := true, offset := off
                            delay := timeDelay t1.2 f.peerRx f.prevTx x.peerRx }
      (({ s.drawn with clk := c }.wr Reg.STI_OFFSET_OFFSET (off % 2 ^ 32).toNat).wr Reg.STI_OFFSET_FREQ_ADJ (adj % 2 ^ 16).toNat)
  | _, _ => s

/-- TIME_FRAME: a received timing frame names the master followed, and on the upstream port completes an exchange (R19, R21, R24, R232,
R249). -/
def execTimeFrame (port : Nat) (f : TimeFrame) (s : State) : Host.Outcome State Fault Refusal :=
  .next (if !s.portPresent port || s.lst port ≠ LS.active then s
    else
      let rx := s.stamp
      let lost := if s.rd Reg.STI_STATUS_UPSTREAM_PORT = port then s.missed port else 0
      let names := s.namesMaster port f
      let s1 := (s.stick Reg.STI_FRAME_LOSS_COUNT lost).updPort port (fun x => { x with
        peerHops := f.hops.toNat, peerMaster := if names then some f.master.toNat else none })
      let s2 := { s1 with clk := { s1.clk with
        frameAt := sset none s1.clk.frameAt port (some s1.now), conv := if 0 < lost then 0 else s1.clk.conv } }
      let s3 := if names then s2.heedMaster f.master.toNat else s2
      let s4 := if names && s3.clk.master = some f.master.toNat then
          let s' := { s3 with clk := { s3.clk with reachAt := s3.now } }
          match s'.upstream with
          | some u =>
            let s'' := s'.wr Reg.STI_STATUS_UPSTREAM_PORT u
            if u = port then (s''.measure port f).wr Reg.STI_STATUS_HOPS (min 7 (f.hops.toNat + 1)) else s''
          | none => s'
        else s3
      s4.updPort port (fun x => { x with peerTseq := some f.tseq.toNat, peerRx := rx, peerPrevTx := f.prevTx }))

/-- ACQUIRE_CONVERGED: 64 consecutive steady frames: LOCKED, with one step of the count when the ACQUIRE began in FREERUN (R18, R21). -/
def execAcquireConverged (s : State) : Host.Outcome State Fault Refusal :=
  .next (if s.sst = SS.acquire && 64 ≤ s.clk.conv then
      let s1 := if s.clk.fromFreerun then
          s.stepCount (s.now + BitVec.ofInt 64 ((s.clk.offset + 128) / 256))
        else s
      { s1 with clk := { s1.clk with fromFreerun := false } }.enterLocked
    else s)

/-- No port has reached the master for 100 µs (R21, R23). -/
def State.pathLost (s : State) : Bool := !s.bit Reg.STI_STATUS_IS_MASTER && s.lasted s.clk.reachAt 100000

/-- MASTER_PATH_LOST: a follower that no port has brought the master for 100 µs enters HOLDOVER and follows nobody; one still acquiring from
FREERUN is back in FREERUN (R21). HOLD_MS counts from here (DESIGN CHOICE, log entry 73). A backup master becomes master instead (R23). -/
def execMasterPathLost (s : State) : Host.Outcome State Fault Refusal :=
  .next (if s.pathLost && s.rd Reg.STI_CTL_ROLE ≠ 2 && (s.sst = SS.locked || s.sst = SS.acquire) then
      let st := if s.sst = SS.acquire && s.clk.fromFreerun then SS.freerun else SS.holdover
      let s1 := (s.wr Reg.STI_STATUS_STATE st).wr Reg.STI_STATUS_UPSTREAM_PORT 0x1F
      { s1 with clk := { s1.clk with lostAt := some s1.now, master := none, frameAt := [], conv := 0 } }
    else if s.pathLost && s.rd Reg.STI_CTL_ROLE ≠ 2 then { s with clk := { s.clk with master := none } }
    else s)

/-- BACKUP_PROMOTE: a backup master without a path to the master for 100 µs becomes master, without a step (R23). -/
def execBackupPromote (s : State) : Host.Outcome State Fault Refusal :=
  .next (if s.rd Reg.STI_CTL_ROLE = 2 && s.pathLost then
      (s.setRole 1).event 4 St.STITCH_MASTER_LOST none s.coord (s.rd Reg.STI_STATUS_MASTER_COORD)
    else s)

/-- HOLDOVER_EXPIRY: HOLD_MS ms without a path to the master: FREERUN and 0x0962 (R21). -/
def execHoldoverExpiry (s : State) : Host.Outcome State Fault Refusal :=
  .next (match s.clk.lostAt with
    | some t =>
      if s.sst = SS.holdover && s.lasted t (max 1 (s.rd Reg.STI_CTL_HOLD_MS) * 1000000) then
        let s1 := s.wr Reg.STI_STATUS_STATE SS.freerun
        { s1 with clk := { s1.clk with lostAt := none } }.event 4 St.STITCH_MASTER_LOST none s.coord (s.rd Reg.STI_STATUS_MASTER_COORD)
      else s
    | none => s)

/-! ## Clock windows (R32 to R36) -/

/-- Does any panel execute a step? -/
def State.stepping (s : State) : Bool := panels16.any (fun p => (s.panel p).run.isSome)

/-- The crossing skew is measured: at most 15 ps, and not given by the spec (R33, R34, log entry 23). -/
def State.skewMeasured (s : State) : State :=
  let ps := (Config.freeValue s.free).toNat % 16
  s.drawn.wr Reg.STI_SKEW_MAX_PS (max (s.rd Reg.STI_SKEW_MAX_PS) ps)

/-- A crossing retrain (R34). -/
def State.retrained (s : State) : State := s.skewMeasured.stick Reg.STI_SKEW_RETRAINS 1

/-- CLOCK_CHANGE_WINDOW: at stitch W the change window begins; a step still running defers the change (R35, R36). It
is a power-governor decision, delivered after the other events of its stitch (R26). -/
def execClockChangeWindow (s : State) : Host.Outcome State Fault Refusal :=
  .next (if !s.bit Reg.STI_CLK_PEND || s.clk.inWindow || !reached s.now (BitVec.ofNat 64 (s.rd Reg.STI_CLK_WIN_WIN_START)) ||
        !s.inTurn Ev.governor then s
    else if s.stepping then
      let s1 := s.wr Reg.STI_CLK_PEND 0
      { s1 with clk := { s1.clk with deferred := true } }
    else { s with clk := { s.clk with inWindow := true } })

/-- CHANGE_WINDOW_END: 1,500 st after W the skew is verified, on A0 by a retrain, the new point is in force and every row is back at its
trained voltage (R34, R35, R37). -/
def execChangeWindowEnd (s : State) : Host.Outcome State Fault Refusal :=
  .next (if s.clk.inWindow && reached s.now (BitVec.ofNat 64 (s.rd Reg.STI_CLK_WIN_WIN_START) + 1500) then
      let s1 := ((s.wr Reg.STI_CLK_POINT (s.rd Reg.STI_CLK_PEND_POINT)).wr Reg.STI_CLK_PEND 0).wrap Reg.STI_CLK_CHANGES 1
      let s2 := (List.range 64).foldl (fun s r => s.wr (Reg.STI_MARGIN_VSTEPS r) 0) s1
      let s3 := { s2 with clk := { s2.clk with inWindow := false, phase := 0, vAsk := [], lowerAsk := false } }
      (if s.part.a1 then s3.skewMeasured else s3.retrained).settleHomes
    else s)

/-- TRIM_WINDOW: on A0 the window of 200 st that the power manager has armed begins at its stitch, unless a step still runs, which cancels
it; at its end the crossings have been retrained (R34, R35). -/
def execTrimWindow (s : State) : Host.Outcome State Fault Refusal :=
  .next (match s.clk.trimAt with
    | none => s
    | some w =>
      if s.part.a1 || s.clk.inWindow then s
      else if !s.clk.inTrim then
        if !reached s.now w || !s.inTurn Ev.governor then s
        else if s.stepping then { s with clk := { s.clk with trimAt := none } }
        else { s with clk := { s.clk with inTrim := true, trimAt := some s.now } }
      else if reached s.now (w + 200) then
        let s1 := s.retrained
        { s1 with clk := { s1.clk with inTrim := false, trimAt := none, trimLast := s1.now } }
      else s)

/-! ## Timing margin (R37, R38) -/

/-- A row reports its smallest margin. -/
def State.margin (row ps : Nat) (s : State) : State :=
  (s.wr (Reg.STI_MARGIN_MARGIN_PS row) ps).wr (Reg.STI_MARGIN_LOW_PS row) (min (s.rd (Reg.STI_MARGIN_LOW_PS row)) ps)

/-- MARGIN_WARN: a row's margin is below WARN_PS: 0x0D10, and a voltage step or a lower clock point is asked for (R37). -/
def execMarginWarn (row ps : Nat) (s : State) : Host.Outcome State Fault Refusal :=
  .next (if 64 ≤ row || s.rowDisabled row || 256 ≤ ps || s.rd (Reg.STI_MARGIN_WARN_PS row) ≤ ps then s
    else
      let s1 := ((s.margin row ps).stick (Reg.STI_MARGIN_WARN_CNT row) 1).event 3 St.MARGIN_WARN (s.panelOfRow row) row ps
      if s.rd (Reg.STI_MARGIN_VSTEPS row) < 8 then { s1 with clk := { s1.clk with vAsk := nins row s1.clk.vAsk } }
      else if 0 < s.rd Reg.STI_CLK_POINT then { s1 with clk := { s1.clk with lowerAsk := true } }
      else s1)

/-- MARGIN_VOLTAGE_STEP: a row that asked gets 10 mV at a stitch at which its panel is between steps (R37). -/
def execMarginVoltageStep (row : Nat) (s : State) : Host.Outcome State Fault Refusal :=
  let busy : Bool := match s.panelOfRow row with | some p => (s.panel p).run.isSome | none => false
  .next (if 64 ≤ row || !s.clk.vAsk.contains row || busy || 8 ≤ s.rd (Reg.STI_MARGIN_VSTEPS row) then s
    else
      let s1 := s.stick (Reg.STI_MARGIN_VSTEPS row) 1
      { s1 with clk := { s1.clk with vAsk := ndel row s1.clk.vAsk } })

/-- MARGIN_CRIT: a row's margin is below CRIT_PS while a step of its panel runs: 0x0D11, and the step is tainted (R38, R290). -/
def execMarginCrit (row ps : Nat) (s : State) : Host.Outcome State Fault Refusal :=
  .next (if 64 ≤ row || s.rowDisabled row || 256 ≤ ps || s.rd (Reg.STI_MARGIN_CRIT_PS row) ≤ ps then s
    else
      let s1 := s.margin row ps
      match s.panelOfRow row with
      | none => s1
      | some p => match (s.panel p).run with
        | none => s1
        | some r => (s1.updPanel p (fun x => { x with run := some { r with detect := true } })).event 3 St.MARGIN_CRIT (some p) row r.ctr.toNat)

end Sys2Proof.Machine
end

