-- ==== Sys2Proof/Machine/Boot.lean ====
section
/-! DEFINITION. The boot ROM, boot firmware, the partition, the cores and their watchdogs, and RST_N (spec/18 R448 to R460; spec/15 R385 to
R390; spec/01 R33; spec/21 R510). -/

namespace Sys2Proof.Machine

/-- DEV_BOOT_STAT.STAGE values. -/
abbrev BS.rom : Nat := 0
abbrev BS.waitPush : Nat := 2
abbrev BS.fwInit : Nat := 4
abbrev BS.ready : Nat := 5
abbrev BS.halted : Nat := 6

def State.stage (s : State) : Nat := s.rd Reg.DEV_BOOT_STAT_STAGE
def State.setStage (v : Nat) (s : State) : State := s.wr Reg.DEV_BOOT_STAT_STAGE v
def State.bootCode (c : Code) (s : State) : State := s.wr Reg.DEV_BOOT_STAT_CODE c.toNat

/-! ## Firmware images (R451) -/

/-- The checks of MAGIC, VERSION, reserved fields, BODY_BYTES and ENTRY, and that the image is whole. -/
def imageFormatOk (img : List Byte) : Bool :=
  let body := leAt img 12 4
  4096 ≤ img.length && leAt img 0 4 = 0x4D524946 && leAt img 4 2 = 1 && leAt img 6 2 = 0 && leAt img 8 4 < 64 && 1 ≤ body && body ≤ 4128768 &&
    leAt img 16 4 < body && allZero (slice img 0x14 44) && allZero (slice img 0x130 80) && allZero (slice img 0x240 3520) &&
    4096 + body ≤ img.length

/-- Is an owner key hash fused? -/
def State.ownerFused (s : State) : Bool := s.bit Reg.DEV_FUSE_STAT_OWNER_FUSED

/-- The first check of R451 that an image fails. -/
def State.imageCheck (s : State) (img : List Byte) : Code :=
  let vkey := slice img 0x40 96
  let okey := slice img 0xA0 96
  let head := img.take 0x180
  let body := slice img 4096 (leAt img 12 4)
  if !imageFormatOk img then St.FW_FORMAT
  else if sha384 vkey ≠ s.rdHash Reg.DEV_VENDOR_HASH_HASH || (s.ownerFused && sha384 okey ≠ s.rdHash Reg.DEV_OWNER_HASH_HASH) then St.FW_KEY
  else if !ecdsaOk vkey (slice img 0x180 96) head || (s.ownerFused && !ecdsaOk okey (slice img 0x1E0 96) head) then St.FW_SIGNATURE
  else if leAt img 8 4 < s.rd Reg.DEV_FUSE_STAT_SVN_MIN then St.FW_ROLLBACK
  else if sha384 body ≠ slice img 0x100 48 then St.FW_DIGEST
  else St.OK

/-- Core c restarts its watchdog (R448). -/
def State.kick (c : Nat) (s : State) : State := { s with boot := { s.boot with cores := sset none s.boot.cores c (some s.now) } }

/-- The parity bit of a byte: even parity (R448 gives one bit per byte and no sense; DESIGN CHOICE, log entry 88). -/
def parity8 (b : Byte) : Bool := ((List.range 8).filter (fun i => b.getLsbD i)).length % 2 = 1

/-- The ROM starts an image that passed: its body stands in the cores' SRAM, byte i at core floor(i / 1,048,576), and its source, its security
version and its measurement are shown; until now the ROM has restarted core 0's watchdog (R448 to R451). -/
def State.startImage (source : Nat) (img : List Byte) (s : State) : State :=
  let s1 := ((s.setStage BS.fwInit).wr Reg.DEV_BOOT_STAT_SOURCE source).wr Reg.DEV_BOOT_STAT_IMAGE_SVN (leAt img 8 4)
  let s2 := (s1.wrHash Reg.DEV_FW_DIGEST_HASH (sha384 (imageBytes img))).kick 0
  let body := slice img 4096 (leAt img 12 4)
  { s2 with boot := { s2.boot with sram := sblock 0 0 body, sramParity := sblock false 0 (body.map parity8) } }

/-- The image in the flash slot: its header and the body the header announces (R449). -/
def State.flashImage (s : State) : List Byte := s.flashRead 0 (4096 + min 4128768 (leAt (s.flashRead 0 16) 12 4))

/-- BOOT_ROM_START: the ROM loads and verifies the flash image, and starts it or enters WAIT_PUSH with the failure's code (R449). -/
def execBootRomStart (s : State) : Host.Outcome State Fault Refusal :=
  .next (if !s.power.on || s.boot.rstLow || s.stage ≠ BS.rom then s
    else
      let s1 := s.kick 0
      let code := if !s.boot.flashOk then St.FLASH_ERROR else if leAt (s.flashRead 0 4) 0 4 ≠ 0x4D524946 then St.FW_FORMAT
        else s.imageCheck s.flashImage
      if code = St.OK then s1.startImage 0 s.flashImage else (s1.setStage BS.waitPush).bootCode code)

/-- DEV_BOOT_PUSH_GO: in WAIT_PUSH the ROM reads the pushed image by DMA with the PF requester ID, and starts it or waits for the next
(R450). -/
def State.pushGo (s : State) : State :=
  if s.stage ≠ BS.waitPush || !s.power.on then s
  else
    let s1 := s.stick Reg.DEV_BOOT_STAT_PUSHES 1
    let a := s.rd Reg.DEV_BOOT_PUSH_ADDR_ADDR
    let n := s.rd Reg.DEV_BOOT_PUSH_LEN_LEN
    match s.dmaFail 0 a n with
    | some _ => s1.bootCode St.FW_PUSH_DMA
    | none =>
      let img := s.hostRead a n
      let code := s.imageCheck img
      if code = St.OK then s1.startImage 1 img else s1.bootCode code

/-- BOOT_PUSH_GO: GO is written (R450). -/
def execBootPushGo (s : State) : Host.Outcome State Fault Refusal := .next s.pushGo

/-! ## Cores and watchdogs (R448) -/

/-- The watchdog period in stitches. -/
def State.wdtSt (s : State) : Nat := 1000000 * max 10 (s.rd Reg.DEV_WDT_MS)

/-- WATCHDOG_KICK: core `c` writes DEV_WDT_KICK: only its own bit counts; a write from PCIe (no core) is discarded (R448). -/
def execWatchdogKick (core : Option Nat) (mask : BitVec 4) (s : State) : Host.Outcome State Fault Refusal :=
  .next (match core with
    | none => s
    | some c =>
      if c < 4 && mask.getLsbD c && (sget none s.boot.cores c).isSome then s.kick c else s)

/-- WATCHDOG_EXPIRY: a running core has not restarted its watchdog within DEV_WDT.MS ms: a warm reset. In WAIT_PUSH the ROM restarts
core 0's throughout (R448). -/
def execWatchdogExpiry (core : Nat) (s : State) : Host.Outcome State Fault Refusal :=
  .next (match sget none s.boot.cores core with
    | some t =>
      if core < 4 && !(core = 0 && s.stage = BS.waitPush) && reached s.now (t + BitVec.ofNat 64 s.wdtSt) then s.warmReset 5 core else s
    | none => s)

/-- A byte of core `c`'s SRAM and its parity bit disagree: which byte, is a free value (R448, log entry 88). -/
def State.sramUpset (c : Nat) (s : State) : State :=
  let a := 1048576 * c + (Config.freeValue s.free).toNat % 1048576
  { s.drawn with boot := { s.boot with sramParity := sset false s.boot.sramParity a (!parity8 (sget 0 s.boot.sram a)) } }

/-- CORE_PARITY_FAIL: a read of a running core's SRAM finds a byte whose parity bit does not match: the core halts, and a warm reset
follows (R448). -/
def execCoreParityFail (core : Nat) (s : State) : Host.Outcome State Fault Refusal :=
  .next (if core < 4 && (sget none s.boot.cores core).isSome then (s.sramUpset core).warmReset 6 core else s)

/-! ## The partition manifest (R386 to R389) -/

/-- Entry `p` of a partition manifest. -/
def pmEntry (m : List Byte) (p : Nat) : List Byte := slice m (0xC0 + 128 * p) 128
/-- The key block's public key. -/
def pmKey (m : List Byte) : List Byte := slice m 0x40 96
def peOn (e : List Byte) : Bool := leAt e 0 1 % 2 = 1

/-- Key and signature (R388). -/
def State.pmSigned (s : State) (m : List Byte) : Bool :=
  (!s.ownerFused || sha384 (pmKey m) = s.rdHash Reg.DEV_OWNER_HASH_HASH) && ecdsaOk (pmKey m) (slice m 0x8C0 96) (m.take 0x8C0)

/-- The format of an entry: reserved bytes 0, a tenant tag when enabled, all 0 otherwise (R387). -/
def peFormat (e : List Byte) : Bool :=
  if peOn e then
    leAt e 0 1 < 8 && leAt e 1 1 ≠ 0 && allZero (slice e 2 6) && allZero (slice e 36 12) && allZero (slice e 96 32)
  else allZero e

/-- The second check of R389. -/
def State.pmFormat (s : State) (m : List Byte) : Bool :=
  leAt m 0 4 = 0x54524150 && leAt m 4 2 = 1 && leAt m 6 2 = 0 && (leAt m 8 8 = 0 || leAt m 8 8 = s.rd Reg.FAB_SERIAL_SERIAL) &&
    allZero (slice m 0x18 40) && allZero (slice m 0xA0 32) && panels16.all (fun p => peFormat (pmEntry m p))

/-- Rows of an entry, without the disabled ones (R389). -/
def State.peRows (s : State) (e : List Byte) : Nat := leAt e 8 8 &&& (2 ^ 64 - 1 - s.rd Reg.DEV_ROW_MAP_DISABLED)

/-- The ranges of an entry: first and number of its knots, queues, spool entries and history pages (R387). -/
def peKnots (e : List Byte) : Nat × Nat := (leAt e 16 2, leAt e 18 2)
def peQueues (e : List Byte) : Nat × Nat := (leAt e 20 2, leAt e 22 2)
def peSpools (e : List Byte) : Nat × Nat := (leAt e 24 2, leAt e 26 2)
def peHist (e : List Byte) : Nat × Nat := (leAt e 28 4, leAt e 32 2)

/-- Do two ranges share an element? -/
def shares (a b : Nat × Nat) : Bool := a.2 ≠ 0 && b.2 ≠ 0 && a.1 < b.1 + b.2 && b.1 < a.1 + a.2

/-- Do two enabled entries share a row, knot, queue, spool entry or history page? -/
def State.peClash (s : State) (a b : List Byte) : Bool :=
  s.peRows a &&& s.peRows b ≠ 0 || shares (peKnots a) (peKnots b) || shares (peQueues a) (peQueues b) || shares (peSpools a) (peSpools b) ||
    shares (peHist a) (peHist b)

/-- Do an entry's ranges lie within the device, and its history pages above its own rows outside the queue area? -/
def State.peFits (s : State) (m e : List Byte) : Bool :=
  let k := peKnots e
  let h := peHist e
  (k.2 = 0 || (s.tileKnots ≤ k.1 && k.1 + k.2 ≤ 65536)) && (peQueues e).1 + (peQueues e).2 ≤ s.rd Reg.DEV_FEAT_SVC_QUEUES &&
    (peSpools e).1 + (peSpools e).2 ≤ s.rd Reg.DEV_FEAT_SVC_SPOOLS && !shares h (leAt m 0x10 4, leAt m 0x14 4) &&
    (List.range h.2).all (fun i =>
      match s.bobOfPage (h.1 + i) with
      | some b => (s.peRows e).testBit (domOfTile (bobTile b))
      | none => false)

/-- The third check of R389. -/
def State.pmFits (s : State) (m : List Byte) : Bool :=
  let on := (panels16.map (pmEntry m)).filter peOn
  on.all (s.peFits m) && (List.range on.length).all (fun i => (on.drop (i + 1)).all (fun e => !s.peClash (on.getD i []) e))

/-- The first check of R389 that a manifest fails. -/
def State.partCheck (s : State) (m : List Byte) : Code :=
  if !s.pmSigned m then St.PARTITION_SIGNATURE
  else if !s.pmFormat m then St.PARTITION_FORMAT
  else if !s.pmFits m then St.PARTITION_OVERLAP
  else if s.rd Reg.DEV_FEAT_PWR_MAX_INPUT_W < (((panels16.map (pmEntry m)).filter peOn).map (fun e => leAt e 34 2)).sum then St.PARTITION_BUDGET
  else St.OK

/-! ## Writing the partition (R385, R390, R455) -/

/-- The PNL_PART_ registers of a panel from its entry. -/
def State.writeEntry (p : Nat) (e : List Byte) (s : State) : State :=
  let f := leAt e 0 1
  let s1 := [(Reg.PNL_PART_ROWS_ROWS p, s.peRows e), (Reg.PNL_PART_CFG_ENABLE p, bits f 0 1), (Reg.PNL_PART_CFG_FORCE_STRICT p, bits f 1 1),
    (Reg.PNL_PART_CFG_ADMIN_DEBUG p, bits f 2 1), (Reg.PNL_PART_CFG_TENANT p, leAt e 1 1), (Reg.PNL_PART_CFG_BUDGET_W p, leAt e 34 2),
    (Reg.PNL_PART_RANGE_KNOT_BASE p, (peKnots e).1), (Reg.PNL_PART_RANGE_KNOT_COUNT p, (peKnots e).2),
    (Reg.PNL_PART_RANGE_Q_BASE p, (peQueues e).1), (Reg.PNL_PART_RANGE_Q_COUNT p, (peQueues e).2),
    (Reg.PNL_PART_HIST_HIST_FIRST p, (peHist e).1), (Reg.PNL_PART_HIST_HIST_PAGES p, (peHist e).2),
    (Reg.PNL_PART_HIST_SPOOL_BASE p, (peSpools e).1), (Reg.PNL_PART_HIST_SPOOL_COUNT p, (peSpools e).2)].foldl (fun s r => s.wr r.1 r.2) s
  (s1.wrHash (fun i => Reg.PNL_PART_KEY_HASH p i) (slice e 48 48)).setPst p (if peOn e then PS.stopped else PS.empty)

/-- Bytes from `lo` to `hi` of register space take their reset values. -/
def State.resetRegs (lo hi : Nat) (s : State) : State := { s with csr := seraseRange s.csr (lo * 64) (hi * 64) }

/-- The registers and contents of a panel's queues are those of a cold reset. -/
def State.freshQueues (p : Nat) (s : State) : State :=
  (s.panelQueues p).foldl (fun (s : State) q => (s.resetRegs (0x800000 + 0x40 * q) (0x800040 + 0x40 * q)).setQueue q {}) s

/-- The registers of a panel whose entry has changed take their reset values, all but its step counter, and what rests on its partition
is removed (R390, R482). -/
def State.freshPanel (p : Nat) (s : State) : State :=
  let steps := s.rd (Reg.PNL_STEP_COUNT p)
  let s1 := s.freshQueues p
  let s2 := ((((((s1.resetRegs (0x310000 + 64 * p) (0x310040 + 64 * p)).resetRegs (0x1001000 + 128 * p) (0x1001080 + 128 * p)).resetRegs
    (0x3800100 + 64 * p) (0x3800140 + 64 * p)).resetRegs (0x3F00100 + 8 * p) (0x3F00108 + 8 * p)).resetRegs
    (0x3A00200 + 8 * p) (0x3A00208 + 8 * p)).resetRegs (0x3A00300 + 8 * p) (0x3A00308 + 8 * p)).resetRegs (0x100400 + 8 * p) (0x100408 + 8 * p)
  let s3 := (s2.resetRegs (0x100480 + 8 * p) (0x100488 + 8 * p)).resetRegs (0x2180100 + 8 * p) (0x2180108 + 8 * p)
  (((s3.setPanel p {}).setServe p {}).updWgt p (fun w => { w with releases := [] })).wr (Reg.PNL_STEP_COUNT p) steps

/-- The weight state becomes NONE and the refit journal is cleared (R390). -/
def State.forgetWeights (p : Nat) (s : State) : State := (s.unloadModel p).setWgt p {}

/-- Zero words over a tile's scratchpad and every stack page above it (R390, R453, R455); a domain that a fill reaches is Active (R436). -/
def State.fillSite (t : Nat) (s : State) : State :=
  (List.range s.tiers).foldl (fun (s : State) k => (s.activate (domOfBob (bobAt k t))).bobZero (bobAt k t) 0 8388608)
    ((s.activate (domOfTile t)).zeroScratch t)

/-- Zero words over pages. -/
def State.fillPageList (l : List Nat) (s : State) : State :=
  l.foldl (fun (s : State) g => match s.bobOfPage g with
    | some b => (s.activate (domOfBob b)).zeroPage g
    | none => s) s

/-- The tenant tag of every active tile, and a panel's history pages. -/
def State.tileTags (s : State) : List (Nat × Nat) := (((List.range 1088).filter s.active).map (fun t => (t, s.tenantOf (s.panelOfTile t))))
def State.histPages (s : State) (p : Nat) : List Nat :=
  if s.enabled p then (List.range (s.rd (Reg.PNL_PART_HIST_HIST_PAGES p))).map (s.rd (Reg.PNL_PART_HIST_HIST_FIRST p) + ·) else []

/-- Put the entries of the accepted manifest into force: registers, then the fills of R390 and R455; `cold` also fills the queue area. -/
def State.partition (entries : Store (List Byte)) (qarea : Nat × Nat) (cold : Bool) (s : State) : State :=
  let e (p : Nat) : List Byte := sget [] entries p
  let before := s.tileTags
  let changed := panels16.filter (fun p => e p ≠ sget [] s.boot.entries p)
  let newTenant := panels16.filter (fun p => leAt (e p) 1 1 ≠ s.tenant p)
  let s1 := changed.foldl (fun s p => s.freshPanel p) s
  let s2 := newTenant.foldl (fun s p => s.forgetWeights p) s1
  let s3 := changed.foldl (fun s p => s.freshQueues p) (panels16.foldl (fun s p => s.writeEntry p (e p)) s2)
  let s4 := { s3 with qareaFirst := qarea.1, qareaPages := qarea.2, boot := { s3.boot with entries := entries } }
  let tiles := before.filter (fun v => s4.tenantOf (s4.panelOfTile v.1) ≠ v.2)
  let pages := newTenant.flatMap s4.histPages
  let s5 := tiles.foldl (fun s v => s.fillSite v.1) s4
  let s6 := s5.fillPageList pages
  if cold then s6.fillPageList ((List.range qarea.2).map (qarea.1 + ·)) else s6

/-- The source of the manifest: one staged, then the flash partition region unless it is erased, then the one accepted before a warm reset
(R454). -/
def State.partSource (s : State) : Option (List Byte) :=
  match s.boot.staged with
  | some m => some m
  | none =>
    let m := s.flashRead 0x400000 2336
    if s.boot.flashOk && !m.all (fun b => b = 0xFF) then some m else s.boot.manifest

/-- Take the partition manifest: a staged one is consumed; one that fails, or none, leaves every panel EMPTY (R389, R454). -/
def State.takePartition (cold : Bool) (s : State) : State :=
  let s1 := { s with boot := { s.boot with staged := none } }
  let code := match s.partSource with | some m => s.partCheck m | none => St.OK
  let s2 := s1.wr Reg.PNL_PART_STAT_CODE code.toNat
  match s.partSource, (code == St.OK : Bool) with
  | some m, true =>
    let entries := sblock [] 0 (panels16.map (fun p => if peOn (pmEntry m p) then pmEntry m p else []))
    ({ s2 with boot := { s2.boot with manifest := some m } }).partition entries (leAt m 0x10 4, leAt m 0x14 4) cold
  | _, _ => ({ s2 with boot := { s2.boot with manifest := none } }).partition [] (0, 0) cold

/-! ## Spares (R295, R453) -/

/-- Sites out of service and spares in service after the self-test: failed sites take the row's spare; a site that is only marked
SPARE_PENDING stays in use where there is none. -/
def State.placeSpares (s : State) (failed : List Nat) : Part × Bool :=
  let on : Nat → Bool := fun t => isSite t && !s.rowDisabled (domOfTile t)
  let bad := failed.filter on
  let base : Part := { s.part with failed := (bad.filter (fun t => tileSite t = 16)).foldl (fun l t => nins t l) [], spares := [] }
  let free : Part → Nat → Bool := fun k t => !k.failed.contains (tileAt (tileCol t) 16 (tileY t)) && !k.spares.any (fun v => v.1 = domOfTile t)
  let use : Part → Nat → Part := fun k t => { k with
    failed := nins t k.failed
    spares := sset (0, 16) k.spares (domOfTile t) (tileAt (tileCol t) 16 (tileY t), 16 * tileCol t + tileSite t) }
  let k1 := ((bad.filter (fun t => tileSite t ≠ 16)).eraseDups).foldl (fun a t => if free a.1 t then (use a.1 t, a.2) else (a.1, false)) (base, true)
  let more := s.integ.sparePending.filter (fun t => on t && tileSite t ≠ 16 && !bad.contains t)
  (more.foldl (fun k t => if free k t then use k t else k) k1.1, k1.2)

/-- At a warm reset, a site whose sparing has changed is filled. Where it is in service now, a spare or a site that has come back from
one, the panel that owns it loses its patterns and weights, and 0x0E22 names the tile and the site whose place it has (R453). -/
def State.sparesChanged (old : State) (s : State) : State :=
  let ts := (List.range 1088).filter (fun t => s.role t ≠ old.role t || s.gridX t ≠ old.gridX t)
  ts.foldl (fun (s : State) t =>
    let s1 := s.fillSite t
    if s.role t ≠ 0 && s.role t ≠ 2 then s1
    else
      let site := tileAt (s.gridX t / 16) (s.gridX t % 16) (tileY t)
      match s.panelOfTile t with
      | some p => ((s1.updPanel p (fun x => { x with patterns := [], kept := [] })).forgetWeights p).logN St.SPARE_CHANGED (some p) t site
      | none => s1.logN St.SPARE_CHANGED none t site) s

/-! ## Boot firmware (R452, R456) -/

/-- Boot stops with a code (R452). -/
def State.bootStop (code : Code) (s : State) : State := (s.setStage BS.halted).bootCode code

/-- The crossings are trained at each point, and the device moves to nominal (R33). The skew the training measures shows in
STI_SKEW.MAX_PS; RETRAINS counts retrains only, not this training (DESIGN CHOICE, log entry 73). -/
def State.trained (boost : Bool) (s : State) : State :=
  let s1 := ((s.skewMeasured.wr Reg.STI_CLK_TRAINED 1).wr Reg.STI_CLK_BOOST_OK (if boost then 1 else 0)).wr Reg.STI_CLK_POINT 1
  if boost then s1 else s1.event 3 St.BOOST_UNTRAINED none 0 0

/-- Boot firmware writes the default port map for the part's port count at a cold boot; a warm reset keeps the map, as it keeps the ports
(R237, R242, R460; DEDUCED, log entry 78). -/
def State.defaultMap (s : State) : State :=
  let small : Bool := s.rd Reg.DEV_FEAT_LINK_FABRIC_PORTS = 16
  (List.range 24).foldl (fun s n => (s.wr (Reg.FAB_PORTMAP_ROLE n) (if small then portRole16 n else portRole24 n)).wr
    (Reg.FAB_PORTMAP_MEMBER n) (if small then portMember16 n else portMember24 n)) s

/-- The endpoints' FEIDs at the end of boot, cold or warm: those of coordinate 0 (R254). -/
def State.bootFeids (s : State) : State := { s with noc := { s.noc with feidCoord := 0 } }

/-- The last steps: lock, every core released, READY, and PF vector 6 (R452, R456); the power manager's comparator is armed for its first
multiple (R27). -/
def State.reportReady (s : State) : State :=
  let s1 := ((s.wr Reg.DEV_LOCK_STAT_LOCKED 1).wr Reg.PNL_PART_STAT_LOCKED 1).setStage BS.ready
  let cores := sblock none 0 ((List.range 4).map (fun c => if c = 0 then sget none s.boot.cores 0 else some s.now))
  ({ s1 with boot := { s1.boot with cores := cores }
             power := { s1.power with decidedAt := s1.armMultiple s1.decideSt } }).bootFeids.signal 0 6

/-- The host die's retained memory is cleared: the fault log, the retirement state, the refit journals, the partition entries in force and the
staged manifest (R452). -/
def State.clearRetained (s : State) : State :=
  let s1 := [Reg.INT_FLOG_HEAD_SEQ, Reg.INT_FLOG_TAIL_SEQ, Reg.INT_FLOG_STAT_LOST].foldl (fun s f => s.wr f 0) s
  { s1 with
    integ := { s1.integ with
      log := [], suspect := [], retired := [], bobRetired := [], bankFails := [], tileFails := [], sparePending := [] }
    wgts := smap {} (fun _ w => { w with journal := {} }) s1.wgts
    boot := { s1.boot with entries := [], manifest := none, staged := none } }

/-- The rebooted firmware logs the watchdog or parity failure that caused the reset (R448). -/
def State.logCore (s : State) : State :=
  match s.boot.coreFault with
  | some (code, c) => ({ s with boot := { s.boot with coreFault := none } }).event 6 code none c 0
  | none => s

/-- BOOT_FIRMWARE_START: with the sites that fail their self-test and the points the crossings train at: the steps of R452 in order; a
step that fails stops boot. -/
def execBootFirmwareStart (failed : List Nat) (low nominal boost : Bool) (s : State) : Host.Outcome State Fault Refusal :=
  .next (if s.stage ≠ BS.fwInit || !s.power.on then s
    else
      let s0 := s.logCore
      let cold := s.bit Reg.DEV_RST_CAUSE_COLD
      if !low || !nominal then s0.bootStop St.CLOCK_TRAIN_FAIL
      else
        let s1 := s0.trained boost
        let k := s1.placeSpares failed
        if !k.2 then s1.bootStop St.SPARE_EXHAUSTED
        else
          let s2 := { s1 with part := k.1 }
          let s3 := if cold then s2.clearRetained else s2.sparesChanged s1
          let s4 := s3.takePartition cold
          (if cold then s4.defaultMap else s4).reportReady)

/-! ## RST_N (R458, R503, R510) -/

/-- RST_N_ASSERT: RST_N has been low for `ns`: less than 100 ns is filtered, less than 1 µs only goes on to RST_OUT_N, and from 1 µs on a
reset begins (R458, R504, R510). -/
def execRstNAssert (ns : Nat) (s : State) : Host.Outcome State Fault Refusal :=
  .next (if ns < 100 || s.power.vin < 40000 || s.boot.rstLow then s
    else
      let s1 := s.emit (.pin "RST_OUT_N" false)
      if ns < 1000 then s1.emit (.pin "RST_OUT_N" true)
      else
        let s2 := if !s.power.on then s1 else if s.bit Reg.DEV_RST_CTL_RST_N_COLD then s1.coldReset 2 else s1.warmReset 2 0
        { s2 with boot := { s2.boot with rstLow := true } })

/-- RST_N_RISE: RST_OUT_N follows, and the boot ROM may start (R458, R510). -/
def execRstNRise (s : State) : Host.Outcome State Fault Refusal :=
  .next (if s.boot.rstLow then ({ s with boot := { s.boot with rstLow := false } }).emit (.pin "RST_OUT_N" true) else s)

end Sys2Proof.Machine
end

