-- ==== Sys2Proof/Machine/Csr.lean ====
section
/-! DEFINITION. Registers as wholes: the fields of a register offset and a register's 64-bit value (R6, R8). -/

namespace Sys2Proof.Machine

/-- The fields of the register at a row of the table, if `off` is one of its instances. -/
def RegRow.at? (r : RegRow) (w off : Nat) : Option (List Fld) :=
  let d := off - r.base
  let e := d % r.s1
  if r.base ≤ off && d / r.s1 < r.n1 && e % r.s2 = 0 && e / r.s2 < r.n2 then some (r.flds w (d / r.s1) (e / r.s2)) else none

/-- The fields of the register at a BAR0 offset; `w` is the site a window shows. No fields: no chapter defines the offset (R404). -/
def regFields (w off : Nat) : List Fld := (regRows.findSome? (fun r => r.at? w off)).getD []

/-- A register's 64 bits from its fields; reserved bits read 0 (R8). -/
def composeWith (rd : Fld → Nat) (fs : List Fld) : Nat := (fs.map (fun f => rd f % 2 ^ f.w * 2 ^ f.lo)).sum

end Sys2Proof.Machine
end

