-- ==== Sys2Proof/Machine/Power.lean ====
section
/-! DEFINITION. Power: the 48 V input, start and shutdown, the power manager's decisions, wake, the brake, and the power commands (spec/17
R430 to R447; spec/21 R503, R510). -/

namespace Sys2Proof.Machine

/-! ## Input and start-up (R430, R431, R446, R510) -/

/-- VIN in its operating range. -/
def inRange (mv : Nat) : Bool := 42000 ≤ mv && mv ≤ 58000

/-- The rails go down: everything they hold is lost, and the next start is a cold start (R431, R458). -/
def State.shutDown (cause : Nat) (s : State) : State :=
  if s.power.on then
    let s1 := { s with power := { s.power with on := false, starting := false } }
    (s1.coldReset cause).emit (.pin "POWER_OK" false)
  else { s with power := { s.power with starting := false } }

/-- Log a power event while the host die has power (R407). -/
def State.powerEvent (code : Code) (d0 d1 : Nat) (s : State) : State := if s.power.on then s.event 3 code none d0 d1 else s

/-- VIN_LOW: VIN falls into 40 to 42 V: PWR_EVT.VIN_LOW, and 0x0D01 once per episode (R430). -/
def execVinLow (mv : Nat) (s : State) : Host.Outcome State Fault Refusal :=
  .next (if mv < 40000 || 42000 ≤ mv then s
    else
      let s1 := { s with power := { s.power with vin := mv, lowEp := true, highEp := false } }
      if s.power.lowEp then s1 else (s1.wr Reg.PWR_EVT_VIN_LOW 1).powerEvent St.VIN_LOW mv 0)

/-- VIN_HIGH: VIN rises into 58 to 59 V: PWR_EVT.VIN_HIGH, and 0x0D02 once per episode (R430). -/
def execVinHigh (mv : Nat) (s : State) : Host.Outcome State Fault Refusal :=
  .next (if mv ≤ 58000 || 59000 < mv then s
    else
      let s1 := { s with power := { s.power with vin := mv, lowEp := false, highEp := true } }
      if s.power.highEp then s1 else (s1.wr Reg.PWR_EVT_VIN_HIGH 1).powerEvent St.VIN_HIGH mv 0)

/-- Below 40 V the standby section loses its supply, and what it holds (R430). -/
def State.standbyOff (s : State) : State :=
  let s1 := [Reg.PWR_EVT_VIN_LOW, Reg.PWR_EVT_VIN_HIGH, Reg.PWR_EVT_TRIP, Reg.PWR_EVT_INPUT_LOSS, Reg.PWR_EVT_BRAKE].foldl (fun s f => s.wr f 0) s
  { s1 with power := { s1.power with lowEp := false, highEp := false, tripLow := false, fell := false, timeIn := false } }

/-- INPUT_LOSS: VIN below 40 V for 10 µs, or above 59 V for 1 µs: the rails shut down (R430, R432, R458). -/
def execInputLoss (mv ns : Nat) (s : State) : Host.Outcome State Fault Refusal :=
  .next (if (mv < 40000 && 10000 ≤ ns) || (59000 < mv && 1000 ≤ ns) then
      let s1 := ({ s with power := { s.power with vin := mv } }).shutDown 0
      (if mv < 40000 then s1.standbyOff else s1).wr Reg.PWR_EVT_INPUT_LOSS 1
    else s)

/-- Begin the soft start, or defer it until VIN and SB_3V3 permit (R431, R510). -/
def State.softStart (s : State) : State :=
  if inRange s.power.vin then { s with power := { s.power with starting := true, deferredStart := false } }
  else { s with power := { s.power with deferredStart := true } }

/-- VIN_RETURN: VIN rises to 40 V or more: the standby section has power; at 42 V an episode ends, and a deferred soft start begins (R430,
R503, R510). -/
def execVinReturn (mv : Nat) (s : State) : Host.Outcome State Fault Refusal :=
  .next (if mv < 40000 || 59000 < mv then s
    else
      let p := s.power
      let s1 := { s with power := { p with vin := mv, lowEp := p.lowEp && mv < 42000, highEp := p.highEp && 58000 < mv } }
      if inRange mv && p.deferredStart && p.pwrEn then s1.softStart else s1)

/-- PWR_EN_RISE: a rise of PWR_EN that its 100 ns glitch filter has passed (R504, log entry 88), `sinceFall` ns after it fell: ignored within
250 ms; otherwise the soft start (R431, R446, R510). -/
def execPwrEnRise (sinceFall : Nat) (s : State) : Host.Outcome State Fault Refusal :=
  .next (if (s.power.pwrEn && s.power.on) || (s.power.fell && sinceFall < 250000000) then s
    else
      let s1 := { s with power := { s.power with pwrEn := true, tripLow := false } }
      let s2 := if s.power.tripLow then s1.emit (.pin "THERM_TRIP_N" true) else s1
      if s.power.on then s2 else s2.softStart)

/-- POWER_OK_RISE: the rails are up after a soft start; the device is as a cold reset leaves it (R431, R460, R511). -/
def execPowerOkRise (s : State) : Host.Outcome State Fault Refusal :=
  .next (if s.power.starting && !s.power.on then
      let s1 := { s with power := { s.power with on := true, starting := false } }
      (s1.coldReset (s.rd Reg.DEV_RST_CAUSE_CAUSE)).emit (.pin "POWER_OK" true)
    else s)

/-- PWR_EN_FALL: PWR_EN goes low, for longer than its glitch filter's 100 ns (R504, log entry 88): the rails shut down (R431, R458). -/
def execPwrEnFall (s : State) : Host.Outcome State Fault Refusal :=
  .next (let s1 := { s with power := { s.power with pwrEn := false, fell := true, deferredStart := false } }
    s1.shutDown 0)

/-- THERMAL_TRIP: a sensor at 115 °C: THERM_TRIP_N goes low and stays low until PWR_EN is cycled, TRIP is latched, and the rails shut
down (R446, R458). -/
def execThermalTrip (celsius : Nat) (s : State) : Host.Outcome State Fault Refusal :=
  .next (if 115 ≤ celsius && s.power.on then
      let s1 := s.shutDown 1
      ({ s1 with power := { s1.power with tripLow := true } }.wr Reg.PWR_EVT_TRIP 1).emit (.pin "THERM_TRIP_N" false)
    else s)

/-! ## Measurements (PWR_VIN, PWR_RAIL, PWR_TEMP, PWR_ENERGY) -/

/-- Place of the highest reading of a list: the first of equals. -/
def hottest (l : List Nat) : Nat × Nat := l.zipIdx.foldl (fun a v => if a.1 < v.1 then v else a) (0, 0)

/-- Note what has been measured. The rails' energy goes on from the measurement; I_in stays what the governor has moved it to (R438). -/
def State.measured (m : PowerSample) (s : State) : State :=
  let h := hottest m.temps
  let s1 := [(Reg.PWR_VIN_VIN_MV, m.vin), (Reg.PWR_VIN_IIN_CA, m.iin), (Reg.PWR_VIN_PIN_W, m.pin),
    (Reg.PWR_VIN_PEAK_W, max (s.rd Reg.PWR_VIN_PEAK_W) m.pin), (Reg.PWR_RAIL_E_MJ, m.rail), (Reg.PWR_TEMP_TJ_MAX, h.1),
    (Reg.PWR_TEMP_SENSOR, h.2), (Reg.PWR_TEMP_PEAK_C, max (s.rd Reg.PWR_TEMP_PEAK_C) h.1)].foldl (fun s f => s.wr f.1 f.2) s
  let s2 := s1.wrapOvf Reg.PWR_ENERGY_MJ Reg.PWR_ENERGY_OVF m.energy
  let s3 := (m.margins.zipIdx.filter (fun v => v.2 < 64 && !s.rowDisabled v.2)).foldl (fun s v => s.margin v.2 (min 255 v.1)) s2
  let ds := m.draws.take 16
  let s4 := { s3 with power := { s3.power with
    vin := m.vin, draws := sblock 0 0 ds, rest := 1000 * (m.pin - ds.sum), rail := m.rail * 10 ^ 15 } }
  { s4 with power := { s4.power with load := s4.loadMw } }

/-! ## The clock point (R35 to R37, R444, R445) -/

/-- Stitches a launch plans to take. -/
def State.launchSpan (s : State) (p handle entry : Nat) : Nat :=
  match s.pattern? p handle with
  | some pat => cdiv ((pat.entries.getD entry (0, 0)).2 * 1000) s.planMhz
  | none => 0

/-- The intervals of every step launched or announced: first and last stitch. -/
def State.plannedSteps (s : State) : List (W64 × W64) :=
  panels16.flatMap (fun p =>
    let at_ (l : W64) (h e : Nat) : W64 × W64 := (l, l + BitVec.ofNat 64 (s.launchSpan p h e))
    (match (s.panel p).run with | some r => [at_ r.launch r.handle r.entry] | none => []) ++
    (s.serve p).launches.map (fun l => at_ l.l l.handle l.entry) ++ (s.serve p).steps.map (fun t => (t.l, t.l + BitVec.ofNat 64 t.span)))

/-- The first gap of `n` stitches between the planned steps (R35). -/
def State.firstGap (s : State) (n : Nat) : W64 :=
  let steps := s.plannedSteps
  let free (t : W64) : Bool := stDiff s.now t ≥ 0 && steps.all (fun v => stDiff (t + BitVec.ofNat 64 n) v.1 ≥ 0 || stDiff v.2 t ≥ 0)
  let cands := sortBy (fun a b => stDiff a b ≥ 0) (s.now :: (steps.map (fun v => v.2)).filter (fun t => stDiff s.now t ≥ 0))
  (cands.find? free).getD s.now

/-- Is a change of the clock point under way? -/
def State.changing (s : State) : Bool := s.bit Reg.STI_CLK_PEND || s.clk.deferred

/-- Ask the head engine of every instance with a panel here that another device heads to leave a window free (R36; log entry 79). -/
def State.askHeads (w : W64) (n : Nat) (s : State) : State :=
  (panels16.filter (fun p => s.enabled p && s.wst p ≠ WS.none && !s.isHead p)).foldl (fun s p => s.reportWindow p w n) s

/-- Arm a change window for a clock point at the first gap the announced launches leave; when it is not free at once, the head engines keep
it free (R35, R36). -/
def State.armWindow (point : Nat) (s : State) : State :=
  if s.changing then s
  else
    let w := s.firstGap 1500
    let s1 := ((s.wr Reg.STI_CLK_WIN_WIN_START w.toNat).wr Reg.STI_CLK_PEND_POINT point).wr Reg.STI_CLK_PEND 1
    if w = s.now then s1 else s1.askHeads w 1500

/-- On A0 arm a trim window of 200 st when the last one is 40 ms old, so that one comes at least every 50 ms (R34; the 40 ms are a DESIGN
CHOICE, log entry 73). -/
def State.armTrim (s : State) : State :=
  if s.part.a1 || s.changing || s.clk.inWindow || s.clk.trimAt.isSome || !s.lasted s.clk.trimLast 40000000 then s
  else
    let w := s.firstGap 200
    let s1 := { s with clk := { s.clk with trimAt := some w } }
    if w = s.now then s1 else s1.askHeads w 200

/-- A deferred change gets a new window once no step runs (R36). -/
def State.rearm (s : State) : State :=
  if s.clk.deferred && !s.stepping then
    { s with clk := { s.clk with deferred := false } }.armWindow (s.rd Reg.STI_CLK_PEND_POINT)
  else s

/-- THROTTLE_C: values outside 80 to 105 are treated as 100. -/
def State.throttleC (s : State) : Nat :=
  let c := s.rd Reg.PWR_CTL_THROTTLE_C
  if 80 ≤ c && c ≤ 105 then c else 100

/-- A throttle step: counted and logged (R445). -/
def State.throttleStep (s : State) : State :=
  let s1 := (s.stick Reg.PWR_TEMP_THROTTLES 1).event 3 St.THERMAL_THROTTLE none (s.rd Reg.PWR_TEMP_TJ_MAX) (s.rd Reg.PWR_TEMP_SENSOR)
  { s1 with power := { s1.power with throttleAt := some s1.now } }

/-- Lower the clock point, or at the low point the envelopes, for temperature (R445). -/
def State.throttle (s : State) : State :=
  let tj := s.rd Reg.PWR_TEMP_TJ_MAX
  let pt := s.rd Reg.STI_CLK_POINT
  let rested : Bool := match s.power.throttleAt with | some t => s.lasted t 1000000 | none => true
  if s.throttleC ≤ tj && rested && 0 < pt && !s.changing then
    let s1 := (s.armWindow (pt - 1)).throttleStep
    { s1 with power := { s1.power with throttled := s1.power.throttled + 1 } }
  else if pt = 0 && 105 ≤ tj && s.power.derate < 5 then
    let s1 := s.throttleStep
    { s1 with power := { s1.power with derate := s1.power.derate + 1 } }
  else s

/-- After 10 ms at THROTTLE_C − 5 °C or less one step is restored: envelopes first, then the clock point; boost only under R444 (R445). -/
def State.restoreStep (s : State) : State :=
  if s.throttleC - 5 < s.rd Reg.PWR_TEMP_TJ_MAX then { s with power := { s.power with coolSince := none } }
  else match s.power.coolSince with
    | none => { s with power := { s.power with coolSince := some s.now } }
    | some t =>
      if !s.lasted t 10000000 then s
      else
        let s1 := { s with power := { s.power with coolSince := some s.now } }
        if 0 < s.power.derate then { s1 with power := { s1.power with derate := s1.power.derate - 1 } }
        else if 0 < s.power.throttled && !s.changing then
          let s2 := { s1 with power := { s1.power with throttled := s1.power.throttled - 1 } }
          if s.rd Reg.STI_CLK_POINT = 0 then s2.armWindow 1 else s2
        else s1

/-- The conditions of R444 for the boost point. -/
def State.boostOk (m : PowerSample) (s : State) : Bool :=
  let env := (panels16.map (fun p => if s.isLive p then s.rd (Reg.PWR_PNL_EFFECTIVE_W p) else 0)).sum
  s.bit Reg.PWR_CTL_BOOST_EN && s.rd Reg.PWR_CAP_BOOST_PCT * env ≤ 100 * s.pool none &&
    m.temps.all (fun t => t < s.throttleC - 5) &&
    (List.range 64).all (fun r => s.rowDisabled r || s.rd (Reg.STI_MARGIN_WARN_PS r) ≤ s.rd (Reg.STI_MARGIN_MARGIN_PS r)) &&
    s.bit Reg.STI_CLK_BOOST_OK

/-- Move to boost, or leave it (R444); a row that carries all its voltage steps has asked for a lower point (R37). -/
def State.choosePoint (m : PowerSample) (s : State) : State :=
  let pt := s.rd Reg.STI_CLK_POINT
  if s.clk.lowerAsk && 0 < pt then s.armWindow (pt - 1)
  else if pt = 2 && !s.boostOk m then s.armWindow 1
  else if pt = 1 && s.boostOk m then s.armWindow 2
  else s

/-! ## Decisions (R26, R437) -/

/-- The brake ends for all braked panels; one that runs no step is FROZEN no more (R392, R441). -/
def State.releaseBrake (s : State) : State :=
  if s.rd Reg.PWR_RAIL_E_MJ < s.rd Reg.PWR_RAIL_RELEASE_MJ then s
  else
    let s1 := s.power.braked.foldl (fun (s : State) p => if (s.panel p).run.isNone && s.pst p = PS.frozen then s.thaw p else s) s
    { s1 with power := { s1.power with braked := [] } }

/-- Envelopes of panels that run no step, and the state chosen for every panel's rows (R437, R442). -/
def State.panelPower (p : Nat) (s : State) : State :=
  if !s.enabled p then s
  else
    let s1 := if (s.panel p).run.isSome then s else s.setEnvelope p
    let st := s1.panelChoice p
    (s1.wr (Reg.PWR_PNL_STATE p) st).wr (Reg.PWR_PNL_WAKE_NS p) (min 65535 (s1.panelWake p st))

/-- A decision is due: its multiple of DECIDE_US is reached, has not been decided at, and no event that goes before it is due (R26, R27). -/
def State.decisionDue (s : State) : Bool :=
  s.power.on && s.rd Reg.DEV_BOOT_STAT_STAGE = 5 && s.multipleDue s.decideSt s.power.decidedAt && s.inTurn Ev.governor

/-- POWER_GOVERNOR_DECISION: at a multiple of DECIDE_US the power manager takes its measurements and sets the brake release, the clock
point, throttling, envelopes and domain states, once for each multiple (R26, R27, R34 to R37, R216, R435 to R445). -/
def execPowerGovernorDecision (m : PowerSample) (s : State) : Host.Outcome State Fault Refusal :=
  .next (if !s.decisionDue then s
    else
      let s0 := { s with power := { s.power with decidedAt := some (s.lastMultiple s.decideSt) } }
      let s1 := ((s0.measured m).releaseBrake).rearm
      let s2 := (((s1.throttle).restoreStep).choosePoint m).armTrim
      let s3 := panels16.foldl (fun s p => s.panelPower p) s2
      ((List.range 84).filter s3.domPresent).foldl (fun s d => s.toDom d (s.domChoice d)) s3)

/-! ## Waking (R436) -/

/-- PRE_WAKE: at L − W the domains of a launching panel begin to wake; they are Active after their wake time (R436, R439). -/
def execPreWake (panel : Nat) (s : State) : Host.Outcome State Fault Refusal :=
  let w := BitVec.ofNat 64 (s.groupWake panel)
  .next (if panel < 16 && (s.serve panel).launches.any (fun l => reached (s.now + w) l.l) then
      (s.wakeGroup panel).foldl (fun s d => s.beginWake d (s.panelWake panel (s.domState d))) s
    else s)

/-! ## The brake (R441) -/

/-- The panels the next brake takes: those above their envelope, then the borrowers, then every RUNNING one. -/
def State.brakeNext (s : State) : List Nat :=
  let live := panels16.filter (fun p => s.isLive p && !s.power.braked.contains p)
  let above := live.filter (fun p => s.rd (Reg.PWR_PNL_EFFECTIVE_W p) < sget 0 s.power.draws p)
  let borrow := live.filter (fun p => s.rd (Reg.PNL_PART_CFG_BUDGET_W p) < s.rd (Reg.PWR_PNL_EFFECTIVE_W p))
  if above ≠ [] then above else if borrow ≠ [] then borrow else live

/-- Brake a panel: its tiles issue nothing, and it reads FROZEN. -/
def State.brakePanel (p : Nat) (s : State) : State :=
  let s1 := { s with power := { s.power with braked := nins p s.power.braked } }
  if s1.pst p = PS.running && (s1.panel p).run.isSome then s1.setPst p PS.frozen else s1

/-- POWER_BRAKE: the rail energy has fallen to BRAKE_MJ: the next panels in order are braked, with 0x0D04 (R441). -/
def execPowerBrake (mj : Nat) (draws : List Nat) (s : State) : Host.Outcome State Fault Refusal :=
  .next (if !s.power.on || s.rd Reg.PWR_RAIL_BRAKE_MJ < mj then s
    else
      let s1 := { s.wr Reg.PWR_RAIL_E_MJ mj with power := { s.power with draws := sblock 0 0 (draws.take 16), rail := mj * 10 ^ 15 } }
      match s1.brakeNext with
      | [] => s1
      | ps => ((ps.foldl (fun s p => s.brakePanel p) s1).wr Reg.PWR_EVT_BRAKE 1).event 3 St.POWER_BRAKE none (ps.map (fun p => 2 ^ p)).sum mj)

/-! ## Power commands (R447) -/

/-- PWR_ENVELOPE (0x0701). -/
def specPwrEnvelope : CmdSpec where
  opcode := 0x0701
  vf := true
  used := usedBytes 0 2 ||| usedBits 2 0 1
  body := fun j s => s.onPanel j (fun p s =>
    if s.ceiling32 p < 32 * j.cmd.fld 0 2 then s.complete j St.POWER_PARAM
    else ((s.wr (Reg.PWR_PNL_ENVELOPE_W p) (j.cmd.fld 0 2)).wr (Reg.PWR_PNL_BORROW p) (j.cmd.fld 2 1)).complete j St.OK)

/-- PWR_ENVELOPE: sets a panel's envelope and borrow flag, from its next launch (R442, R447). -/
def execPwrEnvelope (c : Cmd) (s : State) : Host.Outcome State Fault Refusal := .next (specPwrEnvelope.perform none c s)

/-- PWR_HOLD (0x0702). -/
def specPwrHold : CmdSpec where
  opcode := 0x0702
  vf := false
  used := usedBytes 0 2
  absent := fun c s => c.fld 0 1 < 84 && !s.domPresent (c.fld 0 1)
  body := fun j s =>
    let d := j.cmd.fld 0 1
    let v := j.cmd.fld 1 1
    if 84 ≤ d || 1 < v || (d < 64 && s.rowDisabled d) then s.complete j St.POWER_PARAM
    else
      let s1 := s.wr (Reg.PWR_DOM_HOLD d) v
      (if v = 1 then s1.beginWake d (s1.wakeNs (s1.domCapacity d) (s1.domState d)) else s1).complete j St.OK

/-- PWR_HOLD: holds a domain Active, or returns it to automatic control (R447). -/
def execPwrHold (c : Cmd) (s : State) : Host.Outcome State Fault Refusal := .next (specPwrHold.perform none c s)

end Sys2Proof.Machine
end

