-- ==== Sys2Proof/Machine/Queues.lean ====
section
/-! DEFINITION. Hardware queues: doorbells, ring fetch and ring write, consumer operations, enabling, packets for queue endpoints, and
interrupts (spec/16 R403, R409 to R421, R427, R428). -/

namespace Sys2Proof.Machine

/-- Difference of 32-bit indices (R411). -/
def d32 (a b : Nat) : Nat := (a + 2 ^ 32 - b % 2 ^ 32) % 2 ^ 32

def State.qprod (s : State) (q : Nat) : Nat := s.rd (Reg.QCFG_PROD_PROD q)
def State.qhost (s : State) (q : Nat) : Nat := s.rd (Reg.QCFG_PROD_HOST q)
def State.qread (s : State) (q : Nat) : Nat := s.rd (Reg.QCFG_CONS_READ q)
def State.qrel (s : State) (q : Nat) : Nat := s.rd (Reg.QCFG_CONS_RELEASE q)
def State.qtype (s : State) (q : Nat) : Nat := s.rd (Reg.QCFG_CFG_TYPE q)
def State.qon (s : State) (q : Nat) : Bool := q < 16384 && s.bit (Reg.QCFG_CFG_ENABLE q)

/-- Types of queue (R408). -/
abbrev QT.none : Nat := 0
abbrev QT.sq : Nat := 1
abbrev QT.cq : Nat := 2
abbrev QT.fabric : Nat := 3
abbrev QT.engine : Nat := 4

/-- Record a code for a queue (LAST_CODE). -/
def State.qcode (q : Nat) (code : Code) (s : State) : State := s.wr (Reg.QCFG_STAT_LAST_CODE q) code.toNat

/-- The queue stops at slot index `i` (R418). -/
def State.qstop (q i : Nat) (code : Code) (s : State) : State :=
  ((s.wr (Reg.QCFG_STAT_STOPPED q) 1).qcode q code).updQueue q (fun x => { x with stopAt := i })

/-- A slot's word in the queue area fails its check: the detection is recorded and the queue stops there (R289, R418). -/
def State.qareaFail (q i : Nat) (s : State) : State :=
  let s1 := match s.areaWord q i with
    | some (b, w) => s.detectStack b w false false
    | none => s
  s1.qstop q i St.QUEUE_AREA_DETECT

/-- Entries of a queue's ring, bytes of an entry, and whether it has one (R413). -/
def State.ringSize (s : State) (q : Nat) : Nat := 2 ^ s.rd (Reg.QCFG_CFG_RING_LOG2 q)
def State.ringEntry (s : State) (q : Nat) : Nat := if s.qtype q = QT.cq then 32 else 64
def State.hasRing (s : State) (q : Nat) : Bool := s.rd (Reg.QCFG_RING_ADDR q) != 0

/-- Host address of the ring entry of index `i`. -/
def State.ringAddr (s : State) (q i : Nat) : Nat := 4096 * s.rd (Reg.QCFG_RING_ADDR q) + s.ringEntry q * (i % s.ringSize q)

/-- Does the host produce into the queue's ring? -/
def hostFed (ty : Nat) : Bool := ty = QT.sq || ty = QT.engine

/-! ## Entries that wait for room, and interrupts (R415, R427) -/

/-- Enter the entries held for a completion queue while it has room (R415). -/
def State.flushHeld (q : Nat) (s : State) : State :=
  (s.heldEntries.filter (fun h => h.cq = q)).foldl (fun (s : State) h =>
    if s.qtype q = QT.cq && s.qused q < s.qcap q then
      let st : Option W64 := if h.entry.toNat / 2 ^ 192 = 0 then none else some (BitVec.ofNat 64 (h.entry.toNat / 2 ^ 192))
      ({ s with heldEntries := s.heldEntries.erase h }).enterCq q h.entry h.irq st
    else s) s

/-- Signal a queue's vector, if its interrupt is enabled (R427). -/
def State.qsignal (q : Nat) (s : State) : State :=
  if s.bit (Reg.QCFG_IRQ_IRQ_EN q) then
    (s.signal (s.queueFn q) (s.rd (Reg.QCFG_IRQ_VECTOR q))).updQueue q (fun x => { x with unsig := 0 })
  else s

/-- `k` entries from index `i` have been written to the ring: the vector is signalled at COUNT entries, or at once for an entry that
asks for it (R427). -/
def State.qwritten (q i k : Nat) (s : State) : State :=
  let x := s.queue q
  let now := (List.range k).any (fun n => x.irqNow.contains ((i + n) % 2 ^ 32))
  let s1 := s.setQueue q { x with
    irqNow := x.irqNow.filter (fun n => k ≤ d32 n i), unsig := x.unsig + k, unsigAt := if x.unsig = 0 then s.now else x.unsigAt }
  if now || max 1 (s.rd (Reg.QCFG_IRQ_COUNT q)) ≤ x.unsig + k then s1.qsignal q else s1

/-- IRQ_DELAY_EXPIRY: DELAY_US after the first entry not yet signalled, the queue's vector is signalled (R427). -/
def execIrqDelayExpiry (q : Nat) (s : State) : Host.Outcome State Fault Refusal :=
  let us := s.rd (Reg.QCFG_IRQ_DELAY_US q)
  .next (if 0 < (s.queue q).unsig && us ≠ 0 && reached s.now ((s.queue q).unsigAt + BitVec.ofNat 64 (1000 * us)) then s.qsignal q else s)

/-! ## Doorbells (R409, R413) -/

/-- Does a new index pass the test of R413? -/
def State.doorbellOk (s : State) (q v : Nat) : Bool :=
  s.qon q && s.qtype q ≠ QT.none && s.hasRing q &&
    (if hostFed (s.qtype q) then d32 v (s.qhost q) ≤ s.ringSize q && d32 v (s.qrel q) ≤ s.ringSize q
     else d32 v (s.qhost q) ≤ d32 (s.qrel q) (s.qhost q))

/-- Function `fn` writes index `v` to the doorbell of queue `q`; another function's queue is not reached (R409, R413). -/
def State.ringDoorbell (fn q : Nat) (v : BitVec 32) (s : State) : State :=
  if 16384 ≤ q || s.queueFn q ≠ fn then s
  else if s.doorbellOk q v.toNat then s.wr (Reg.QCFG_PROD_HOST q) v.toNat
  else s.qcode q St.DOORBELL_INVALID

/-- DOORBELL: a write of a doorbell (R409, R413). -/
def execDoorbell (fn q : Nat) (v : BitVec 32) (s : State) : Host.Outcome State Fault Refusal := .next (s.ringDoorbell fn q v)

/-! ## Ring fetch and ring write (R403, R413, R414, R418) -/

/-- May the queue use its ring: it is enabled, has one, has not stopped, and its function is a bus master (R403, R413, R418)? -/
def State.ringLive (s : State) (q : Nat) : Bool :=
  s.qon q && s.hasRing q && !s.bit (Reg.QCFG_STAT_STOPPED q) && (s.fnc (s.queueFn q)).bme

/-- RING_FETCH: the entry of index PROD is fetched from a host-fed ring, while the queue is not FULL; a DMA that fails stops it (R403,
R413, R418). -/
def execRingFetch (q : Nat) (s : State) : Host.Outcome State Fault Refusal :=
  let i := s.qprod q
  .next (if s.ringLive q && hostFed (s.qtype q) && i ≠ s.qhost q && s.qused q < s.qcap q then
      match s.dmaFail (s.queueFn q) (s.ringAddr q i) 64 with
      | some _ => s.qstop q i St.DMA_ERROR
      | none => s.qpush q (BitVec.ofNat 512 (natOf (s.hostRead (s.ringAddr q i) 64))) true false
    else s)

/-- Index after the packet that contains index `i`: the next slot with START, or PROD (R410). -/
def State.packetEnd (s : State) (q : Nat) : Nat → Nat → Nat
  | 0, i => i
  | n + 1, i =>
    let k := (i + 1) % 2 ^ 32
    if k = s.qprod q || (s.queue q).starts.contains (k % s.qcap q) then k else State.packetEnd s q n k

/-- Slots of the packet at READ. -/
def State.packetSlots (s : State) (q : Nat) : Nat := d32 (s.packetEnd q (s.qcap q) (s.qread q)) (s.qread q)

/-- The domain of the queue-area word that holds slot index `i`, where the slot lies there and the domain is not Active (R410, R436). -/
def State.asleep (s : State) (q i : Nat) : Option Nat :=
  if (s.queue q).area.contains (i % s.qcap q) then
    (s.areaWord q i).bind (fun v => if s.bobOn v.1 then none else some (domOfBob v.1))
  else none

/-- The domains to wake before the packet at READ, of `k` slots, can be read (R436). -/
def State.packetAsleep (s : State) (q k : Nat) : List Nat :=
  ((List.range k).filterMap (fun n => s.asleep q ((s.qread q + n) % 2 ^ 32))).eraseDups

/-- Slot index `i` moves from the queue area to a register; one whose word fails its check stops the queue; while the domain of its page is
not Active it begins to wake (R289, R410, R418, R436). -/
def State.fromArea (q i : Nat) (s : State) : State :=
  let k := i % s.qcap q
  if !(s.queue q).area.contains k || s.bit (Reg.QCFG_STAT_STOPPED q) then s
  else match s.asleep q i with
  | some d => s.demand d
  | none => match s.qslot q i with
    | some v => s.updQueue q (fun x => { x with slots := sset 0 x.slots k v, area := ndel k x.area })
    | none => s.qareaFail q i

/-- The slots from RELEASE on that a change of it frees leave the queue area, and the eight that are now nearest the consumer enter its
registers (R410). -/
def State.moveSlots (q : Nat) (s : State) : State :=
  let n := s.qrel q
  let held := d32 (s.qprod q) n
  let cap := s.qcap q
  (List.range (min 8 held)).foldl (fun s t => s.fromArea q ((n + t) % 2 ^ 32))
    (s.updQueue q (fun x => { x with
      area := x.area.filter (fun k => (k + cap - n % cap) % cap < held)
      moving := x.moving.filter (fun i => 8 ≤ d32 i n && d32 i n < held) }))

/-- RELEASE becomes `n`; the slots it frees are signalled to the credit knot (R410, R417). -/
def State.setRelease (q n : Nat) (s : State) : State :=
  let k := d32 n (s.qrel q)
  let s1 := (s.wr (Reg.QCFG_CONS_RELEASE q) n).moveSlots q
  if s.bit (Reg.QCFG_CFG_CREDIT_EN q) && 0 < k then
    s1.sendKnot (epHost 0) (s1.tenantOf (s1.queueOwner q)) (s1.rd (Reg.QCFG_CFG_CREDIT_KNOT q)) 0 0 0 k
  else s1

/-- The slots of the packet at READ as the consumer reads them; none at the first that fails its check. -/
def State.readPacket (s : State) (q k : Nat) : Except Nat (List (BitVec 512)) :=
  (List.range k).foldl (fun acc n =>
    match acc with
    | .error i => .error i
    | .ok l =>
      let i := (s.qread q + n) % 2 ^ 32
      match s.qslot q i with
      | some v => .ok (l ++ [v])
      | none => .error i) (.ok [])

/-- The ring entry of a slot: 32 bytes with the PHASE of its index, or 64 (R413, R414). -/
def State.ringBytes (s : State) (q i : Nat) (v : BitVec 512) : List Byte :=
  if s.qtype q = QT.cq then
    bytesOf 32 ((v.toNat % 2 ^ 256) - bits v.toNat 63 1 * 2 ^ 63 + s.phaseOf q i * 2 ^ 63)
  else bytesOf 64 v.toNat

/-- The entry of a completion queue that has just been written to its ring: where it is the completion of a DEV_RESET, the reset begins
100 µs from here (R31, R458). The completion is known by its TAG, STATUS and SOURCE (DESIGN CHOICE, log entry 89). -/
def State.entryWritten (q : Nat) (v : BitVec 512) (s : State) : State :=
  match s.boot.resetWait.find? (fun r => s.qtype q = QT.cq && r.1 = q && r.2.1 = v.toNat % 2 ^ 63) with
  | some r => { s with boot := { s.boot with resetWait := s.boot.resetWait.erase r, resets := s.boot.resets ++ [(s.now + 100000, r.2.2)] } }
  | none => s

/-- Write the slots of a packet to the ring, READ and RELEASE passing them (R413, R414, R417, R427). -/
def State.writePacket (q k : Nat) (l : List (BitVec 512)) (s : State) : State :=
  let i := s.qread q
  let s1 := l.zipIdx.foldl (fun (s : State) v =>
    (s.hostWrite (s.ringAddr q ((i + v.2) % 2 ^ 32)) (s.ringBytes q ((i + v.2) % 2 ^ 32) v.1)).entryWritten q v.1) s
  let s2 := (s1.wr (Reg.QCFG_CONS_READ q) (i + k)).setRelease q ((i + k) % 2 ^ 32)
  (s2.qwritten q i k).flushHeld q

/-- RING_WRITE: the packet at READ is written to a host-drained ring when all its slots fit; a failing slot or DMA stops the queue (R403,
R413, R414, R418). -/
def execRingWrite (q : Nat) (s : State) : Host.Outcome State Fault Refusal :=
  let i := s.qread q
  let k := s.packetSlots q
  .next (if s.ringLive q && (s.qtype q = QT.cq || s.qtype q = QT.fabric) && i ≠ s.qprod q &&
        d32 i (s.qhost q) + k ≤ s.ringSize q then
      if s.packetAsleep q k ≠ [] then (s.packetAsleep q k).foldl (fun s d => s.demand d) s
      else match s.readPacket q k with
      | .error j => s.qareaFail q j
      | .ok l =>
        match (List.range k).findSome? (fun n => s.dmaFail (s.queueFn q) (s.ringAddr q ((i + n) % 2 ^ 32)) (s.ringEntry q)) with
        | some _ => s.qstop q i St.DMA_ERROR
        | none => s.writePacket q k l
    else s)

/-! ## Consumer operations (R416 to R418) -/

/-- May the slot at READ be delivered: the queue is not empty, and has not stopped at or before it (R418)? -/
def State.deliverable (s : State) (q : Nat) : Bool :=
  s.qread q ≠ s.qprod q &&
    (!s.bit (Reg.QCFG_STAT_STOPPED q) || d32 (s.qprod q) (s.queue q).stopAt < d32 (s.qprod q) (s.qread q))

/-- READ becomes `n`; RELEASE follows it with AUTO_RELEASE (R416). -/
def State.setRead (q n : Nat) (s : State) : State :=
  let s1 := s.wr (Reg.QCFG_CONS_READ q) n
  if s.bit (Reg.QCFG_CFG_AUTO_RELEASE q) then s1.setRelease q n else s1

/-- READ passes the packet that contains it (R416). -/
def State.passPacket (q : Nat) (s : State) : State := s.setRead q (s.packetEnd q (s.qcap q) (s.qread q))

/-- Every index becomes `n`, the queue runs again, and nothing of its contents is left (R416). -/
def State.qreset (q n : Nat) (s : State) : State :=
  let s1 := [Reg.QCFG_PROD_PROD q, Reg.QCFG_PROD_HOST q, Reg.QCFG_CONS_READ q, Reg.QCFG_CONS_RELEASE q, Reg.QCFG_MARK_MARK q].foldl
    (fun s f => s.wr f n) s
  (((s1.wr (Reg.QCFG_MARK_MARK_VALID q) 0).wr (Reg.QCFG_STAT_STOPPED q) 0).updQueue q (fun x => { x with
    slots := [], starts := [], area := [], moving := [], irqNow := [], unsig := 0 })).flushHeld q

/-- The operations of R416 and R428. -/
abbrev QO.mark : Nat := 0
abbrev QO.rewind : Nat := 1
abbrev QO.release : Nat := 2
abbrev QO.drop : Nat := 3
abbrev QO.reset : Nat := 4

/-- Perform a consumer operation; none where it is refused (R416). A queue without a consumer on the device accepts only RESET. -/
def State.qdoOp (q op n : Nat) (s : State) : Option State :=
  let rel := s.qrel q
  if !hostFed (s.qtype q) && op ≠ QO.reset then none
  else match op with
    | 0 =>
      if s.bit (Reg.QCFG_CFG_AUTO_RELEASE q) then none
      else some ((s.wr (Reg.QCFG_MARK_MARK q) (s.qread q)).wr (Reg.QCFG_MARK_MARK_VALID q) 1)
    | 1 => if s.bit (Reg.QCFG_MARK_MARK_VALID q) then some (s.wr (Reg.QCFG_CONS_READ q) (s.rd (Reg.QCFG_MARK_MARK q))) else none
    | 2 =>
      if d32 (s.qread q) rel < d32 n rel then none
      else
        let s1 := s.setRelease q n
        some (if d32 (s.rd (Reg.QCFG_MARK_MARK q)) rel < d32 n rel then s1.wr (Reg.QCFG_MARK_MARK_VALID q) 0 else s1)
    | 3 => if s.qread q = s.qprod q then none else some (s.passPacket q)
    | 4 => some (s.qreset q n)
    | _ => none

/-- A consumer operation by the queue's own consumer: a refusal is recorded in LAST_CODE (R416). -/
def State.ownOp (q op n : Nat) (s : State) : State :=
  if s.qon q && hostFed (s.qtype q) then
    match s.qdoOp q op n with
    | some t => t
    | none => s.qcode q St.QUEUE_OP
  else s

/-- QUEUE_TAKE: the consumer takes the packet at READ; a slot that fails its check stops the queue (R416, R418). -/
def execQueueTake (q : Nat) (s : State) : Host.Outcome State Fault Refusal :=
  .next (if s.qon q && hostFed (s.qtype q) && s.deliverable q then
      let ds := s.packetAsleep q (s.packetSlots q)
      if ds ≠ [] then ds.foldl (fun s d => s.demand d) s
      else match s.readPacket q (s.packetSlots q) with
      | .ok _ => s.passPacket q
      | .error j => s.qareaFail q j
    else s)

/-- QUEUE_DROP: READ moves past the packet that contains it (R416). -/
def execQueueDrop (q : Nat) (s : State) : Host.Outcome State Fault Refusal := .next (s.ownOp q QO.drop 0)

/-- QUEUE_MARK: MARK = READ (R416). -/
def execQueueMark (q : Nat) (s : State) : Host.Outcome State Fault Refusal := .next (s.ownOp q QO.mark 0)

/-- QUEUE_REWIND: READ = MARK (R416). -/
def execQueueRewind (q : Nat) (s : State) : Host.Outcome State Fault Refusal := .next (s.ownOp q QO.rewind 0)

/-- QUEUE_RELEASE: RELEASE = T (R416, R417). -/
def execQueueRelease (q : Nat) (v : BitVec 32) (s : State) : Host.Outcome State Fault Refusal := .next (s.ownOp q QO.release v.toNat)

/-- QUEUE_RESET: every index becomes n, and STOPPED is cleared (R416, R418). -/
def execQueueReset (q : Nat) (v : BitVec 32) (s : State) : Host.Outcome State Fault Refusal := .next (s.ownOp q QO.reset v.toNat)

/-- May a QUEUE_CTL name the queue: not the one that carries it, nor one of another panel than its header names (R391, R428)? -/
def State.ctlMay (s : State) (c : Cmd) (q : Nat) : Bool :=
  q ≠ c.sq && (match s.queueOwner q with | some p => c.pnl = some p | none => true)

/-- QUEUE_CTL (0x0102). -/
def specQueueCtl : CmdSpec where
  opcode := 0x0102
  vf := true
  used := usedBytes 0 3 ||| usedBytes 4 4
  foreign := fun c s => s.queueFn (c.fld 0 2) ≠ c.fn
  absent := fun c s => s.rd Reg.DEV_FEAT_SVC_QUEUES ≤ c.fld 0 2
  body := fun j s =>
    let q := j.cmd.fld 0 2
    match if s.ctlMay j.cmd q then s.qdoOp q (j.cmd.fld 2 1) (j.cmd.fld 4 4) else none with
      | none => s.complete j St.QUEUE_OP
      | some t =>
        let t1 := match s.queueOwner q with
          | some p => if s.bit (Reg.DBG_PNL_STAT_HALTED p) then t.alter p else t
          | none => t
        t1.completeD j St.OK (t.qread q + t.qrel q * 2 ^ 32) 0

/-- QUEUE_CTL: a consumer operation on a queue (R428, R488). -/
def execQueueCtl (c : Cmd) (s : State) : Host.Outcome State Fault Refusal := .next (specQueueCtl.perform none c s)

/-! ## Enabling and disabling (R396, R419) -/

/-- The middle slots of a queue in the queue area: first and number (R410). -/
def State.middle (s : State) (q : Nat) : Nat × Nat := (s.rd (Reg.QCFG_AREA_BASE q), s.qcap q - 16)

/-- Does an enabled queue but `q` satisfy `f`? -/
def State.otherOn (s : State) (q : Nat) (f : Nat → Bool) : Bool := (List.range 16384).any (fun r => r ≠ q && s.qon r && f r)

/-- Is the ring address valid: there is one, and it is a multiple of the ring's size (R413)? -/
def State.ringOk (s : State) (q : Nat) : Bool := s.hasRing q && 4096 * s.rd (Reg.QCFG_RING_ADDR q) % (s.ringSize q * s.ringEntry q) = 0

/-- The rules of R419 for ENABLE = 1. -/
def State.enableOk (s : State) (q : Nat) : Bool :=
  let ty := s.qtype q
  let dl := s.rd (Reg.QCFG_CFG_DEPTH_LOG2 q)
  let rl := s.rd (Reg.QCFG_CFG_RING_LOG2 q)
  let ep := s.rd (Reg.QCFG_CFG_EP q)
  let m := s.middle q
  1 ≤ ty && ty ≤ 4 && 4 ≤ dl && dl ≤ 16 && 4 ≤ rl && rl ≤ 16 &&
    m.1 % 16 = 0 && (m.2 = 0 || m.1 + m.2 ≤ 1024 * s.qareaPages) &&
    (m.2 = 0 || !s.otherOn q (fun r => let k := s.middle r; k.2 != 0 && m.1 < k.1 + k.2 && k.1 < m.1 + m.2)) &&
    (if ty = QT.engine then (s.hasRing q || ep ≠ 0) && (!s.hasRing q || s.ringOk q) else s.ringOk q) &&
    (ep = 0 || (1024 ≤ ep && !s.otherOn q (fun r => s.rd (Reg.QCFG_CFG_EP r) = ep))) && (ty ≠ QT.fabric || ep ≠ 0) &&
    (ty ≠ QT.sq || s.isCq (s.queueFn q) (s.rd (Reg.QCFG_CFG_PAIR q))) &&
    (!s.bit (Reg.QCFG_CFG_CREDIT_EN q) || s.knotOwner (s.rd (Reg.QCFG_CFG_CREDIT_KNOT q)) = s.queueOwner q) &&
    (!s.bit (Reg.QCFG_IRQ_IRQ_EN q) || (if s.queueFn q = 0 then 8 ≤ s.rd (Reg.QCFG_IRQ_VECTOR q)
      else 1 ≤ s.rd (Reg.QCFG_IRQ_VECTOR q) && s.rd (Reg.QCFG_IRQ_VECTOR q) < 128))

/-- Record the code R419 refuses a write of a queue's registers with, if there is one. -/
def State.qrefused (q : Nat) (code : Option Code) (s : State) : State :=
  match code with
  | some c => s.qcode q c
  | none => s

/-- A write of a queue's registers by a function: another VF's queue is not reached, and a panel's queue is written only while the panel
is STOPPED; there the code with which R419 refuses the write is recorded too (R396, R406, R409, R419). -/
def State.qcfgWrite (fn q off : Nat) (code : Option Code) (f : State → State) (s : State) : State :=
  if 16384 ≤ q || (fn ≠ 0 && s.queueFn q ≠ fn) then s
  else match s.queueOwner q with
    | some p => if s.pst p = PS.stopped then f s else (s.qrefused q code).refusePanel p St.PANEL_NOT_STOPPED (0x800000 + 0x40 * q + off)
    | none => f s

/-- The code that refuses ENABLE = 1 (R419). -/
def State.enableCode (s : State) (q : Nat) : Option Code := if s.qon q || s.enableOk q then none else some St.QUEUE_CONFIG

/-- ENABLE = 1: the configuration is checked, and the queue starts (R419). -/
def State.qenable (q : Nat) (s : State) : State :=
  if s.qon q then s
  else match s.enableCode q with
    | some c => s.qcode q c
    | none => (s.wr (Reg.QCFG_CFG_ENABLE q) 1).flushHeld q

/-- QUEUE_ENABLE: function `fn` writes ENABLE = 1 (R396, R419). -/
def execQueueEnable (fn q : Nat) (s : State) : Host.Outcome State Fault Refusal :=
  .next (s.qcfgWrite fn q 0 (s.enableCode q) (State.qenable q))

/-- QUEUE_DISABLE: function `fn` writes ENABLE = 0: producer and consumer stop, indices and contents stay (R396, R419). -/
def execQueueDisable (fn q : Nat) (s : State) : Host.Outcome State Fault Refusal :=
  .next (s.qcfgWrite fn q 0 none (fun s => s.wr (Reg.QCFG_CFG_ENABLE q) 0))

/-! ## Packets for queue endpoints (R410, R415) -/

/-- The slots a packet occupies: its header and payload (R410). -/
def packetSlotList (p : Packet) : List (BitVec 512) :=
  let bs := p.bytes
  (List.range (cdiv bs.length 64)).map (fun i => BitVec.ofNat 512 (natOf (slice bs (64 * i) 64)))

/-- A packet dropped at a queue (R415, R418). -/
def State.qdrop (q : Nat) (s : State) : State := s.stick (Reg.QCFG_STAT_DROPS q) 1

/-- Accept a packet: every slot is written, and its arrival is counted (R159, R410, R415). -/
def State.qaccept (q : Nat) (p : Packet) (s : State) : State :=
  let s1 := (packetSlotList p).zipIdx.foldl (fun (s : State) v => s.qpush q v.1 (v.2 = 0) false) s
  s1.countArrival (epHost (s1.rd (Reg.QCFG_CFG_EP q))) p

/-- QUEUE_PACKET_ARRIVAL: the oldest packet ejected at the queue's endpoint is written into slots, or dropped: no room, an OP that is
neither WRITE nor CTRL, or a stopped queue (R410, R415, R418). -/
def execQueuePacketArrival (q : Nat) (s : State) : Host.Outcome State Fault Refusal :=
  .next (if s.qon q && (s.qtype q = QT.fabric || s.qtype q = QT.engine) && s.rd (Reg.QCFG_CFG_EP q) ≠ 0 then
      match s.ejected (epHost (s.rd (Reg.QCFG_CFG_EP q))) (fun _ => true) with
      | none => s
      | some (i, f) =>
        let s1 := s.dropFlight i
        if s.bit (Reg.QCFG_STAT_STOPPED q) then s1.qdrop q
        else if (f.pkt.op ≠ POp.write && f.pkt.op ≠ POp.ctrl) || s.qcap q < s.qused q + (packetSlotList f.pkt).length then
          (s1.qdrop q).qcode q St.QUEUE_OVERRUN
        else s1.qaccept q f.pkt
    else s)

end Sys2Proof.Machine
end

