-- ==== Sys2Proof/Machine/Twin.lean ====
section
/-! DEFINITION. Twin pairs: pairing, the mirror on both sides, heartbeats, and promotion (spec/19 R466 to R478). -/

namespace Sys2Proof.Machine

/-! ## The pair (R466 to R469, R478) -/

def State.setTws (v : Nat) (s : State) : State := s.wr Reg.FAB_TWIN_STAT_STATE v

/-- Panels that a pair mirrors (R466). -/
def State.mappedPanels (s : State) : List Nat := panels16.filter s.mapped

/-- The panel of this device that the peer's panel `a` is mapped to (R466). -/
def State.panelOfPeer (s : State) (a : Nat) : Option Nat := s.mappedPanels.find? (fun p => s.rd (Reg.FAB_TWIN_PMAP_PEER_PANEL p) = a)

/-- Nothing of a pair is left: outputs that wait leave, and the device is UNPAIRED or SOLO (R474, R478). -/
def State.leaveTwin (st : Nat) (s : State) : State :=
  let s1 := s.releaseAll (s.twin.held.map (fun h => h.2))
  let s2 := [Reg.FAB_TWIN_STAT_MISSES, Reg.FAB_TWIN_STAT_PEER_VALID].foldl (fun s f => s.wr f 0) (s1.setTws st)
  { s2 with twin := { doneTags := s2.twin.doneTags, tags := s2.twin.tags } }

/-- Send a heartbeat with a state (R469, R474, R478). -/
def State.sendBeat (st : Nat) (s : State) : State :=
  let acked := if s.tws = TW.standby || s.tws = TW.standbySync then s.twin.applied.getD 0 else s.rd Reg.FAB_TWIN_STAT_MSEQ_ACKED
  s.send (epHost 64) (s.twinPacket (mirrorPrefix 0 15 false 0 ++ bytesOf 1 st ++ bytesOf 4 acked))

/-- Is the device of a pair: its peer is known and it is neither UNPAIRED nor SOLO? -/
def State.paired (s : State) : Bool := 1 ≤ s.tws && s.tws ≤ 5 && s.bit Reg.FAB_TWIN_STAT_PEER_VALID

/-- Tell the peer that the device leaves on purpose (R478). -/
def State.sendLeave (s : State) : State := if s.paired then s.sendBeat 0 else s

/-! ## Pairing (R467, R477) -/

/-- PAIR_STANDBY: the mapped panels' spool tables are emptied for the image, and the device waits for it (R467, R468). -/
def State.pairStandby (s : State) : State :=
  if s.tws ≠ TW.unpaired && s.tws ≠ TW.solo then s
  else
    let s1 := s.leaveTwin TW.standbySync
    let s2 := s1.mappedPanels.foldl (fun s p =>
      (s.spoolsOf p).foldl (fun (s : State) i => s.setSpool i {}) (s.updServe p (fun v => { v with headOf := none }))) s1
    { s2 with twin := { doneTags := s2.twin.doneTags } }

/-- PAIR_STANDBY. -/
def execPairStandby (s : State) : Host.Outcome State Fault Refusal := .next s.pairStandby

/-- Is the peer on a twin port in service at this coordinate (R241, R243)? -/
def State.twinAt (s : State) (c : Nat) : Bool :=
  (s.group Role.twin).any (fun n => s.bit (Reg.FAB_NBR_VALID n) && s.rd (Reg.FAB_NBR_COORD n) = c)

/-- The partition entries of a pair agree (R467). -/
def State.partsAgree (s : State) (p : Nat) (q : TwinPanel) : Bool :=
  s.tenant p = q.tenant && s.rd (Reg.PNL_PART_RANGE_Q_BASE p) = q.qBase && s.rd (Reg.PNL_PART_RANGE_Q_COUNT p) = q.qCount &&
    s.rd (Reg.PNL_PART_HIST_SPOOL_BASE p) = q.spoolBase && s.rd (Reg.PNL_PART_HIST_SPOOL_COUNT p) = q.spoolCount &&
    s.rd (Reg.PNL_PART_HIST_HIST_PAGES p) = q.histPages

/-- The check of R467 that fails: 1 grade, 2 partition, 3 park area, 4 standby enabled, 5 peer. -/
def State.pairRefused (s : State) (peer : Option TwinPeer) : Option Nat :=
  match peer with
  | none => some 5
  | some w =>
    let pairs := s.mappedPanels.map (fun p => (p, w.panels.getD (s.rd (Reg.FAB_TWIN_PMAP_PEER_PANEL p)) {}))
    let pages (p : Nat) : Nat := s.rd (Reg.GSE_PARK_CFG_PAGES p)
    if w.grade ≠ s.rd Reg.DEV_GRADE_GRADE_CODE then some 1
    else if !pairs.all (fun v => s.partsAgree v.1 v.2) then some 2
    else if !pairs.all (fun v => pages v.1 ≠ 0 && pages v.1 = v.2.parkPages) then some 3
    else if pairs.any (fun v => v.2.enabled) then some 4
    else if !w.standby || w.names ≠ s.coord || !s.twinAt w.coord then some 5
    else none

/-- Read the history of every spool of the mapped panels, as the image will carry it; one whose page fails its check cancels its spool
(R363, R477). -/
def State.readHistories (s : State) : State :=
  s.mappedPanels.foldl (fun s p => (s.spoolsOf p).foldl (fun s i =>
    let r := s.histGet i 0 (s.spool i).tokens
    if r.2.1 && (s.spool i).st < SP.cancelling then r.2.2.cancelSpool p i St.HISTORY_LOST else r.2.2) s) s

/-- The resync image of a spool (R477). -/
def State.imageOf (s : State) (p i : Nat) : List MirrorRec :=
  let x := s.spool i
  streamRec p i x :: stopRecs p i x.stops ++ [spoolRec p i x (s.inStep p i)] ++ histRecs p i 0 (s.histGet i 0 x.tokens).1

/-- The resync image (R477): panels and members, spools, park runs, marks and tags. -/
def State.resync (s : State) : List MirrorRec :=
  let ps := s.mappedPanels
  ps.flatMap (fun p => s.panelRec p :: s.memberRecs p) ++ ps.flatMap (fun p => (s.spoolsOf p).flatMap (fun i => s.imageOf p i)) ++
    ps.flatMap (fun p => ((s.spoolsOf p).filter (fun i => 0 < (s.spool i).parkPages)).map (fun i =>
      parkRec p i 0 (s.spool i).parkHandle (s.spool i).parkPages)) ++
    ps.flatMap (fun p => (s.panelSqs p).flatMap (fun q =>
      markRec p q (s.queueMark q) :: (s.twin.doneTags.filter (fun t => t.q = q)).map (tagRec p)))

/-- The peer is known, and the heartbeats of the pair begin (R27, R474). -/
def State.meetPeer (c : Nat) (s : State) : State :=
  let s1 := (s.wr Reg.FAB_TWIN_STAT_PEER_COORD c).wr Reg.FAB_TWIN_STAT_PEER_VALID 1
  { s1 with twin := { s1.twin with beatAt := s1.armMultiple 10000 } }

/-- PAIR_ACTIVE: the checks of R467 on what the peer reports; a failure leaves both UNPAIRED with 0x0F01; otherwise the image is sent, as one
group (R467, R477). -/
def execPairActive (peer : Option TwinPeer) (s : State) : Host.Outcome State Fault Refusal :=
  .next (if s.tws ≠ TW.unpaired && s.tws ≠ TW.solo then s
    else
      let c := (peer.getD {}).coord
      let meet (s : State) : State := s.meetPeer c
      match s.pairRefused peer with
      | some k =>
        let s1 := if peer.isSome then (meet s).sendBeat 0 else s
        (s1.leaveTwin TW.unpaired).event 5 St.TWIN_PAIR_REFUSED none k 0
      | none =>
        let s1 := meet (s.leaveTwin TW.activeSync).readHistories
        let recs := s1.resync
        let s2 := s1.mappedPanels.foldl (fun s p => s.noteMarks p) (s1.sendGroup recs)
        if recs.isEmpty then s2.setTws TW.active
        else { s2 with twin := { s2.twin with syncEnd := some ((s2.twin.mseq + 2 ^ 32 - 1) % 2 ^ 32) } })

/-- UNPAIR: a LEAVE heartbeat, and the device is UNPAIRED (R478). -/
def State.unpair (s : State) : State := if s.tws = TW.unpaired then s else s.sendLeave.leaveTwin TW.unpaired

/-- UNPAIR. -/
def execUnpair (s : State) : Host.Outcome State Fault Refusal := .next s.unpair

/-- SOLO: an active or fenced device serves alone, and what it holds is released (R471, R474). -/
def State.goSolo (s : State) : State :=
  if s.tws = TW.fenced || s.tws = TW.active || s.tws = TW.activeSync then s.leaveTwin TW.solo else s

/-- SOLO. -/
def execSolo (s : State) : Host.Outcome State Fault Refusal := .next s.goSolo

/-! ## The active side (R471, R473) -/

/-- The next packet of a kind at the twin agent. -/
def State.takeTwin (kind : Nat → Bool) (f : Packet → State → State) (s : State) : State :=
  match s.ejected (epHost 64) (fun k => k.op = POp.ctrl && kind (bits (natOf (k.payload.take 16)) 32 8)) with
  | none => s
  | some (i, fl) =>
    let s1 := s.dropFlight i
    let c := feidCoord fl.pkt.src
    if s.tws = TW.standbySync && !s.bit Reg.FAB_TWIN_STAT_PEER_VALID then
      f fl.pkt (s1.meetPeer c)
    else if s.paired && s.rd Reg.FAB_TWIN_STAT_PEER_COORD = c then f fl.pkt s1
    else s1

/-- Groups up to `m` are acknowledged: what waited for them leaves, unless the device is fenced (R471, R474). -/
def State.acked (m : Nat) (s : State) : State :=
  let w := s.twin
  let hit := w.groups.filter (fun g => seqLe g.last m)
  let slow := hit.foldl (fun a g => max a (stDiff g.at_ s.now).toNat) (s.rd Reg.FAB_TWIN_LAG_MAX_NS)
  let go : Bool := s.tws ≠ TW.fenced
  let s1 := State.pruneTags { s with twin := { w with
    groups := w.groups.filter (fun g => !seqLe g.last m)
    held := if go then w.held.filter (fun h => !seqLe h.1 m) else w.held
    sentTags := w.sentTags.filter (fun t => !seqLe t.1 m) } }
  let s2 := (s1.wr Reg.FAB_TWIN_STAT_MSEQ_ACKED m).wr Reg.FAB_TWIN_LAG_MAX_NS (min 65535 slow)
  let s3 := if go then s2.releaseAll ((w.held.filter (fun h => seqLe h.1 m)).map (fun h => h.2)) else s2
  match w.syncEnd with
  | some e =>
    if seqLe e m && s3.tws = TW.activeSync then { s3.setTws TW.active with twin := { s3.twin with syncEnd := none } } else s3
  | none => s3

/-- MIRROR_ACK: the standby has applied every group up to an MSEQ: their output leaves, and marks that have moved are sent (R471,
R473). -/
def execMirrorAck (s : State) : Host.Outcome State Fault Refusal :=
  .next (s.takeTwin (· = 0) (fun k s =>
    if s.tws = TW.active || s.tws = TW.activeSync || s.tws = TW.fenced then
      s.mappedPanels.foldl (fun s p => s.mirrored p id) (s.acked (leAt k.payload 16 4))
    else s))

/-- MIRROR_LAG: the oldest group not yet counted late has waited 2 µs for its acknowledgement (R471). -/
def execMirrorLag (s : State) : Host.Outcome State Fault Refusal :=
  .next (match s.twin.groups.find? (fun g => !g.late) with
    | some g =>
      if reached s.now (g.at_ + 2000) then
        let gs := s.twin.groups.map (fun h => if h.last = g.last then { h with late := true } else h)
        (({ s with twin := { s.twin with groups := gs } }).stick Reg.FAB_TWIN_LAG_LATE 1).event 5 St.TWIN_MIRROR_LAG none g.last 0
      else s
    | none => s)

/-! ## The standby side (R470, R473) -/

/-- Stop entries in a STOPS record: their length bytes are not 0. -/
def stopsOf : Nat → List Byte → List (List Byte)
  | 0, _ => []
  | n + 1, b => let k := leAt b 0 1; if k = 0 then [] else slice b 8 k :: stopsOf n (b.drop 72)

/-- Hold history pages for `n` tokens. -/
def State.histHold (p i n : Nat) (s : State) : State := (s.histReserve p i n).getD s

/-- The final status of a spool that a mirrored entry shows to have ended: the entry holds no status, so it is read from what ended the
spool: a cancel, DROP, FINISH, or none of them (R338, R354; DEDUCED, log entry 68). -/
def State.finalOf (s : State) (y : Spool) : Code :=
  if y.cancelReq then (if y.dlPolicy = 0 && y.deadline ≠ 0 && reached s.now y.deadline then St.SPOOL_DEADLINE else St.SPOOL_CANCELLED)
  else if y.late && y.dlPolicy = 1 then St.SPOOL_LATE else St.OK

/-- The text of a spool's turn from the IDs of its tokens: the bytes that have left, those held back, the incomplete UTF-8 tail, and the
turn-end flags of its last token (R372 to R374). -/
def Spool.turnText (x : Spool) (t : Tokenizer) (ids : List Nat) : List Byte × List Byte × List Byte × Nat :=
  let z := ids.zipIdx.foldl (fun (a : List Byte × List Byte × Nat) k =>
    let r := x.tokenText t a.2.1 (x.turnStart + k.2) k.1
    (a.1 ++ r.1, r.2.1, r.2.2)) ([], [], 0)
  let u := utfRepair (z.2.2 ≠ 0) (z.1.length + 1) z.1
  (u.1, z.2.1, u.2, z.2.2)

/-- The bytes of a mirrored spool's stream from a position on, made again from its history, with what its turn holds back: the position, the
bytes, the raw bytes and the UTF-8 tail held back, and the turn-end flags of the last token (R475). In DONE nothing is held back (R374). -/
def State.streamOf (s : State) (p i : Nat) : Nat × List Byte × List Byte × List Byte × Nat :=
  let x := s.spool i
  let z := x.turnText (s.tokenizer p) (s.histGet i x.turnStart (x.tokens - x.turnStart)).1
  let rest := z.2.2.1 ++ z.2.1
  let out := if x.st = SP.done then x.turnLead ++ z.1 ++ (utfRepair true (rest.length + 1) rest).1 else x.turnLead ++ z.1
  (x.turnPos.getD (x.outPos.toNat - out.length), out, if x.st = SP.done then [] else z.2.1, if x.st = SP.done then [] else z.2.2.1, z.2.2.2)

/-- Apply a SPOOL record: the image replaces the entry; its own history pages stay (R470). Where a turn starts, the bytes of the stream that
the host has not acknowledged are kept (R475). -/
def State.applySpool (p i : Nat) (b : List Byte) (s : State) : State :=
  let x := s.spool i
  let y := Spool.ofImage b
  let same : Bool := x.st != SP.free && x.admitSeq == y.admitSeq
  let old := if same then s.streamOf p i else (x.outPos.toNat, [], [], [], 0)
  let at_ := max old.1 x.acked.toNat
  let turn : Bool := y.tokens = y.turnStart && !(same && x.turnStart = y.turnStart)
  if y.st = SP.free then s.setSpool i {}
  else
    s.setSpool i { y with
      panel := p, hist := x.hist, blocks := x.blocks, chain := x.chain, stops := x.stops, outAddr := x.outAddr, outBytes := x.outBytes, cq := x.cq
      outPos := x.outPos, acked := x.acked, parkPages := x.parkPages
      final := if same && SP.cancelling ≤ x.st then x.final else s.finalOf y
      turnPos := if turn then some at_ else if same then x.turnPos else none
      turnLead := if turn then old.2.1.drop (at_ - old.1) else if same then x.turnLead else [] }

/-- Apply a MEMBERS record: coordinates from a first device index. -/
def State.applyMembers (p : Nat) (b : List Byte) (s : State) : State :=
  let first := leAt b 0 2
  let n := min 200 ((sget (0, 0, 0, 0) s.twin.panels p).2.2.1 - first)
  let new := (List.range n).map (fun k => (first + k, leAt b (2 + 2 * k) 2))
  let old := (sget [] s.twin.members p).filter (fun m => m.1 < first || first + n ≤ m.1)
  { s with twin := { s.twin with members := sset [] s.twin.members p (old ++ new) } }

/-- Apply a QMARK record: MARK = M and RELEASE = M; the tags below M are dropped (R473). -/
def State.applyMark (q m : Nat) (s : State) : State :=
  let s1 := ((s.wr (Reg.QCFG_MARK_MARK q) m).wr (Reg.QCFG_MARK_MARK_VALID q) 1).setRelease q m
  { s1 with twin := { s1.twin with tags := s1.twin.tags.filter (fun t => t.q ≠ q || seqLe m t.i) } }

/-- Apply one record of a complete group (R469, R470). -/
def State.applyRecord (pl : List Byte) (s : State) : State :=
  let v := natOf (pl.take 16)
  let b := pl.drop 16
  match s.panelOfPeer (bits v 44 4) with
  | none => s
  | some p =>
    let i := leAt b 0 2
    match bits v 32 8 with
    | 1 => s.applySpool p i (slice b 2 128)
    | 2 => s.updSpool i (fun x => { x with
        cq := leAt b 2 2, outBytes := leAt b 4 4, outAddr := leAt b 8 8, outPos := BitVec.ofNat 64 (leAt b 16 8), acked := BitVec.ofNat 64 (leAt b 24 8) })
    | 3 => let l := stopsOf 6 (b.drop 2); s.updSpool i (fun x => { x with stops := if x.stops.length = 6 then x.stops ++ l else l })
    | 4 =>
      let n := leAt b 2 2
      (s.histHold p i (leAt b 4 4 + n)).histPut i (leAt b 4 4) ((List.range n).map (fun k => leAt b (8 + 4 * k) 4))
    | 5 => { s with twin := { s.twin with panels := sset (0, 0, 0, 0) s.twin.panels p (leAt b 0 8, leAt b 8 4, leAt b 12 2, leAt b 14 8) } }
    | 6 => s.applyMembers p b
    | 7 => s.updSpool i (fun x => if leAt b 2 1 = 0 then { x with parkHandle := leAt b 3 4, parkPages := leAt b 7 4 } else { x with parkPages := 0 })
    | 8 => s.applyMark i (leAt b 2 4)
    | 9 =>
      let e : TagEntry := ⟨i, leAt b 2 4, BitVec.ofNat 32 (leAt b 6 4), BitVec.ofNat 16 (leAt b 10 2), BitVec.ofNat 64 (leAt b 12 8)⟩
      { s with twin := { s.twin with tags := s.twin.tags ++ [e] } }
    | _ => s

/-- MSEQ of a record, and its LAST bit. -/
def recMseq (r : List Byte) : Nat := leAt r 0 4
def recLast (r : List Byte) : Bool := (natOf (r.take 16)).testBit 40

/-- The records in hand that may be applied: in MSEQ order without a gap, from the record after the last one applied, or from the first in
hand where none is, through the last that ends a group (R470). -/
def Twin.ready (w : Twin) : List (List Byte) :=
  let first := match w.applied with | some m => (m + 1) % 2 ^ 32 | none => (w.group.head?.map recMseq).getD 0
  let run := (w.group.zipIdx.takeWhile (fun x => recMseq x.1 = (first + x.2) % 2 ^ 32)).map (fun x => x.1)
  run.take ((run.zipIdx.foldl (fun n x => if recLast x.1 then x.2 + 1 else n) 0))

/-- Put a record in hand, in the order of its MSEQ; one applied before, or in hand already, is dropped. -/
def Twin.hold (w : Twin) (r : List Byte) : Twin :=
  let m := recMseq r
  if w.applied.any (fun a => seqLe m a) || w.group.any (fun x => recMseq x = m) then w
  else { w with group := w.group.filter (fun x => seqLe (recMseq x) m) ++ r :: w.group.filter (fun x => !seqLe (recMseq x) m) }

/-- Apply the complete groups in hand; each is acknowledged, and the image makes the standby current (R470, R477). -/
def State.applyGroups (s : State) : State :=
  let l := s.twin.ready
  l.foldl (fun s r =>
    let s1 := s.applyRecord r
    if recLast r then
      let s2 := { s1 with twin := { s1.twin with applied := some (recMseq r) } }
      (s2.send (epHost 64) (s2.twinPacket (mirrorPrefix 0 0 false 0 ++ bytesOf 4 (recMseq r)))).setTws TW.standby
    else s1) { s with twin := { s.twin with group := s.twin.group.drop l.length } }

/-- MIRROR_RECORD: the standby takes a record; groups are applied, in the order of their MSEQ, once their last record is here, and
acknowledged (R469, R470, R477). -/
def execMirrorRecord (s : State) : Host.Outcome State Fault Refusal :=
  .next (s.takeTwin (fun k => 1 ≤ k && k ≤ 9) (fun k s =>
    if s.tws ≠ TW.standby && s.tws ≠ TW.standbySync then s
    else State.applyGroups { s with twin := s.twin.hold k.payload }))

/-! ## Promotion (R475, R476) -/

/-- HEAD_MOVE of a new head (R475): its coordinate, the step counter, MODEL_ID (0 without a shadow) and the mirrored GEN; the spec gives
no layout. -/
def State.headMove (s : State) (p : Nat) : List Byte :=
  bytesOf 8 s.coord ++ bytesOf 8 (s.rd (Reg.PNL_STEP_COUNT p)) ++ bytesOf 8 (s.rd (Reg.PNL_WGT_MODEL_MODEL_ID p)) ++
    bytesOf 4 (sget (0, 0, 0, 0) s.twin.panels p).2.1

/-- Write bytes of a stream at a position of the spool's output ring. -/
def State.ringBytesAt (i pos : Nat) (bs : List Byte) (s : State) : State :=
  let x := s.spool i
  let off := pos % max 1 x.outBytes
  let k := min bs.length (x.outBytes - off)
  if bs.isEmpty || (s.dmaFail (x.panel + 1) (x.outAddr + off) k).isSome || (s.dmaFail (x.panel + 1) x.outAddr (bs.length - k)).isSome then s
  else
    let s1 := s.outWrite (some x.panel) (x.outAddr + off) (bs.take k)
    if k < bs.length then s1.outWrite (some x.panel) x.outAddr (bs.drop k) else s1

/-- The text of a spool's turn is made again from its history: no record carries the bytes held back, and the former head may have held
bytes below OUT_POS. Those from ACKED to OUT_POS are written again at their places, and those beyond wait for the ring (R363, R475; log
entry 68). -/
def State.rebuildText (p i : Nat) (s : State) : State :=
  let x := s.spool i
  if (s.serve p).tok.isNone then s
  else
    let r := s.histGet i x.turnStart (x.tokens - x.turnStart)
    if r.2.1 && x.st < SP.cancelling then r.2.2.cancelSpool p i St.HISTORY_LOST
    else
      let z := s.streamOf p i
      let from_ := max z.1 x.acked.toNat
      let s1 := r.2.2.ringBytesAt i from_ (slice z.2.1 (from_ - z.1) (x.outPos.toNat - from_))
      s1.updSpool i (fun y => { y with
        pend := z.2.1.drop (x.outPos.toNat - z.1), raw := z.2.2.1, utf := z.2.2.2.1
        final := if x.st = SP.done && x.final = St.SPOOL_LATE && z.2.2.2.2 ≠ 0 then St.OK else x.final })

/-- A spool is treated as having lost its KV (R475). -/
def State.promoteSpool (p i : Nat) (s : State) : State :=
  let s1 := (s.rebuildText p i).updSpool i (fun x => { x with
    inStepCopy := false, home := none, turnPos := none, turnLead := [] })
  let x := s1.spool i
  match x.st with
  | 1 => if x.kvTokens = 0 then s1 else s1.loseKv i SP.admitted
  | 2 => s1.loseKv i SP.prefill
  | 3 => s1.loseKv i SP.prefill
  | 4 => (s1.loseKv i SP.idle).toIdle i
  | 5 => s1.parkFail p i
  | 8 => (s1.unparkLost i).stick (Reg.GSE_PARK_STAT_MOVES_FAIL p) 1
  | 9 => s1.toDone i x.final
  | _ => s1

/-- A mirrored queue is read again from its mark (R475). -/
def State.promoteQueue (q : Nat) (s : State) : State :=
  (s.wr (Reg.QCFG_CONS_READ q) (s.rd (Reg.QCFG_MARK_MARK q))).wr (Reg.QCFG_CFG_AUTO_RELEASE q) 1

/-- A shadow shard of another generation than the mirrored one does not serve: it is unloaded, and launches are refused until host software
loads the shard (R476; DESIGN CHOICE, log entry 68). -/
def State.dropStale (p : Nat) (s : State) : State :=
  if s.wst p = WS.ready && s.rd (Reg.PNL_WGT_GEN_GEN p) ≠ (sget (0, 0, 0, 0) s.twin.panels p).2.1 then s.unloadModel p else s

/-- A panel's part in a promotion (R475, R476); its serving engine is enabled (DESIGN CHOICE, log entry 68). -/
def State.promotePanel (p : Nat) (s0 : State) : State :=
  let s := s0.dropStale p
  let m := sget (0, 0, 0, 0) s.twin.panels p
  let former := s.rd Reg.FAB_TWIN_STAT_PEER_COORD
  let members := (sget [] s.twin.members p).map (fun v => if v.1 = 0 then (0, s.coord) else v)
  let s1 := [(Reg.PNL_STEP_COUNT p, m.1), (Reg.PNL_WGT_STATE_HEAD p, 1), (Reg.PNL_WGT_STATE_HEAD_COORD p, s.coord),
    (Reg.PNL_WGT_STATE_DEVICES p, m.2.2.1), (Reg.PNL_WGT_STATE_DEV_INDEX p, 0), (Reg.GSE_PCFG_ENABLE p, 1)].foldl (fun s r => s.wr r.1 r.2) s
  let others := (members.filter (fun v => v.1 ≠ 0)).map (fun v => v.2)
  let s2 := (s1.updWgt p (fun w => { w with members := members })).updServe p (fun v => { v with
    steps := [], redo := [], launches := [], prevEnd := none, moveWait := others, headOf := some (m.2.1, m.2.2.1, members)
    staleHeads := former :: v.staleHeads.filter (fun c => c ≠ s.coord) })
  let s3 := others.foldl (fun (s : State) c => s.sendEngine p c 7 0 0 (s.headMove p)) s2
  let s4 := (s3.spoolsOf p).foldl (fun s i => s.promoteSpool p i) s3
  (s4.panelSqs p).foldl (fun s q => s.promoteQueue q) s4

/-- Promotion: SOLO, every mirrored panel in turn, and PF vector 5 (R475). -/
def State.promote (s : State) : State :=
  let w := s.twin
  let s1 := ({ s with twin := { w with group := [] } }.setTws TW.solo).stick Reg.FAB_TWIN_LAG_PROMOTIONS 1
  let s2 := s1.mappedPanels.foldl (fun s p => s.promotePanel p) s1
  let s3 := (s2.wr Reg.FAB_TWIN_STAT_MISSES 0).wr Reg.FAB_TWIN_STAT_PEER_VALID 0
  s3.event 5 St.TWIN_PROMOTED none (s.rd Reg.FAB_TWIN_STAT_PEER_COORD) 0

/-- A standby that has missed three heartbeats and waits promotes (R474, R475). -/
def State.promoteWaiting (s : State) : State := if s.tws = TW.standby && s.rd Reg.FAB_TWIN_STAT_MISSES = 3 then s.promote else s

/-- PROMOTE: FAB_TWIN_CTL.ACTION = PROMOTE on a standby that waits. -/
def execPromote (s : State) : Host.Outcome State Fault Refusal := .next s.promoteWaiting

/-! ## Heartbeats (R474, R478) -/

/-- The third consecutive miss. -/
def State.beatLost (s : State) : State :=
  let lost (s : State) : State := s.event 5 St.TWIN_HEARTBEAT_LOST none (s.rd Reg.FAB_TWIN_STAT_PEER_COORD) 0
  if s.tws = TW.active || s.tws = TW.activeSync then lost (s.setTws TW.fenced)
  else if s.tws = TW.standby then (if s.bit Reg.FAB_TWIN_CTL_AUTO_PROMOTE then s.promote else lost s)
  else if s.tws = TW.standbySync then lost (s.leaveTwin TW.unpaired)
  else s

/-- TWIN_HEARTBEAT: at a stitch that is a multiple of 10,000 a device of a pair sends its heartbeat and counts a miss if none has
arrived since the multiple before; a multiple the count stepped over is due too (R27, R474). -/
def execTwinHeartbeat (s : State) : Host.Outcome State Fault Refusal :=
  .next (if !s.paired || !s.multipleDue 10000 s.twin.beatAt || !s.inTurn Ev.heartbeat then s
    else
      let n := s.rd Reg.FAB_TWIN_STAT_MISSES
      let s1 := { s.sendBeat s.tws with twin := { s.twin with beat := false, beatAt := some (s.lastMultiple 10000) } }
      if s.twin.beat then s1.wr Reg.FAB_TWIN_STAT_MISSES 0
      else if n = 3 then s1
      else
        let s2 := s1.wr Reg.FAB_TWIN_STAT_MISSES (n + 1)
        if n = 2 then s2.beatLost else s2)

/-- A heartbeat with a state has arrived. -/
def State.heard (st : Nat) (s : State) : State :=
  let s1 := { s.wr Reg.FAB_TWIN_STAT_MISSES 0 with twin := { s.twin with beat := true } }
  let active : Bool := s.tws = TW.active || s.tws = TW.activeSync || s.tws = TW.fenced
  if st = 0 then s1.leaveTwin (if active then TW.solo else TW.unpaired)
  else if s.tws = TW.standbySync && st = TW.active then s1.setTws TW.standby
  else s1

/-- HEARTBEAT_RECEIVE: any heartbeat clears the misses; a LEAVE makes an active peer SOLO and a standby UNPAIRED (R474, R478). -/
def execHeartbeatReceive (s : State) : Host.Outcome State Fault Refusal :=
  .next (s.takeTwin (· = 15) (fun k s => s.heard (leAt k.payload 16 1)))

/-! ## The follower (R475) -/

/-- A follower moves to a new head: steps of the former head that have not launched are discarded, and it answers. -/
def State.moveHead (p : Nat) (k : Packet) (s : State) : State :=
  let b := k.payload.drop 16
  let old := s.rd (Reg.PNL_WGT_STATE_HEAD_COORD p)
  let new := leAt b 0 8 % 1024
  if (leAt b 16 8 ≠ 0 && leAt b 16 8 ≠ s.rd (Reg.PNL_WGT_MODEL_MODEL_ID p)) || leAt b 24 4 ≠ s.rd (Reg.PNL_WGT_GEN_GEN p) then s
  else
    let s1 := (s.wr (Reg.PNL_STEP_COUNT p) (leAt b 8 8)).wr (Reg.PNL_WGT_STATE_HEAD_COORD p) new
    let s2 := s1.updServe p (fun v => { v with
      launches := [], endedC := [], staleHeads := (if old = new then [] else [old]) ++ v.staleHeads.filter (fun c => c ≠ new && c ≠ old) })
    let s3 := s2.updServe p (fun v => { v with sentRetired := [], sentRecover := false })
    (s3.report p 0 RK.moved St.OK false).tellHead p

/-- HEAD_MOVE: a follower takes the message of a promoted head (R475). -/
def execHeadMove (panel : Nat) (s : State) : Host.Outcome State Fault Refusal := .next (s.takeMsg panel 7 (State.moveHead panel))

end Sys2Proof.Machine
end

