-- ==== Sys2Proof/Machine/Window.lean ====
section
/-! DEFINITION. The TILE_ and BOB_ windows: the site a window shows, who may access it, and the accesses themselves (spec/02 R68, R69,
R523; spec/04 R128; spec/20 R483, R488). -/

namespace Sys2Proof.Machine

/-! ## Debug authorisation and alteration (R483, R488) -/

/-- Does a function hold debug authorisation for a panel? -/
def State.authFor (s : State) (fn p : Nat) : Bool :=
  if fn = 0 then (s.rd Reg.DBG_AUTH_STAT_PF_AUTH).testBit p else fn = p + 1 && (s.rd Reg.DBG_AUTH_STAT_VF_AUTH).testBit p

/-- May a function access the memories of a site (R68)? -/
def State.windowPermitted (s : State) (fn t : Nat) : Bool :=
  match s.panelOfTile t with
  | none => fn = 0
  | some p => s.authFor fn p && (s.pst p = PS.stopped || s.bit (Reg.DBG_PNL_STAT_HALTED p))

/-! ## The tile window -/

/-- The site TILE_SEL names, when VALID is 1: SITE within 16 and its row not disabled; a VF sees its own panel's tiles only. -/
def State.tileSel (s : State) (fn : Nat) : Option Nat :=
  let row := s.rd Reg.TILE_SEL_FIELD * 16 + s.rd Reg.TILE_SEL_ROW
  let site := s.rd Reg.TILE_SEL_SITE
  let t := tileAt (rowCol row) site (rowY row)
  if site ≤ 16 && !s.rowDisabled row && (fn = 0 || s.panelOfTile t = some (fn - 1)) then some t else none

/-- The largest INDEX of each SPACE of TILE_MEM_ADDR (R523). -/
def tileMemMax (space : Nat) : Option Nat := [65535, 8191, 4095, 255, 31, 7][space]?

/-- The bytes a TILE_MEM_ read returns. -/
def Tile.window (x : Tile) (space i : Nat) : List Byte :=
  match space with
  | 0 => x.scr.word Space.scratch i
  | 1 => x.imem.word Space.imem i
  | 2 => x.tbytes (i / 128) (32 * (i % 128)) 32
  | 3 => ((x.vbytes (i / 8)).drop (32 * (i % 8))).take 32
  | 4 => bytesOf 8 (x.s i).toNat
  | _ => bytesOf 8 (x.p i).toNat

/-- Write a word with its check field as given (RAW_CHECK) or as computed. -/
def Mem.windowWrite (m : Mem) (space i : Nat) (data : List Byte) (raw : Option (BitVec 16)) : Mem :=
  let m1 := m.writeWord space i data
  match raw with
  | some c => { m1 with syn := sset 0 m1.syn i (c ^^^ wordCheck space i data) }
  | none => m1

/-- A TILE_MEM_ write: the word or register, and a register's presence bit (R69). -/
def Tile.windowWrite (x : Tile) (space i : Nat) (data : List Byte) (raw : Option (BitVec 16)) : Tile :=
  match space with
  | 0 => { x with scr := x.scr.windowWrite Space.scratch i data raw }
  | 1 => { x with imem := x.imem.windowWrite Space.imem i data raw }
  | 2 => ({ x with treg := ssetList 0 x.treg (32 * i) data }).present (kT (i / 128))
  | 3 => ({ x with vreg := ssetList 0 x.vreg (8 * i) ((List.range 8).map (fun k => BitVec.ofNat 32 (leAt data (4 * k) 4))) }).present
      (kV (i / 8))
  | 4 => (x.wrCell (kS i) (0, leAt data 0 8, 2 ^ 64 - 1)).present (kS i)
  | _ => (x.wrCell (kP i) (0, leAt data 0 8, 2 ^ 64 - 1)).present (kP i)

/-- End a TILE_MEM_ access with a status. -/
def State.tileMemEnd (st : Code) (s : State) : State :=
  (({ s with tileGo := none }).wr Reg.TILE_MEM_STAT_STATUS st.toNat).wr Reg.TILE_MEM_STAT_BUSY 0

/-- Write back the merge entries of a tile before a window access, each tested as a read-merge-write (R286, R287). -/
def State.tileFlush (t : Nat) (s : State) : State := (s.updTile t Tile.lsettle).spFlushAll t

/-- TILE_MEM_ACCESS: the access GO has started, checked in the order of R523, then performed (R60, R68, R69, R286, R488). The parts of
TILE_MEM_DATA0 to DATA3 that a register narrower than the word does not fill read 0 (DESIGN CHOICE, log entry 74). -/
def execTileMemAccess (s : State) : Host.Outcome State Fault Refusal :=
  .next (match s.tileGo with
    | none => s
    | some (fn, write, raw) =>
      match s.tileSel fn with
      | none => s.tileMemEnd St.TILE_WINDOW_SITE
      | some t =>
        let space := s.rd Reg.TILE_MEM_ADDR_SPACE
        let i := s.rd Reg.TILE_MEM_ADDR_INDEX
        if !s.windowPermitted fn t then s.tileMemEnd St.TILE_WINDOW_BUSY
        else match tileMemMax space with
          | none => s.tileMemEnd St.TILE_WINDOW_INDEX
          | some hi =>
            if i > hi then s.tileMemEnd St.TILE_WINDOW_INDEX
            else if !s.tileOn t then s.demand (domOfTile t)
            else
              let s1 := s.tileFlush t
              if write then
                let data := (List.range 4).flatMap (fun k => bytesOf 8 (s.rd (Reg.TILE_MEM_DATA_DATA k)))
                let c := if raw then some (BitVec.ofNat 16 (s.rd Reg.TILE_MEM_CHECK_CHECK)) else none
                let s2 := s1.updTile t (fun x => x.windowWrite space i data c)
                let s3 := match s.panelOfTile t with | some p => s2.alter p | none => s2
                s3.tileMemEnd St.OK
              else
                let x := s1.tile t
                let data := x.window space i
                let s2 := (List.range 4).foldl (fun s k => s.wr (Reg.TILE_MEM_DATA_DATA k) (leAt data (8 * k) 8)) s1
                let syn := if space = 0 then x.scr.syndrome Space.scratch t i else x.imem.syndrome Space.imem t i
                let tag := if space = 0 then Space.scratch else Space.imem
                let s3 := if space ≤ 1 then
                    (s2.wr Reg.TILE_MEM_CHECK_CHECK (wordCheck tag i data ^^^ syn).toNat).wr Reg.TILE_MEM_STAT_MISMATCH
                      (if syn = 0 then 0 else 1)
                  else s2
                s3.tileMemEnd St.OK)

/-! ## The bobbin window -/

/-- The bobbin BOB_SEL names, when VALID is 1: it has page IDs and its tier exists; a VF sees its own panel's only. -/
def State.bobSel (s : State) (fn : Nat) : Option Nat :=
  let row := s.rd Reg.BOB_SEL_FIELD * 16 + s.rd Reg.BOB_SEL_ROW
  let site := s.rd Reg.BOB_SEL_SITE
  let t := tileAt (rowCol row) site (rowY row)
  let b := bobAt (s.rd Reg.BOB_SEL_TIER) t
  if site ≤ 16 && s.bobActive b && (fn = 0 || s.panelOfTile t = some (fn - 1)) then some b else none

/-- The largest INDEX of each SPACE of BOB_MEM_ADDR (R128). -/
def bobMemMax (space : Nat) : Option Nat := [131071, 511, 1023, 65535][space]?

/-- The bytes a BOB_MEM_ read returns. -/
def Bobbin.window (x : Bobbin) (space i : Nat) : List Byte :=
  match space with
  | 0 => x.mem.word Space.stack i
  | 1 => bytesOf 8 (sget 0 x.list i).toNat
  | 2 => sgetList 0 x.act (64 * i) 64
  | _ => x.cb.word Space.codebook i

/-- A BOB_MEM_ write. -/
def Bobbin.windowWrite (x : Bobbin) (space i : Nat) (data : List Byte) (raw : Option (BitVec 16)) : Bobbin :=
  match space with
  | 0 => { x with mem := x.mem.windowWrite Space.stack i data raw }
  | 1 => { x with list := sset 0 x.list i (BitVec.ofNat 32 (leAt data 0 4)), listBad := runsDel x.listBad (i / 2) (i / 2 + 1) }
  | 2 => { x with act := ssetList 0 x.act (64 * i) data, actBad := runsDel x.actBad (8 * i) (8 * i + 8) }
  | _ => { x with cb := x.cb.writeWord Space.codebook i (data.take 8) }

/-- End a BOB_MEM_ access with a status. -/
def State.bobMemEnd (st : Code) (s : State) : State :=
  (({ s with bobGo := none }).wr Reg.BOB_MEM_STAT_STATUS st.toNat).wr Reg.BOB_MEM_STAT_BUSY 0

/-- BOB_MEM_ACCESS: the access GO has started, checked in the order of R128, then performed (R123, R128, R488). -/
def execBobMemAccess (s : State) : Host.Outcome State Fault Refusal :=
  .next (match s.bobGo with
    | none => s
    | some (fn, write, raw) =>
      match s.bobSel fn with
      | none => s.bobMemEnd St.BOB_WINDOW_SITE
      | some b =>
        let space := s.rd Reg.BOB_MEM_ADDR_SPACE
        let i := s.rd Reg.BOB_MEM_ADDR_INDEX
        if !s.windowPermitted fn (bobTile b) then s.bobMemEnd St.BOB_WINDOW_BUSY
        else match bobMemMax space with
          | none => s.bobMemEnd St.BOB_WINDOW_INDEX
          | some hi =>
            if i > hi then s.bobMemEnd St.BOB_WINDOW_INDEX
            else if !s.bobOn b then s.demand (domOfBob b)
            else
              let s1 := s.bobFlush b
              if write then
                let data := (List.range 8).flatMap (fun k => bytesOf 8 (s.rd (Reg.BOB_MEM_DATA_DATA k)))
                let c := if raw then some (BitVec.ofNat 16 (s.rd Reg.BOB_MEM_CHECK_CHECK)) else none
                let s2 := s1.updBob b (fun x => x.windowWrite space i data c)
                let s3 := match s.panelOfBob b with | some p => s2.alter p | none => s2
                s3.bobMemEnd St.OK
              else
                let x := s1.bob b
                let data := x.window space i
                let s2 := (List.range 8).foldl (fun s k => s.wr (Reg.BOB_MEM_DATA_DATA k) (leAt data (8 * k) 8)) s1
                let syn := x.mem.syndrome Space.stack b i
                let s3 := if space = 0 then
                    (s2.wr Reg.BOB_MEM_CHECK_CHECK (wordCheck Space.stack i data ^^^ syn).toNat).wr Reg.BOB_MEM_STAT_MISMATCH
                      (if syn = 0 then 0 else 1)
                  else if space = 3 then s2.wr Reg.BOB_MEM_CHECK_CHECK (wordCheck Space.codebook i data ^^^ x.cb.syndrome Space.codebook b i).toNat
                  else s2
                s3.bobMemEnd St.OK)

end Sys2Proof.Machine
end

