-- ==== Sys2Proof/Machine/Views.lean ====
section
/-! DEFINITION. Register fields that show state held elsewhere, computed when they are read: the TILE_ and BOB_ windows (R68, R128), knots
(R277), pages (R284), spools (R335), panels (R392), queues (R411, R412), ports, launches and loans. A field not listed here is read from its
own place. -/

namespace Sys2Proof.Machine

/-- One bit as a number. -/
def bitN (b : Bool) : Nat := if b then 1 else 0

/-! ## The windows (R68, R128, R406) -/

/-- Registers of the window that show one site: all but TILE_SEL and the TILE_MEM_ registers. -/
def tileShown (off : Nat) : Bool :=
  0x3C00008 ≤ off && off < 0x3E00000 && !(0x3C00200 ≤ off && off < 0x3C00300)

/-- Registers of the window that show one bobbin: all but BOB_SEL, the BOB_MEM_ registers and the device-wide ones. -/
def bobShown (off : Nat) : Bool :=
  0x3E00008 ≤ off && off < 0x3F00000 && !(0x3E00200 ≤ off && off < 0x3E00300)

/-- The tile or bobbin whose register a function reaches at an offset: none where the window shows none (VALID = 0). -/
def State.shown (s : State) (fn off : Nat) : Option Nat :=
  if tileShown off then s.tileSel fn else if bobShown off then s.bobSel fn else some 0

/-- TILE_STATUS.STATE. -/
def State.tileState (s : State) (t : Nat) : Nat :=
  let x := s.tile t
  if s.role t = 3 then 6
  else match s.panelOfTile t with
    | none => 5
    | some p =>
      if s.pst p = PS.faulted then 4
      else if x.halted || (x.run && s.bit (Reg.DBG_PNL_STAT_HALT_ARMED p) && s.rd (Reg.DBG_PNL_STAT_HALT_AT p) ≤ x.cy) then 3
      else if !x.run || (x.ended && x.sends.isEmpty) then 0
      else if x.held || s.power.braked.contains p || !s.treeOk p t then 2 else 1

/-- Code of the ramp (R48). -/
def Ramp.code : Ramp → Nat
  | .cold => 0
  | .up => 1
  | .warm => 2
  | .down => 3

/-- Computed fields of the TILE_ window. -/
def State.tileView (s : State) (t off : Nat) : List (Nat × Nat) :=
  let x := s.tile t
  let o := off - 0x3C00000
  if o = 0x08 then
    [(0, s.gridX t), (5, tileY t), (10, s.role t), (12, (s.panelOfTile t).getD 0), (16, bitN (s.panelOfTile t).isSome),
     (24, s.tenantOf (s.panelOfTile t))]
  else if o = 0x10 then [(0, s.tileState t), (3, x.pc), (16, x.cy)]
  else if o = 0x18 then [(0, x.ramp.code), (2, bitN x.ovf0), (3, bitN x.ovf1), (4, bitN x.latchValid)]
  else if 0x300 ≤ o ∧ o < 0x340 then [(0, bits x.mask.toNat (64 * ((o - 0x300) / 8)) 64)]
  else if 0x400 ≤ o ∧ o < 0x480 then
    let w := sget {} x.wins ((o - 0x400) / 8)
    [(0, bitN w.isOpen), (1, w.mode), (3, bitN w.dk), (4, w.knot), (20, min w.chunks 4095), (32, min w.dropped (2 ^ 32 - 1))]
  else if o = 0x480 then [(0, x.sends.length)]
  else []

/-- The opcode a bobbin runs: its step descriptor until its port end, else the service descriptor at the front of its queue; 0 when idle
(BOB_STATUS.OP). -/
def State.bobOp (s : State) (b : Nat) : Nat :=
  let x := s.bob b
  if (s.tile (bobTile b)).run && (s.tile (bobTile b)).cy / 2 < x.portFree then x.op
  else match x.svcQ with
    | d :: _ => bits d.d.toNat 0 8
    | [] => 0

/-- Computed fields of the BOB_ window. -/
def State.bobView (s : State) (b off : Nat) : List (Nat × Nat) :=
  let x := s.bob b
  if off = 0x3E00008 then [(0, s.bobIndex b), (12, 128 * s.bobIndex b)]
  else if off = 0x3E00010 then [(0, x.stepQ.length), (4, x.svcQ.length), (16, s.bobOp b), (24, x.merge.length)]
  else if off = 0x3E00018 then [(0, bitN x.ovf)]
  else []

/-! ## Launches, the network and the fabric -/

/-- Stitches of the armed launches of the device. -/
def State.armedLaunches (s : State) : List W64 := panels16.flatMap (fun p => (s.serve p).launches.map (fun l => l.l))

/-- The earliest of some stitches. -/
def earliest : List W64 → Option W64
  | [] => none
  | t :: r => some (r.foldl (fun a b => if stDiff a b < 0 then b else a) t)

/-- Computed fields of FAB_SELV_ATTACH_n (R207, R208). -/
def State.attachView (s : State) (n : Nat) : List (Nat × Nat) :=
  let p := s.attachPos n
  [(0, p.col), (1, p.site), (6, p.y), (11, bitN (p.y != (attachSite n).2.2.1)), (12, bitN (s.attached n))]

/-- Computed fields of FAB_PORTMAP_n: an absent port shows role 0xFF. -/
def State.portmapView (s : State) (n : Nat) : List (Nat × Nat) :=
  (if s.portPresent n then [] else [(0, 0xFF)]) ++ [(10, bitN (s.inService n))]

/-! ## Knots and pages -/

/-- Computed fields of DBG_KNOT_STAT for the selected knot. -/
def State.knotView (s : State) : List (Nat × Nat) :=
  let k := s.rd Reg.DBG_KNOT_SEL_KNOT
  let x := s.knot k
  [(0, x.count), (32, x.waiters.length), (44, bitN x.stuck), (45, bitN (s.knotOwner k).isSome), (46, (s.knotOwner k).getD 0),
   (50, s.tenantOf (s.knotOwner k)), (58, bitN (x.waiters.any (fun w => w.all)))]

/-- Computed fields of INT_PAGE_INFO for the selected page. -/
def State.pageView (s : State) : List (Nat × Nat) :=
  let g := s.rd Reg.INT_PAGE_SEL_PAGE
  match s.bobOfPage g with
  | none => []
  | some b =>
    [(0, bitN ((s.bob b).mem.mapBit (1024 * (g % 128)) (1024 * (g % 128) + 1024))), (1, bitN (s.integ.suspect.contains g)),
     (2, bitN (s.integ.refetch.contains g)), (3, bitN (s.integ.retired.contains g)), (4, bitN (s.integ.bobRetired.contains b))]

/-! ## Panels and the serving engine -/

/-- Computed fields of PNL_WGT_LTAG for the selected layer (R327). -/
def State.layerView (s : State) : List (Nat × Nat) :=
  let p := s.rd Reg.PNL_WGT_LSEL_PANEL
  let l := s.rd Reg.PNL_WGT_LSEL_LAYER
  let w := s.wgt p
  [(0, w.tag l), (32, bitN (w.journal.done.contains l)), (33, bitN (s.wst p != WS.none && l < s.rd (Reg.PNL_WGT_PROG_LAYERS p)))]

/-- A doubleword of the entry GSE_SPOOL_SEL selects (R335). -/
def State.spoolView (s : State) (d : Nat) : List (Nat × Nat) :=
  let i := s.rd Reg.GSE_SPOOL_SEL_SPOOL
  [(0, leAt ((s.spool i).image (s.inStep (s.spool i).panel i)) (8 * d) 8)]

/-- Computed fields of the per-panel GSE_ registers, at an offset within the panel's block. -/
def State.gseView (s : State) (p o : Nat) : List (Nat × Nat) :=
  if o = 0x08 then [(32, ((List.range (s.groups p)).map (fun g => (s.freeBlocks p g).length)).sum)]
  else if o = 0x10 then
    [(0, (s.serve p).steps.length), (19, ((s.spoolsOf p).filter (fun i => (s.spool i).st ≠ SP.done)).length), (34, bitN (s.isHead p))]
  else if o = 0x50 then [(0, s.parkFree p), (21, ((s.spoolsOf p).filter (fun i => (s.spool i).st = SP.parked)).length)]
  else if o = 0x58 then
    [(0, s.rd (Reg.PNL_PART_HIST_HIST_FIRST p)), (20, s.rd (Reg.PNL_PART_HIST_HIST_PAGES p)), (36, (s.freeHist p).length)]
  else []

/-- Computed fields of the PNL_ run-time registers: a halted or braked panel reads FROZEN, and FORCE_STRICT reads in STRICT (R392, R398,
R441, R485). -/
def State.pnlView (s : State) (p o : Nat) : List (Nat × Nat) :=
  if o = 0x00 then
    [(0, if (s.bit (Reg.DBG_PNL_STAT_HALTED p) || s.power.braked.contains p) && s.isLive p then PS.frozen else s.pst p), (3, bitN (s.strict p)),
     (4, bitN !(s.serve p).ctx.isEmpty)]
  else if o = 0x08 then [(0, bitN (s.strict p))]
  else if o = 0x20 then
    [(0, match (s.serve p).ctx with | c :: _ => c.1 | [] => 0), (21, if s.enabled p then s.ctxMax p else 0)]
  else []

/-! ## Queues (R411, R412) -/

/-- FULL, EMPTY and DEPTH of a queue; a slot reserved for a completion counts in DEPTH (R423). -/
def State.qdepth (s : State) (q : Nat) : Nat := s.qused q
def State.qfull (s : State) (q : Nat) : Bool := s.qdepth q == s.qcap q
def State.qempty (s : State) (q : Nat) : Bool := s.qread q == s.qprod q

/-! ## Every computed field -/

/-- The computed fields of the register at an offset, as (lowest bit, value); `w` is the site the window shows. -/
def State.view (s : State) (fn w off : Nat) : List (Nat × Nat) :=
  if 0x3C00000 ≤ off then
    (if off = 0x3C00000 then [(63, bitN (s.tileSel fn).isSome)]
     else if off = 0x3E00000 then [(63, bitN (s.bobSel fn).isSome)]
     else if tileShown off then s.tileView w off
     else if bobShown off then s.bobView w off else [])
  else if 0x200000 ≤ off ∧ off < 0x300000 then
    (if off = 0x200030 then [(0, ((earliest s.armedLaunches).getD 0).toNat)]
     else if off = 0x200038 then [(6, bitN !s.armedLaunches.isEmpty)] else [])
  else if 0x2080100 ≤ off ∧ off < 0x20801E0 then s.attachView ((off - 0x2080100) / 8)
  else if off = 0x2100008 then [(20, ((List.range 24).filter (fun n => s.bit (Reg.FAB_PORTMAP_MISWIRED n))).length)]
  else if 0x2100100 ≤ off ∧ off < 0x21001C0 then s.portmapView ((off - 0x2100100) / 8)
  else if 0x2180100 ≤ off ∧ off < 0x2180180 then
    [(5, bitN (s.shadowShard ((off - 0x2180100) / 8)))]
  else if off = 0x3900018 then s.knotView
  else if off = 0x3000038 then s.pageView
  else if off = 0x380018 then s.layerView
  else if 0x380100 ≤ off ∧ off < 0x380500 ∧ off % 64 = 0x10 then [(0, s.genShown ((off - 0x380100) / 64))]
  else if 0x1000040 ≤ off ∧ off < 0x10000C0 then s.spoolView ((off - 0x1000040) / 8)
  else if 0x1001000 ≤ off ∧ off < 0x1001800 then s.gseView ((off - 0x1001000) / 128) ((off - 0x1001000) % 128)
  else if 0x310000 ≤ off ∧ off < 0x310400 then s.pnlView ((off - 0x310000) / 64) ((off - 0x310000) % 64)
  else if 0x800000 ≤ off ∧ off < 0x900000 ∧ off % 64 = 0x30 then
    let q := (off - 0x800000) / 64
    [(0, bitN (s.qfull q)), (1, bitN (s.qempty q)), (3, s.qdepth q)]
  else if 0x100100 ≤ off ∧ off < 0x1003A0 then [(0, s.domState ((off - 0x100100) / 8))]
  else if off = 0x100030 then
    [(0, s.pool none), (16, s.lentRows.length), (23, bitN (s.rd Reg.STI_CLK_POINT == 2))]
  else []

/-- A disabled row's STI_MARGIN_n reads 0 in all fields and ignores writes. -/
def State.deadMargin (s : State) (off : Nat) : Bool := 0x200100 ≤ off && off < 0x200300 && s.rowDisabled ((off - 0x200100) / 8)

/-- The 64 bits of the register at an aligned BAR0 offset, as function `fn` reads it; an offset no chapter defines reads 0 (R404). -/
def State.regValue (s : State) (fn off : Nat) : Nat :=
  match s.shown fn off with
  | none => 0
  | some w =>
    if s.deadMargin off then 0
    else
      let v := s.view fn w off
      composeWith (fun f => ((v.find? (fun x => x.1 = f.lo)).map (fun x => x.2)).getD (if f.acc = .wo then 0 else s.rd f)) (regFields w off)

end Sys2Proof.Machine
end

