-- ==== Sys2Proof/Machine/Debug.lean ====
section
/-! DEFINITION. Debug authorisation, halts, snapshots and replay panels (spec/20 R483 to R494). -/

namespace Sys2Proof.Machine

/-! ## Authorisation (R483, R484) -/

/-- Change a function's bit for panel `p` in DBG_AUTH_STAT. -/
def State.setAuth (fn p : Nat) (on : Bool) (s : State) : State :=
  let f := if fn = 0 then Reg.DBG_AUTH_STAT_PF_AUTH else Reg.DBG_AUTH_STAT_VF_AUTH
  let v := s.rd f
  s.wr f (if on then v ||| 2 ^ p else if v.testBit p then v - 2 ^ p else v)

/-- A command of this chapter that needs authorisation for its panel: 0x1001 without it (R483). -/
def State.authCmd (j : Job) (f : Nat → State → State) (s : State) : State :=
  s.onPanel j (fun p s => if s.authFor j.cmd.fn p then f p s else s.complete j St.DBG_NOT_AUTHORISED)

/-- DBG_AUTH (0x0610). -/
def specDbgAuth : CmdSpec where
  opcode := 0x0610
  vf := true
  used := 0
  body := fun j s => s.onPanel j (fun p s =>
    if j.cmd.fn = 0 && !s.bit (Reg.PNL_PART_CFG_ADMIN_DEBUG p) then s.complete j St.DBG_NOT_AUTHORISED
    else (s.setAuth j.cmd.fn p true).complete j St.OK)

/-- DBG_AUTH: the issuing function holds debug authorisation for the panel; the PF only with ADMIN_DEBUG (R483, R484). -/
def execDbgAuth (c : Cmd) (s : State) : Host.Outcome State Fault Refusal := .next (specDbgAuth.perform none c s)

/-- DBG_DEAUTH (0x0611). -/
def specDbgDeauth : CmdSpec where
  opcode := 0x0611
  vf := true
  used := 0
  body := fun j s => s.onPanel j (fun p s => (s.setAuth j.cmd.fn p false).complete j St.OK)

/-- DBG_DEAUTH: the issuing function gives up its authorisation for the panel (R484). -/
def execDbgDeauth (c : Cmd) (s : State) : Host.Outcome State Fault Refusal := .next (specDbgDeauth.perform none c s)

/-! ## Halts (R485 to R487) -/

/-- Set or clear the halt of every tile of the running step. -/
def State.haltTiles (p : Nat) (on : Bool) (s : State) : State :=
  (s.runTiles p).foldl (fun (s : State) t => s.updTile t (fun x => { x with halted := on })) s

/-- A DBG_HALT that waits completes with a code. -/
def State.endHaltJob (p : Nat) (code : Code) (s : State) : State :=
  match (s.panel p).haltJob with
  | some j => (s.updPanel p (fun x => { x with haltJob := none })).completeJob j code 0 0
  | none => s

/-- Every tile has stopped: the panel is halted, and the DBG_HALT completes (R485). -/
def State.haltedNow (p : Nat) (s : State) : State :=
  let s1 := ((s.haltTiles p true).wr (Reg.DBG_PNL_STAT_HALTED p) 1).updPanel p (fun x => { x with haltAt := none })
  (s1.rearmHalt p).endHaltJob p St.OK

/-- The greatest STEP_CY of the running step's tiles. -/
def State.maxCy (s : State) (p : Nat) : Nat := (s.runTiles p).foldl (fun m t => max m (s.tile t).cy) 0

/-- Hold a DBG_HALT until its cycle; one that still waited completes with 0x1002. -/
def State.armHalt (p cy : Nat) (j : Job) (s : State) : State :=
  ((s.endHaltJob p St.DBG_STATE).updPanel p (fun x => { x with haltAt := some cy, haltJob := some j.id })).rearmHalt p

/-- DBG_HALT (0x0612). -/
def specDbgHalt : CmdSpec where
  opcode := 0x0612
  vf := true
  used := usedBytes 0 1 ||| usedBytes 8 8
  body := fun j s => s.authCmd j (fun p s =>
    let mode := j.cmd.fld 0 1
    let cy := j.cmd.fld 8 8
    if 1 < mode || 2 ^ 40 ≤ cy then s.complete j St.CMD_FORMAT
    else if !s.isLive p then s.complete j St.DBG_STATE
    else if s.bit (Reg.DBG_PNL_STAT_HALTED p) then s.complete j St.OK
    else if mode = 0 || cy < s.maxCy p then
      ((s.endHaltJob p St.DBG_STATE).updPanel p (fun x => { x with haltJob := some j.id })).haltedNow p
    else s.armHalt p cy j)

/-- DBG_HALT: halts the panel at once, or before step cycle CY; completes once every tile has stopped (R483, R485). -/
def execDbgHalt (c : Cmd) (s : State) : Host.Outcome State Fault Refusal := .next (specDbgHalt.perform none c s)

/-! ### Dump lists (R492) -/

/-- The bytes a dump record names, and whether its register is absent. -/
def State.dumpItem (s : State) (p : Nat) (b : List Byte) : List Byte × Bool :=
  match (s.panel p).run with
  | none => ([], false)
  | some r =>
    match s.pattern? p r.handle with
    | none => ([], false)
    | some pat =>
      let t := pat.tiles.getD (leAt b 5 1 * pat.gridW + leAt b 4 1) 0
      let x := s.tile t
      let k := leAt b 7 1
      match leAt b 6 1 with
      | 0 => (x.tbytes k 0 4096, x.isAbsent s.clk.edge (kT k))
      | 1 => (x.vbytes k, x.isAbsent s.clk.edge (kV k))
      | 2 => (bytesOf 8 (x.s k).toNat, x.isAbsent s.clk.edge (kS k))
      | 3 => (bytesOf 8 (x.p k).toNat, x.isAbsent s.clk.edge (kP k))
      | _ => (x.lsettle.spBytes (leAt b 8 4) (leAt b 12 4), false)

/-- LENGTH of a dump record. -/
def dumpLen (b : List Byte) : Nat := leAt b 12 4

/-- Write the next dump record of a replay. -/
def State.writeItem (p : Nat) (s : State) : State :=
  match (s.serve p).replay with
  | none => s
  | some r =>
    match r.items[r.written]? with
    | none => s
    | some b =>
      let a := r.dump + ((r.items.take r.written).map dumpLen).sum
      match s.dmaFail r.fn a (dumpLen b) with
      | some bad => (s.updServe p (fun v => { v with replay := none })).completeJob r.job St.DMA_ERROR bad 0
      | none =>
        let d := s.dumpItem p b
        (s.hostWrite a d.1).updServe p (fun v => { v with replay := some { r with
          written := r.written + 1, absent := if d.2 then r.absent ||| 2 ^ r.written else r.absent } })

/-- Write every dump record of the step cycle the panel has halted before. -/
def State.writeItems (p cy : Nat) (s : State) : State :=
  match s.replaying p with
  | none => s
  | some r => ((r.items.drop r.written).takeWhile (fun b => dumpCy b ≤ cy)).foldl (fun s _ => s.writeItem p) s

/-- Every tile has stopped before the armed cycle: the dump records of it are written, and the panel stays halted where a DBG_HALT or
DBG_RESUME asked for it, or goes on (R485, R486, R492). -/
def State.reachHalt (p : Nat) (s : State) : State :=
  let cy := s.rd (Reg.DBG_PNL_STAT_HALT_AT p)
  let s1 := s.writeItems p cy
  match (s1.panel p).haltAt with
  | some a => if a ≤ cy then s1.haltedNow p else (s1.haltTiles p false).rearmHalt p
  | none => (s1.haltTiles p false).rearmHalt p

/-- HALT_AT_CYCLE: tile `t` has reached the armed step cycle and stops; when every tile of the step has, the panel is halted (R485). -/
def execHaltAtCycle (t : Nat) (s : State) : Host.Outcome State Fault Refusal :=
  .next (match s.panelOfTile t with
    | none => s
    | some p =>
      let x := s.tile t
      if s.bit (Reg.DBG_PNL_STAT_HALT_ARMED p) && s.isLive p && (s.runTiles p).contains t && x.run && !x.halted &&
          s.rd (Reg.DBG_PNL_STAT_HALT_AT p) ≤ x.cy then
        let s1 := s.updTile t (fun x => { x with halted := true })
        if (s1.runTiles p).all (fun u => (s1.tile u).halted) then s1.reachHalt p else s1
      else s)

/-- DBG_RESUME (0x0613). -/
def specDbgResume : CmdSpec where
  opcode := 0x0613
  vf := true
  used := usedBytes 8 8
  body := fun j s => s.authCmd j (fun p s =>
    let n := j.cmd.fld 8 8
    if !s.bit (Reg.DBG_PNL_STAT_HALTED p) then s.complete j St.DBG_STATE
    else
      let at_ := if n = 0 then none else some (min (s.maxCy p + n) (2 ^ 40 - 1))
      let s1 := ((s.haltTiles p false).wr (Reg.DBG_PNL_STAT_HALTED p) 0).updPanel p (fun x => { x with haltAt := at_ })
      (s1.rearmHalt p).complete j St.OK)

/-- DBG_RESUME: every tile of a halted panel goes on, for N cycles or without limit (R486). -/
def execDbgResume (c : Cmd) (s : State) : Host.Outcome State Fault Refusal := .next (specDbgResume.perform none c s)

/-! ## The snapshot (R494) -/

/-- The counters of a tile in a snapshot: eight registers in their own layout. -/
def State.snapTile (s : State) (p t : Nat) : List Byte :=
  let win (off : Nat) : Nat :=
    let v := s.tileView t off
    composeWith (fun f => ((v.find? (fun x => x.1 = f.lo)).map (fun x => x.2)).getD (s.rd f)) (regFields t off)
  ([0x3C00100, 0x3C00108, 0x3C00110, 0x3C00118, 0x3C00020, 0x3C00030, 0x3C00018].map win ++
    [s.rd (Reg.DBG_PNL_HALT_CY_COUNT p) + s.rd (Reg.DBG_PNL_HALT_CY_OVF p) * 2 ^ 48]).flatMap (bytesOf 8)

/-- The snapshot of a panel. -/
def State.snapshot (s : State) (p : Nat) : List Byte :=
  bytesOf 8 s.now.toNat ++ bytesOf 8 (s.rd (Reg.PNL_STEP_COUNT p)) ++ bytesOf 48 (s.tilesOf p).length ++
    (s.tilesOf p).flatMap (s.snapTile p)

/-- DBG_SNAP (0x0614). -/
def specDbgSnap : CmdSpec where
  opcode := 0x0614
  vf := true
  used := usedBytes 0 8
  body := fun j s => s.onPanel j (fun p s => s.storeFor j (j.cmd.fld 0 8) (s.snapshot p) (fun s => s.complete j St.OK))

/-- DBG_SNAP: every tile counter of the panel, at one cycle, to host memory; no authorisation, no counter cleared (R494). -/
def execDbgSnap (c : Cmd) (s : State) : Host.Outcome State Fault Refusal := .next (specDbgSnap.perform none c s)

/-! ## Replay panels (R490 to R493) -/

/-- A replay in progress ends without its step. -/
def State.endReplay (p : Nat) (code : Code) (s : State) : State :=
  match (s.serve p).replay with
  | some r => (s.updServe p (fun v => { v with replay := none })).completeJob r.job code 0 0
  | none => s

/-- REPLAY_SET (0x0620). -/
def specReplaySet : CmdSpec where
  opcode := 0x0620
  vf := true
  used := usedBytes 0 1
  body := fun j s => s.authCmd j (fun p s => s.whileStopped j p (fun s =>
    if 1 < j.cmd.fld 0 1 then s.complete j St.CMD_FORMAT
    else
      let s1 := if j.cmd.fld 0 1 = 0 then s.endReplay p St.REPLAY_MODE else s
      (s1.wr (Reg.DBG_PNL_CTL_REPLAY p) (j.cmd.fld 0 1)).complete j St.OK))

/-- REPLAY_SET: puts a STOPPED panel into replay mode, or takes it out (R490). -/
def execReplaySet (c : Cmd) (s : State) : Host.Outcome State Fault Refusal := .next (specReplaySet.perform none c s)

/-- A command of a replay panel: 0x1005 outside replay mode. -/
def State.replayCmd (j : Job) (f : Nat → State → State) (s : State) : State :=
  s.authCmd j (fun p s => s.servingCmd j (fun _ s =>
    if s.bit (Reg.DBG_PNL_CTL_REPLAY p) then f p s else s.complete j St.REPLAY_MODE))

/-- REPLAY_INJECT (0x0621). -/
def specReplayInject : CmdSpec where
  opcode := 0x0621
  vf := true
  used := usedBytes 0 12
  body := fun j s => s.replayCmd j (fun p s =>
    let a := j.cmd.fld 0 8
    let pos := j.cmd.fld 8 4
    s.fetchFor j a 128 (fun e s =>
      let img := Spool.ofImage e
      if img.generation ≠ s.rd (Reg.PNL_WGT_GEN_GEN p) then s.complete j St.REPLAY_PARAM
      else if img.tokens ≤ pos then s.complete j St.REPLAY_HISTORY
      else match s.freeSpool p with
        | none => s.complete j St.SPOOL_TABLE_FULL
        | some i =>
          s.fetchFor j (a + 128) (4 * img.tokens) (fun h s =>
            let x : Spool :=
              { st := SP.admitted, panel := p, prio := img.prio, tag := img.tag, tokens := img.tokens, turnStart := img.turnStart
                maxNew := img.maxNew, seed := img.seed, generation := img.generation, sampler := img.sampler, admitSeq := s.admitSeq
                replayPos := some pos }
            let s1 := { s.setSpool i x with admitSeq := (s.admitSeq + 1) % 2 ^ 32 }
            match s1.histReserve p i img.tokens with
            | none => s.complete j St.HISTORY_FULL
            | some s2 => (s2.histPut i 0 ((List.range img.tokens).map (fun k => leAt h (4 * k) 4))).completeD j St.OK i 0)))

/-- REPLAY_INJECT: creates a replay spool from a spool image and its history (R491). -/
def execReplayInject (c : Cmd) (s : State) : Host.Outcome State Fault Refusal := .next (specReplayInject.perform none c s)

/-- Is a dump record valid for a pattern (R492)? -/
def dumpOk (pat : Pattern) (b : List Byte) : Bool :=
  let k := leAt b 7 1
  let a := leAt b 8 4
  let n := leAt b 12 4
  leAt b 4 1 < pat.gridW && leAt b 5 1 < pat.gridH &&
    (match leAt b 6 1 with
      | 0 => k < 32 && a == 0 && n == 4096
      | 1 => k < 32 && a == 0 && n == 256
      | 2 => k < 32 && a == 0 && n == 8
      | 3 => k < 8 && a == 0 && n == 8
      | 4 => k == 0 && 64 ≤ n && n % 64 == 0 && a + n ≤ 2097152
      | _ => false)

/-- Are the records of a dump list in ascending order of STEP_CY? -/
def dumpSorted : List (List Byte) → Bool
  | a :: b :: r => dumpCy a ≤ dumpCy b && dumpSorted (b :: r)
  | _ => true

/-- Prefill steps a replay needs before its step. -/
def State.prefillSteps (s : State) (p i pos : Nat) : Nat :=
  match s.topBucket p with
  | some b => cdiv (pos - (s.spool i).kvTokens) (max 1 (min b.chunk b.maxTokens))
  | none => 0

/-- Are the parameters of REPLAY_RUN valid (R492)? -/
def State.replayOk (s : State) (p i pos : Nat) (c : Cmd) (items : List (List Byte)) : Bool :=
  match (s.buckets p).find? (fun b => b.1 = c.fld 2 1) with
  | none => false
  | some b =>
    let k := s.prefillSteps p i pos
    c.fld 4 2 < b.2.maxSlots && 1 ≤ c.fld 16 4 && c.fld 16 4 ≤ b.2.chunk && c.fld 8 8 < 2 ^ 48 - 1 && s.groups p != 0 &&
      (k == 0 || s.rd (Reg.PNL_STEP_COUNT p) + k - 1 ≤ c.fld 8 8) &&
      (match s.pattern? p b.2.handle with | some pat => items.all (dumpOk pat) | none => false) && dumpSorted items &&
      (s.serve p).replay.isNone

/-- The spool's home group is that of the replayed slot; blocks of another group are released (R334, R492). -/
def State.homeFor (p i slot : Nat) (s : State) : State :=
  let g := slot % max 1 (s.groups p)
  let s1 := if (s.spool i).home = some g || (s.spool i).home.isNone then s else s.loseKv i SP.admitted
  s1.updSpool i (fun x => { x with home := some g })

/-- REPLAY_RUN (0x0622). -/
def specReplayRun : CmdSpec where
  opcode := 0x0622
  vf := true
  used := usedBytes 0 3 ||| usedBytes 4 2 ||| usedBytes 8 12 ||| usedBytes 24 17 ||| usedBits 41 0 1
  foreign := foreignSpool
  body := fun j s => s.replayCmd j (fun p s =>
    let c := j.cmd
    s.spoolCmd j (fun _ i s =>
      match (s.spool i).replayPos with
      | none => s.complete j St.SPOOL_RANGE
      | some pos =>
        if 64 < c.fld 40 1 then s.complete j St.REPLAY_PARAM
        else s.fetchFor j (c.fld 32 8) (16 * c.fld 40 1) (fun l s =>
          let items := (List.range (c.fld 40 1)).map (fun k => slice l (16 * k) 16)
          let s1 := s.homeFor p i (c.fld 4 2)
          if !s1.replayOk p i pos c items then s.complete j St.REPLAY_PARAM
          else if (s.spool i).tokens < pos + c.fld 16 4 then s.complete j St.REPLAY_HISTORY
          else
            let r : Replay :=
              { job := j.id, fn := c.fn, spool := i, bucket := c.fld 2 1, slot := c.fld 4 2, c := c.fld 8 8, n := c.fld 16 4
                dump := c.fld 24 8, sample := c.fld 41 1 = 1, items := items }
            s1.updServe p (fun v => { v with replay := some r }))))

/-- REPLAY_RUN: prefills a replay spool to its position and runs one step of it in the slot, bucket and step counter named, dumping what
the list asks for; the command completes at the commit of the step (R492). -/
def execReplayRun (c : Cmd) (s : State) : Host.Outcome State Fault Refusal := .next (specReplayRun.perform none c s)

end Sys2Proof.Machine
end

