-- ==== Sys2Proof/Machine/Fabric.lean ====
section
/-! DEFINITION. The hypercube fabric: identity frames, discovery, the check of each port, and the fabric's commands (spec/09 R239 to
R263). -/

namespace Sys2Proof.Machine

/-! ## Identity frames sent (R255) -/

/-- Payload of an identity frame of a port (R255). -/
def State.ident (s : State) (n : Nat) : List Byte :=
  let valid := s.rd Reg.FAB_STAT_DSTATE ≠ 0
  [2, BitVec.ofNat 8 n, BitVec.ofNat 8 (s.rd (Reg.FAB_PORTMAP_ROLE n)), BitVec.ofNat 8 (s.rd (Reg.FAB_PORTMAP_MEMBER n)),
    BitVec.ofNat 8 (s.part.pos % 16 + 16 * s.rd Reg.FAB_CTL_BOARD_DIMS), BitVec.ofNat 8 (s.rd Reg.FAB_STAT_DSTATE)]
  ++ bytesOf 2 (if valid then s.coord + 2 ^ 15 else 0) ++ bytesOf 8 (s.rd Reg.FAB_SERIAL_SERIAL)
  ++ bytesOf 8 (s.rd Reg.FAB_ROOT_SERIAL_SERIAL) ++ [BitVec.ofNat 8 (s.rd Reg.FAB_STAT_HOPS), BitVec.ofNat 8 (s.rd Reg.FAB_CTL_DIMS)]
  ++ bytesOf 2 (s.rd Reg.FAB_CTL_ROOT_COORD) ++ bytesOf 4 (s.rd Reg.FAB_STAT_EPOCH)

/-- IDENT_SEND: every IDENT_US, or at once when a field has changed, a trained port sends its identity frame (R255). -/
def execIdentSend (port : Nat) (s : State) : Host.Outcome State Fault Refusal :=
  let x := s.port port
  let due : Bool := match x.identAt with
    | none => true
    | some t => s.lasted t (max 1 (s.rd Reg.FAB_CTL_IDENT_US) * 1000) || x.lastIdent != s.ident port
  .next (if s.portPresent port && s.lst port = LS.active && due then
      s.setPort port { x with ctrlOut := x.ctrlOut ++ [s.ident port], identAt := some s.now, lastIdent := s.ident port }
    else s)

/-! ## Discovery (R256 to R259) -/

/-- A change to every port that is present. -/
def State.eachPort (f : Nat → State → State) (s : State) : State :=
  (List.range 24).foldl (fun s n => if s.portPresent n then f n s else s) s

/-- Every port's check result is forgotten: a new epoch begins (R258). -/
def State.newEpoch (s : State) : State := s.eachPort State.clearCheck

/-- Take a coordinate: a panel RUNNING or FROZEN over a change of it is faulted (R257, R259), and a stitch master
names the new one (R24). -/
def State.takeCoord (c hops : Nat) (s : State) : State :=
  let s1 := if c = s.coord then s
    else panels16.foldl (fun s p => if s.pst p = PS.running || s.pst p = PS.frozen then s.faultLog p St.FAB_COORD_CHANGED s.coord c
      else s) s
  let s0 := ((s1.wr Reg.FAB_STAT_COORD c).wr Reg.FAB_STAT_HOPS hops).wr Reg.FAB_STAT_DSTATE 1
  let s2 := if s0.bit Reg.STI_STATUS_IS_MASTER then s0.wr Reg.STI_STATUS_MASTER_COORD c else s0
  { s2 with fab := { s2.fab with
    cands := [], candAt := none, rootAt := none, checkAt := s2.now, posBad := [], posLogged := false, ldrShut := false } }

/-- Become discovery root (R256), and stitch master unless the host has set a role (R22). -/
def State.becomeRoot (s : State) : State :=
  let r := (((((s.newEpoch.wrap Reg.FAB_STAT_EPOCH 1).wr Reg.FAB_CTL_AS_ROOT 1).wr Reg.FAB_ROOT_SERIAL_SERIAL (s.rd Reg.FAB_SERIAL_SERIAL))).takeCoord
    (s.rd Reg.FAB_CTL_ROOT_COORD) 0)
  if r.clk.roleSet then r else r.setRole 1

/-- Give up coordinate and start over, following nobody yet: every port must pass its check again (R263). -/
def State.unassign (s : State) : State :=
  let s1 := ((s.eachPort State.uncheckPort).wr Reg.FAB_STAT_DSTATE 0).wr Reg.FAB_STAT_HOPS 0xFF
  { s1 with fab := { s1.fab with cands := [], candAt := none, rootAt := none, posBad := [], posLogged := false } }

/-- The device is the discovery root: one by command or strap that has begun its epoch (R256). -/
def State.isRoot (s : State) : Bool := s.bit Reg.FAB_CTL_AS_ROOT && s.rd Reg.FAB_ROOT_SERIAL_SERIAL = s.rd Reg.FAB_SERIAL_SERIAL

/-- Follow the root an identity frame names: its EPOCH, DIMS and BOARD_DIMS; a new epoch begins (R256, R258). A root that yields logs
0x0905. -/
def State.followRoot (n : Nat) (f : IdentFrame) (s : State) : State :=
  let s1 := if s.isRoot && f.rootSerial.toNat ≠ s.rd Reg.FAB_SERIAL_SERIAL then
      (s.event 4 St.FAB_ROOT_CONFLICT none n f.rootSerial.toNat).wr Reg.FAB_CTL_AS_ROOT 0
    else s
  let s2 := (((s1.newEpoch.unassign.wr Reg.FAB_ROOT_SERIAL_SERIAL f.rootSerial.toNat).wr Reg.FAB_STAT_EPOCH f.epoch.toNat).wr
    Reg.FAB_CTL_DIMS f.dims.toNat).wr Reg.FAB_CTL_BOARD_DIMS f.boardDims.toNat
  { s2 with fab := { s2.fab with rootAt := some s2.now } }

/-- Does the frame name a root to adopt: the first one heard, one of lower serial, or a newer epoch of the one followed (R256, R259)? -/
def State.adopts (s : State) (f : IdentFrame) : Bool :=
  let own := s.rd Reg.FAB_ROOT_SERIAL_SERIAL
  f.rootSerial ≠ 0 && (own = 0 || f.rootSerial.toNat < own ||
    (f.rootSerial.toNat = own && !s.isRoot && 0 < (f.epoch - BitVec.ofNat 32 (s.rd Reg.FAB_STAT_EPOCH)).toInt))

/-- The sender follows the root, EPOCH and DIMS this device follows (R257, R258). -/
def State.sameRoot (s : State) (f : IdentFrame) : Bool :=
  f.rootSerial.toNat = s.rd Reg.FAB_ROOT_SERIAL_SERIAL && f.epoch.toNat = s.rd Reg.FAB_STAT_EPOCH

/-- The candidate coordinate a frame offers (R257). -/
def State.candidate (s : State) (f : IdentFrame) : Option Nat :=
  let n := s.rd Reg.FAB_CTL_DIMS
  if f.role.toNat < 10 then some (f.coord.toNat ^^^ 2 ^ f.role.toNat)
  else if f.role.toNat = Role.complement then some (f.coord.toNat ^^^ (2 ^ n - 1))
  else none

/-- Ports that could offer a candidate: trained, with a dimension or complement role. -/
def State.offering (s : State) : List Nat :=
  (List.range 24).filter (fun n => s.lst n = LS.active && (match s.role? n with | some r => r < 10 || r = Role.complement | none => false))

/-- Complete every FAB_DISCOVER that waits (R263). -/
def State.endDiscover (code : Code) (s : State) : State :=
  let js := s.fab.jobs
  js.foldl (fun s j => s.completeJob j.1 code 0 0) { s with fab := { s.fab with jobs := [] } }

/-- Weigh a candidate at a device without a coordinate (R257). -/
def State.weigh (n : Nat) (f : IdentFrame) (s : State) : State :=
  let m := 2 ^ s.rd Reg.FAB_CTL_BOARD_DIMS
  match s.candidate f with
  | none => s
  | some c =>
    if !f.valid || s.role? n ≠ some f.role.toNat || s.rd (Reg.FAB_PORTMAP_MEMBER n) ≠ f.member.toNat || !s.sameRoot f
        || f.dims.toNat ≠ s.rd Reg.FAB_CTL_DIMS then s
    else if c % m = s.part.pos % m then
      let cs := s.fab.cands.filter (fun x => x.port ≠ n) ++ [⟨c, f.hops.toNat, f.coord.toNat, n⟩]
      { s with fab := { s.fab with cands := cs, candAt := some (s.fab.candAt.getD s.now), posBad := ndel n s.fab.posBad } }
    else
      let s1 := { s with fab := { s.fab with posBad := nins n s.fab.posBad } }
      if s1.fab.cands = [] && !s1.fab.posLogged && s1.offering.all (fun k => s1.fab.posBad.contains k) then
        (({ s1 with fab := { s1.fab with posLogged := true } }).event 4 St.FAB_POS_MISMATCH none n c).endDiscover St.FAB_POS_MISMATCH
      else s1

/-- The coordinate, and the role and member, a port's neighbour must show (R258). -/
def State.expected (s : State) (r : Nat) : Nat :=
  if r < 10 then s.coord ^^^ 2 ^ r else if r = Role.complement then s.coord ^^^ (2 ^ s.rd Reg.FAB_CTL_DIMS - 1) else 0

/-- Does the neighbour pass the check for a port of role `r` (R258)? -/
def State.passes (s : State) (n r : Nat) (f : IdentFrame) : Bool :=
  if r < 10 then f.coord.toNat = s.expected r && f.role.toNat = r && f.member.toNat = s.rd (Reg.FAB_PORTMAP_MEMBER n)
  else if r = Role.complement then f.coord.toNat = s.expected r && f.role.toNat = r
  else f.role.toNat = r

/-- Check a port against its neighbour's frame. Before a port has passed, a frame of a neighbour that has no coordinate yet, or follows
another root or epoch, decides nothing: the neighbour is still to be ASSIGNED (DEDUCED, log entry 19). -/
def State.checkPort (n : Nat) (f : IdentFrame) (s : State) : State :=
  match s.role? n with
  | none => s
  | some r =>
    let settled : Bool := r = Role.loader || (f.valid && s.sameRoot f)
    if s.bit (Reg.FAB_PORTMAP_MISWIRED n) || (!settled && !(s.port n).checked) then s
    else
      let s1 := (((s.wr (Reg.FAB_EXPECT_VALID n) 1).wr (Reg.FAB_EXPECT_COORD n) (s.expected r)).wr (Reg.FAB_EXPECT_ROLE n) r).wr
        (Reg.FAB_EXPECT_MEMBER n) (s.rd (Reg.FAB_PORTMAP_MEMBER n))
      if settled && s1.passes n r f then
        if (s1.port n).checked then s1 else (s1.updPort n (fun x => { x with checked := true })).checkChanged
      else ((((s1.updPort n (fun x => { x with checked := false })).wr (Reg.FAB_PORTMAP_MISWIRED n) 1)).event 4
        St.FAB_MISWIRE none n (s.expected r + 1024 * f.coord.toNat)).checkChanged

/-- IDENT_FRAME: the neighbour's identity is recorded; a lower root or a newer epoch is followed; a device without a coordinate weighs
the candidate, and one that has a coordinate checks the port (R243, R255 to R258). -/
def execIdentFrame (port : Nat) (f : IdentFrame) (s : State) : Host.Outcome State Fault Refusal :=
  .next (if !s.portPresent port || s.lst port ≠ LS.active then s
    else
      let s1 := (((((s.wr (Reg.FAB_NBR_COORD port) f.coord.toNat).wr (Reg.FAB_NBR_VALID port) (if f.valid then 1 else 0)).wr
        (Reg.FAB_NBR_PORT port) f.port.toNat).wr (Reg.FAB_NBR_ROLE port) f.role.toNat).wr (Reg.FAB_NBR_MEMBER port) f.member.toNat).wr
        (Reg.FAB_NBR_SER_SERIAL port) f.serial.toNat
      let s2 := if s1.adopts f then s1.followRoot port f else s1
      if s2.rd Reg.FAB_STAT_DSTATE = 0 then s2.weigh port f else s2.checkPort port f)

/-- STRAP_ROOT_START: a device strapped with ROOT_SEL_N low becomes root 1 ms after its first port is ACTIVE (R256). -/
def execStrapRootStart (s : State) : Host.Outcome State Fault Refusal :=
  .next (match s.fab.firstActive with
    | some t =>
      if s.part.rootSel && !s.fab.strapDone && s.lasted t 1000000 then
        { s with fab := { s.fab with strapDone := true } }.becomeRoot
      else s
    | none => s)

/-- Order of candidates: hops, then the sender's coordinate, then the port (R257). -/
def linkBefore (a b : Cand) : Bool :=
  a.hops < b.hops || (a.hops = b.hops && (a.sender < b.sender || (a.sender = b.sender && a.port < b.port)))

/-- The best of the candidates. -/
def bestCand : List Cand → Option Cand
  | [] => none
  | c :: r => match bestCand r with
    | some d => if linkBefore d c then some d else some c
    | none => some c

/-- COORD_ASSIGN: 20 µs after the first acceptable candidate the device takes the best one's coordinate (R257). -/
def execCoordAssign (s : State) : Host.Outcome State Fault Refusal :=
  .next (match s.fab.candAt, bestCand s.fab.cands with
    | some t, some c =>
      if s.rd Reg.FAB_STAT_DSTATE = 0 && s.lasted t 20000 then s.takeCoord c.coord (min 255 (c.hops + 1)) else s
    | _, _ => s)

/-- DISCOVERY_VERIFIED: no port check has changed for 1 ms: VERIFIED, and the endpoint FEIDs are written (R254, R258, R263). -/
def execDiscoveryVerified (s : State) : Host.Outcome State Fault Refusal :=
  .next (if s.rd Reg.FAB_STAT_DSTATE = 1 && s.lasted s.fab.checkAt 1000000 then
      let s1 := s.wr Reg.FAB_STAT_DSTATE 2
      { s1 with noc := { s1.noc with feidCoord := s1.coord } }.endDiscover St.OK
    else s)

/-- DISCOVERY_TIMEOUT: 10 ms after following a root without a coordinate, or after a FAB_DISCOVER without a root to follow (R257, R263). -/
def execDiscoveryTimeout (s : State) : Host.Outcome State Fault Refusal :=
  let noCoord : Bool := match s.fab.rootAt with
    | some t => s.rd Reg.FAB_STAT_DSTATE == 0 && s.lasted t 10000000
    | none => false
  let noRoot : Bool := s.rd Reg.FAB_ROOT_SERIAL_SERIAL == 0 && s.fab.jobs.any (fun j => s.lasted j.2 10000000)
  .next (if noCoord || noRoot then
      ({ s with fab := { s.fab with rootAt := none } }.event 4 St.FAB_DISCOVERY_TIMEOUT none 0 0).endDiscover St.FAB_DISCOVERY_TIMEOUT
    else s)

/-! ## Commands (R263) -/

/-- FAB_DISCOVER (0x0501). -/
def specFabDiscover : CmdSpec where
  opcode := 0x0501
  vf := false
  used := usedBytes 0 4 ||| usedBits 4 0 1
  body := fun j s =>
    let c := j.cmd
    let dims := c.fld 0 1
    let board := c.fld 1 1
    let root := c.fld 2 2
    if 10 < dims || 2 ^ dims ≤ root || 4 < board || dims < board then s.complete j St.FAB_BAD_PARAM
    else if panels16.any (fun p => s.pst p = PS.running || s.pst p = PS.frozen) then s.complete j St.FAB_BUSY
    else
      let s1 := ((s.wr Reg.FAB_CTL_DIMS dims).wr Reg.FAB_CTL_BOARD_DIMS board).wr Reg.FAB_CTL_ROOT_COORD root
      let s2 := { s1 with fab := { s1.fab with jobs := s1.fab.jobs ++ [(j.id, s1.now)] } }
      if c.fld 4 1 % 2 = 1 then s2.becomeRoot
      else
        let s3 := (s2.unassign.wr Reg.FAB_CTL_AS_ROOT 0).wr Reg.FAB_ROOT_SERIAL_SERIAL 0
        { s3 with fab := { s3.fab with ldrShut := true } }

/-- FAB_DISCOVER: sets the fabric parameters and becomes root or starts discovery over; it completes on VERIFIED or on failure (R256,
R259, R263). -/
def execFabDiscover (c : Cmd) (s : State) : Host.Outcome State Fault Refusal := .next (specFabDiscover.run c s)

/-- Is the value a role (R241)? -/
def isRole (r : Nat) : Bool := r < 10 || r = Role.complement || r = Role.twin || r = Role.loader || r = Role.unused

/-- FAB_PORT_ROLE (0x0502). A ROLE and MEMBER pair is held by one port at most, UNUSED ones too (R263). -/
def specFabPortRole : CmdSpec where
  opcode := 0x0502
  vf := false
  used := usedBytes 0 3
  absent := fun c s => !s.portPresent (c.fld 0 1)
  body := fun j s =>
    let n := j.cmd.fld 0 1
    let r := j.cmd.fld 1 1
    let m := j.cmd.fld 2 1
    let held := (List.range 24).any (fun k => k ≠ n && s.portPresent k && s.rd (Reg.FAB_PORTMAP_ROLE k) = r
      && s.rd (Reg.FAB_PORTMAP_MEMBER k) = m)
    if !isRole r || 4 ≤ m || held then s.complete j St.FAB_BAD_PARAM
    else if s.inService n then s.complete j St.FAB_BUSY
    else (((s.wr (Reg.FAB_PORTMAP_ROLE n) r).wr (Reg.FAB_PORTMAP_MEMBER n) m).uncheckPort n).complete j St.OK

/-- FAB_PORT_ROLE: sets a port's role and member index (R241, R263). -/
def execFabPortRole (c : Cmd) (s : State) : Host.Outcome State Fault Refusal := .next (specFabPortRole.run c s)

/-- FAB_PORT_SERVICE (0x0503). -/
def specFabPortService : CmdSpec where
  opcode := 0x0503
  vf := false
  used := usedBytes 0 2
  absent := fun c s => !s.portPresent (c.fld 0 1)
  body := fun j s =>
    let v := j.cmd.fld 1 1
    if 2 ≤ v then s.complete j St.FAB_BAD_PARAM
    else (s.wr (Reg.FAB_PORTMAP_REMOVED (j.cmd.fld 0 1)) (1 - v)).complete j St.OK

/-- FAB_PORT_SERVICE: removes a port from service, or restores it (R243, R263). -/
def execFabPortService (c : Cmd) (s : State) : Host.Outcome State Fault Refusal := .next (specFabPortService.run c s)

end Sys2Proof.Machine
end

