-- ==== Sys2Proof/Machine/Security.lean ====
section
/-! DEFINITION. Firmware updates, the staged partition, fuses and attestation (spec/18 R461 to R465). -/

namespace Sys2Proof.Machine

/-- FW_UPDATE, PART_STAGE, FW_SVN_COMMIT and OWNER_KEY_FUSE: one that meets a firmware update in progress is refused (R461). -/
def State.whileIdle (j : Job) (f : State → State) (s : State) : State :=
  if s.boot.update.isSome then s.complete j St.SEC_BUSY else f s

/-! ## FW_UPDATE (R461, R462) -/

/-- FW_UPDATE (0x0801). -/
def specFwUpdate : CmdSpec where
  opcode := 0x0801
  vf := false
  used := usedBytes 0 12
  body := fun j s => s.whileIdle j (fun s =>
    s.fetchFor j (j.cmd.fld 0 8) (j.cmd.fld 8 4) (fun img s =>
      let code := s.imageCheck img
      if code ≠ St.OK then s.complete j code
      else if !s.boot.flashOk then s.complete j St.FLASH_ERROR
      else
        let u : FwJob := ⟨j.id, j.cmd.fn, j.cmd.fld 0 8, j.cmd.fld 8 4, sha384 (imageBytes img)⟩
        let s1 := s.flashErase 0 partRegion
        { s1 with boot := { s1.boot with update := some u } }))

/-- FW_UPDATE: verifies an image in host memory and erases the flash slot; the slot is programmed and read back afterwards, and the running
firmware goes on (R451, R462). -/
def execFwUpdate (c : Cmd) (s : State) : Host.Outcome State Fault Refusal := .next (specFwUpdate.perform none c s)

/-! ## PART_STAGE, FW_SVN_COMMIT, OWNER_KEY_FUSE (R463) -/

/-- PART_STAGE (0x0804). -/
def specPartStage : CmdSpec where
  opcode := 0x0804
  vf := false
  used := usedBytes 0 12 ||| usedBits 12 0 1
  body := fun j s => s.whileIdle j (fun s =>
    if j.cmd.fld 8 4 ≠ 2336 then s.complete j St.CMD_FORMAT
    else s.fetchFor j (j.cmd.fld 0 8) 2336 (fun m s =>
      let code := s.partCheck m
      if code ≠ St.OK then s.complete j code
      else
        let s1 := { s with boot := { s.boot with staged := some m } }
        if j.cmd.fld 12 1 = 0 then s1.complete j St.OK
        else if s.flashBad then s1.complete j St.FLASH_ERROR
        else (s1.flashWrite partRegion m).complete j St.OK))

/-- PART_STAGE: checks a partition manifest and stages it for the next warm reset; with PERSIST it is also written to flash (R388, R389,
R463). -/
def execPartStage (c : Cmd) (s : State) : Host.Outcome State Fault Refusal := .next (specPartStage.perform none c s)

/-- FW_SVN_COMMIT (0x0805). -/
def specFwSvnCommit : CmdSpec where
  opcode := 0x0805
  vf := false
  used := 0
  body := fun j s => s.whileIdle j (fun s =>
    ({ s with boot := { s.boot with newSvn := some (s.rd Reg.DEV_BOOT_STAT_IMAGE_SVN) } }).complete j St.OK)

/-- FW_SVN_COMMIT: SVN_MIN becomes the running image's SVN at the next reset (R463). -/
def execFwSvnCommit (c : Cmd) (s : State) : Host.Outcome State Fault Refusal := .next (specFwSvnCommit.perform none c s)

/-- OWNER_KEY_FUSE (0x0806). -/
def specOwnerKeyFuse : CmdSpec where
  opcode := 0x0806
  vf := false
  used := usedBytes 0 48
  body := fun j s => s.whileIdle j (fun s =>
    if s.ownerFused || s.boot.newOwner.isSome then s.complete j St.FUSE_REFUSED
    else ({ s with boot := { s.boot with newOwner := some (bytesOf 48 j.cmd.par.toNat) } }).complete j St.OK)

/-- OWNER_KEY_FUSE: programs the owner key hash, once; it takes effect at the next reset (R463). -/
def execOwnerKeyFuse (c : Cmd) (s : State) : Host.Outcome State Fault Refusal := .next (specOwnerKeyFuse.perform none c s)

/-! ## Attestation (R464, R465) -/

/-- 48 bytes of a digest, or zero. -/
def digestOr0 (on : Bool) (d : BitVec 384) : List Byte := if on then bytesBE 48 d.toNat else zeros 48

/-- The record of a reported panel (R465). -/
def State.attestPanel (s : State) (p : Nat) : List Byte :=
  let pats := (s.panel p).patterns
  let w := s.wst p
  let refit : Bool := w == WS.refit || w == WS.stopped
  bytesOf 1 p ++ bytesOf 1 (s.tenant p) ++ bytesOf 1 pats.length ++ bytesOf 1 w ++ bytesOf 4 (s.genShown p) ++
    bytesOf 4 (s.rd (Reg.PNL_WGT_GEN_NEW_GEN p)) ++ zeros 4 ++ digestOr0 (w == WS.ready || refit) (s.wgt p).digest ++
    digestOr0 refit (s.wgt p).journal.digest ++
    (match (s.serve p).tok with | some t => bytesBE 48 t.digest.toNat | none => zeros 48) ++
    pats.flatMap (fun v => bytesOf 8 v.1 ++ bytesBE 48 v.2.digest.toNat)

/-- Does any function hold debug authorisation for a panel? -/
def State.debugOn (s : State) (p : Nat) : Bool :=
  (s.rd Reg.DBG_AUTH_STAT_VF_AUTH).testBit p || (s.rd Reg.DBG_AUTH_STAT_PF_AUTH).testBit p

/-- FLAGS of a report. -/
def State.attestFlags (s : State) (vf : Bool) (ps : List Nat) : Nat :=
  bitN s.ownerFused + 2 * s.rd Reg.DEV_LOCK_STAT_LOCKED + 4 * bitN vf + 8 * s.rd Reg.DEV_FUSE_STAT_JTAG_DBG_DIS +
    16 * bitN (ps.any s.debugOn) + 32 * s.rd Reg.DEV_BOOT_STAT_SOURCE

/-- The private scalar of the identity key, which no register, command or debug path reads (R464). -/
def identityScalar : Nat :=
  natOfBE (hmac384 (bytesBE 48 Config.identitySeed.toNat) ("civolor-identity".toList.map (fun c => BitVec.ofNat 8 c.toNat))) % (bpQ - 1) + 1

/-- A report: the header, a record for each panel, and the identity key's ECDSA signature over SHA-384 of all that precedes it; its nonce,
from 1 to n − 1, is a free value (R465, log entry 67). -/
def State.attestReport (s : State) (vf : Bool) (ps : List Nat) (nonce : List Byte) : List Byte :=
  let recs := ps.flatMap s.attestPanel
  let part := match s.boot.manifest with
    | some m => sha384 m ++ sha384 (pmKey m)
    | none => zeros 96
  let head := bytesOf 4 0x54535441 ++ bytesOf 2 1 ++ bytesOf 2 (s.attestFlags vf ps) ++ bytesOf 8 (s.rd Reg.FAB_SERIAL_SERIAL) ++
    bytesOf 1 (s.rd Reg.DEV_GRADE_GRADE_CODE) ++ bytesOf 1 (s.rd Reg.DEV_ID_STEPPING) ++ bytesOf 1 ps.length ++ zeros 1 ++
    bytesOf 4 (s.rd Reg.DEV_BOOT_STAT_IMAGE_SVN) ++ bytesOf 8 s.now.toNat ++ nonce ++ (List.range 48).map Config.romMeasByte ++
    s.rdHash Reg.DEV_FW_DIGEST_HASH ++ part ++ bytesOf 4 (272 + recs.length + 96) ++ zeros 12
  head ++ recs ++ ecdsaSign identityScalar (Config.signatureNonce s.free % (bpQ - 1) + 1) (head ++ recs)

/-- ATTEST (0x0802). -/
def specAttest : CmdSpec where
  opcode := 0x0802
  vf := true
  used := usedBytes 0 42
  body := fun j s =>
    let c := j.cmd
    if c.fn ≠ 0 && c.fld 40 2 ≠ 0 then s.complete j St.CMD_FORMAT
    else
      let ps := if c.fn ≠ 0 then [c.fn - 1] else panels16.filter (fun p => (c.fld 40 2).testBit p && s.pst p ≠ PS.empty)
      let r := s.attestReport (c.fn ≠ 0) ps (bytesOf 32 (c.fld 8 32))
      s.drawn.storeFor j (c.fld 0 8) r (fun s => s.completeD j St.OK r.length 0)

/-- ATTEST: writes a signed report of the device and of the panels asked for (R465). -/
def execAttest (c : Cmd) (s : State) : Host.Outcome State Fault Refusal := .next (specAttest.perform none c s)

/-- The device's certificate: the CA's, for its FAB_SERIAL and its public key (R464). -/
def State.certBytes (s : State) : List Byte :=
  let serial := s.rd Reg.FAB_SERIAL_SERIAL
  let key := ecPublic identityScalar
  (List.range (min (Config.certLength serial key) 1536)).map (Config.certByte serial key)

/-- ATTEST_CERT (0x0803). -/
def specAttestCert : CmdSpec where
  opcode := 0x0803
  vf := true
  used := usedBytes 0 8
  body := fun j s => s.storeFor j (j.cmd.fld 0 8) s.certBytes (fun t => t.completeD j St.OK s.certBytes.length 0)

/-- ATTEST_CERT: writes the device's certificate and returns its length (R464). -/
def execAttestCert (c : Cmd) (s : State) : Host.Outcome State Fault Refusal := .next (specAttestCert.perform none c s)

end Sys2Proof.Machine
end

