-- ==== Sys2Proof/Machine/HostReset.lean ====
section
/-! DEFINITION. STITCH_SET, and the resets that the host side brings about: DEV_RESET, PERST_N and function-level resets (spec/01 R25,
spec/16 R401, R402, R420, spec/18 R458, R459, spec/19 R478). -/

namespace Sys2Proof.Machine

/-! ## STITCH_SET (R25, R26) -/

/-- Does a panel hold an armed launch, a refit barrier still ahead, a request deadline or a park expiry? -/
def State.panelArmed (s : State) (p : Nat) : Bool :=
  !(s.serve p).launches.isEmpty || (s.wst p == WS.refit && !(s.wgt p).barrierHit) ||
    (s.spoolsOf p).any (fun i =>
      let x := s.spool i
      (x.deadline ≠ 0 && !x.dlDone && x.st < SP.cancelling) || x.st == SP.parked)

/-- Is a stitch-scheduled event armed: one of R26 but for the governor's periodic decisions, or a change window? -/
def State.stitchArmed (s : State) : Bool :=
  panels16.any s.panelArmed || s.noc.swapJob.isSome || s.bit Reg.STI_CLK_PEND || s.clk.trimAt.isSome || s.paired ||
    s.knots.any (fun k => k.2.waiters.any (fun w => w.timeout.isSome))

/-- STITCH_SET (0x0111). -/
def specStitchSet : CmdSpec where
  opcode := 0x0111
  vf := false
  used := usedBytes 0 8
  body := fun j s =>
    if s.rd Reg.STI_CTL_ROLE = 1 && s.rd Reg.STI_STATUS_STATE = 0 && !s.stitchArmed then
      (s.stepCount (BitVec.ofNat 64 (j.cmd.fld 0 8))).complete j St.OK
    else s.complete j St.STITCH_SET_REFUSED

/-- STITCH_SET: writes STI_COUNT of a FREERUN master with no armed event (R25). -/
def execStitchSet (c : Cmd) (s : State) : Host.Outcome State Fault Refusal := .next (specStitchSet.perform none c s)

/-! ## DEV_RESET (R458, R459, R478) -/

/-- DEV_RESET (0x0101). -/
def specDevReset : CmdSpec where
  opcode := 0x0101
  vf := false
  used := usedBytes 0 1
  body := fun j s =>
    let k := j.cmd.fld 0 1
    if 1 < k then s.complete j St.CMD_FORMAT
    else
      let s1 := s.unpair
      let e := (entryBits j.cmd.tag St.OK j.cmd.sq false 0 0).toNat % 2 ^ 63
      ({ s1 with boot := { s1.boot with resetWait := s1.boot.resetWait ++ [(j.cq, e, k == 1)] } }).complete j St.OK

/-- DEV_RESET: completes, and a warm or cold reset begins 100 µs after the completion is written to its ring; a paired device tells its peer
that it leaves, and is of the pair no longer (R458, R459, R478). -/
def execDevReset (c : Cmd) (s : State) : Host.Outcome State Fault Refusal := .next (specDevReset.perform none c s)

/-- DEV_RESET_FIRE: a reset that DEV_RESET scheduled is due, and begins (R458, R460). -/
def execDevResetFire (s : State) : Host.Outcome State Fault Refusal :=
  .next (match s.boot.resets.find? (fun r => reached s.now r.1) with
    | none => s
    | some r =>
      let s1 := { s with boot := { s.boot with resets := s.boot.resets.erase r } }
      if r.2 then s1.coldReset 3 else s1.warmReset 3 0)

/-! ## PERST_N and FLR (R401, R402, R420, R484) -/

/-- ENABLE = 0 on every queue with a host-memory ring; indices and contents stay (R401). -/
def State.stopRings (s : State) : State :=
  { s with csr := s.csr.filter (fun e => !(isEnableKey e.1 && s.hasRing ((e.1 / 64 - 0x800000) / 0x40))) }

/-- PERST: PERST_N has been low for longer than its glitch filter's 100 ns (R504, log entry 88): the PCIe interface, the configuration space
of every function and every MSI-X table are reset, and queues with a ring stop (R401). -/
def execPerst (s : State) : Host.Outcome State Fault Refusal := .next { s.stopRings with fns := [] }

/-- Packets a queue holds from READ. -/
def State.packetsHeld (s : State) (q : Nat) : Nat :=
  ((List.range (d32 (s.qprod q) (s.qread q))).filter (fun k => (s.queue q).starts.contains ((s.qread q + k) % 2 ^ 32 % s.qcap q))).length

/-- A queue of a panel at an FLR of its VF: it stops, its indices are 0, and its packets are discarded and counted (R402). -/
def State.flrQueue (q : Nat) (s : State) : State :=
  let s1 := (s.stick (Reg.QCFG_STAT_DROPS q) (s.packetsHeld q)).wr (Reg.QCFG_CFG_ENABLE q) 0
  let s2 := [Reg.QCFG_PROD_PROD q, Reg.QCFG_PROD_HOST q, Reg.QCFG_CONS_READ q, Reg.QCFG_CONS_RELEASE q, Reg.QCFG_MARK_MARK q].foldl
    (fun s f => s.wr f 0) s1
  let s3 := s2.updQueue q (fun x => { x with slots := [], starts := [], area := [], moving := [], irqNow := [], unsig := 0, turn := 0 })
  { s3 with heldEntries := s3.heldEntries.filter (fun h => h.cq ≠ q) }

/-- No completion or stream record of a panel is written afterwards: its spools end without a final record, and what waits for an
acknowledgement of the twin is dropped (R402). -/
def State.silence (p : Nat) (s : State) : State :=
  let s1 := (s.spoolsOf p).foldl (fun s i => s.setSpool i {}) s
  let mine (h : HeldOut) : Bool := match h with | .cq q _ _ _ _ => s.queueOwner q = some p | _ => false
  { s1 with twin := { s1.twin with held := s1.twin.held.filter (fun h => !mine h.2) } }

/-- VF_FLR: a function-level reset of the VF of `panel`: PANEL_RESET, then its queues are emptied and disabled (R402, R420, R484). -/
def execVfFlr (panel : Nat) (s : State) : Host.Outcome State Fault Refusal :=
  .next (if 16 ≤ panel then s
    else
      let s1 := if s.pst panel = PS.empty then s else (s.resetPanel panel none).silence panel
      let s2 := (if s1.enabled panel then s1.panelQueues panel else []).foldl (fun s q => s.flrQueue q) s1
      (s2.setAuth (panel + 1) panel false).setFn (panel + 1) {})

/-- PF_FLR: a paired device tells its peer that it leaves; a warm reset follows, with the functions reset (R402, R458, R478). -/
def execPfFlr (s : State) : Host.Outcome State Fault Refusal := .next { s.sendLeave.warmReset 4 0 with fns := [] }

end Sys2Proof.Machine
end

