-- ==== Sys2Proof/Machine/PatImage.lean ====
section
/-! DEFINITION. Pattern images: parsing, the layout of the grid, allocation, and patch records (spec/06 R166, R167, R171 to R174). -/

namespace Sys2Proof.Machine

/-- Why a load fails: the status, and the location of R169. -/
abbrev PFail := Code × Nat

/-- The location of a failure (R169): VX, VY, bundle, slot (7: none), latency item or section type. -/
def patLoc (vx vy b slot item : Nat) : Nat :=
  vx % 65536 + vy % 65536 * 2 ^ 16 + b % 8192 * 2 ^ 32 + slot % 8 * 2 ^ 45 + item % 256 * 2 ^ 48

/-- A failure at a section or nowhere in particular. -/
def secLoc (item : Nat) : Nat := patLoc 0 0 0 7 item

/-- Go on only if a rule holds. -/
def need (ok : Bool) (code : Code) (loc : Nat) : Except PFail Unit := if ok then .ok () else .error (code, loc)

/-- A rule of the image format (0x0301). -/
def needF (ok : Bool) (loc : Nat) : Except PFail Unit := need ok St.PAT_FORMAT loc

/-- Stop with the first failure of a list of rules. -/
def needAll {α : Type} (l : List α) (f : α → Except PFail Unit) : Except PFail Unit :=
  match l with
  | [] => .ok ()
  | x :: r => match f x with
    | .ok _ => needAll r f
    | .error e => .error e

/-! ## The image (R166, R167) -/

/-- A section-table entry. -/
structure Sect where
  type : Nat
  count : Nat
  off : Nat
  len : Nat
  deriving DecidableEq, Repr

/-- The code of a virtual tile: its entry bundle indices, its number of bundles, and the bundles as one number of 256 bits each. -/
structure PatCode where
  vx : Nat
  vy : Nat
  nb : Nat
  ents : List Nat
  code : Nat
  deriving DecidableEq, Repr

/-- A scratchpad range an image declares. -/
structure PatRange where
  vx : Nat
  vy : Nat
  shared : Bool
  start : Nat
  len : Nat
  key : Nat
  deriving DecidableEq, Repr

/-- Initial contents of a range. -/
structure PatInit where
  vx : Nat
  vy : Nat
  range : Nat
  off : Nat
  data : List Byte
  deriving DecidableEq, Repr

/-- The pages an image declares for a virtual tile and tier. -/
structure PatPages where
  vx : Nat
  vy : Nat
  tier : Nat
  wPages : Nat
  kvLo : Nat
  kvHi : Nat
  deriving DecidableEq, Repr

/-- A pattern image. -/
structure Image where
  w : Nat
  h : Nat
  sparse : Bool
  nd : Nat
  nEnt : Nat
  bundles : Nat
  knots : Nat
  queues : Nat
  externs : Nat
  isaMajor : Nat
  isaMinor : Nat
  buildId : BitVec 128 := 0
  entries : List (Nat × Nat) := []
  code : List PatCode := []
  ranges : List PatRange := []
  inits : List PatInit := []
  pages : List PatPages := []
  homes : List (Nat × Nat) := []
  qtypes : List Nat := []
  patches : List (List Byte) := []
  lat : List (Nat × Nat) := []
  deriving DecidableEq, Repr

/-- Does a pair of coordinates mean every tile? -/
def everyTile (vx vy : Nat) : Bool := vx = 0xFFFF && vy = 0xFFFF

/-- Length of the record of a type that begins here; fixed but for TILE_CODE and SCRATCH_INIT. -/
def recLen (type nEnt : Nat) (b : List Byte) : Nat :=
  match type with
  | 1 => 16
  | 2 => cdiv (8 + 2 * nEnt) 32 * 32 + 32 * leAt b 4 2
  | 3 => 24
  | 4 => 16 + cdiv (leAt b 12 4) 32 * 32
  | 5 => 8
  | 6 => 4
  | 7 => 4
  | 8 => 16
  | _ => 2

/-- The COUNT records of a section; none unless they fill it exactly (R167: packed without gaps). -/
def records (type nEnt : Nat) : Nat → List Byte → Option (List (List Byte))
  | 0, b => if b.isEmpty then some [] else none
  | n + 1, b =>
    let k := recLen type nEnt b
    if b.length < k then none else (records type nEnt n (b.drop k)).map (fun r => b.take k :: r)

/-- The records of all sections of a type, in table order. -/
def sectRecs (img : List Byte) (nEnt type : Nat) (secs : List Sect) : Except PFail (List (List Byte)) :=
  match secs with
  | [] => .ok []
  | x :: r =>
    match sectRecs img nEnt type r with
    | .error e => .error e
    | .ok rest =>
      if x.type ≠ type then .ok rest
      else match records type nEnt x.count (slice img x.off x.len) with
        | some l => .ok (l ++ rest)
        | none => .error (St.PAT_FORMAT, secLoc type)

/-- Do two sections overlap? -/
def sectOverlap (a b : Sect) : Bool := a.off < b.off + b.len && b.off < a.off + a.len

/-- Does any pair of sections overlap? -/
def anyOverlap : List Sect → Bool
  | [] => false
  | x :: r => r.any (sectOverlap x) || anyOverlap r

/-- Is the coordinate on the grid? -/
def Image.onGrid (m : Image) (vx vy : Nat) : Bool := vx < m.w && vy < m.h

def parseCode (nEnt : Nat) (r : List Byte) : PatCode :=
  let hd := cdiv (8 + 2 * nEnt) 32 * 32
  { vx := leAt r 0 2, vy := leAt r 2 2, nb := leAt r 4 2
    ents := (List.range nEnt).map (fun i => leAt r (8 + 2 * i) 2), code := natOf (r.drop hd) }

def parseRange (r : List Byte) : PatRange :=
  { vx := leAt r 0 2, vy := leAt r 2 2, shared := leAt r 4 1 = 1, start := leAt r 8 4, len := leAt r 12 4, key := leAt r 16 4 }

def parseInit (r : List Byte) : PatInit :=
  { vx := leAt r 0 2, vy := leAt r 2 2, range := leAt r 4 2, off := leAt r 8 4, data := slice r 16 (leAt r 12 4) }

def parsePages (r : List Byte) : PatPages :=
  { vx := leAt r 0 2, vy := leAt r 2 2, tier := leAt r 4 1, wPages := leAt r 5 1, kvLo := leAt r 6 1, kvHi := leAt r 7 1 }

/-- The rules of one TILE_CODE record (R167, R176). -/
def codeOk (m : Image) (r : List Byte) : Bool :=
  let c := parseCode m.nEnt r
  let hd := cdiv (8 + 2 * m.nEnt) 32 * 32
  m.onGrid c.vx c.vy && leAt r 6 2 = 0 && c.nb ≤ m.bundles && c.ents.all (fun e => e < c.nb) &&
    allZero (slice r (8 + 2 * m.nEnt) (hd - (8 + 2 * m.nEnt)))

/-- The rules of one SCRATCH record. -/
def rangeOk (m : Image) (r : List Byte) : Bool :=
  let x := parseRange r
  (everyTile x.vx x.vy || m.onGrid x.vx x.vy) && leAt r 4 1 ≤ 1 && allZero (slice r 5 3) && leAt r 20 4 = 0 && (x.shared || x.start = 0)

/-- The rules of one SCRATCH_INIT record (R167). Nonzero bytes in the pad behind its data break it: the rule does not say what the pad holds
(DESIGN CHOICE, log entry 87). -/
def initOk (m : Image) (r : List Byte) : Bool :=
  let x := parseInit r
  match m.ranges[x.range]? with
  | none => false
  | some g =>
    leAt r 6 2 = 0 && allZero (r.drop (16 + x.data.length)) && x.off + x.data.length ≤ g.len &&
      (if everyTile g.vx g.vy then everyTile x.vx x.vy || m.onGrid x.vx x.vy else x.vx = g.vx && x.vy = g.vy)

/-- The header (R166): the image without its sections. -/
def imageHeader (img : List Byte) : Image :=
  { w := leAt img 8 2, h := leAt img 10 2, sparse := leAt img 12 1 = 1, nd := leAt img 13 1, nEnt := leAt img 14 2, bundles := leAt img 16 4
    knots := leAt img 32 2, queues := leAt img 34 2, externs := leAt img 36 2, isaMajor := leAt img 6 1, isaMinor := leAt img 7 1
    buildId := BitVec.ofNat 128 (leAt img 48 16) }

/-- The rules of the header; `n` is the length the command gives (R166, R168). -/
def headerOk (img : List Byte) (n : Nat) : Bool :=
  let m := imageHeader img
  64 ≤ n && leAt img 0 4 = 0x4E525450 && leAt img 4 2 = 1 && leAt img 24 8 = n && allZero (slice img 38 10) && leAt img 12 1 ≤ 1 &&
    m.nd < 16 && 1 ≤ m.nEnt && m.nEnt ≤ 64 && 1 ≤ m.bundles && m.bundles ≤ 8192 && m.knots ≤ 4096 && m.queues ≤ 256 &&
    m.externs ≤ 4096 && 0x40 + 16 * leAt img 20 4 ≤ n

/-- The section table. -/
def sectTable (img : List Byte) : List Sect :=
  (List.range (leAt img 20 4)).map (fun i => ⟨leAt img (0x40 + 16 * i) 2, leAt img (0x42 + 16 * i) 2, leAt img (0x48 + 16 * i) 4, leAt img (0x4C + 16 * i) 4⟩)

/-- The rules of a section-table entry (R167). -/
def sectOk (img : List Byte) (n i : Nat) (x : Sect) : Bool :=
  1 ≤ x.type && x.type ≤ 9 && leAt img (0x44 + 16 * i) 4 = 0 && x.off % 64 = 0 && 0x40 + 16 * leAt img 20 4 ≤ x.off && x.off + x.len ≤ n

/-- Parse an image of `n` bytes (R166, R167, R178): 0x0301 on the first rule it breaks. Two PAGES records for one tile and tier break it: R167
does not say whether they may repeat (DESIGN CHOICE, log entry 87). -/
def parseImage (img : List Byte) (n : Nat) : Except PFail Image := do
  needF (headerOk img n) (secLoc 0)
  let m0 := imageHeader img
  let secs := sectTable img
  needAll secs.zipIdx (fun k => needF (sectOk img n k.2 k.1) (secLoc k.1.type))
  needF (!anyOverlap secs) (secLoc 0)
  let times (t : Nat) : Nat := (secs.filter (fun x => x.type = t)).length
  needF (times 1 = 1 && [5, 6, 7, 8, 9].all (fun t => times t ≤ 1)) (secLoc 0)
  let ent ← sectRecs img m0.nEnt 1 secs
  let cod ← sectRecs img m0.nEnt 2 secs
  let rng ← sectRecs img m0.nEnt 3 secs
  let ini ← sectRecs img m0.nEnt 4 secs
  let pag ← sectRecs img m0.nEnt 5 secs
  let kno ← sectRecs img m0.nEnt 6 secs
  let que ← sectRecs img m0.nEnt 7 secs
  let pat ← sectRecs img m0.nEnt 8 secs
  let lat ← sectRecs img m0.nEnt 9 secs
  needF (ent.length = m0.nEnt && ent.all (fun r => allZero (r.drop 8))) (secLoc 1)
  needF (kno.length = m0.knots) (secLoc 6)
  needF (que.length = m0.queues && que.all (fun r => leAt r 0 1 ≤ 4 && allZero (r.drop 1))) (secLoc 7)
  needAll cod (fun r => needF (codeOk m0 r) (patLoc (leAt r 0 2) (leAt r 2 2) 0 7 2))
  let codes := cod.map (parseCode m0.nEnt)
  needF (decide ((codes.map (fun c => (c.vx, c.vy))).Nodup) && codes.length = m0.w * m0.h) (secLoc 2)
  needAll rng (fun r => needF (rangeOk m0 r) (patLoc (leAt r 0 2) (leAt r 2 2) 0 7 3))
  let m1 : Image := { m0 with
    entries := ent.map (fun r => (leAt r 0 4, leAt r 4 4))
    code := sortBy (fun a b => a.vy * 65536 + a.vx ≤ b.vy * 65536 + b.vx) codes
    ranges := rng.map parseRange }
  needAll ini (fun r => needF (initOk m1 r) (patLoc (leAt r 0 2) (leAt r 2 2) 0 7 4))
  let pages := pag.map parsePages
  needAll pages (fun x => needF (m0.onGrid x.vx x.vy) (patLoc x.vx x.vy 0 7 5))
  needF (decide ((pages.map (fun x => (x.vx, x.vy, x.tier))).Nodup)) (secLoc 5)
  let homes := kno.map (fun r => (leAt r 0 2, leAt r 2 2))
  needF (homes.all (fun x => m0.onGrid x.1 x.2)) (secLoc 6)
  let lats := lat.map (fun r => (leAt r 0 1, leAt r 1 1))
  needAll lats (fun x => needF (x.1 < 26 && (lats.filter (fun y => y.1 = x.1)).length = 1) (secLoc x.1))
  return { m1 with inits := ini.map parseInit, pages := pages, homes := homes, qtypes := que.map (fun r => leAt r 0 1), patches := pat, lat := lats }

/-! ## Laying the grid (R171, R172, R296) -/

/-- Has the panel a row at this GRID_Y and column, not disabled? -/
def State.hasUnit (s : State) (p col y : Nat) : Bool :=
  let r := rowNum col y
  s.panelOfRow r = some p && !s.rowDisabled r

/-- The units of a panel as (GRID_Y, column), in order (R171). -/
def State.units (s : State) (p w : Nat) : List (Nat × Nat) :=
  (List.range 32).flatMap (fun y =>
    if w = 32 then (if s.hasUnit p 0 y && s.hasUnit p 1 y then [(y, 0)] else [])
    else ([0, 1].filter (fun c => s.hasUnit p c y)).map (fun c => (y, c)))

/-- The physical tiles of the units of a placement, in the order vy × W + vx (R171). -/
def State.gridTiles (s : State) (w : Nat) (us : List (Nat × Nat)) : List Nat :=
  us.flatMap (fun u => (List.range w).map (fun x => s.tileOfGrid (if w = 32 then x else x + 16 * u.2) u.1))

/-- Local pages an entry declares. -/
def PatPages.locals (x : PatPages) : List Nat := List.range (min x.wPages 128) ++ (List.range 128).filter (fun l => x.kvLo ≤ l && l ≤ x.kvHi)

/-- Is a declared page of the placement retired (R296)? -/
def State.pagesRetired (s : State) (m : Image) (tiles : List Nat) : Bool :=
  m.pages.any (fun x => x.tier < s.tiers &&
    x.locals.any (fun l => s.isRetired (s.pageOf (bobAt x.tier (tiles.getD (x.vy * m.w + x.vx) 0)) l)))

/-- The placement that begins at unit `i`, if it fits (R172, R296). -/
def State.fitAt (s : State) (m : Image) (us : List (Nat × Nat)) (i : Nat) : Option (List Nat) :=
  let pl := if m.sparse then (us.drop i).take m.h
    else ((us.drop i).head?.map (fun u => (List.range m.h).map (fun k => (u.1 + k, u.2)))).getD []
  let tiles := s.gridTiles m.w pl
  if pl.length = m.h && pl.all us.contains && !s.pagesRetired m tiles then some tiles else none

/-- Lay the grid: the origin named, or the first unit from which the placement fits (R172). A named origin that is no unit of the panel gives
0x0304, as one that does not fit: R172 names no code for it (DESIGN CHOICE, log entry 87). -/
def State.layGrid (s : State) (p : Nat) (m : Image) (originY originCol : Nat) : Except PFail (List Nat) := do
  need (((1 ≤ m.w && m.w ≤ 16) || m.w = 32) && 1 ≤ m.h && m.h ≤ 64) St.PAT_GRID (secLoc 0)
  let us := s.units p m.w
  need (m.h ≤ us.length) St.PAT_GRID (secLoc 0)
  let origin : Nat × Nat := (originY, if m.w = 32 then 0 else originCol)
  let from_ := if originY = 0xFF then List.range us.length else (List.range us.length).filter (fun i => us[i]? = some origin)
  match from_.findSome? (s.fitAt m us) with
  | some t => .ok t
  | none => .error (St.PAT_PLACEMENT, secLoc 0)

/-! ## Allocation (R173) -/

/-- Lowest bundle index from `b` at which `n` bundles miss every run of `taken`; `fuel` bounds the search. -/
def lowestFree (limit n : Nat) (taken : List (Nat × Nat)) (align : Nat) : Nat → Nat → Option Nat
  | 0, _ => none
  | f + 1, b =>
    if limit < b + n then none
    else match taken.find? (fun r => r.1 < b + n && b < r.1 + r.2) with
      | none => some b
      | some r => lowestFree limit n taken align f (cdiv (r.1 + r.2) align * align)

/-- The resident patterns of a panel. -/
def State.residents (s : State) (p : Nat) : List Pattern := (s.panel p).patterns.map (fun v => v.2)

/-- First bundle of the range the pattern takes (R173). -/
def State.allocImem (s : State) (p n : Nat) (tiles : List Nat) : Except PFail Nat :=
  let taken := ((s.residents p).filter (fun q => q.tiles.any tiles.contains)).map (fun q => (q.base, q.bundles))
  match lowestFree 8192 n taken 1 (taken.length + 1) 0 with
  | some b => .ok b
  | none => .error (St.PAT_NO_SPACE, secLoc 0)

/-- A range placed in a virtual tile: the tile's number on the grid, the index of its record, and what it holds. -/
structure Placed where
  v : Nat
  rec_ : Nat
  g : Range
  deriving DecidableEq, Repr

/-- The virtual tiles a record is for. -/
def Image.cover (m : Image) (vx vy : Nat) : List Nat := if everyTile vx vy then List.range (m.w * m.h) else [vy * m.w + vx]

/-- Place one range in one virtual tile beside those already taken (R173). -/
def placeRange (m : Image) (tiles : List Nat) (held : List Range) (i v : Nat) (x : PatRange) (done : List Placed) : Except PFail (List Placed) :=
  let t := tiles.getD v 0
  let all := held ++ done.map (fun d => d.g)
  let here := all.filter (fun g => g.tile = t)
  let loc := patLoc (v % m.w) (v / m.w) 0 7 3
  if x.shared then
    if all.any (fun g => g.shared && g.key = x.key && (g.start ≠ x.start || g.len ≠ x.len)) ||
        here.any (fun g => !(g.shared && g.key = x.key) && g.start < x.start + x.len && x.start < g.start + g.len) || 2 ^ 21 < x.start + x.len then
      .error (St.PAT_SCRATCH_SPACE, loc)
    else .ok (done ++ [⟨v, i, ⟨t, x.start, x.len, true, x.key⟩⟩])
  else match lowestFree (2 ^ 21) x.len (here.map (fun g => (g.start, g.len))) 64 (here.length + 1) 0 with
    | some a => .ok (done ++ [⟨v, i, ⟨t, a, x.len, false, x.key⟩⟩])
    | none => .error (St.PAT_SCRATCH_SPACE, loc)

/-- Place the ranges: SHARED first, then PRIVATE in record order (R173). -/
def State.allocScratch (s : State) (p : Nat) (m : Image) (tiles : List Nat) : Except PFail (List Placed) :=
  let held := (s.residents p).flatMap (fun q => q.ranges) ++ (s.panel p).kept
  let recs := m.ranges.zipIdx
  let order := recs.filter (fun r => r.1.shared) ++ recs.filter (fun r => !r.1.shared)
  (order.flatMap (fun r => (m.cover r.1.vx r.1.vy).map (fun v => (r, v)))).foldl (fun acc k =>
    match acc with
    | .ok done => placeRange m tiles held k.1.2 k.2 k.1.1 done
    | .error e => .error e) (.ok [])

/-- A free knot of a tile's router (R173, R264). -/
def State.freeKnot (s : State) (p t : Nat) (taken : List Nat) : Option Nat :=
  let per := s.rd Reg.DBG_KNOT_CAP_PER_TILE
  ((List.range per).map (fun i => s.ordinal t * per + i)).find? (fun k =>
    !taken.contains k && !(s.residents p).any (fun q => q.knots.contains k))

/-- A knot for each virtual knot (R173). -/
def State.allocKnots (s : State) (p : Nat) (m : Image) (tiles : List Nat) : Except PFail (List Nat) :=
  m.homes.foldl (fun acc h =>
    match acc with
    | .ok l => match s.freeKnot p (tiles.getD (h.2 * m.w + h.1) 0) l with
      | some k => .ok (l ++ [k])
      | none => .error (St.PAT_NO_SPACE, patLoc h.1 h.2 0 7 6)
    | .error e => .error e) (.ok [])

/-! ## Patch records (R174) -/

/-- What the loader has laid out: the working copy of the code by virtual tile, and of the initial data by virtual tile and range. -/
structure Layout where
  tiles : List Nat
  base : Nat
  placed : List Placed
  knots : List Nat
  binds : List Nat
  code : List PatCode
  /-- virtual tile, range, offset, length, data as a number -/
  data : List (Nat × Nat × Nat × Nat × Nat)
  deriving DecidableEq, Repr

/-- Replace `w` bits of a number from bit `at_`. -/
def setBits (n at_ w v : Nat) : Nat := n - bits n at_ w * 2 ^ at_ + v % 2 ^ w * 2 ^ at_

/-- A patch record. -/
structure Patch where
  vx : Nat
  vy : Nat
  loc : Nat
  space : Nat
  width : Nat
  kind : Nat
  range : Nat
  symbol : Nat
  addend : Int
  deriving DecidableEq, Repr

def parsePatch (r : List Byte) : Patch :=
  { vx := leAt r 0 2, vy := leAt r 2 2, loc := leAt r 4 4, space := leAt r 8 1, width := leAt r 9 1, kind := leAt r 10 1, range := leAt r 11 1
    symbol := leAt r 12 2, addend := signed 16 (leAt r 14 2) }

/-- The value a record writes in virtual tile `v`, whose field holds `cur`; none where the record is bad (R174). A nonzero ADDEND of KIND 0 or
1, a SHARED range in KIND 1, and a KIND 2 SYMBOL with a tier the grade lacks or with bits outside its fields count as bad, which R174 does
not state (DESIGN CHOICE, log entry 87). -/
def State.patchValue (s : State) (m : Image) (y : Layout) (r : Patch) (v cur : Nat) : Option Int :=
  match r.kind with
  | 0 => if r.addend = 0 then some (cur + y.base : Nat) else none
  | 1 =>
    match y.placed.find? (fun d => d.v = v && d.rec_ = r.range && !d.g.shared) with
    | some d => if r.addend = 0 then some (cur + d.g.start : Nat) else none
    | none => none
  | 2 =>
    let tier := bits r.symbol 8 2
    if tier < s.tiers && r.symbol / 1024 = 0 && !r.symbol.testBit 7 then
      some ((s.pageOf (bobAt tier (y.tiles.getD v 0)) (r.symbol % 128) : Nat) + r.addend)
    else none
  | 3 => if r.symbol < m.w * m.h then some ((s.feid (epTile (y.tiles.getD r.symbol 0)) : Nat) + r.addend) else none
  | 4 => if r.symbol < m.externs then some ((y.binds.getD r.symbol 0 % 2 ^ 24 : Nat) : Int) else none
  | 5 => if r.symbol < m.knots then some ((y.knots.getD r.symbol 0 : Nat) : Int) else none
  | 6 => if r.symbol < m.queues then some ((y.binds.getD (m.externs + r.symbol) 0 % 2 ^ 14 : Nat) : Int) else none
  | _ => none

/-- The bit of a range's initial data that the records leave at `b`; a later record overwrites an earlier one (R167). -/
def initBit (ds : List (Nat × Nat × Nat × Nat × Nat)) (b : Nat) : Option Bool :=
  (ds.reverse.find? (fun d => 8 * d.2.2.1 ≤ b && b < 8 * (d.2.2.1 + d.2.2.2.1))).map (fun d => d.2.2.2.2.testBit (b - 8 * d.2.2.1))

/-- Write those bits of a field that lie in the data of one record. -/
def initPut (d : Nat × Nat × Nat × Nat × Nat) (loc w v : Nat) : Nat × Nat × Nat × Nat × Nat :=
  let lo := max loc (8 * d.2.2.1)
  let hi := min (loc + w) (8 * (d.2.2.1 + d.2.2.2.1))
  if lo < hi then (d.1, d.2.1, d.2.2.1, d.2.2.2.1, setBits d.2.2.2.2 (lo - 8 * d.2.2.1) (hi - lo) (v >>> (lo - loc))) else d

/-- Apply a record to one virtual tile (R174): a SPACE 1 field may run over several records of its range, and is written in each. -/
def State.patchOne (s : State) (m : Image) (r : Patch) (v : Nat) (y : Layout) : Except PFail Layout :=
  let bad : Except PFail Layout := .error (St.PAT_PATCH, patLoc r.vx r.vy (if r.space = 0 then r.loc / 256 else 0) 7 8)
  let fits (cur : Nat) : Option Nat := (s.patchValue m y r v cur).bind (fun x =>
    if 0 ≤ x && x < 2 ^ r.width then some x.toNat else none)
  if r.space = 0 then
    match y.code[v]? with
    | some c =>
      if r.loc + r.width ≤ 256 * c.nb then
        match fits (bits c.code r.loc r.width) with
        | some x => .ok { y with code := lmod y.code v (fun c => { c with code := setBits c.code r.loc r.width x }) }
        | none => bad
      else bad
    | none => bad
  else
    let mine := y.data.filter (fun d => d.1 = v && d.2.1 = r.range)
    match (List.range r.width).mapM (fun i => initBit mine (r.loc + i)) with
    | some l =>
      match fits (l.zipIdx.foldl (fun n k => if k.1 then n + 2 ^ k.2 else n) 0) with
      | some x => .ok { y with data := y.data.map (fun d => if d.1 = v && d.2.1 = r.range then initPut d r.loc r.width x else d) }
      | none => bad
    | none => bad

/-- Apply the patch records in order (R174). -/
def State.patch (s : State) (m : Image) (y : Layout) : Except PFail Layout :=
  (m.patches.map parsePatch).foldl (fun acc r =>
    match acc with
    | .error e => .error e
    | .ok y =>
      if !(everyTile r.vx r.vy || m.onGrid r.vx r.vy) || r.width = 0 || 32 < r.width || 1 < r.space || 6 < r.kind ||
          ((r.kind = 1 || r.space = 1) && m.ranges.length ≤ r.range) then
        .error (St.PAT_PATCH, patLoc r.vx r.vy 0 7 8)
      else (m.cover r.vx r.vy).foldl (fun acc v =>
        match acc with
        | .ok y => s.patchOne m r v y
        | .error e => .error e) (.ok y)) (.ok y)

/-- The initial data each virtual tile receives: (tile, range, offset, length, data); only where the range is declared (R167). -/
def Image.initData (m : Image) : List (Nat × Nat × Nat × Nat × Nat) :=
  m.inits.flatMap (fun x => (m.cover x.vx x.vy).map (fun v => (v, x.range, x.off, x.data.length, natOf x.data)))

end Sys2Proof.Machine
end

