-- ==== Sys2Proof/Machine/TileN.lean ====
section
/-! DEFINITION. The N slot: scalar, control, network and knot operations (spec/05 R151 to R162). -/

namespace Sys2Proof.Machine

/-! ## Scalar operations -/

/-- An N operation that puts a value in S[RD] after `l` cycles. -/
def State.nscalar (t op l : Nat) (f : Tile → Nat → W64) (s : State) : State :=
  s.issue t 4 op (fun w s => s.result t 4 (kS (bits w 8 5)) l [(0, (f (s.tile t) w).toNat, 2 ^ 64 - 1)])

/-- Operands of the scalar layout (R151). -/
def Tile.sa (x : Tile) (w : Nat) : W64 := x.s (bits w 13 5)
def Tile.sb (x : Tile) (w : Nat) : W64 := x.s (bits w 18 5)

/-- NNOP: nothing but its issue. -/
def execNnop (t : Nat) (s : State) : Host.Outcome State Fault Refusal := .next (s.issue t 4 0x00 (fun _ s => s))

/-- SLI: S[RD] = sign-extended IMM32 (R152). -/
def execSli (t : Nat) (s : State) : Host.Outcome State Fault Refusal :=
  .next (s.nscalar t 0x01 1 (fun _ w => BitVec.ofInt 64 (signed 32 (bits w 13 32))))

/-- SLIH: S[RD][63:32] = IMM32; the low half is kept (R152). -/
def execSlih (t : Nat) (s : State) : Host.Outcome State Fault Refusal :=
  .next (s.issue t 4 0x02 (fun w s =>
    s.result t 4 (kS (bits w 8 5)) 1 [(0, bits w 13 32 * 2 ^ 32, (2 ^ 32 - 1) * 2 ^ 32)]))

/-- SADDI: S[RD] = S[SA] + IMM (R152). -/
def execSaddi (t : Nat) (s : State) : Host.Outcome State Fault Refusal :=
  .next (s.nscalar t 0x03 1 (fun x w => x.sa w + BitVec.ofInt 64 (signed 25 (bits w 23 25))))

/-- SADD: S[RD] = S[SA] + S[SB] (R152). -/
def execSadd (t : Nat) (s : State) : Host.Outcome State Fault Refusal :=
  .next (s.nscalar t 0x04 1 (fun x w => x.sa w + x.sb w))

/-- SSUB: S[RD] = S[SA] − S[SB] (R152). -/
def execSsub (t : Nat) (s : State) : Host.Outcome State Fault Refusal :=
  .next (s.nscalar t 0x05 1 (fun x w => x.sa w - x.sb w))

/-- SMUL: S[RD] = S[SA] × S[SB] modulo 2^64 (R152). -/
def execSmul (t : Nat) (s : State) : Host.Outcome State Fault Refusal :=
  .next (s.nscalar t 0x06 (s.lat t 13) (fun x w => x.sa w * x.sb w))

/-- SAND: bitwise AND (R152). -/
def execSand (t : Nat) (s : State) : Host.Outcome State Fault Refusal :=
  .next (s.nscalar t 0x07 1 (fun x w => x.sa w &&& x.sb w))

/-- SOR: bitwise OR (R152). -/
def execSor (t : Nat) (s : State) : Host.Outcome State Fault Refusal :=
  .next (s.nscalar t 0x08 1 (fun x w => x.sa w ||| x.sb w))

/-- SXOR: bitwise XOR (R152). -/
def execSxor (t : Nat) (s : State) : Host.Outcome State Fault Refusal :=
  .next (s.nscalar t 0x09 1 (fun x w => x.sa w ^^^ x.sb w))

/-- SSHL: shift left by S[SB][5:0] (R152). -/
def execSshl (t : Nat) (s : State) : Host.Outcome State Fault Refusal :=
  .next (s.nscalar t 0x0A 1 (fun x w => x.sa w <<< ((x.sb w).toNat % 64)))

/-- SSHR: logical shift right by S[SB][5:0] (R152). -/
def execSshr (t : Nat) (s : State) : Host.Outcome State Fault Refusal :=
  .next (s.nscalar t 0x0B 1 (fun x w => x.sa w >>> ((x.sb w).toNat % 64)))

/-- SSRA: arithmetic shift right by S[SB][5:0] (R152). -/
def execSsra (t : Nat) (s : State) : Host.Outcome State Fault Refusal :=
  .next (s.nscalar t 0x0C 1 (fun x w => (x.sa w).sshiftRight ((x.sb w).toNat % 64)))

/-- SCMP: all bits of P[RD[2:0]] = the condition on S[SA], S[SB] (R152). -/
def execScmp (t : Nat) (s : State) : Host.Outcome State Fault Refusal :=
  .next (s.issue t 4 0x0E (fun w s =>
    let x := s.tile t
    s.result t 4 (kP (bits w 8 3)) 1
      [(0, if condInt64 (bits w 23 3) (x.sa w) (x.sb w) then 2 ^ 64 - 1 else 0, 2 ^ 64 - 1)]))

/-! ## Feature, position and counter reads (R161, R162) -/

/-- Offsets of the registers SRFEAT reads (R161). -/
def srfeatOff (i : Nat) : Option Nat :=
  [0x00, 0x08, 0x10, 0x18, 0x20, 0x28, 0x30, 0x38, 0x40, 0x3F00000][i]?

/-- SRFEAT: a feature register; an index that is not listed reads 0 (R161). -/
def execSrfeat (t : Nat) (s : State) : Host.Outcome State Fault Refusal :=
  .next (s.nscalar t 0x10 (s.lat t 14) (fun _ w =>
    match srfeatOff (bits w 23 8) with
    | some off => BitVec.ofNat 64 (composeWith s.rd (regFields 0 off))
    | none => 0))

/-- The position items of SRPOS (R162). -/
def State.position (s : State) (t i : Nat) : Nat :=
  let x := s.tile t
  let p := s.panelOfTile t
  match i with
  | 0 => x.cy
  | 1 => match p with | some p => s.stepCtr p | none => 0
  | 2 => x.vx + 65536 * x.vy
  | _ => match p.bind s.runPattern with | some q => q.gridW + 65536 * q.gridH | none => 0

/-- SRPOS: a position item (R162). -/
def execSrpos (t : Nat) (s : State) : Host.Outcome State Fault Refusal :=
  .next (s.nscalar t 0x11 (s.lat t 14) (fun _ w => BitVec.ofNat 64 (s.position t (bits w 23 2))))

/-- The counters of SRCNT (R162). -/
def State.counter (s : State) (t i : Nat) : Nat :=
  match i with
  | 0 => s.rd Reg.STI_COUNT_COUNT
  | 1 => s.rd (Reg.TILE_PERF_ARRAY_COUNT t)
  | 2 => s.rd (Reg.TILE_PERF_ZERO_COUNT t)
  | 3 => s.rd (Reg.TILE_PERF_VEC_COUNT t)
  | 4 => s.rd (Reg.TILE_PERF_FROZEN_COUNT t)
  | _ => s.rd (Reg.TILE_LATE_COUNT t)

/-- SRCNT: a counter sampled at issue (R162). -/
def execSrcnt (t : Nat) (s : State) : Host.Outcome State Fault Refusal :=
  .next (s.nscalar t 0x12 (s.lat t 14) (fun _ w => BitVec.ofNat 64 (s.counter t (bits w 23 3))))

/-! ## Control (R153) -/

/-- TARGET of the branch layout. -/
def brTarget (w : Nat) : Nat := bits w 17 13

/-- The bundle at TARGET issues next. -/
def State.branch (t w : Nat) (s : State) : State := s.updTile t (fun x => { x with branch := some (brTarget w) })

/-- NJMP: next bundle = TARGET (R152). -/
def execNjmp (t : Nat) (s : State) : Host.Outcome State Fault Refusal := .next (s.issue t 4 0x20 (fun w s => s.branch t w))

/-- NBRP: next bundle = TARGET if bit 0 of P equals SENSE (R152). -/
def execNbrp (t : Nat) (s : State) : Host.Outcome State Fault Refusal :=
  .next (s.issue t 4 0x21 (fun w s =>
    if ((s.tile t).p (bits w 8 3)).getLsbD 0 = w.testBit 11 then s.branch t w else s))

/-- NLOOP: S[SL] −= 1; next bundle = TARGET if the result is not 0 (R152, R153). -/
def execNloop (t : Nat) (s : State) : Host.Outcome State Fault Refusal :=
  .next (s.issue t 4 0x22 (fun w s =>
    let v := (s.tile t).s (bits w 12 5) - 1
    let s1 := s.result t 4 (kS (bits w 12 5)) 1 [(0, v.toNat, 2 ^ 64 - 1)]
    if v ≠ 0 then s1.branch t w else s1))

/-- NEND: fetch stops after this bundle and the tile closes its open windows (R153). -/
def execNend (t : Nat) (s : State) : Host.Outcome State Fault Refusal :=
  .next (s.issue t 4 0x2F (fun _ s => s.updTile t (fun x => { x.closeWins s.clk.edge (fun _ => true) with ending := true })))

/-! ## Sending (R155, R156) -/

/-- The lowest free send slot. -/
def Tile.freeSlot (x : Tile) : Option Nat := (List.range 4).find? (fun i => sget 0 x.sends i = 0)

/-- Payloads of an NSEND: 512-byte parts for WRITE and FADD; a prefix and at most 28 lanes for SADD (R90, R155). -/
def sendPayloads (red anchor : Nat) (ovf : Bool) (bs : List Byte) : List (List Byte) :=
  if red = 1 then
    (chunksOf 504 bs.length bs).map (fun c =>
      pad64 (bytesOf 8 (anchor % 1024 + c.length / 18 * 1024 + (if ovf then 32768 else 0)) ++ c))
  else (chunksOf 512 bs.length bs).map pad64

/-- NSEND: the source bytes as packets toward the FEID, the predicate absent until the slot frees; all four slots busy is 0x040C, and
a range or length outside R155 is 0x040A at the issue of the bundle (R155, R156, R165). -/
def execNsend (t : Nat) (s : State) : Host.Outcome State Fault Refusal :=
  .next (s.issue t 4 0x30 (fun w s =>
    let x := s.tile t
    let e := s.clk.edge
    let isV := w.testBit 8
    let sreg := bits w 9 5
    let a := (x.s (bits w 14 5)).toNat
    let g := (x.s (bits w 19 5)).toNat
    let red := bits w 24 2
    let off := bits a 24 12
    let len := bits a 36 13
    match x.freeSlot with
      | none => s.tileFault t St.SEND_OVERRUN (s.siteBits t) x.cy
      | some sl =>
        let bs := if isV then ((x.vbytes sreg).drop off).take len else x.tbytes sreg off len
        let ps := sendPayloads red (bits g 32 10) (g.testBit 42) bs
        let key := if isV then kV sreg else kT sreg
        let flights := ps.zipIdx.map (fun p =>
          ({ pkt := { dst := a % 2 ^ 24, src := s.feid (epTile t), tenant := s.tenantOf (s.panelOfTile t), tc := bits w 26 1,
                      knv := true, knot := bits w 30 16, op := red, len := p.1.length / 64,
                      rtag := (g % 2 ^ 32 + p.2) % 2 ^ 24, payload := p.1 },
             loc := .inject (epTile t), since := e, slot := sl + 1 } : Flight))
        let s1 := s.setTile t { x with
          sends := sset 0 x.sends sl (bits w 27 3)
          capture := x.capture.filter (fun c => e < c.2) ++ [(key, e + (len + 511) / 512)] }
        let s2 := { s1 with noc := { s1.noc with flights := s1.noc.flights ++ flights } }
        s2.wrap (Reg.TILE_SEND_STAT_PACKETS t) ps.length))

/-! ## Receive windows (R157, R160) -/

/-- NRECV: open a window; a length outside its limits is 0x040A at the issue of the bundle, and a knot that another open window holds is 0x040B (R157, R165). -/
def execNrecv (t : Nat) (s : State) : Host.Outcome State Fault Refusal :=
  .next (s.issue t 4 0x31 (fun w s =>
    let x := s.tile t
    let a := (x.s (bits w 16 5)).toNat
    let b := (x.s (bits w 21 5)).toNat
    let dk := w.testBit 10
    let win := bits w 26 4
    let knot := bits w 30 16
    let len := bits a 21 22
    if x.wins.any (fun v => v.1 ≠ win && v.2.isOpen && v.2.knot = knot) then
      s.tileFault t St.WINDOW_DUP (s.siteBits t + 1024 * knot) x.cy
    else
      let v : Window := { isOpen := true, mode := bits w 8 2, dk := dk, dreg := bits w 11 5, base := a % 2 ^ 21 / 64 * 64,
                          len := len, tag := b % 2 ^ 32, anchor := signed 10 (bits b 32 10), knot := knot }
      let y := x.closeWin s.clk.edge win
      s.setTile t { y with wins := sset {} y.wins win v }))

/-- NCLOSE: close window WIN (R160). -/
def execNclose (t : Nat) (s : State) : Host.Outcome State Fault Refusal :=
  .next (s.issue t 4 0x32 (fun w s => s.updTile t (fun x => x.closeWin s.clk.edge (bits w 8 4))))

/-! ## Knots (R154, R267, R273, R274) -/

/-- Send a knot operation of a tile to its home. -/
def State.tileKnot (t w kop token : Nat) (s : State) : State :=
  s.sendKnot (epTile t) (s.tenantOf (s.panelOfTile t)) (bits w 16 16) kop (bits w 44 2) token (bits w 32 12)

/-- NSIG: SIGNAL(N) on KNOT (R152). -/
def execNsig (t : Nat) (s : State) : Host.Outcome State Fault Refusal :=
  .next (s.issue t 4 0x40 (fun w s => s.tileKnot t w 0 0))

/-- A wait of a tile: P[PD] is absent until the grant; a predicate whose grant is outstanding is 0x0A05 (R154, R274). -/
def State.tileWait (t op kop : Nat) (s : State) : State :=
  s.issue t 4 op (fun w s =>
    let x := s.tile t
    let pd := bits w 8 3
    if x.waits.any (fun v => v.pd = pd) then (s.stick Reg.DBG_KNOT_ERR_MISUSE 1).tileFault t St.KNOT_MISUSE (bits w 16 16) (s.feid (epTile t))
    else (s.setTile t { x with waits := x.waits ++ [⟨pd, bits w 16 16⟩] }).tileKnot t w kop pd)

/-- NWAIT: WAIT(N) on KNOT; grant to P[PD] (R154). -/
def execNwait (t : Nat) (s : State) : Host.Outcome State Fault Refusal := .next (s.tileWait t 0x41 1)

/-- NWALL: WAITALL on KNOT; grant to P[PD] (R154). -/
def execNwall (t : Nat) (s : State) : Host.Outcome State Fault Refusal := .next (s.tileWait t 0x42 2)

/-- NBCAST: BROADCAST on KNOT; N is ignored (R152, R270). -/
def execNbcast (t : Nat) (s : State) : Host.Outcome State Fault Refusal :=
  .next (s.issue t 4 0x43 (fun w s => s.tileKnot t w 3 0))

end Sys2Proof.Machine
end

