-- ==== Sys2Proof/Machine/PatCheck.lean ====
section
/-! DEFINITION. The pattern check: the rules of R176 that look at single bundles and declarations, the path follower of R175, and the
latency profile of R178. -/

namespace Sys2Proof.Machine

/-- What the check of one pattern works on. -/
structure CheckEnv where
  s : State
  p : Nat
  m : Image
  y : Layout

/-- Declared latency of an item; the device's where it is not listed (R178). -/
def CheckEnv.lat (e : CheckEnv) (item : Nat) : Nat :=
  match e.m.lat.find? (fun v => v.1 = item) with
  | some v => v.2
  | none => e.s.rd (Reg.LAT_ITEM_DEVICE item)

/-- Bundle `i` of a virtual tile's patched code. -/
def PatCode.bundle (c : PatCode) (i : Nat) : Nat := c.code >>> (256 * i) % 2 ^ 256

/-- The enabled slots of a bundle with their words. -/
def slotsOf (b : Nat) : List (Nat × Nat) := ([0, 1, 2, 3, 4].filter (slotOn b)).map (fun k => (k, slotWord b k))

/-! ## Latency items and latencies (R142, R144, R148, R152, R178) -/

/-- The item of a vector operation by its class. -/
def patVItem (w : Nat) : Option Nat :=
  let ty := bits w 32 2
  match bits w 0 8 with
  | 0x00 => none
  | 0x01 | 0x02 | 0x05 | 0x06 | 0x07 | 0x08 | 0x18 => some (if ty = 3 then 3 else 4)
  | 0x03 | 0x04 | 0x1E | 0x24 | 0x26 => some 4
  | 0x25 => some (if elemScaled (bits w 34 4) then 5 else 4)
  | 0x20 | 0x21 | 0x22 => some 6
  | 0x30 | 0x31 | 0x32 | 0x33 | 0x34 => some 7
  | _ => some 3

/-- The latency item an operation of slot `k` uses. -/
def slotItem (k w : Nat) : Option Nat :=
  match k with
  | 0 => (match bits w 0 8 with | 0x10 => some 0 | 0x11 => some 1 | 0x20 => some 2 | _ => none)
  | 1 => patVItem w
  | 2 => patVItem w
  | 3 => (match bits w 0 8 with
    | 0x01 | 0x03 => some 8
    | 0x05 | 0x06 | 0x07 => some 9
    | 0x0B | 0x0C | 0x0D => some 10
    | 0x0E | 0x0F => some 11
    | 0x10 | 0x11 => some 2
    | 0x13 => some 12
    | 0x20 => some 15
    | _ => none)
  | _ => (match bits w 0 8 with | 0x06 => some 13 | 0x10 | 0x11 | 0x12 => some 14 | _ => none)

/-- The kind of a nondeterministic operation, as a bit of ND_KINDS (R163, R166). -/
def ndBit (k w : Nat) : Nat :=
  if k ≠ 4 then 0
  else match bits w 0 8 with
    | 0x12 => 1
    | 0x31 => (match bits w 8 2 with | 3 => 2 | 2 => 4 | 1 => 8 | _ => 0)
    | _ => 0

/-! ## Rules on single bundles and declarations (R176) -/

/-- The first slot of an illegal bundle that is at fault; 7 for the header. -/
def badSlot (b : Nat) : Nat :=
  match [0, 1, 2, 3, 4].find? (fun k => if slotOn b k then !(slotInfo k (slotWord b k)).legal else slotWord b k ≠ 0) with
  | some k => if bits b 5 3 = 0 then k else 7
  | none => 7

/-- Does an operation use a feature the device lacks, or a register beyond its count? -/
def State.beyond (s : State) (k w : Nat) : Bool :=
  let i := slotInfo k w
  (i.srcs ++ i.dsts).any (fun r => r < 32 && s.rd Reg.DEV_FEAT_ISA_TREGS ≤ r) ||
    (k = 0 && bits w 0 8 = 0x11 && !s.bit Reg.DEV_FEAT_ISA_AXIS_SWAP) ||
    (k = 0 && (bits w 0 8 = 0x10 || bits w 0 8 = 0x11) && bits w 8 4 = 9 && !s.bit Reg.DEV_FEAT_ISA_CLOVE4)

/-- What one operation breaks by itself. -/
def CheckEnv.opFinds (e : CheckEnv) (c : PatCode) (i k w : Nat) : List PFail :=
  let at_ (item : Nat) : Nat := patLoc c.vx c.vy i k item
  let tgt := brTarget w
  let nd := ndBit k w
  let strict := e.s.bit (Reg.PNL_CFG_STRICT e.p) || e.s.bit (Reg.PNL_PART_CFG_FORCE_STRICT e.p)
  (if e.s.beyond k w then [(St.PAT_RESOURCE_RANGE, at_ 0)] else []) ++
  (if k = 4 && [0x20, 0x21, 0x22].contains (bits w 0 8) && (tgt < e.y.base || e.y.base + e.m.bundles ≤ tgt) then [(St.PAT_REGION, at_ 0)] else []) ++
  (if nd ≠ 0 && strict then [(St.PAT_ND_STRICT, at_ 0)] else []) ++
  (if nd ≠ 0 && e.m.nd &&& nd = 0 then [(St.PAT_ND_UNDECLARED, at_ 0)] else []) ++
  (match slotItem k w with
    | some it => if e.m.lat.any (fun v => v.1 = it) then [] else [(St.PAT_LATENCY, at_ it)]
    | none => [])

/-- What the bundles of a tile break. -/
def CheckEnv.codeFinds (e : CheckEnv) (c : PatCode) : List PFail :=
  (List.range c.nb).flatMap (fun i =>
    let b := c.bundle i
    if bundleLegal b then (slotsOf b).flatMap (fun k => e.opFinds c i k.1 k.2)
    else [(St.PAT_ENCODING, patLoc c.vx c.vy i (badSlot b) 0)])

/-- What the declared pages break (R125). -/
def CheckEnv.pageFinds (e : CheckEnv) : List PFail :=
  let kv := e.s.rd (Reg.BOB_PNL_SPLIT_KV_FIRST e.p)
  e.m.pages.flatMap (fun x =>
    (if e.s.tiers ≤ x.tier then [(St.PAT_RESOURCE_RANGE, patLoc x.vx x.vy 0 7 5)] else []) ++
    (if kv < x.wPages || (x.kvLo ≤ x.kvHi && x.kvLo < kv) then [(St.PAT_REGION, patLoc x.vx x.vy 0 7 5)] else []))

/-- What the bindings break: `n` is BIND_COUNT. -/
def CheckEnv.bindFinds (e : CheckEnv) (n : Nat) : List PFail :=
  let feids := (e.y.binds.take e.m.externs).map (· % 2 ^ 24)
  let qs := ((e.y.binds.drop e.m.externs).take e.m.queues).map (· % 2 ^ 14)
  (if n ≠ e.m.externs + e.m.queues then [(St.PAT_BINDING, secLoc 0)] else []) ++
  feids.flatMap (fun f => match bankFind e.s.activeBank f with
    | none => [(St.PAT_BINDING, secLoc 0)]
    | some x => if entTenant x ≠ 0 && entTenant x ≠ e.s.tenant e.p then [(St.PAT_FOREIGN, secLoc 0)] else []) ++
  (qs.zip e.m.qtypes).flatMap (fun q =>
    (if e.s.rd (Reg.QCFG_CFG_TYPE q.1) ≠ q.2 then [(St.PAT_BINDING, secLoc 7)] else []) ++
    (if e.s.queueOwner q.1 ≠ some e.p then [(St.PAT_FOREIGN, secLoc 7)] else []))

/-- What the header breaks. -/
def CheckEnv.headFinds (e : CheckEnv) : List PFail :=
  let strict := e.s.bit (Reg.PNL_CFG_STRICT e.p) || e.s.bit (Reg.PNL_PART_CFG_FORCE_STRICT e.p)
  (if e.s.rd Reg.DEV_FEAT_TILE_GRID_W < e.m.w then [(St.PAT_RESOURCE_RANGE, secLoc 0)] else []) ++
  (if strict && e.m.nd ≠ 0 then [(St.PAT_ND_STRICT, secLoc 0)] else [])

/-- Does a declared value fit the device's (R178)? Hold, fixed and minimum items. -/
def State.latOk (s : State) (v : Nat × Nat) : Bool :=
  let d := s.rd (Reg.LAT_ITEM_DEVICE v.1)
  match s.rd (Reg.LAT_ITEM_KIND v.1) with
  | 0 => decide (d ≤ v.2) && decide (v.2 ≤ d + s.rd (Reg.LAT_ITEM_MAX_HOLD v.1))
  | 1 => decide (v.2 = d)
  | _ => decide (d ≤ v.2)

/-- What the latency profile breaks (R178). Every pattern is launched and runs under the hold tree, so every pattern uses items 24 and 25:
DESIGN CHOICE (log entry 75). -/
def CheckEnv.latFinds (e : CheckEnv) : List PFail :=
  (e.m.lat.filter (fun v => !e.s.latOk v)).map (fun v => (St.PAT_LATENCY, secLoc v.1)) ++
    [24, 25].flatMap (fun it => if e.m.lat.any (fun v => v.1 = it) then [] else [(St.PAT_LATENCY, secLoc it)])

/-! ## Known values (R175) -/

/-- Registers traced to constants: scalars, predicates, and lanes of vector registers by 64 × register + lane. -/
structure Known where
  s : Store (Option W64) := []
  p : Store (Option W64) := []
  v : Store (Option W32) := []
  deriving DecidableEq, Repr

def Known.sv (k : Known) (r : Nat) : Option W64 := if r = 0 then some 0 else sget none k.s r
def Known.pv (k : Known) (r : Nat) : Option W64 := if r = 0 then some (BitVec.allOnes 64) else sget none k.p r
def Known.lane (k : Known) (r i : Nat) : Option W32 := sget none k.v (64 * r + i)

/-- What a result makes of its register: unknown, a scalar or predicate value, or lanes with their values (none: unknown). -/
inductive KVal where
  | unknown
  | word (v : Option W64)
  | lanes (l : List (Nat × Option W32))
  deriving DecidableEq, Repr

/-- A result completes into register `d`. -/
def Known.put (k : Known) (d : Nat) (v : KVal) : Known :=
  if d < 32 then k
  else if d < 64 then
    match v with
    | .lanes l => { k with v := l.foldl (fun t x => sset none t (64 * (d - 32) + x.1) x.2) k.v }
    | _ => { k with v := seraseRange k.v (64 * (d - 32)) (64 * (d - 31)) }
  else
    let w : Option W64 := match v with | .word x => x | _ => none
    if d < 96 then { k with s := sset none k.s (d - 64) w } else { k with p := sset none k.p (d - 96) w }

/-- A two-operand scalar operation of known operands (R152). -/
def scalarOp (op : Nat) (a b : W64) : W64 :=
  match op with
  | 0x04 => a + b
  | 0x05 => a - b
  | 0x06 => a * b
  | 0x07 => a &&& b
  | 0x08 => a ||| b
  | 0x09 => a ^^^ b
  | 0x0A => a <<< (b.toNat % 64)
  | 0x0B => a >>> (b.toNat % 64)
  | _ => a.sshiftRight (b.toNat % 64)

/-- Apply a function to known operands. -/
def both (f : W64 → W64 → W64) (a b : Option W64) : Option W64 :=
  match a, b with
  | some x, some y => some (f x y)
  | _, _ => none

/-- The value an N operation gives its register. -/
def Known.nVal (k : Known) (w : Nat) : KVal :=
  let a := k.sv (bits w 13 5)
  let b := k.sv (bits w 18 5)
  match bits w 0 8 with
  | 0x01 => .word (some (BitVec.ofInt 64 (signed 32 (bits w 13 32))))
  | 0x02 => .word ((k.sv (bits w 8 5)).map (fun x => BitVec.ofNat 64 (x.toNat % 2 ^ 32 + bits w 13 32 * 2 ^ 32)))
  | 0x03 => .word (a.map (fun x => x + BitVec.ofInt 64 (signed 25 (bits w 23 25))))
  | 0x04 | 0x05 | 0x06 | 0x07 | 0x08 | 0x09 | 0x0A | 0x0B | 0x0C => .word (both (scalarOp (bits w 0 8)) a b)
  | 0x0E => .word (both (fun x y => if condInt64 (bits w 23 3) x y then BitVec.allOnes 64 else 0) a b)
  | 0x22 => .word ((k.sv (bits w 12 5)).map (fun x => x - 1))
  | _ => .unknown

/-- The value a V operation gives its register: VMOV, VINS and VEXTS keep known lanes known. -/
def Known.vVal (k : Known) (w : Nat) : KVal :=
  let vb := bits w 18 5
  let g := k.pv (bits w 28 3)
  let lane (i : Nat) (x : Option W32) : List (Nat × Option W32) :=
    match g with
    | some m => if m.getLsbD i then [(i, x)] else []
    | none => [(i, none)]
  match bits w 0 8 with
  | 0x1A => .lanes ((List.range 64).flatMap (fun i => lane i (if w.testBit 31 then (k.sv vb).map (fun x => x.truncate 32) else k.lane vb i)))
  | 0x1B => .lanes (lane (bits w 34 6) ((k.sv vb).map (fun x => x.truncate 32)))
  | 0x1C => .word ((k.lane (bits w 13 5) (bits w 34 6)).map (fun x => x.zeroExtend 64))
  | _ => .unknown

/-- A descriptor as far as it is known: its bits, those of unknown lanes 0, and which lanes are known. -/
structure KDesc where
  n : Nat
  known : List Bool
  deriving DecidableEq, Repr

/-- The descriptor in lanes 0 to 15 of a vector register. -/
def Known.desc (k : Known) (r : Nat) : KDesc :=
  let l := (List.range 16).map (fun i => k.lane r i)
  ⟨natOf (l.flatMap (fun w => bytesOf 4 ((w.map (·.toNat)).getD 0))), l.map (·.isSome)⟩

/-- A field of `w` bits from bit `lo`, where every lane it lies in is known. -/
def KDesc.fld (d : KDesc) (lo w : Nat) : Option Nat :=
  if (List.range ((lo + w - 1) / 32 + 1 - lo / 32)).all (fun i => d.known.getD (lo / 32 + i) false) then some (bits d.n lo w) else none

/-- The whole descriptor, where all of it is known. -/
def KDesc.whole (d : KDesc) : Option Nat := if d.known.all id then some d.n else none

/-! ## A path (R175) -/

/-- A result not complete: register, cycle, value. -/
structure KPend where
  dst : Nat
  due : Nat
  val : KVal
  deriving DecidableEq, Repr

/-- The step queue of a bobbin: starts of the descriptors posted, in step bobbin cycles, and the port end of the last. -/
structure KBob where
  starts : List Nat := []
  free : Nat := 0
  deriving DecidableEq, Repr

/-- A path being followed: bundle, step cycle, cycle with the holds of fixed-time items, and what R175 and R176 need to know there. -/
structure Trace where
  pc : Nat
  cy : Nat := 0
  now : Nat := 0
  k : Known := {}
  pend : List KPend := []
  arrayFree : Nat := 0
  done0 : Nat := 0
  done1 : Nat := 0
  read0 : Nat := 0
  read1 : Nat := 0
  portFree : Nat := 0
  /-- cycle of the MWARM that left COLD; last cycle of the last pass since the ramp was last raised -/
  warmAt : Option Nat := none
  lastPass : Option Nat := none
  /-- an MPASS has latched a B operand of this format -/
  latch : Option Nat := none
  /-- predicates of the sends that have not been named -/
  sends : List Nat := []
  /-- channels of the site, and the bobbins' queues; nothing is known of them once an unknown descriptor has been posted -/
  chan : Tile := {}
  bobs : Store KBob := []
  bobsKnown : Bool := true
  /-- backward branches taken once -/
  taken : List Nat := []
  deriving DecidableEq, Repr

/-- Port cycles of an L operation, when they can be told (R148). -/
def Known.interval (k : Known) (w : Nat) : Nat :=
  match bits w 0 8 with
  | 0x01 | 0x02 | 0x03 | 0x04 => 1
  | 0x05 | 0x08 | 0x0B | 0x0C | 0x0D => 4
  | 0x06 | 0x07 | 0x09 | 0x0A | 0x13 => 2
  | 0x10 | 0x11 => 36
  | 0x12 => ((k.sv (bits w 46 5)).map (fun n => lsaddU (n.toNat % 4096))).getD 0
  | _ => 0

/-- Earliest cycle at which an operation may issue by the fixed-time items of R47 and R148. -/
def Trace.bound (t : Trace) (k w : Nat) : Nat :=
  let op := bits w 0 8
  match k with
  | 0 =>
    let set1 := if op = 0x20 then w.testBit 8 else w.testBit 32
    if op = 0x10 || op = 0x11 then max t.arrayFree (if set1 then t.read1 else t.read0)
    else if op = 0x20 then (if set1 then t.done1 else t.done0) else 0
  | 3 =>
    let p := if t.k.interval w = 0 then 0 else t.portFree
    if op = 0x10 then max p t.done0 else if op = 0x11 then max p t.done1 else p
  | _ => 0

/-- Take the results that are complete by cycle `c`, in cycle order. -/
def Trace.complete (t : Trace) (c : Nat) : Trace :=
  let d := sortBy (fun a b => a.due ≤ b.due) (t.pend.filter (fun x => x.due ≤ c))
  { t with k := d.foldl (fun k x => k.put x.dst x.val) t.k, pend := t.pend.filter (fun x => c < x.due) }

/-- The cycle the bundle issues on: late fixed-time items hold it (R54, R180). -/
def Trace.issueAt (t : Trace) (ops : List (Nat × Nat)) : Nat :=
  let srcs := ops.flatMap (fun k => (slotInfo k.1 k.2).srcs)
  let held := (t.pend.filter (fun x => srcs.contains x.dst)).map (fun x => x.due)
  (held ++ ops.map (fun k => t.bound k.1 k.2)).foldl max t.now

/-- The fixed-latency results of an operation issued at `c` (R133). -/
def CheckEnv.results (e : CheckEnv) (k : Known) (c slot w : Nat) : List KPend :=
  let ds := (slotInfo slot w).dsts.filter (fun d => !isConst d)
  let op := bits w 0 8
  match slot with
  | 0 => ds.map (fun d => ⟨d, c + e.lat 2, .unknown⟩)
  | 3 =>
    if op = 0x12 then
      match k.sv (bits w 46 5) with
      | some n => ds.map (fun d => ⟨d, c + lsaddU (n.toNat % 4096) + 3, .unknown⟩)
      | none => []
    else if op = 0x20 then []
    else ds.map (fun d => ⟨d, c + e.lat ((slotItem 3 w).getD 8), .unknown⟩)
  | 4 =>
    if 0x30 ≤ op then []
    else ds.map (fun d => ⟨d, c + (match slotItem 4 w with | some i => e.lat i | none => 1), k.nVal w⟩)
  | _ => ds.map (fun d => ⟨d, c + e.lat ((patVItem w).getD 3), k.vVal w⟩)

/-- Two fixed-latency writes that complete into one register on one cycle (R133): the first new one that meets another. -/
def clash (old : List KPend) : List (Nat × KPend) → Option Nat
  | [] => none
  | x :: r => if (old ++ r.map (fun y => y.2)).any (fun z => z.dst = x.2.dst && z.due = x.2.due) then some x.1 else clash old r

/-- The declared ranges of a virtual tile, joined. -/
def CheckEnv.rangesOf (e : CheckEnv) (v : Nat) : Runs :=
  (e.y.placed.filter (fun d => d.v = v)).foldl (fun r d => runsAdd r d.g.start (d.g.start + d.g.len)) []

/-- The byte ranges a known L operation touches (R147 to R150): of an unknown stride the first row, of an unknown lane count the 16 lanes
that every LSADD has. -/
def Known.touches (k : Known) (w : Nat) : List (Nat × Nat) :=
  let op := bits w 0 8
  let at_ (r ofs align : Nat) : Option Nat := (k.sv r).map (fun x => (((x.toNat : Int) + signed 18 ofs) % 2 ^ 21).toNat / align * align)
  let a (align : Nat) : Option Nat := at_ (bits w 13 5) (bits w 18 18) align
  let one (align n : Nat) : List (Nat × Nat) := match a align with | some x => [(x, n)] | none => []
  match op with
  | 0x01 | 0x02 => one 8 8
  | 0x03 | 0x04 => one 32 256
  | 0x05 | 0x08 => one 64 4096
  | 0x06 | 0x07 | 0x09 | 0x0A => one 64 2048
  | 0x0B | 0x0C | 0x0D =>
    let r := ttRow op
    (match a 64, k.sv (bits w 36 5) with
      | some x, some st => (List.range (ttK op)).map (fun i => ((x + i * (st.toNat % 2 ^ 21 / r * r)) % 2 ^ 21, r))
      | some x, none => [(x, r)]
      | _, _ => [])
  | 0x10 | 0x11 => one 64 36864
  | 0x12 =>
    let len := match k.sv (bits w 46 5) with | some n => 18 * (n.toNat % 4096) | none => 288
    [a 64, at_ (bits w 36 5) 0 64, at_ (bits w 41 5) 0 64].filterMap (fun x => x.map (fun y => (y, len)))
  | 0x13 => (match at_ (bits w 13 5) 0 64 with | some x => [(x, 1152)] | none => [])
  | _ => []

/-- The pages a descriptor of a known opcode touches, as far as they are known: an unknown offset or length stands for the least the
operation can have, and a plane whose elements are not known for its first page. -/
def KDesc.named (d : KDesc) (op : Nat) : List Nat :=
  let len := max 1 ((d.fld 164 22).getD 1)
  let span (page off : Option Nat) : List Nat := match page with | some g => pageSpan g (off.getD 0) len | none => []
  let elems : Option (Nat × Nat) :=
    if op = 0x20 then (d.fld 192 17).map (fun k => (0, k * max 1 ((d.fld 209 12).getD 1)))
    else match d.fld 192 17, d.fld 209 17, d.fld 226 11, d.fld 168 4 with
      | some l, some k, some r, some f => some (r * l + k, (r + max 1 ((d.fld 237 7).getD 1) - 1) * l + k + fmtDepth f)
      | _, _, _, _ => none
  let plane (page : Option Nat) (bytes : Nat → Nat → Nat → Nat × Nat) : List Nat :=
    match page, elems, d.fld 168 4 with
    | some g, some e, some f => g :: planePages g (bytes f e.1 e.2).1 (bytes f e.1 e.2).2
    | some g, _, _ => [g]
    | none, _, _ => []
  match op with
  | 0x01 | 0x02 | 0x03 | 0x41 => span (d.fld 128 20) (d.fld 148 16)
  | 0x11 => (match d.fld 128 20 with | some g => pageSpan g 0 (8 * 65536) | none => [])
  | 0x40 => span (d.fld 128 20) (d.fld 148 16) ++ span (d.fld 192 20) (d.fld 212 16)
  | 0x10 | 0x20 =>
    plane (d.fld 128 20) elemSpan ++ (match d.fld 168 4 with | some f => if fmtScaled f then plane (d.fld 148 20) scaleSpan else [] | none => [])
  | _ => []

/-- The least number of scratchpad bytes a descriptor of a known opcode touches by what is known of it. -/
def KDesc.side (d : KDesc) (op : Nat) : Nat :=
  max 1 (match op with
    | 0x01 | 0x02 | 0x03 | 0x04 => (d.fld 164 22).getD 1
    | 0x05 => 4 * (d.fld 228 11).getD 1
    | 0x10 => 4096
    | 0x20 => ((d.fld 221 3).getD 0 + 1) * (d.fld 209 12).getD 1 *
        (match d.fld 266 2, d.fld 268 4 with | some 2, _ => 18 | some 1, some 0 => 4 | some 1, some 1 => 2 | _, _ => 1)
    | 0x30 => ((d.fld 222 3).getD 0 + 1) * (64 + 4 * (64 * 2 ^ (d.fld 216 2).getD 0))
    | _ => 1)

/-- The fields that fix a descriptor's time, beside opcode and tier, are known (R110, R117, R120, R121). -/
def KDesc.timed (d : KDesc) : Bool :=
  let has (l : List (Nat × Nat)) : Bool := l.all (fun f => (d.fld f.1 f.2).isSome)
  has [(8, 2)] && (match d.fld 0 8 with
    | none => false
    | some op =>
      match op with
      | 0x01 | 0x02 | 0x03 | 0x04 => has [(164, 22)]
      | 0x05 => has [(228, 11)]
      | 0x20 => has [(168, 4), (192, 32), (266, 6)]
      | 0x30 => has [(137, 8), (216, 9)]
      | 0x40 => has [(148, 38), (212, 16)]
      | 0x41 => has [(148, 38)]
      | _ => true)

/-- Opcodes with a tile-side operand: the movements, DECODE, ATTN, and GEMV where it writes its output. -/
def KDesc.sided (d : KDesc) (op : Nat) : Bool :=
  (1 ≤ op && op ≤ 5) || op = 0x10 || op = 0x30 || (op = 0x20 && (match d.fld 266 2 with | some o => o ≠ 0 | none => false))

/-- The latency item of a descriptor's tail (R110, R178). -/
def tailItem (op : Nat) : Option Nat :=
  match op with
  | 0x01 | 0x02 | 0x03 | 0x04 | 0x05 | 0x40 | 0x41 => some 16
  | 0x10 => some 17
  | 0x20 => some 18
  | 0x30 => some 19
  | _ => none

/-- An item the pattern uses and does not list (R178). -/
def CheckEnv.needItem (e : CheckEnv) (item loc : Nat) : List PFail :=
  if e.m.lat.any (fun v => v.1 = item) then [] else [(St.PAT_LATENCY, loc % 2 ^ 48 + item * 2 ^ 48)]

/-- What a descriptor breaks by its tier, format, pages, addresses and tail, each where it is known, whatever its other fields are; one known
to be refused touches no page and no scratchpad (R108, R176, R178). -/
def CheckEnv.descFinds (e : CheckEnv) (v : Nat) (d : KDesc) (loc : Nat) : List PFail :=
  let t := e.y.tiles.getD v 0
  let declared (g : Nat) : Bool := e.m.pages.any (fun x => x.vy * e.m.w + x.vx = v && x.locals.contains (g % 128) &&
    e.s.bobOfPage g = some (bobAt x.tier t) && (match d.fld 8 2 with | some k => k = x.tier | none => true))
  let tier := match d.fld 8 2 with | some k => if e.s.tiers ≤ k then [(St.PAT_RESOURCE_RANGE, loc)] else [] | none => []
  match d.fld 0 8 with
  | none => tier
  | some op =>
    let formed : Bool := match d.whole with | some n => descForm true n | none => true
    tier ++
      (match d.fld 168 4 with
        | some f => if (op = 0x10 || op = 0x20) &&
            ((13 ≤ f && !e.s.bit Reg.DEV_FEAT_ISA_NUTMEG) || (f = 9 && !e.s.bit Reg.DEV_FEAT_ISA_CLOVE4)) then
          [(St.PAT_RESOURCE_RANGE, loc)] else []
        | none => []) ++
      (if !formed || (d.named op).all declared then [] else [(St.PAT_REGION, loc)]) ++
      (match d.sided op, d.fld 64 2, d.fld 76 21 with
        | true, some 2, some a =>
          if !formed || runsCover (e.rangesOf v) a (a + d.side op) then [] else [(St.PAT_REGION, loc)]
        | _, _, _ => []) ++
      (match tailItem op with | some it => e.needItem it loc | none => [])

/-- The network items of the way from a tile to the router at `q` and out of it: NET_EJECT, NET_HOP for another router, NET_TURN for another
row and column (R178, R204). DESIGN CHOICE (log entry 75). -/
def CheckEnv.wayFinds (e : CheckEnv) (v : Nat) (q : Pos) (loc : Nat) : List PFail :=
  let a := posOfTile (e.y.tiles.getD v 0)
  e.needItem 23 loc ++ (if a = q then [] else e.needItem 21 loc) ++ (if a.x ≠ q.x && a.y ≠ q.y then e.needItem 22 loc else [])

/-- The network items a send uses (R178): NET_INJECT always, and those of its way where its destination is known to be a tile of the
placement. -/
def CheckEnv.sendFinds (e : CheckEnv) (v : Nat) (k : Known) (w loc : Nat) : List PFail :=
  e.needItem 20 loc ++
    (match (k.sv (bits w 14 5)).bind (fun a => e.y.tiles.find? (fun u => e.s.feid (epTile u) = bits a.toNat 0 24)) with
      | none => []
      | some u => e.wayFinds v (posOfTile u) loc)

/-- The network items of NSIG, NWAIT, NWALL and NBCAST: the way to the knot's home, and back with the grant (R178, R273, R274). -/
def CheckEnv.knotFinds (e : CheckEnv) (v w loc : Nat) : List PFail :=
  e.needItem 20 loc ++ e.wayFinds v (e.s.epPos (homeEp (e.s.knotHome (bits w 16 16)))) loc

/-- The data phases of a path that begin by bobbin cycle `c` take their channels, and extend the port ends of their bobbins (R102, R105). -/
def Trace.settle (t : Trace) (c : Nat) : Trace :=
  (t.chan.phases.filter (fun p => p.1 ≤ c)).foldl (fun t ph =>
      let ch := t.chan.takeChan ph.1 ph.2.1 ph.2.2.2.1
      let q := sget {} t.bobs ph.2.2.1
      { t with chan := ch.2, bobs := sset {} t.bobs ph.2.2.1 ⟨q.starts, q.free + ch.1⟩ })
    { t with chan := { t.chan with phases := t.chan.phases.filter (fun p => c < p.1) } }

/-- Post a known descriptor at the path's step cycle: its start, port end and data phase follow (R102, R104, R105). -/
def Trace.post (t : Trace) (n : Nat) : Trace :=
  let first := max ((t.cy + 5) / 2) (sget {} t.bobs (dTier n)).free
  let u := t.settle first
  let q := sget {} u.bobs (dTier n)
  let start := max first q.free
  let chan := if outBytes n ≠ 0 || inBytes n ≠ 0 then
      { u.chan with phases := insPhase (start + phaseLead n, phaseOfDesc n, dTier n, decide (outBytes n ≠ 0), none) u.chan.phases }
    else u.chan
  { u with chan := chan, bobs := sset {} u.bobs (dTier n) ⟨q.starts ++ [start], start + durOf n⟩ }

/-- Descriptors of a bobbin not yet started at the path's step cycle. -/
def Trace.waiting (t : Trace) (tier : Nat) : Nat := ((sget {} t.bobs tier).starts.filter (fun x => t.cy < 2 * x)).length

/-- Slots a known send pushes to a bound queue, and that queue's depth (R188). -/
def CheckEnv.pushes (e : CheckEnv) (k : Known) (w : Nat) : Option (Nat × Nat) :=
  match k.sv (bits w 14 5) with
  | none => none
  | some a =>
    let feid := bits a.toNat 0 24
    let len := bits a.toNat 36 13
    let qs := ((e.y.binds.drop e.m.externs).take e.m.queues).map (· % 2 ^ 14)
    (qs.find? (fun q => e.s.feid (epHost (e.s.rd (Reg.QCFG_CFG_EP q))) = feid)).map (fun q =>
      let full := len / 512
      let rest := len % 512
      (full * cdiv (32 + 512) 64 + (if rest = 0 then 0 else cdiv (32 + cdiv rest 64 * 64) 64), e.s.qcap q))

/-- The effect of one operation on a path, with what it breaks. -/
def CheckEnv.opStep (e : CheckEnv) (v slot w loc : Nat) (t : Trace) : Trace × List PFail :=
  let op := bits w 0 8
  match slot with
  | 0 =>
    let cold : Bool := match t.warmAt, t.lastPass with
      | none, _ => true
      | some _, some l => l + 33 ≤ t.now
      | some _, none => false
    let early : Bool := match t.warmAt with | some c => t.now < c + 32 | none => true
    let warm : List PFail := if cold || early then [(St.PAT_NO_WARM, loc)] else []
    let set1 := w.testBit 32
    let pass (len done : Nat) (t : Trace) : Trace :=
      let t1 := { t with arrayFree := t.now + len, lastPass := some (t.now + len - 1), warmAt := if cold then none else t.warmAt }
      if set1 then { t1 with done1 := max t1.done1 done } else { t1 with done0 := max t1.done0 done }
    match op with
    | 0x01 =>
      if cold then ({ t with warmAt := some t.now, lastPass := none }, [])
      else match t.lastPass with
        | some l => (if l < t.now then { t with lastPass := none } else t, [])
        | none => (t, [])
    | 0x10 =>
      let len := passP (bits w 8 4)
      ({ pass len (t.now + len + e.lat 0) t with latch := some (bits w 12 4) }, warm)
    | 0x11 =>
      let bad : Bool := match t.latch with
        | none => true
        | some f => 6 ≤ f || !pairOk (bits w 8 4) f
      (pass 66 (t.now + e.lat 1) t, warm ++ (if bad then [(St.PAT_SWAP_LATCH, loc)] else []))
    | 0x20 => (if w.testBit 8 then { t with read1 := t.now + 32 } else { t with read0 := t.now + 32 }, [])
    | _ => (t, [])
  | 3 =>
    let t1 : Trace := if t.k.interval w = 0 then t else { t with portFree := t.now + t.k.interval w }
    let t2 : Trace := if op = 0x10 then { t1 with read0 := t.now + 32 } else if op = 0x11 then { t1 with read1 := t.now + 32 } else t1
    if op = 0x20 then
      let d := t.k.desc (bits w 8 5)
      let f := e.descFinds v d loc
      if (match d.whole with | some n => !descForm true n | none => false) then (t, f)
      else if !d.timed then ({ t with bobsKnown := false }, f)
      else if !t.bobsKnown then (t, f)
      else (t.post d.n, f ++ (if 8 ≤ t.waiting (dTier d.n) then [(St.PAT_QUEUE_OVERFLOW, loc)] else []))
    else
      (t2, if (t.k.touches w).all (fun r => runsCover (e.rangesOf v) r.1 (r.1 + r.2)) then [] else [(St.PAT_REGION, loc)])
  | 4 =>
    if op = 0x30 then
      let past : Bool := match e.pushes t.k w with | some (n, d) => bits w 24 2 = 0 && d < n | none => false
      ({ t with sends := bits w 27 3 :: t.sends }, (if 4 ≤ t.sends.length || past then [(St.PAT_QUEUE_OVERFLOW, loc)] else []) ++ e.sendFinds v t.k w loc)
    else if 0x40 ≤ op && op ≤ 0x43 then (t, e.knotFinds v w loc)
    else (t, [])
  | _ => (t, [])

/-- Registers an operation leaves unknown at once: destinations whose time no rule fixes. -/
def Known.forget (k : Known) (slot w : Nat) : Known :=
  let op := bits w 0 8
  if (slot = 3 && op = 0x20) || (slot = 4 && 0x30 ≤ op) || (slot = 3 && op = 0x12) then
    (slotInfo slot w).dsts.foldl (fun k d => k.put d .unknown) k
  else k

/-- Where a path goes after the bundle at `t.pc`: the next bundle and the backward branches taken (R153, R175). -/
def Trace.nexts (t : Trace) (ops : List (Nat × Nat)) : List (Nat × List Nat) :=
  match ops.find? (fun k => k.1 = 4) with
  | none => [(t.pc + 1, t.taken)]
  | some (_, w) =>
    let tgt := brTarget w
    let on := (t.pc + 1, t.taken)
    let back : Bool := tgt ≤ t.pc
    let inner := t.taken.filter (fun q => !(tgt ≤ q && q < t.pc))
    let once : List (Nat × List Nat) := if t.taken.contains t.pc then [] else [(tgt, t.pc :: inner)]
    match bits w 0 8 with
    | 0x20 => if back then once else [(tgt, t.taken)]
    | 0x21 =>
      if back then once ++ [on]
      else (match t.k.pv (bits w 8 3) with
        | some x => if x.getLsbD 0 = w.testBit 11 then [(tgt, t.taken)] else [on]
        | none => [(tgt, t.taken), on])
    | 0x22 =>
      (match t.k.sv (bits w 12 5) with
        | some x => if x - 1 = 0 then [on] else [(tgt, if back then inner else t.taken)]
        | none => if back then once ++ [on] else [(tgt, t.taken), on])
    | 0x2F => []
    | _ => [on]

/-- Issue one bundle on a path: what it breaks, the path after it, and where it goes. -/
def CheckEnv.bundleStep (e : CheckEnv) (v : Nat) (c : PatCode) (t : Trace) : List PFail × Trace × List (Nat × List Nat) :=
  let i := t.pc - e.y.base
  if t.pc < e.y.base || c.nb ≤ i || !bundleLegal (c.bundle i) then ([], t, [])
  else
    let ops := slotsOf (c.bundle i)
    let now := t.issueAt ops
    let named := ops.flatMap (fun k => (slotInfo k.1 k.2).srcs)
    let t0 := { (t.complete now) with now := now, sends := t.sends.filter (fun p => !named.contains (kP p)) }
    let new := ops.flatMap (fun k => (e.results t0.k now k.1 k.2).map (fun r => (k.1, r)))
    let hit : List PFail := match clash t0.pend new with
      | some k => [(St.PAT_WRITE_HAZARD, patLoc c.vx c.vy i k 0)]
      | none => []
    let r := ops.foldl (fun a k =>
      let x := e.opStep v k.1 k.2 (patLoc c.vx c.vy i k.1 0) a.1
      (x.1, a.2 ++ x.2)) (t0, ([] : List PFail))
    let t1 := { r.1 with
      k := ops.foldl (fun k o => k.forget o.1 o.2) r.1.k
      pend := r.1.pend ++ new.map (fun x => x.2), cy := t.cy + 1, now := now + 1 }
    (r.2 ++ hit, t1, t0.nexts ops)

/-- The path with its times counted from its next bundle's cycle, which is called 64; a time that lies so far back that no rule asks for it
any more is put at the last one that is. Two paths that agree in this go on alike. -/
def Trace.norm (t0 : Trace) : Trace :=
  let t := t0.complete t0.now
  let f (x : Nat) : Nat := 64 + (x - t.now)
  let g (x : Nat) : Nat := 32 + (x - t.cy / 2)
  { t with
    cy := 64 + t.cy % 2, now := 64, pend := t.pend.map (fun x => { x with due := f x.due })
    arrayFree := f t.arrayFree, done0 := f t.done0, done1 := f t.done1, read0 := f t.read0, read1 := f t.read1, portFree := f t.portFree
    warmAt := t.warmAt.map (fun c => 32 + (c + 32 - t.now)), lastPass := t.lastPass.map (fun l => 31 + (l + 33 - t.now))
    chan := { t.chan with phases := t.chan.phases.map (fun p => (g p.1, p.2)), up0 := g t.chan.up0, up1 := g t.chan.up1, dn0 := g t.chan.dn0, dn1 := g t.chan.dn1 }
    bobs := t.bobs.map (fun v => (v.1, { starts := (v.2.starts.filter (fun x => t.cy < 2 * x)).map g, free := g v.2.free })) }

/-- The paths followed side by side, each at the same step cycle: what they have broken, where each is, and the latest states they were in
after a branch that no known value decides. -/
structure Front where
  finds : List PFail := []
  at_ : List Trace := []
  seen : List Trace := []

/-- Add the paths a bundle leads to. After an undecided branch a path that agrees with one followed before is not followed again. -/
def Front.add (f : Front) (t : Trace) (nx : List (Nat × List Nat)) : Front :=
  match nx with
  | [] => f
  | [x] => { f with at_ := f.at_ ++ [{ t with pc := x.1, taken := x.2 }] }
  | _ => nx.foldl (fun f x =>
      let u := { t with pc := x.1, taken := x.2 }.norm
      if f.seen.contains u then f else { f with at_ := f.at_ ++ [u], seen := (u :: f.seen).take 256 }) f

/-- Follow every path for at most `n` step cycles (R175). -/
def CheckEnv.follow (e : CheckEnv) (v : Nat) (c : PatCode) : Nat → Front → List PFail
  | 0, f => f.finds
  | n + 1, f =>
    if f.at_.isEmpty then f.finds
    else CheckEnv.follow e v c n (f.at_.foldl (fun g t =>
      let r := e.bundleStep v c t
      { g with finds := g.finds ++ r.1 }.add r.2.1 r.2.2) { f with at_ := [] })

/-- What the paths of a tile break, from every entry point, up to MAX_CY (R175, R176). -/
def CheckEnv.pathFinds (e : CheckEnv) (v : Nat) (c : PatCode) : List PFail :=
  (c.ents.zip e.m.entries).flatMap (fun x => e.follow v c (x.2.1 + 1) { at_ := [{ pc := e.y.base + x.1 }] })

/-! ## The check -/

/-- The rules in the order of R176. -/
def checkOrder : List Code :=
  [St.PAT_ENCODING, St.PAT_RESOURCE_RANGE, St.PAT_REGION, St.PAT_BINDING, St.PAT_FOREIGN, St.PAT_ND_STRICT, St.PAT_ND_UNDECLARED,
   St.PAT_QUEUE_OVERFLOW, St.PAT_LATENCY, St.PAT_WRITE_HAZARD, St.PAT_NO_WARM, St.PAT_SWAP_LATCH]

/-- Everything a patched pattern breaks; paths are followed only in a pattern whose bundles are all legal. -/
def CheckEnv.finds (e : CheckEnv) (bindCount : Nat) : List PFail :=
  let one := e.headFinds ++ e.y.code.flatMap e.codeFinds ++ e.pageFinds ++ e.bindFinds bindCount ++ e.latFinds
  if one.any (fun f => f.1 = St.PAT_ENCODING) then one
  else one ++ e.y.code.zipIdx.flatMap (fun c => e.pathFinds c.2 c.1)

/-- The first rule that fails, if any (R176). -/
def firstFail (l : List PFail) : Option PFail := checkOrder.findSome? (fun c => l.find? (fun f => f.1 = c))

end Sys2Proof.Machine
end

