-- ==== Sys2Proof/Machine/Patterns.lean ====
section
/-! DEFINITION. Loading and unloading patterns (spec/06 R168 to R170, R173; spec/15 R397; spec/10 R279; spec/12 R317). -/

namespace Sys2Proof.Machine

/-- A command that changes the panel's patterns: only while it is STOPPED; 0x0203 while its tiles may issue, 0x0202 otherwise, both
recorded (R170, R396, R397). -/
def State.patternGate (j : Job) (p : Nat) (f : State → State) (s : State) : State :=
  if s.pst p = PS.stopped then f s
  else
    let code := if s.isLive p then St.IMEM_IN_USE else St.PANEL_NOT_STOPPED
    (s.refusePanel p code 0).complete j code

/-- Steps 2 to 5 of R169: parse, lay the grid, allocate, bind, patch and check. -/
def State.buildPattern (s : State) (p : Nat) (c : Cmd) (img : List Byte) : Except PFail (Image × Layout) := do
  let m ← parseImage img (c.fld 8 4)
  need (m.isaMajor = s.rd Reg.DEV_FEAT_ISA_ISA_MAJOR && m.isaMinor ≤ s.rd Reg.DEV_FEAT_ISA_ISA_MINOR) St.PAT_ISA (secLoc 0)
  let tiles ← s.layGrid p m (c.fld 14 1) (c.fld 15 1 % 2)
  let base ← s.allocImem p m.bundles tiles
  let placed ← s.allocScratch p m tiles
  let knots ← s.allocKnots p m tiles
  let n := c.fld 12 2
  let a := c.fld 16 8
  match s.dmaFail c.fn a (4 * n) with
  | some bad => .error (St.DMA_ERROR, bad)
  | none => .ok ()
  let bs := s.hostRead a (4 * n)
  let y0 : Layout := ⟨tiles, base, placed, knots, (List.range n).map (fun i => leAt bs (4 * i) 4), m.code, m.initData⟩
  let y ← s.patch m y0
  match firstFail (CheckEnv.finds ⟨s, p, m, y⟩ n) with
  | some f => .error f
  | none => return (m, y)

/-- A bundle with only the N slot enabled, holding NEND (R173). -/
def nendBundle : Nat := 0x10 + 0x2F * 2 ^ 208

/-- Write the code of a virtual tile into its range of instruction memory, NEND behind it (R173). -/
def Tile.loadCode (x : Tile) (base n : Nat) (c : PatCode) : Tile :=
  { x with imem := (List.range n).foldl (fun m i =>
      m.writeWord Space.imem (base + i) (bytesOf 32 (if i < c.nb then c.bundle i else nendBundle))) x.imem }

/-- Write initial contents into a tile's scratchpad. -/
def State.loadScratch (t a : Nat) (bs : List Byte) (s : State) : State :=
  ((s.updTile t (fun x => (bufWrites a 0 0 bs).foldl (fun x b => x.performWrite b) x)).spFlushAll t)

/-- The resident record of a pattern. -/
def residentOf (m : Image) (y : Layout) (digest : BitVec 384) : Pattern :=
  { gridW := m.w, gridH := m.h, ndKinds := m.nd, entries := m.entries, base := y.base, bundles := m.bundles, tiles := y.tiles
    starts := m.code.map (fun c => c.ents.map (· + y.base)), ranges := y.placed.map (fun d => d.g)
    pages := m.pages.map (fun x => ⟨y.tiles.getD (x.vy * m.w + x.vx) 0, x.tier, x.wPages, x.kvLo, x.kvHi⟩)
    knots := y.knots, queues := ((y.binds.drop m.externs).take m.queues).map (· % 2 ^ 14), lat := m.lat, buildId := m.buildId, digest := digest }

/-- Write instruction memory and initial scratchpad contents, and set the knots' counts to 0 (R169, R173, R279). A SHARED range whose
KEY is resident keeps its contents. -/
def State.writePattern (p : Nat) (y : Layout) (n : Nat) (s : State) : State :=
  let held (key : Nat) : Bool := (s.residents p).any (fun q => q.ranges.any (fun g => g.shared && g.key = key))
  let s1 := (y.tiles.zip y.code).foldl (fun (s : State) k => s.updTile k.1 (fun x => x.loadCode y.base n k.2)) s
  let s2 := y.data.foldl (fun (s : State) d =>
    match y.placed.find? (fun g => g.v = d.1 && g.rec_ = d.2.1) with
    | some g => if g.g.shared && held g.g.key then s else s.loadScratch g.g.tile (g.g.start + d.2.2.1) (bytesOf d.2.2.2.1 d.2.2.2.2)
    | none => s) s1
  y.knots.foldl (fun s k => s.setKnot k { (s.knot k) with count := 0 }) s2

/-- The lowest free handle of a panel (R170). -/
def State.freeHandle (s : State) (p : Nat) : Nat := ((List.range 32).find? (fun h => (s.pattern? p h).isNone)).getD 0

/-- PATTERN_LOAD once it is accepted: it is performed when the rows it writes are Active (R169, R170, R436). With 32 patterns resident it
completes with 0x0314 before its image is read: R170 does not order the two (DESIGN CHOICE, log entry 87). -/
def State.loadPattern (j : Job) (p : Nat) (verify : Bool) (s : State) : State :=
  if !verify && 32 ≤ (s.panel p).patterns.length then s.complete j St.PAT_TABLE_FULL
  else s.fetchFor j (j.cmd.fld 0 8) (j.cmd.fld 8 4) (fun img s =>
    match s.buildPattern p j.cmd img with
    | .error f => s.completeD j f.1 f.2 0
    | .ok (m, y) =>
      if verify then s.completeD j St.OK (0xFF + 256 * y.base) 0
      else
        s.whenOn j.id (y.tiles.map domOfTile).eraseDups (fun s =>
          let h := s.freeHandle p
          let s1 := s.writePattern p y m.bundles
          (s1.updPanel p (fun x => { x with patterns := sset {} x.patterns h (residentOf m y (digest384 img)) })).completeD j St.OK
            (h + 256 * y.base) 0))

/-- PATTERN_LOAD (0x0301). -/
def specPatternLoad : CmdSpec where
  opcode := 0x0301
  vf := true
  used := usedBytes 0 15 ||| usedBits 15 0 2 ||| usedBytes 16 8
  body := fun j s =>
    if j.cmd.fld 0 8 % 64 ≠ 0 then s.complete j St.CMD_FORMAT
    else s.onPanel j (fun p s =>
      let verify := bits (j.cmd.fld 15 1) 1 1 = 1
      if verify then s.loadPattern j p true else s.patternGate j p (State.loadPattern j p false))

/-- PATTERN_LOAD: loads, or only verifies, a pattern (R168 to R178). -/
def execPatternLoad (c : Cmd) (s : State) : Host.Outcome State Fault Refusal := .next (specPatternLoad.perform none c s)

/-- A pattern is no longer resident: its instruction memory, PRIVATE ranges and knots are free; a SHARED range stays reserved while
another resident pattern declares its KEY (R170); its release tables are discarded (R318). -/
def State.dropPattern (p h : Nat) (s : State) : State :=
  let rest := sdel (s.panel p).patterns h
  let gone := match s.pattern? p h with | some q => q.ranges.filter (fun g => g.shared) | none => []
  let wanted (g : Range) : Bool := rest.any (fun v => v.2.ranges.any (fun r => r.shared && r.key = g.key))
  (s.updPanel p (fun x => { x with patterns := rest, kept := ((x.kept ++ gone).filter wanted).eraseDups })).updWgt p (fun w =>
    { w with releases := w.releases.filter (fun t => t.handle ≠ h) })

/-- PATTERN_UNLOAD (0x0302). -/
def specPatternUnload : CmdSpec where
  opcode := 0x0302
  vf := true
  used := usedBytes 0 1
  body := fun j s => s.onPanel j (fun p s => s.patternGate j p (fun s =>
    let h := j.cmd.fld 0 1
    if (s.pattern? p h).isNone then s.complete j St.PAT_HANDLE
    else if s.wst p ≠ WS.none && (s.wgt p).place = h then s.complete j St.WEIGHTS_BUSY
    else (s.dropPattern p h).complete j St.OK))

/-- PATTERN_UNLOAD: removes a resident pattern, freeing its instruction memory, PRIVATE ranges and knots (R168, R170). -/
def execPatternUnload (c : Cmd) (s : State) : Host.Outcome State Fault Refusal := .next (specPatternUnload.perform none c s)

end Sys2Proof.Machine
end

