-- ==== Sys2Proof/Machine/Decoder.lean ====
section
/-! DEFINITION. The command decoder: every opcode with its command, the queues it serves, and the taking of one command (spec/16 R422 to
R425, R429; spec/19 R472, R473). -/

namespace Sys2Proof.Machine

/-! ## Opcodes (R429) -/

/-- Commands 0x01XX. -/
def specs01 : List CmdSpec := [
  specDevReset, specQueueCtl, specStitchRole, specStitchSet]

/-- Commands 0x02XX. -/
def specs02 : List CmdSpec := [
  specPanelStart, specPanelStop, specPanelReset, specPanelSuspend, specPanelRestore, specPanelCtxRelease]

/-- Commands 0x03XX. -/
def specs03 : List CmdSpec := [
  specPatternLoad, specPatternUnload, specModelLoad, specModelUnload, specModelRefit, specRefitResume, specWgtRelease,
  specModelSource, specRefitJournal]

/-- Commands 0x04XX. -/
def specs04 : List CmdSpec := [
  specSpoolSubmit, specSpoolAppend, specSpoolCancel, specSpoolClose, specSpoolRead, specBucketSet, specTokenizerLoad,
  specParkAreaSet, specSpoolAck]

/-- Commands 0x05XX. -/
def specs05 : List CmdSpec := [
  specFabDiscover, specFabPortRole, specFabPortService, specRdirWrite, specRdirCopy, specRdirSwap, specPortSet,
  specSeamOpen, specSeamClose]

/-- Commands 0x06XX. -/
def specs06 : List CmdSpec := [
  specKnotSignal, specKnotWait, specKnotWaitall, specKnotBroadcast, specKnotSet, specKnotRead, specDbgAuth,
  specDbgDeauth, specDbgHalt, specDbgResume, specDbgSnap, specReplaySet, specReplayInject, specReplayRun]

/-- Commands 0x07XX. -/
def specs07 : List CmdSpec := [
  specPwrEnvelope, specPwrHold]

/-- Commands 0x08XX. -/
def specs08 : List CmdSpec := [
  specFwUpdate, specAttest, specAttestCert, specPartStage, specFwSvnCommit, specOwnerKeyFuse]

/-- Commands 0x09XX. -/
def specs09 : List CmdSpec := [
  specMemFill, specMemRetire]

/-- Every assigned opcode's command. -/
def allSpecs : List CmdSpec := specs01 ++ specs02 ++ specs03 ++ specs04 ++ specs05 ++ specs06 ++ specs07 ++ specs08 ++ specs09

/-- The command of an opcode; none for an unassigned one. -/
def specOf (opcode : Nat) : Option CmdSpec := allSpecs.find? (fun k => k.opcode = opcode)

/-! ## Command packets (R422) -/

/-- Bits [lo + w − 1 : lo] of a slot. -/
def slotBits (v : BitVec 512) (lo w : Nat) : BitVec w := BitVec.ofNat w (v.toNat / 2 ^ lo)

/-- Opcode and command of a slot of a submission queue. -/
def parseCmd (fn sq : Nat) (v : BitVec 512) : Nat × Cmd :=
  ((slotBits v 0 16).toNat,
    { fn := fn, sq := sq, flags := slotBits v 16 16, panel := slotBits v 32 8, len := slotBits v 40 8, cq := slotBits v 48 16
      tag := slotBits v 64 32, rsv := slotBits v 96 32, par := slotBits v 128 384 })

/-- An opcode nobody is assigned: the format is checked before the opcode is (R424). -/
def State.unknownCmd (opcode idx : Nat) (c : Cmd) (s : State) : State :=
  let j : Job := { id := s.nextJob, opcode := opcode, cmd := c, cq := s.cqOf c, idx := some idx }
  let k : CmdSpec := { opcode := opcode, vf := true, used := BitVec.allOnes 384, body := fun _ s => s }
  (s.startJob opcode (some idx) c).complete j (if k.formOk c then St.CMD_OPCODE else St.CMD_FORMAT)

/-! ## Twin pairs (R472, R473) -/

/-- Does the decoder take nothing from the queue: a standby's mirrored queue, or the tag table is full? -/
def State.twinHolds (s : State) (q : Nat) : Bool :=
  (s.mirroredSq q).isSome && (s.tws = TW.standby || s.tws = TW.standbySync ||
    s.rd Reg.FAB_TWIN_CAP_TAGS ≤ (s.twin.doneTags.filter (fun t => (s.mirroredSq t.q).isSome)).length)

/-- On a mirrored panel's own queues only serving commands are performed; another is refused at once. -/
def CmdSpec.onSq (k : CmdSpec) (s : State) (q : Nat) : CmdSpec :=
  if (s.mirroredSq q).isSome && !(0x0401 ≤ k.opcode && k.opcode ≤ 0x0409) then
    { k with needs := fun _ _ => [], body := fun j s => s.complete j St.TWIN_QUEUE_OP }
  else k

/-- The record of a command of a panel's own queue that completed before a promotion: same queue, index and tag. -/
def State.doneBefore (s : State) (q i : Nat) (c : Cmd) : Option TagEntry :=
  if (s.queueOwner q).isSome then s.twin.tags.find? (fun t => t.q = q && t.i = i && t.tag = c.tag) else none

/-! ## Taking a command (R423) -/

/-- Perform the command of a slot taken from index `i` of queue `q`, or complete it as it completed before. -/
def State.performOp (q i : Nat) (op : Nat × Cmd) (s : State) : State :=
  match s.doneBefore q i op.2 with
  | some t =>
    let j : Job := { id := s.nextJob, opcode := op.1, cmd := op.2, cq := s.cqOf op.2, idx := some i }
    let s1 := { s with twin := { s.twin with tags := s.twin.tags.erase t } }
    (s1.startJob op.1 (some i) op.2).completeD j t.status t.detail.toNat 0
  | none =>
    match specOf op.1 with
    | some k => (k.onSq s q).perform (some i) op.2 s
    | none => s.unknownCmd op.1 i op.2

/-- Perform the command of a slot; on a mirrored panel's own queue that is a change of the panel, whatever it does (R470, R473). -/
def State.performSlot (q i : Nat) (op : Nat × Cmd) (s : State) : State :=
  match s.mirroredSq q with
  | some p => s.mirrored p (State.performOp q i op)
  | none => s.performOp q i op

/-- May the command at READ start: its completion queue has room, and with FENCE nothing of its queue is in progress? -/
def State.mayStart (s : State) (q : Nat) (c : Cmd) : Bool :=
  s.qused (s.cqOf c) < s.qcap (s.cqOf c) && (!c.flags.getLsbD 1 || !s.jobs.any (fun j => j.cmd.sq = q))

/-- Is PAIR an enabled completion queue of the queue's function? -/
def State.pairOk (s : State) (q : Nat) : Bool := s.isCq (s.queueFn q) (s.rd (Reg.QCFG_CFG_PAIR q))

/-- Can the decoder act on the queue: it holds a command that may start, or must stop? -/
def State.decodable (s : State) (q : Nat) : Bool :=
  s.qon q && s.qtype q = QT.sq && s.deliverable q && !s.twinHolds q &&
    (!s.pairOk q || (match s.qslot q (s.qread q) with
      | none => true
      | some v => s.mayStart q (parseCmd (s.queueFn q) q v).2))

/-- The enabled queues, in ascending order: the listed ENABLE bits. -/
def State.enabledQueues (s : State) : List Nat :=
  (s.csr.filter (fun e => isEnableKey e.1)).map (fun e => (e.1 / 64 - 0x800000) / 0x40)

/-- The queue the decoder serves next: the one whose turn it is while it has commands left in the round, then the next in cyclic order. -/
def State.nextSq (s : State) : Option Nat :=
  let qs := s.enabledQueues.filter s.decodable
  if qs.contains s.turn && (s.queue s.turn).turn < max 1 (s.rd (Reg.QCFG_CFG_WEIGHT s.turn)) then some s.turn
  else match qs.find? (fun q => s.turn < q) with
    | some q => some q
    | none => qs.head?

/-- Count a command of queue `q` in its round. -/
def State.countTurn (q : Nat) (s : State) : State :=
  let n := if s.turn = q && (s.queue q).turn < max 1 (s.rd (Reg.QCFG_CFG_WEIGHT q)) then (s.queue q).turn + 1 else 1
  { s.updQueue q (fun x => { x with turn := n }) with turn := q }

/-- Take the command at READ of a queue: a queue without a valid PAIR stops with 0x0104, and so does one whose slot fails its check; any
other command is taken and performed. -/
def State.decodeFrom (q : Nat) (s : State) : State :=
  let i := s.qread q
  if !s.pairOk q then s.qstop q i St.CQ_INVALID
  else match s.asleep q i with
  | some d => s.demand d
  | none => match s.qslot q i with
    | none => s.qareaFail q i
    | some v => ((s.countTurn q).passPacket q).performSlot q i (parseCmd (s.queueFn q) q v)

/-! ## Waking (R436) -/

/-- Commands that waited for domains which are all Active now are performed, unchanged (R436). -/
def State.resumeJobs (s : State) : State :=
  let ready := s.power.jobsWait.filter (fun v => v.2.all s.domOn)
  let s1 := { s with power := { s.power with jobsWait := s.power.jobsWait.filter (fun v => !v.2.all s.domOn) } }
  ready.foldl (fun (s : State) v =>
    match s.jobs.find? (fun j => j.id = v.1) with
    | none => s
    | some j =>
      match specOf j.opcode with
      | none => s
      | some k =>
        match j.cmd.pnl with
        | some p => s.mirrored p ((k.onSq s j.cmd.sq).body j)
        | none => (k.onSq s j.cmd.sq).body j s) s1

/-- DOMAIN_WAKE_COMPLETE: a woken domain is Active, and what waited for it is performed (R410, R434, R436). -/
def execDomainWakeComplete (d : Nat) (s : State) : Host.Outcome State Fault Refusal :=
  .next (match sget none s.power.waking d with
    | some t => if reached s.now t then ((s.activate d).moveAreas).resumeJobs else s
    | none => if s.domOn d then s.moveAreas.resumeJobs else s)

/-- COMMAND_DECODE: the decoder takes the next command of the enabled submission queues, in weighted round robin, checks it in the order of
R424, and performs it or completes it with its code (R422 to R425, R472, R473). -/
def execCommandDecode (s : State) : Host.Outcome State Fault Refusal :=
  .next (match s.nextSq with
    | some q => s.decodeFrom q
    | none => s)

end Sys2Proof.Machine
end

