-- ==== Sys2Proof/Machine/TileEvents.lean ====
section
/-! DEFINITION. What happens at a tile from edge to edge: results, holds, limits, slot masks, send slots (spec/02 R53 to R55, R68; spec/05
R133, R156, R165; spec/06 R181 to R186). A row whose condition does not hold leaves the state as it is (log entry 4). -/

namespace Sys2Proof.Machine

/-! ## Results (R53, R133) -/

/-- Insert a result by the edge it is due on, after those of the same edge. -/
def insDue (r : Result) : List Result → List Result
  | [] => [r]
  | q :: l => if r.due < q.due then r :: q :: l else q :: insDue r l

/-- Results in the order they are due. -/
def byDue (l : List Result) : List Result := l.foldl (fun acc r => insDue r acc) []

/-- The other operation's result wins the register: it issued later, or on the same edge from an earlier slot (R133). -/
def beatenBy (r q : Result) : Bool :=
  q.dst = r.dst && q.due = r.due && (r.issued < q.issued || (r.issued = q.issued && q.slot < r.slot))

/-- Is the result complete on edge `e`, its register not captured (R53)? -/
def Tile.ripe (x : Tile) (e : Nat) (r : Result) : Bool := r.due ≤ e && !x.isCaptured e r.dst

/-- Write the complete results and set the presence bit of each register written (R53, R133). -/
def Tile.writeback (x : Tile) (e : Nat) : Tile :=
  let ready := byDue (x.inflight.filter (x.ripe e))
  let x1 := { x with inflight := x.inflight.filter (fun r => !x.ripe e r) }
  let x2 := (ready.filter (fun r => !ready.any (beatenBy r))).foldl (fun y r => y.wrCells r.dst r.writes) x1
  ready.foldl (fun y r => y.present r.dst) x2

/-- Results that complete into one register on one edge: another result beats it, or the same operation writes the register twice
(R133). -/
def collides (ready : List Result) (r : Result) : Bool := 1 < (ready.filter (fun q => q.dst = r.dst && q.due = r.due)).length

/-- RESULT_WRITEBACK: the results that are due are written; a register collision is 0x040D (R42, R45, R53, R133, R179). -/
def execResultWriteback (t : Nat) (s : State) : Host.Outcome State Fault Refusal :=
  let x := s.tile t
  let e := s.clk.edge
  let ready := x.inflight.filter (x.ripe e)
  let s1 := s.setTile t (x.writeback e)
  .next (match ready.find? (collides ready) with
    | some r => s1.tileFault t St.REG_WRITE_COLLISION (s.siteBits t + 1024 * r.dst) x.cy
    | none => s1)

/-! ## Holds (R54, R165, R181 to R183) -/

/-- Count a held cycle of the tile, and show the panel FROZEN (R181, R183). -/
def State.holdTile (t p : Nat) (s : State) : State :=
  let s1 := (s.updTile t (fun x => { x with sx := x.sx + 1, held := true })).wrapOvf (Reg.TILE_PERF_FROZEN_COUNT t)
    (Reg.TILE_PERF_FROZEN_OVF t) 1
  (if s1.pst p = PS.running then s1.setPst p PS.frozen else s1).wr (Reg.LAT_PNL_FROZEN p) 1

/-- The banks that hold the waiting bundle up: those another access has reserved, those it needs twice, the bank of the entry its
narrow store evicts (R63, R286). -/
def Tile.busyBanks (x : Tile) (e b : Nat) : List Nat :=
  if slotOn b 3 then
    let w := slotWord b 3
    let use := x.portUse w
    let c := x.conflicts e use
    let c1 := if c = [] && x.paid < selfSerial use then serialBanks use x.paid else c
    match if bits w 0 8 = 0x02 then x.mergeFull (spWord (x.addr w 8)) else none with
    | some m => c1 ++ [m.word % 32]
    | none => c1
  else []

/-- A cycle on which a late item holds the tile's bundle: TILE_LATE, the bank counters, the tree, and the first tile of a freeze
(R54, R63, R181, R183). -/
def State.holdLate (t p cause : Nat) (s : State) : State :=
  let x := s.tile t
  let e := s.clk.edge
  let b := x.bundle x.pc
  let s1 := ((s.stick (Reg.TILE_LATE_COUNT t) 1).wr (Reg.TILE_LATE_LAST_CAUSE t) cause).wr (Reg.TILE_LATE_LAST_CY t) x.cy
  let s2 := if cause = 2 then (x.busyBanks e b).foldl (fun s k => s.bankConf t k) s1 else s1
  let self : Bool := cause == 2 && slotOn b 3 && (x.conflicts e (x.portUse (slotWord b 3))).length == 0 &&
    decide (x.paid < selfSerial (x.portUse (slotWord b 3)))
  let s3 := s2.updTile t (fun y => { y with
    paid := if self then y.paid + 1 else y.paid
    lateSince := some (y.lateSince.getD s.now) })
  let first := !(s.panel p).frozen
  let s4 := s3.updPanel p (fun q => { q with frozen := true, run := q.run.map (fun r => { r with lateNow := true }) })
  let s5 := if first then
      (((s4.stick (Reg.LAT_PNL_FREEZES p) 1).wr (Reg.LAT_PNL_LAST_X p) (s.gridX t)).wr (Reg.LAT_PNL_LAST_Y p) (tileY t)).wr
        (Reg.LAT_PNL_LAST_CAUSE p) cause
    else s4
  s5.holdTile t p

/-- A fetched bundle fails its check: one entry in the detection layout, and the panel faults (R67, R288). -/
def State.fetchFail (t : Nat) (s : State) : State :=
  let x := s.tile t
  let p := s.panelOfTile t
  let syn := x.imem.syndrome Space.imem t x.pc
  let step := match p with | some p => s.stepCtr p % 2 ^ 32 | none => 0
  s.tileFault t St.IMEM_CHECK_FAIL (detectD0 2 false false (s.gridX t) (tileY t) 0 0 x.pc) (syn.toNat + 65536 + step * 2 ^ 32)

/-- TILE_HOLD_CYCLE: on an edge of a running step on which nothing of the tile's bundle has issued, the hold tree or a late item
holds it; a bundle that fails its check or is illegal faults the panel instead (R54, R67, R165, R181). -/
def execTileHoldCycle (t : Nat) (s : State) : Host.Outcome State Fault Refusal :=
  let x := s.tile t
  let b := x.bundle x.pc
  .next (match s.panelOfTile t with
    | none => s
    | some p =>
      match (s.panel p).run with
      | none => s
      | some r =>
        if !s.isLive p || !x.run || x.held || s.stopped p t || s.clk.inWindow || r.startIn ≠ 0 || x.slots ≠ 0 || x.owes s.clk.edge then s
        else if x.sx < r.treeT then (s.updTile t (fun y => { y with lateSince := none })).holdTile t p
        else if x.ended then s
        else if x.imem.syndrome Space.imem t x.pc ≠ 0 then s.fetchFail t
        else if !bundleLegal b then s.tileFault t St.ILLEGAL_BUNDLE x.pc x.cy
        else
          let c := s.lateCause t b
          if c ≠ 0 then s.holdLate t p c else s)

/-! ## Limits of a step (R68, R185, R186) -/

/-- FREEZE_TIMEOUT: a late item has held the tile for longer than LIMIT_US (R186, R395). -/
def execFreezeTimeout (t : Nat) (s : State) : Host.Outcome State Fault Refusal :=
  let x := s.tile t
  let lim := s.rd Reg.LAT_FREEZE_LIMIT_LIMIT_US
  .next (match x.lateSince with
    | some t0 =>
      if x.run && lim ≠ 0 && stDiff t0 s.now > (lim * 1000 : Nat) then
        s.tileFault t St.FREEZE_TIMEOUT (s.siteBits t + 1024 * s.rd (Reg.TILE_LATE_LAST_CAUSE t)) x.cy
      else s
    | none => s)

/-- STEP_OVERRUN: STEP_CY has exceeded MAX_CY of the running entry (R185). -/
def execStepOverrun (t : Nat) (s : State) : Host.Outcome State Fault Refusal :=
  let x := s.tile t
  .next (match (s.panelOfTile t).bind (fun p => (s.panel p).run) with
    | some r => if x.run && r.maxCy < x.cy then s.tileFault t St.STEP_OVERRUN (s.siteBits t) x.cy else s
    | none => s)

/-- STEP_CYCLE_LIMIT: STEP_CY holds its maximum (R10, R68). -/
def execStepCycleLimit (t : Nat) (s : State) : Host.Outcome State Fault Refusal :=
  let x := s.tile t
  .next (if x.run && 2 ^ 40 - 1 ≤ x.cy then s.tileFault t St.STEP_CYCLE_LIMIT (s.siteBits t) x.cy else s)

/-! ## Slot masks and send slots (R55, R124, R156) -/

/-- SLOT_MASK_UPDATE: on the edge after its arrival a mask takes effect in the tile and in the bobbins above it, running or not: until then
the tile issues nothing on that edge, and the edge does not pass (R55, R124). -/
def execSlotMaskUpdate (t : Nat) (s : State) : Host.Outcome State Fault Refusal :=
  let x := s.tile t
  .next (match x.maskIn with
    | none => s
    | some (a, m) =>
      if s.clk.edge ≤ a then s
      else (List.range s.tiers).foldl (fun s k => s.updBob (bobAt k t) (fun b => { b with mask := m }))
        (s.setTile t { x with mask := m, maskIn := none }))

/-- A packet of send slot `slot` that has not left its tile's router (R156). -/
def Flight.ofSlot (f : Flight) (src slot e : Nat) : Bool :=
  f.slot = slot + 1 && f.pkt.src = src && (match f.gone with | none => true | some g => e < g)

/-- SEND_SLOT_FREE: the last packet of the slot has left: the slot is freed and bit 0 of its predicate is set and present (R156). -/
def execSendSlotFree (t slot : Nat) (s : State) : Host.Outcome State Fault Refusal :=
  let x := s.tile t
  let pd := sget 0 x.sends slot
  .next (if pd = 0 || s.noc.flights.any (fun f => f.ofSlot (s.feid (epTile t)) slot s.clk.edge) then s
    else s.setTile t (({ x with sends := sset 0 x.sends slot 0 }.wrCell (kP pd) (0, 1, 1)).present (kP pd)))

/-- Writing TILE_CTL.CNT_CLR: COLD_STARTS, TILE_LATE, TILE_PORT_WAIT and the bank counters are cleared (R49, R54, R68). -/
def State.cntClr (t : Nat) (s : State) : State :=
  let fs := [Reg.TILE_ARRAY_STAT_COLD_STARTS t, Reg.TILE_LATE_COUNT t, Reg.TILE_LATE_LAST_CAUSE t, Reg.TILE_LATE_LAST_CY t,
    Reg.TILE_PORT_WAIT_NET_WAIT t, Reg.TILE_PORT_WAIT_VERT_WAIT t] ++
    (List.range 16).flatMap (fun i => [Reg.TILE_BANK_CONF_BANK_LO t i, Reg.TILE_BANK_CONF_BANK_HI t i])
  fs.foldl (fun s f => s.wr f 0) s

/-- TILE_CNT_CLR: the counters of a tile are cleared (R49, R54, R68). -/
def execTileCntClr (t : Nat) (s : State) : Host.Outcome State Fault Refusal := .next (s.cntClr t)

end Sys2Proof.Machine
end

