-- ==== Sys2Proof/Machine/HostReg.lean ====
section
/-! DEFINITION. Register accesses and configuration requests from the host: the address maps of the BARs, the access codes, and the writes
that have an effect of their own (spec/00 R3, R6 to R8; spec/16 R400 to R406, R409, R412, R419; spec/15 R396; spec/18 R450, R456). -/

namespace Sys2Proof

/-! ## Accesses (R6) -/

/-- Does R6 accept the access: an aligned 64-bit one, or an aligned 32-bit one? -/
def RegAccess.ok (a : RegAccess) : Bool := (a.bytes = 8 && a.off % 8 = 0) || (a.bytes = 4 && a.off % 4 = 0)

/-- The lowest bit and the number of bits of the doubleword that the access covers. -/
def RegAccess.lo (a : RegAccess) : Nat := if a.bytes = 8 then 0 else 8 * (a.off % 8)
def RegAccess.width (a : RegAccess) : Nat := 8 * a.bytes

/-- A doubleword with the access's bits replaced by those of `v` (R6). -/
def RegAccess.merge (a : RegAccess) (old v : Nat) : Nat :=
  Machine.bits old 0 a.lo + v % 2 ^ a.width * 2 ^ a.lo + old / 2 ^ (a.lo + a.width) * 2 ^ (a.lo + a.width)

/-- Does the access touch a field; does it cover it wholly (R6)? -/
def RegAccess.touches (a : RegAccess) (f : Machine.Fld) : Bool := f.lo < a.lo + a.width && a.lo < f.lo + f.w
def RegAccess.covers (a : RegAccess) (f : Machine.Fld) : Bool := a.lo ≤ f.lo && f.lo + f.w ≤ a.lo + a.width

/-- Does the write reach a field of one bit with a 1? -/
def RegAccess.sets (a : RegAccess) (v : Nat) (f : Machine.Fld) : Bool := a.covers f && Machine.bits (a.merge 0 v) f.lo f.w ≠ 0

end Sys2Proof

namespace Sys2Proof.Machine

/-! ## Address maps (R404 to R406) -/

/-- What an offset of a BAR reaches. `reg off ro`: the register at PF BAR0 offset `off`, read-only if `ro`. -/
inductive Target where
  | none
  | reg (off : Nat) (ro : Bool)
  | doorbell (q : Nat)
  | mirror (q word : Nat)
  | flog (i word : Nat)
  | msix (word : Nat)
  | pba (word : Nat)
  deriving DecidableEq, Repr

/-- Is `off` in the `n` bytes from `a`? -/
def within (off a n : Nat) : Bool := a ≤ off && off < a + n

/-- PF BAR0 (R298, R404). -/
def pfBar0 (off : Nat) : Target :=
  if within off 0x400000 0x20000 then .doorbell ((off - 0x400000) / 8)
  else if within off 0x3010000 0x20000 then .flog ((off - 0x3010000) / 32) ((off - 0x3010000) % 32 / 8)
  else if off < 0x4000000 then .reg off false else .none

/-- The stitch page: copies of four STI_ registers. -/
def stitchPage (o : Nat) : Target :=
  match o with
  | 0x000 => .reg 0x200000 true
  | 0x008 => .reg 0x200008 true
  | 0x010 => .reg 0x200030 true
  | 0x018 => .reg 0x200038 true
  | _ => .none

/-- PF BAR2 (R405). -/
def pfBar2 (off : Nat) : Target :=
  if off < 0x1000 then stitchPage off
  else if within off 0x10000 0x40000 then .mirror ((off - 0x10000) / 16) ((off - 0x10000) % 16 / 8)
  else if within off 0x800000 0x1000 then .msix ((off - 0x800000) / 8)
  else if within off 0x801000 0x20 then .pba ((off - 0x801000) / 8) else .none

/-- A queue of the panel at index `i` of its VF's view. -/
def State.vfQueue (s : State) (p i : Nat) (f : Nat → Target) : Target :=
  if i < s.rd (Reg.PNL_PART_RANGE_Q_COUNT p) && s.enabled p then f (s.rd (Reg.PNL_PART_RANGE_Q_BASE p) + i) else .none

/-- VF BAR0 of panel `p` (R406). -/
def State.vfBar0 (s : State) (p off : Nat) : Target :=
  if off < 0x1000 then .reg off true
  else if within off 0x10000 0x30000 then s.vfQueue p ((off - 0x10000) / 8) .doorbell
  else if within off 0x40000 0x40000 then s.vfQueue p ((off - 0x40000) / 16) (fun q => .mirror q (off % 16 / 8))
  else if within off 0x80000 0x1000 then stitchPage (off - 0x80000)
  else if within off 0x100000 0x40 then .reg (0x310000 + 0x40 * p + (off - 0x100000)) false
  else if within off 0x100100 0x40 then .reg (0x380100 + 0x40 * p + (off - 0x100100)) false
  else if within off 0x100200 0x80 then .reg (0x1001000 + 0x80 * p + (off - 0x100200)) false
  else if off = 0x100300 then .reg (0x3F00100 + 8 * p) false
  else if off = 0x100308 then .reg (0x3A00200 + 8 * p) false
  else if off = 0x100310 then .reg (0x3A00300 + 8 * p) false
  else if within off 0x200000 0x100000 then
    s.vfQueue p ((off - 0x200000) / 0x40) (fun q => .reg (0x800000 + 0x40 * q + off % 0x40) false)
  else if within off 0x300000 0x1000 then .reg (0x3C00000 + (off - 0x300000)) false
  else if within off 0x310000 0x1000 then .reg (0x3E00000 + (off - 0x310000)) false
  else if off = 0x311000 then .reg 0x3F00000 true
  else if within off 0x3F0000 0x800 then .msix ((off - 0x3F0000) / 8)
  else if within off 0x3F8000 0x10 then .pba ((off - 0x3F8000) / 8) else .none

/-- May the function's BARs be reached: the rails are up, and a VF is enabled through NumVFs (R401)? -/
def State.reachable (s : State) (fn : Nat) : Bool := s.power.on && (fn = 0 || (fn ≤ 16 && fn ≤ (s.fnc 0).numVfs))

/-- What an aligned doubleword of a BAR reaches. In WAIT_PUSH only the DEV_ block of PF BAR0 is there (R450). -/
def State.target (s : State) (a : RegAccess) : Target :=
  let off := a.off / 8 * 8
  let t := match a.space with
    | .bar0 => if a.fn = 0 then pfBar0 off else s.vfBar0 (a.fn - 1) off
    | .bar2 => if a.fn = 0 then pfBar2 off else .none
  if s.stage = BS.waitPush && !(a.fn = 0 && a.space = .bar0 && off < 0x100000) then .none else t

/-! ## Reads (R6, R7) -/

/-- A fault-log entry as 256 bits (R298). -/
def LogEntry.image (e : LogEntry) : Nat :=
  e.code.toNat + (match e.panel with | some p => p % 16 * 2 ^ 16 + 2 ^ 20 | none => 0) + e.seq % 2 ^ 32 * 2 ^ 32 + e.stitch.toNat * 2 ^ 64 +
    e.d0.toNat * 2 ^ 128 + e.d1.toNat * 2 ^ 192

/-- A doubleword of a queue's status mirror record (R412). -/
def State.mirrorWord (s : State) (q word : Nat) : Nat :=
  if word = 0 then s.qprod q + s.qread q * 2 ^ 32
  else s.qrel q + bitN (s.bit (Reg.QCFG_CFG_ENABLE q)) * 2 ^ 32 + bitN (s.bit (Reg.QCFG_STAT_STOPPED q)) * 2 ^ 33 +
    bitN (s.qfull q) * 2 ^ 34 + bitN (s.qempty q) * 2 ^ 35 + s.rd (Reg.QCFG_STAT_LAST_CODE q) * 2 ^ 48

/-- An MSI-X table entry: address and data, and the vector control word, whose bit 0 masks the vector (R400). -/
def State.msixEntry (s : State) (fn v : Nat) : Nat :=
  (sget 0 (s.fnc fn).table v).toNat + bitN (!(s.fnc fn).unmasked.contains v) * 2 ^ 96

/-- LNK_ registers of an absent port read 0 and ignore writes (spec/08). -/
def State.deadPort (s : State) (off : Nat) : Bool :=
  within off 0x2010000 0x1800 && !s.portPresent ((off - 0x2010000) / 0x100)

/-- The doubleword a target shows to a function. -/
def State.targetValue (s : State) (fn : Nat) : Target → Nat
  | .none => 0
  | .reg off _ => if s.deadPort off then 0 else s.regValue fn off
  | .doorbell q => if q < 16384 then s.qhost q else 0
  | .mirror q word => s.mirrorWord q word
  | .flog i word => bits (sget ⟨0, none, 0, 0, 0, 0⟩ s.integ.log i).image (64 * word) 64
  | .msix word => bits (s.msixEntry fn (word / 2)) (64 * (word % 2)) 64
  | .pba word => ((s.fnc fn).pend.filter (fun v => v / 64 = word)).foldl (fun a v => a + 2 ^ (v % 64)) 0

/-- What a read leaves in an RC field: its reset value, and in MIN_RATE the lowest rate now held, with which the next interval begins
(R7; FAB_ECN_STAT, spec/09). -/
def State.cleared (s : State) (f : Fld) : Nat :=
  if f = Reg.FAB_ECN_STAT_MIN_RATE then s.noc.rates.foldl (fun a e => min a e.2) f.reset else f.reset

/-- RC fields that a read covers wholly take what it leaves in them; a read-only copy clears nothing (R6, R7). -/
def State.readClear (fn : Nat) (a : RegAccess) (t : Target) (s : State) : State :=
  match t with
  | .reg off false =>
    match s.shown fn off with
    | none => s
    | some w =>
      if s.deadMargin off || s.deadPort off then s
      else ((regFields w off).filter (fun f => f.acc = .rc && a.covers f)).foldl (fun s f => s.wr f (s.cleared f)) s
  | _ => s

/-- RC_REGISTER_READ: a read of a BAR: it returns the register, and clears the RC fields it covers wholly (R6, R7, R404). -/
def execRcRegisterRead (a : RegAccess) (s : State) : Host.Outcome State Fault Refusal :=
  .next (if !s.reachable a.fn then s
    else if !a.ok then s.emit (.read 0)
    else
      let t := s.target a
      let v := bits (s.targetValue a.fn t) a.lo a.width
      (s.readClear a.fn a t).emit (.read (BitVec.ofNat 64 v)))

/-! ## Writes (R6 to R8, R396, R419, R456) -/

/-- Apply a write by the access code of one field: RO and RC fields ignore it, RWS fields until the lock (R7). -/
def State.writeField (a : RegAccess) (v : Nat) (f : Fld) (s : State) : State :=
  if !a.touches f then s
  else
    let old := s.rd f * 2 ^ f.lo
    match f.acc with
    | .rw => s.wr f (bits (a.merge old v) f.lo f.w)
    | .rws => if s.bit Reg.DEV_LOCK_STAT_LOCKED then s else s.wr f (bits (a.merge old v) f.lo f.w)
    | .w1c => s.wr f (s.rd f &&& (2 ^ f.w - 1 - bits (a.merge 0 v) f.lo f.w))
    | _ => s

/-- Apply a write to every field of a register. -/
def State.writeFields (a : RegAccess) (v : Nat) (fs : List Fld) (s : State) : State := fs.foldl (fun s f => s.writeField a v f) s

/-- A write to a locked RWS field: counted, recorded and logged (R456). The PF's requester ID is its function number (log entry 27). -/
def State.lockViolation (fn off : Nat) (s : State) : State :=
  (((s.stick Reg.DEV_LOCK_STAT_VIOLATIONS 1).wr Reg.DEV_LOCK_STAT_LAST_OFFSET off).wr Reg.DEV_LOCK_STAT_LAST_RID fn).event 6
    St.LOCK_VIOLATION none off fn

/-- STI_CTL: ROLE 3 is taken as 0, and a new role is taken up (R22). -/
def State.writeStiCtl (a : RegAccess) (v : Nat) (s : State) : State :=
  let old := s.rd Reg.STI_CTL_ROLE
  let s1 := s.writeFields a v [Reg.STI_CTL_ROLE, Reg.STI_CTL_HOLD_MS]
  let r := if s1.rd Reg.STI_CTL_ROLE = 3 then 0 else s1.rd Reg.STI_CTL_ROLE
  if r = old then s1.wr Reg.STI_CTL_ROLE r else s1.setRole r

/-- INT_FLOG_TAIL: a value outside HEAD − 4,096 to HEAD is discarded (R299). -/
def State.writeTail (a : RegAccess) (v : Nat) (s : State) : State :=
  let t := bits (a.merge (s.rd Reg.INT_FLOG_TAIL_SEQ) v) 0 32
  if a.touches Reg.INT_FLOG_TAIL_SEQ && (s.rd Reg.INT_FLOG_HEAD_SEQ + 2 ^ 32 - t) % 2 ^ 32 ≤ 4096 then s.wr Reg.INT_FLOG_TAIL_SEQ t else s

/-- TILE_MEM_CMD and BOB_MEM_CMD: GO starts an access (R68, R128); one written while BUSY is set is ignored (DESIGN CHOICE, log entry
74). -/
def State.writeTileCmd (fn : Nat) (a : RegAccess) (v : Nat) (s : State) : State :=
  if a.sets v Reg.TILE_MEM_CMD_GO && s.tileGo.isNone then
    { s with tileGo := some (fn, a.sets v Reg.TILE_MEM_CMD_WRITE, a.sets v Reg.TILE_MEM_CMD_RAW_CHECK) }.wr Reg.TILE_MEM_STAT_BUSY 1
  else s
def State.writeBobCmd (fn : Nat) (a : RegAccess) (v : Nat) (s : State) : State :=
  if a.sets v Reg.BOB_MEM_CMD_GO && s.bobGo.isNone then
    { s with bobGo := some (fn, a.sets v Reg.BOB_MEM_CMD_WRITE, a.sets v Reg.BOB_MEM_CMD_RAW_CHECK) }.wr Reg.BOB_MEM_STAT_BUSY 1
  else s

/-- FAB_TWIN_CTL: AUTO_PROMOTE, and the actions but PAIR_ACTIVE, which the PAIR_ACTIVE command takes with what the peer reports (R467,
R474, R475, R478). -/
def State.writeTwinCtl (a : RegAccess) (v : Nat) (s : State) : State :=
  let s1 := s.writeFields a v [Reg.FAB_TWIN_CTL_AUTO_PROMOTE]
  match (if a.covers Reg.FAB_TWIN_CTL_ACTION then bits v 0 3 else 0) with
  | 2 => s1.pairStandby
  | 3 => s1.unpair
  | 4 => s1.goSolo
  | 5 => s1.promoteWaiting
  | _ => s1

/-- The fields of a queue's register but ENABLE, written. -/
def State.writeQfields (q o : Nat) (a : RegAccess) (v : Nat) (s : State) : State :=
  s.writeFields a v ((regFields 0 (0x800000 + 0x40 * q + o)).drop (if o = 0 then 1 else 0))

/-- The value QCFG_CFG_q would take from a write. -/
def State.newQcfg (s : State) (q : Nat) (a : RegAccess) (v : Nat) : Nat := a.merge (composeWith s.rd (regFields 0 (0x800000 + 0x40 * q))) v

/-- The code a write of a queue's register is refused with: another field than ENABLE while ENABLE is 1, or ENABLE = 1 with a configuration
that fails (R419). -/
def State.qcfgCode (s : State) (q o : Nat) (a : RegAccess) (v : Nat) : Option Code :=
  if s.qon q then
    (if o ≠ 0 || composeWith s.rd (regFields 0 (0x800000 + 0x40 * q)) / 2 ≠ s.newQcfg q a v / 2 then some St.QUEUE_ENABLED else none)
  else if o = 0 && s.newQcfg q a v % 2 = 1 then (s.writeQfields q o a v).enableCode q
  else none

/-- A queue's registers: other fields than ENABLE only while ENABLE is 0, then ENABLE (R419). -/
def State.writeQcfg (q o : Nat) (a : RegAccess) (v : Nat) (s : State) : State :=
  if s.qon q then
    match s.qcfgCode q o a v with
    | some c => s.qcode q c
    | none => s.wr (Reg.QCFG_CFG_ENABLE q) (s.newQcfg q a v % 2)
  else
    let s1 := s.writeQfields q o a v
    if o = 0 && s.newQcfg q a v % 2 = 1 then s1.qenable q else s1

/-- The panel whose configuration an offset is: writable only while it is STOPPED (R129, R396, R466). -/
def configPanel (off : Nat) : Option Nat :=
  if within off 0x310000 0x400 && ((off % 0x40 == 0x08) || (off % 0x40 == 0x10)) then some ((off - 0x310000) / 0x40)
  else if within off 0x3F00100 0x80 then some ((off - 0x3F00100) / 8)
  else if within off 0x1001000 0x800 && ((off % 0x80 == 0x00) || (off % 0x80 == 0x08)) then some ((off - 0x1001000) / 0x80)
  else if within off 0x2180100 0x80 then some ((off - 0x2180100) / 8)
  else if within off 0x3800100 0x400 && (off % 0x40 == 0) then some ((off - 0x3800100) / 0x40)
  else none

/-- A write to the register at a PF BAR0 offset by a function. -/
def State.writeReg (fn off : Nat) (a : RegAccess) (v : Nat) (s : State) : State :=
  match s.shown fn off with
  | none => s
  | some w =>
    let fs := regFields w off
    let plain (s : State) : State := s.writeFields a v fs
    if s.deadMargin off || s.deadPort off || fs.all (fun f => !a.touches f) then s
    else if within off 0x800000 0x100000 then
      let q := (off - 0x800000) / 0x40
      let o := off % 0x40
      if fs.any (fun f => f.acc = .rw) then s.qcfgWrite fn q o (s.qcfgCode q o a v) (State.writeQcfg q o a v) else s
    else if fs.any (fun f => f.acc = .rws && a.touches f) && s.bit Reg.DEV_LOCK_STAT_LOCKED then s.lockViolation fn off
    else match configPanel off with
      | some p => if s.pst p = PS.stopped then plain s else s.refusePanel p St.PANEL_NOT_STOPPED off
      | none =>
        if off = 0x200010 then s.writeStiCtl a v
        else if off = 0x3000008 then s.writeTail a v
        else if off = 0x3C00208 then s.writeTileCmd fn a v
        else if off = 0x3E00208 then s.writeBobCmd fn a v
        else if off = 0x3C00028 then
          let s1 := plain s
          if a.sets v (Reg.TILE_CTL_CNT_CLR w) then s1.cntClr w else s1
        else if off = 0x2180000 then s.writeTwinCtl a v
        else if off = 0x118 then (if a.sets v Reg.DEV_BOOT_PUSH_GO_GO then s.pushGo else s)
        else plain s

/-- A write to the MSI-X table: address and data, or the mask bit; a pending vector that is unmasked is sent (R400, R407). -/
def State.writeMsix (fn word : Nat) (a : RegAccess) (v : Nat) (s : State) : State :=
  let vec := word / 2
  let f := s.fnc fn
  let old := s.msixEntry fn vec
  let new := if word % 2 = 0 then a.merge (bits old 0 64) v + old / 2 ^ 64 * 2 ^ 64
    else bits old 0 64 + a.merge (old / 2 ^ 64) v * 2 ^ 64
  let masked : Bool := new.testBit 96
  let f1 := { f with
    table := sset 0 f.table vec (BitVec.ofNat 96 new)
    unmasked := if masked then ndel vec f.unmasked else nins vec f.unmasked }
  if f.msixOn && !masked && f.pend.contains vec then (s.setFn fn { f1 with pend := ndel vec f1.pend }).emit (.msix fn vec)
  else s.setFn fn f1

/-- REGISTER_WRITE: a write of a BAR: by the access code of each field it reaches, or the effect of the register's own rule (R6 to R8,
R22, R129, R299, R396, R404, R406, R409, R419, R456, R466). -/
def execRegisterWrite (a : RegAccess) (v : W64) (s : State) : Host.Outcome State Fault Refusal :=
  .next (if !s.reachable a.fn || !a.ok then s
    else match s.target a with
      | .reg off false => s.writeReg a.fn off a v.toNat
      | .doorbell q => if a.lo = 0 then s.ringDoorbell a.fn q (BitVec.ofNat 32 v.toNat) else s
      | .msix word => s.writeMsix a.fn word a v.toNat
      | _ => s)

/-! ## Configuration requests (R3, R400 to R402, R450) -/

/-- A doubleword of a function's configuration space: its value, and the bits of it that the spec gives: vendor and device ID, class code
and revision, subsystem; BARs that are 64-bit and non-prefetchable, of 64 MiB and 16 MiB for the PF; no interrupt pin. PCI Express gives these
their offsets; the address in a BAR is the host's, and the offsets of the capabilities are not given (R400, R401, R404, R405, log entry
27). -/
def State.configWord (s : State) (fn off : Nat) : Nat × Nat :=
  let all := 2 ^ 32 - 1
  match off with
  | 0x00 => (0x1F3A + (if fn = 0 then 0xC400 else 0xC401) * 2 ^ 16, all)
  | 0x08 => (s.rd Reg.DEV_ID_STEPPING + 0x120000 * 2 ^ 8, all)
  | 0x10 => if fn = 0 then (4, 2 ^ 26 - 1) else (0, all)
  | 0x18 => if fn = 0 then (4, 2 ^ 24 - 1) else (0, all)
  | 0x2C => (0x1F3A + s.rd Reg.DEV_GRADE_GRADE_CODE % 2 ^ 16 * 2 ^ 16, all)
  | 0x3C => (0, 0xFF00)
  | _ => (0, 0)

/-- Send pending vectors that are not masked (R400). -/
def State.sendPending (fn : Nat) (s : State) : State :=
  let f := s.fnc fn
  (f.pend.filter (fun v => f.unmasked.contains v)).foldl (fun s v => s.signal fn v)
    (s.setFn fn { f with pend := f.pend.filter (fun v => !f.unmasked.contains v) })

/-- The effect of a configuration request, and what it reads. -/
def State.configure (fn : Nat) (op : CfgOp) (s : State) : State :=
  let f := s.fnc fn
  let ok (s : State) (d : Nat) : State := s.emit (.config 0 (BitVec.ofNat 32 d))
  match op with
  | .read off =>
    let d := s.configWord fn (off / 4 * 4)
    if d.2 = 2 ^ 32 - 1 then ok s d.1
    else ok s.drawn (d.1 + ((Config.freeValue s.free).toNat % 2 ^ 32 &&& (2 ^ 32 - 1 - d.2)))
  | .busMaster on => ok (s.setFn fn { f with bme := on }) 0
  | .numVfs n => ok (if fn = 0 && n ≤ 16 then s.setFn 0 { f with numVfs := n } else s) 0
  | .maxPayload n => ok (if n = 128 || n = 256 || n = 512 then s.setFn fn { f with maxPayload := n } else s) 0
  | .maxRead n => ok (if 128 ≤ n && n ≤ 4096 && n = 2 ^ Nat.log2 n then s.setFn fn { f with maxRead := n } else s) 0
  | .ecrc gen check => ok (s.setFn fn { f with ecrcGen := gen, ecrcCheck := check }) 0
  | .msix on =>
    let s1 := s.setFn fn { f with msixOn := on }
    ok (if on then s1.sendPending fn else s1) 0

/-- CONFIGURATION_REQUEST: Configuration Request Retry Status until boot firmware reports ready, but in WAIT_PUSH; then the request is
performed (R3, R400 to R403, R450). Completion status 0 success, 1 unsupported request, 2 retry. -/
def execConfigurationRequest (fn : Nat) (op : CfgOp) (s : State) : Host.Outcome State Fault Refusal :=
  .next (if !s.power.on then s
    else if s.stage ≠ BS.ready && s.stage ≠ BS.waitPush then s.emit (.config 2 0)
    else if !s.reachable fn then s.emit (.config 1 0)
    else s.configure fn op)

end Sys2Proof.Machine
end

