-- ==== Sys2Proof/Machine/Package.lean ====
section
/-! DEFINITION. The package's sideband: the SMBus target, the time reference input, and JTAG (spec/21 R506, R507, R509; spec/18 R457). -/

namespace Sys2Proof.Machine

/-! ## SMBus (R506, R507) -/

/-- Is SB_3V3 present, which supplies the SMBus target (R503)? -/
def State.standbyOn (s : State) : Bool := 40000 ≤ s.power.vin

/-- The register a Block Read returns, at PF BAR0. -/
def smbusReg (cmd : Nat) : Option Nat := [0x0, 0x8, 0x100, 0x128, 0x100028, 0x100020, 0x100010, 0x2100008][cmd - 0x10]?

/-- The eight bytes a Block Read returns: while POWER_OK is low, DEV_ID, DEV_GRADE and PWR_EVT, VIN_MV alone of PWR_VIN, and zeros. -/
def State.smbusValue (s : State) (cmd off : Nat) : Nat :=
  if s.power.on || cmd = 0x10 || cmd = 0x11 || cmd = 0x14 then s.regValue 0 off
  else if cmd = 0x16 then s.power.vin % 2 ^ Reg.PWR_VIN_VIN_MV.w * 2 ^ Reg.PWR_VIN_VIN_MV.lo
  else 0

/-- SMBUS_BLOCK_READ: commands 0x10 to 0x17 return a count of 8 and a register's bytes; it clears nothing (R506, log entry 61). -/
def execSmbusBlockRead (cmd : BitVec 8) (s : State) : Host.Outcome State Fault Refusal :=
  .next (match (if 0x10 ≤ cmd.toNat then smbusReg cmd.toNat else none) with
    | some off => if s.standbyOn then s.emit (.smbus (8 :: bytesOf 8 (s.smbusValue cmd.toNat off))) else s
    | none => s)

/-- SMBUS_WRITE_BYTE: command 0x20 clears the bits of PWR_EVT that its data names (R506). -/
def execSmbusWriteByte (cmd data : BitVec 8) (s : State) : Host.Outcome State Fault Refusal :=
  .next (if cmd = 0x20 && s.standbyOn then
      s.writeFields {} data.toNat [Reg.PWR_EVT_VIN_LOW, Reg.PWR_EVT_VIN_HIGH, Reg.PWR_EVT_TRIP, Reg.PWR_EVT_INPUT_LOSS, Reg.PWR_EVT_BRAKE]
    else s)

/-- Is ALERT_N low (R507)? -/
def State.alertLow (s : State) : Bool :=
  [Reg.PWR_EVT_VIN_LOW, Reg.PWR_EVT_VIN_HIGH, Reg.PWR_EVT_TRIP, Reg.PWR_EVT_INPUT_LOSS, Reg.PWR_EVT_BRAKE].any (fun f => s.bit f) ||
    s.throttleC ≤ s.rd Reg.PWR_TEMP_TJ_MAX || s.stage = BS.waitPush || s.stage = BS.halted

/-- SMBUS_ALERT_RESPONSE: a target that holds ALERT_N low answers with its address, 0x30 + POS, in bits 7 to 1 (R506, R507, log entry 61). -/
def execSmbusAlertResponse (s : State) : Host.Outcome State Fault Refusal :=
  .next (if s.standbyOn && s.alertLow then s.emit (.smbus [BitVec.ofNat 8 (2 * (0x30 + s.part.pos))]) else s)

/-! ## TIME_IN (R509) -/

/-- TIME_OUT carries the reference: the standby section passes TIME_IN on whatever PWR_EN is, and once TIME_IN has been present the cleaner
goes on without it; otherwise it is held static (R503, R509). -/
def State.timeOut (s : State) : Bool := s.standbyOn && (s.power.timeIn || (s.power.on && s.boot.timeSeen))

/-- A change of TIME_OUT is sent out. -/
def State.showTimeOut (before : Bool) (s : State) : State := if s.timeOut = before then s else s.emit (.pin "TIME_OUT" s.timeOut)

/-- TIME_IN_LOSS: TIME_IN, which was present, has been lost for 10 µs (R503, R509). -/
def execTimeInLoss (s : State) : Host.Outcome State Fault Refusal :=
  .next (
    let s1 := { s with power := { s.power with timeIn := false } }
    let s2 := if s.power.on && s.bit Reg.STI_STATUS_TIME_IN_OK then
        (s1.wr Reg.STI_STATUS_TIME_IN_OK 0).event 4 St.TIME_REF_LOST none 0 0
      else s1
    s2.showTimeOut s.timeOut)

/-- TIME_IN_RETURN: TIME_IN is present, for the first time since the cold reset or again; a device held off passes it on (R503, R509). -/
def execTimeInReturn (s : State) : Host.Outcome State Fault Refusal :=
  .next (
    let s1 := if s.standbyOn then { s with power := { s.power with timeIn := true } } else s
    let s2 := if s.power.on then { s1 with boot := { s1.boot with timeSeen := true } }.wr Reg.STI_STATUS_TIME_IN_OK 1 else s1
    s2.showTimeOut s.timeOut)

/-! ## JTAG (R457, R506) -/

/-- JTAG_ACCESS: IDCODE and boundary scan answer at all times; the cores' debug module only while JTAG_DBG_DIS is 0. What a scan or the
debug module returns is open (R457, R506). -/
def execJtagAccess (op : JtagOp) (s : State) : Host.Outcome State Fault Refusal :=
  .next (match op with
    | .idcode => s.emit (.jtag (BitVec.ofNat 64 (s.rd Reg.DEV_ID_STEPPING * 2 ^ 28 + 0xC400 * 2 ^ 12 + 0xD55)))
    | .boundaryScan => s.drawn.emit (.jtag (Config.freeValue s.free))
    | .debugModule w => if s.bit Reg.DEV_FUSE_STAT_JTAG_DBG_DIS then s else s.emit (.jtag (Config.jtagPrivate w)))

end Sys2Proof.Machine
end

