-- ==== Sys2Proof/Machine/Dispatch.lean ====
section
/-! DEFINITION. The dispatch: one arm for each command. -/

namespace Sys2Proof.Machine

def exec (i : Instr) (s : State) : Host.Outcome State Fault Refusal :=
  match i with
  | .stitchRole c => Sys2Proof.Machine.execStitchRole c s
  | .stitchSet c => Sys2Proof.Machine.execStitchSet c s
  | .timeFrame port f => Sys2Proof.Machine.execTimeFrame port f s
  | .timeFrameSend => Sys2Proof.Machine.execTimeFrameSend s
  | .acquireConverged => Sys2Proof.Machine.execAcquireConverged s
  | .masterPathLost => Sys2Proof.Machine.execMasterPathLost s
  | .backupPromote => Sys2Proof.Machine.execBackupPromote s
  | .holdoverExpiry => Sys2Proof.Machine.execHoldoverExpiry s
  | .clockChangeWindow => Sys2Proof.Machine.execClockChangeWindow s
  | .changeWindowEnd => Sys2Proof.Machine.execChangeWindowEnd s
  | .trimWindow => Sys2Proof.Machine.execTrimWindow s
  | .marginWarn row ps => Sys2Proof.Machine.execMarginWarn row ps s
  | .marginVoltageStep row => Sys2Proof.Machine.execMarginVoltageStep row s
  | .marginCrit row ps => Sys2Proof.Machine.execMarginCrit row ps s
  | .stepLaunch panel => Sys2Proof.Machine.execStepLaunch panel s
  | .mnop t => Sys2Proof.Machine.execMnop t s
  | .mwarm t => Sys2Proof.Machine.execMwarm t s
  | .mpass t => Sys2Proof.Machine.execMpass t s
  | .mswap t => Sys2Proof.Machine.execMswap t s
  | .mread t => Sys2Proof.Machine.execMread t s
  | .arrayWarmDone t => Sys2Proof.Machine.execArrayWarmDone t s
  | .arrayRampDown t => Sys2Proof.Machine.execArrayRampDown t s
  | .vnop t pipe => Sys2Proof.Machine.execVnop t pipe s
  | .vadd t pipe => Sys2Proof.Machine.execVadd t pipe s
  | .vsub t pipe => Sys2Proof.Machine.execVsub t pipe s
  | .vmul t pipe => Sys2Proof.Machine.execVmul t pipe s
  | .vfma t pipe => Sys2Proof.Machine.execVfma t pipe s
  | .vmin t pipe => Sys2Proof.Machine.execVmin t pipe s
  | .vmax t pipe => Sys2Proof.Machine.execVmax t pipe s
  | .vabs t pipe => Sys2Proof.Machine.execVabs t pipe s
  | .vneg t pipe => Sys2Proof.Machine.execVneg t pipe s
  | .vadds t pipe => Sys2Proof.Machine.execVadds t pipe s
  | .vsubs t pipe => Sys2Proof.Machine.execVsubs t pipe s
  | .vand t pipe => Sys2Proof.Machine.execVand t pipe s
  | .vor t pipe => Sys2Proof.Machine.execVor t pipe s
  | .vxor t pipe => Sys2Proof.Machine.execVxor t pipe s
  | .vandn t pipe => Sys2Proof.Machine.execVandn t pipe s
  | .vshl t pipe => Sys2Proof.Machine.execVshl t pipe s
  | .vshr t pipe => Sys2Proof.Machine.execVshr t pipe s
  | .vsra t pipe => Sys2Proof.Machine.execVsra t pipe s
  | .vcmp t pipe => Sys2Proof.Machine.execVcmp t pipe s
  | .vsel t pipe => Sys2Proof.Machine.execVsel t pipe s
  | .vmov t pipe => Sys2Proof.Machine.execVmov t pipe s
  | .vins t pipe => Sys2Proof.Machine.execVins t pipe s
  | .vexts t pipe => Sys2Proof.Machine.execVexts t pipe s
  | .viota t pipe => Sys2Proof.Machine.execViota t pipe s
  | .vperm t pipe => Sys2Proof.Machine.execVperm t pipe s
  | .vplog t pipe => Sys2Proof.Machine.execVplog t pipe s
  | .vrsum t pipe => Sys2Proof.Machine.execVrsum t pipe s
  | .vrmax t pipe => Sys2Proof.Machine.execVrmax t pipe s
  | .vrmin t pipe => Sys2Proof.Machine.execVrmin t pipe s
  | .vcvt t pipe => Sys2Proof.Machine.execVcvt t pipe s
  | .vpack t pipe => Sys2Proof.Machine.execVpack t pipe s
  | .vunpack t pipe => Sys2Proof.Machine.execVunpack t pipe s
  | .vexp t => Sys2Proof.Machine.execVexp t s
  | .vrcp t => Sys2Proof.Machine.execVrcp t s
  | .vrsqrt t => Sys2Proof.Machine.execVrsqrt t s
  | .vtanh t => Sys2Proof.Machine.execVtanh t s
  | .verf t => Sys2Proof.Machine.execVerf t s
  | .lnop t => Sys2Proof.Machine.execLnop t s
  | .llds t => Sys2Proof.Machine.execLlds t s
  | .lsts t => Sys2Proof.Machine.execLsts t s
  | .lldv t => Sys2Proof.Machine.execLldv t s
  | .lstv t => Sys2Proof.Machine.execLstv t s
  | .lldt t => Sys2Proof.Machine.execLldt t s
  | .lldtl t => Sys2Proof.Machine.execLldtl t s
  | .lldth t => Sys2Proof.Machine.execLldth t s
  | .lstt t => Sys2Proof.Machine.execLstt t s
  | .lsttl t => Sys2Proof.Machine.execLsttl t s
  | .lstth t => Sys2Proof.Machine.execLstth t s
  | .lldtt4 t => Sys2Proof.Machine.execLldtt4 t s
  | .lldtt8 t => Sys2Proof.Machine.execLldtt8 t s
  | .lldtt16 t => Sys2Proof.Machine.execLldtt16 t s
  | .lmvtv t => Sys2Proof.Machine.execLmvtv t s
  | .lmvvt t => Sys2Proof.Machine.execLmvvt t s
  | .lraw0 t => Sys2Proof.Machine.execLraw0 t s
  | .lraw1 t => Sys2Proof.Machine.execLraw1 t s
  | .lsadd t => Sys2Proof.Machine.execLsadd t s
  | .lscvt t => Sys2Proof.Machine.execLscvt t s
  | .lbob t => Sys2Proof.Machine.execLbob t s
  | .nnop t => Sys2Proof.Machine.execNnop t s
  | .sli t => Sys2Proof.Machine.execSli t s
  | .slih t => Sys2Proof.Machine.execSlih t s
  | .saddi t => Sys2Proof.Machine.execSaddi t s
  | .sadd t => Sys2Proof.Machine.execSadd t s
  | .ssub t => Sys2Proof.Machine.execSsub t s
  | .smul t => Sys2Proof.Machine.execSmul t s
  | .sand t => Sys2Proof.Machine.execSand t s
  | .sor t => Sys2Proof.Machine.execSor t s
  | .sxor t => Sys2Proof.Machine.execSxor t s
  | .sshl t => Sys2Proof.Machine.execSshl t s
  | .sshr t => Sys2Proof.Machine.execSshr t s
  | .ssra t => Sys2Proof.Machine.execSsra t s
  | .scmp t => Sys2Proof.Machine.execScmp t s
  | .srfeat t => Sys2Proof.Machine.execSrfeat t s
  | .srpos t => Sys2Proof.Machine.execSrpos t s
  | .srcnt t => Sys2Proof.Machine.execSrcnt t s
  | .njmp t => Sys2Proof.Machine.execNjmp t s
  | .nbrp t => Sys2Proof.Machine.execNbrp t s
  | .nloop t => Sys2Proof.Machine.execNloop t s
  | .nend t => Sys2Proof.Machine.execNend t s
  | .nsend t => Sys2Proof.Machine.execNsend t s
  | .nrecv t => Sys2Proof.Machine.execNrecv t s
  | .nclose t => Sys2Proof.Machine.execNclose t s
  | .nsig t => Sys2Proof.Machine.execNsig t s
  | .nwait t => Sys2Proof.Machine.execNwait t s
  | .nwall t => Sys2Proof.Machine.execNwall t s
  | .nbcast t => Sys2Proof.Machine.execNbcast t s
  | .resultWriteback t => Sys2Proof.Machine.execResultWriteback t s
  | .tileHoldCycle t => Sys2Proof.Machine.execTileHoldCycle t s
  | .freezeTimeout t => Sys2Proof.Machine.execFreezeTimeout t s
  | .stepOverrun t => Sys2Proof.Machine.execStepOverrun t s
  | .stepCycleLimit t => Sys2Proof.Machine.execStepCycleLimit t s
  | .stepEnd panel => Sys2Proof.Machine.execStepEnd panel s
  | .slotMaskUpdate t => Sys2Proof.Machine.execSlotMaskUpdate t s
  | .bufferedWritePerform t vert bank => Sys2Proof.Machine.execBufferedWritePerform t vert bank s
  | .spMergeWriteback t word => Sys2Proof.Machine.execSpMergeWriteback t word s
  | .windowPacketArrival t => Sys2Proof.Machine.execWindowPacketArrival t s
  | .sendSlotFree t slot => Sys2Proof.Machine.execSendSlotFree t slot s
  | .tileMemAccess => Sys2Proof.Machine.execTileMemAccess s
  | .tileCntClr t => Sys2Proof.Machine.execTileCntClr t s
  | .xferUp b => Sys2Proof.Machine.execXferUp b s
  | .xferDown b => Sys2Proof.Machine.execXferDown b s
  | .append b => Sys2Proof.Machine.execAppend b s
  | .actLoad b => Sys2Proof.Machine.execActLoad b s
  | .listLoad b => Sys2Proof.Machine.execListLoad b s
  | .decodeOp b => Sys2Proof.Machine.execDecodeOp b s
  | .cbLoad b svc => Sys2Proof.Machine.execCbLoad b svc s
  | .gemv b => Sys2Proof.Machine.execGemv b s
  | .attn b => Sys2Proof.Machine.execAttn b s
  | .copyOp b svc => Sys2Proof.Machine.execCopyOp b svc s
  | .fillOp b svc => Sys2Proof.Machine.execFillOp b svc s
  | .sendOp b => Sys2Proof.Machine.execSendOp b s
  | .flush b svc => Sys2Proof.Machine.execFlush b svc s
  | .bobResultPresent b => Sys2Proof.Machine.execBobResultPresent b s
  | .bobbinWritePacket b => Sys2Proof.Machine.execBobbinWritePacket b s
  | .bobMergeWriteback b word => Sys2Proof.Machine.execBobMergeWriteback b word s
  | .bobMemAccess => Sys2Proof.Machine.execBobMemAccess s
  | .patrolPass b => Sys2Proof.Machine.execPatrolPass b s
  | .packetInjection ep => Sys2Proof.Machine.execPacketInjection ep s
  | .packetForward a => Sys2Proof.Machine.execPacketForward a s
  | .packetEject n => Sys2Proof.Machine.execPacketEject n s
  | .ecnEchoReceive n => Sys2Proof.Machine.execEcnEchoReceive n s
  | .elasticRateRestore => Sys2Proof.Machine.execElasticRateRestore s
  | .rdirWrite c => Sys2Proof.Machine.execRdirWrite c s
  | .rdirCopy c => Sys2Proof.Machine.execRdirCopy c s
  | .rdirSwap c => Sys2Proof.Machine.execRdirSwap c s
  | .rdirUpdateDone => Sys2Proof.Machine.execRdirUpdateDone s
  | .routeDirectoryBankSwap => Sys2Proof.Machine.execRouteDirectoryBankSwap s
  | .flitReceive port f => Sys2Proof.Machine.execFlitReceive port f s
  | .replayStart port => Sys2Proof.Machine.execReplayStart port s
  | .nakRepeat port => Sys2Proof.Machine.execNakRepeat port s
  | .signalLoss port => Sys2Proof.Machine.execSignalLoss port s
  | .linkElecAdapted port lanes inverted peerX4 => Sys2Proof.Machine.execLinkElecAdapted port lanes inverted peerX4 s
  | .linkAlignLocked port order => Sys2Proof.Machine.execLinkAlignLocked port order s
  | .trainFlit port f => Sys2Proof.Machine.execTrainFlit port f s
  | .linkParamDone port => Sys2Proof.Machine.execLinkParamDone port s
  | .linkTrainTimeout port => Sys2Proof.Machine.execLinkTrainTimeout port s
  | .retrainTimeout port => Sys2Proof.Machine.execRetrainTimeout port s
  | .downRetry port => Sys2Proof.Machine.execDownRetry port s
  | .downNotice port => Sys2Proof.Machine.execDownNotice port s
  | .linkPacketIngress port vl => Sys2Proof.Machine.execLinkPacketIngress port vl s
  | .portSet c => Sys2Proof.Machine.execPortSet c s
  | .portOfflineDone port => Sys2Proof.Machine.execPortOfflineDone port s
  | .seamOpen c => Sys2Proof.Machine.execSeamOpen c s
  | .seamClose c => Sys2Proof.Machine.execSeamClose c s
  | .fabDiscover c => Sys2Proof.Machine.execFabDiscover c s
  | .fabPortRole c => Sys2Proof.Machine.execFabPortRole c s
  | .fabPortService c => Sys2Proof.Machine.execFabPortService c s
  | .identSend port => Sys2Proof.Machine.execIdentSend port s
  | .identFrame port f => Sys2Proof.Machine.execIdentFrame port f s
  | .strapRootStart => Sys2Proof.Machine.execStrapRootStart s
  | .coordAssign => Sys2Proof.Machine.execCoordAssign s
  | .discoveryVerified => Sys2Proof.Machine.execDiscoveryVerified s
  | .discoveryTimeout => Sys2Proof.Machine.execDiscoveryTimeout s
  | .signalOp home => Sys2Proof.Machine.execSignalOp home s
  | .arrive home => Sys2Proof.Machine.execArrive home s
  | .waitOp home => Sys2Proof.Machine.execWaitOp home s
  | .waitall home => Sys2Proof.Machine.execWaitall home s
  | .broadcast home => Sys2Proof.Machine.execBroadcast home s
  | .setOp home => Sys2Proof.Machine.execSetOp home s
  | .grant ep => Sys2Proof.Machine.execGrant ep s
  | .refuse ep => Sys2Proof.Machine.execRefuse ep s
  | .knotSignal c => Sys2Proof.Machine.execKnotSignal c s
  | .knotWait c => Sys2Proof.Machine.execKnotWait c s
  | .knotWaitall c => Sys2Proof.Machine.execKnotWaitall c s
  | .knotBroadcast c => Sys2Proof.Machine.execKnotBroadcast c s
  | .knotSet c => Sys2Proof.Machine.execKnotSet c s
  | .knotRead c => Sys2Proof.Machine.execKnotRead c s
  | .hostKnotWaitTimeout knot job => Sys2Proof.Machine.execHostKnotWaitTimeout knot job s
  | .knotWaiterRemove home => Sys2Proof.Machine.execKnotWaiterRemove home s
  | .knotLendReport knot n => Sys2Proof.Machine.execKnotLendReport knot n s
  | .memFill c => Sys2Proof.Machine.execMemFill c s
  | .memFillDone job => Sys2Proof.Machine.execMemFillDone job s
  | .memRetire c => Sys2Proof.Machine.execMemRetire c s
  | .modelLoad c => Sys2Proof.Machine.execModelLoad c s
  | .modelUnload c => Sys2Proof.Machine.execModelUnload c s
  | .modelRefit c => Sys2Proof.Machine.execModelRefit c s
  | .refitResume c => Sys2Proof.Machine.execRefitResume c s
  | .wgtRelease c => Sys2Proof.Machine.execWgtRelease c s
  | .modelSource c => Sys2Proof.Machine.execModelSource c s
  | .refitJournal c => Sys2Proof.Machine.execRefitJournal c s
  | .ingestRequest panel => Sys2Proof.Machine.execIngestRequest panel s
  | .ingestReply panel req => Sys2Proof.Machine.execIngestReply panel req s
  | .ingestRequestTimeout panel req => Sys2Proof.Machine.execIngestRequestTimeout panel req s
  | .segmentVerify panel seg => Sys2Proof.Machine.execSegmentVerify panel seg s
  | .pageRefetchDone page => Sys2Proof.Machine.execPageRefetchDone page s
  | .loadTimeout panel => Sys2Proof.Machine.execLoadTimeout panel s
  | .verifiedReport panel dev coord model gen => Sys2Proof.Machine.execVerifiedReport panel dev coord model gen s
  | .readyMessage panel model gen => Sys2Proof.Machine.execReadyMessage panel model gen s
  | .refitBarrier panel => Sys2Proof.Machine.execRefitBarrier panel s
  | .layerRelease panel layer => Sys2Proof.Machine.execLayerRelease panel layer s
  | .refitDoneReport panel dev coord model gen => Sys2Proof.Machine.execRefitDoneReport panel dev coord model gen s
  | .spoolSubmit c => Sys2Proof.Machine.execSpoolSubmit c s
  | .spoolAppend c => Sys2Proof.Machine.execSpoolAppend c s
  | .spoolCancel c => Sys2Proof.Machine.execSpoolCancel c s
  | .spoolClose c => Sys2Proof.Machine.execSpoolClose c s
  | .spoolRead c => Sys2Proof.Machine.execSpoolRead c s
  | .bucketSet c => Sys2Proof.Machine.execBucketSet c s
  | .tokenizerLoad c => Sys2Proof.Machine.execTokenizerLoad c s
  | .parkAreaSet c => Sys2Proof.Machine.execParkAreaSet c s
  | .spoolAck c => Sys2Proof.Machine.execSpoolAck c s
  | .stepAnnounce panel => Sys2Proof.Machine.execStepAnnounce panel s
  | .fwBatchReturn panel bucket picks => Sys2Proof.Machine.execFwBatchReturn panel bucket picks s
  | .fwBatchTimeout panel => Sys2Proof.Machine.execFwBatchTimeout panel s
  | .announce panel => Sys2Proof.Machine.execAnnounce panel s
  | .slots panel => Sys2Proof.Machine.execSlots panel s
  | .blocks panel => Sys2Proof.Machine.execBlocks panel s
  | .tokens panel => Sys2Proof.Machine.execTokens panel s
  | .maskMessage panel => Sys2Proof.Machine.execMaskMessage panel s
  | .report panel => Sys2Proof.Machine.execReport panel s
  | .stepInputDeadline panel q => Sys2Proof.Machine.execStepInputDeadline panel q s
  | .decodeInputDeadline panel q => Sys2Proof.Machine.execDecodeInputDeadline panel q s
  | .candidatePacket panel => Sys2Proof.Machine.execCandidatePacket panel s
  | .candidateTimeout panel => Sys2Proof.Machine.execCandidateTimeout panel s
  | .stepCommit panel => Sys2Proof.Machine.execStepCommit panel s
  | .requestDeadline spool => Sys2Proof.Machine.execRequestDeadline spool s
  | .finalRecordPost spool => Sys2Proof.Machine.execFinalRecordPost spool s
  | .idleTest => Sys2Proof.Machine.execIdleTest s
  | .parkComplete spool => Sys2Proof.Machine.execParkComplete spool s
  | .parkMoveFail spool => Sys2Proof.Machine.execParkMoveFail spool s
  | .parkTtlExpiry spool => Sys2Proof.Machine.execParkTtlExpiry spool s
  | .unparkComplete spool => Sys2Proof.Machine.execUnparkComplete spool s
  | .panelStart c => Sys2Proof.Machine.execPanelStart c s
  | .panelStop c => Sys2Proof.Machine.execPanelStop c s
  | .drainComplete panel => Sys2Proof.Machine.execDrainComplete panel s
  | .panelReset c => Sys2Proof.Machine.execPanelReset c s
  | .panelSuspend c => Sys2Proof.Machine.execPanelSuspend c s
  | .panelRestore c => Sys2Proof.Machine.execPanelRestore c s
  | .panelCtxRelease c => Sys2Proof.Machine.execPanelCtxRelease c s
  | .patternLoad c => Sys2Proof.Machine.execPatternLoad c s
  | .patternUnload c => Sys2Proof.Machine.execPatternUnload c s
  | .doorbell fn q v => Sys2Proof.Machine.execDoorbell fn q v s
  | .queueEnable fn q => Sys2Proof.Machine.execQueueEnable fn q s
  | .queueDisable fn q => Sys2Proof.Machine.execQueueDisable fn q s
  | .ringFetch q => Sys2Proof.Machine.execRingFetch q s
  | .ringWrite q => Sys2Proof.Machine.execRingWrite q s
  | .commandDecode => Sys2Proof.Machine.execCommandDecode s
  | .queuePacketArrival q => Sys2Proof.Machine.execQueuePacketArrival q s
  | .irqDelayExpiry q => Sys2Proof.Machine.execIrqDelayExpiry q s
  | .queueCtl c => Sys2Proof.Machine.execQueueCtl c s
  | .queueTake q => Sys2Proof.Machine.execQueueTake q s
  | .queueDrop q => Sys2Proof.Machine.execQueueDrop q s
  | .queueMark q => Sys2Proof.Machine.execQueueMark q s
  | .queueRewind q => Sys2Proof.Machine.execQueueRewind q s
  | .queueRelease q v => Sys2Proof.Machine.execQueueRelease q v s
  | .queueReset q v => Sys2Proof.Machine.execQueueReset q v s
  | .perst => Sys2Proof.Machine.execPerst s
  | .vfFlr panel => Sys2Proof.Machine.execVfFlr panel s
  | .pfFlr => Sys2Proof.Machine.execPfFlr s
  | .devReset c => Sys2Proof.Machine.execDevReset c s
  | .devResetFire => Sys2Proof.Machine.execDevResetFire s
  | .vinLow mv => Sys2Proof.Machine.execVinLow mv s
  | .vinHigh mv => Sys2Proof.Machine.execVinHigh mv s
  | .inputLoss mv ns => Sys2Proof.Machine.execInputLoss mv ns s
  | .pwrEnRise sinceFall => Sys2Proof.Machine.execPwrEnRise sinceFall s
  | .powerOkRise => Sys2Proof.Machine.execPowerOkRise s
  | .pwrEnFall => Sys2Proof.Machine.execPwrEnFall s
  | .thermalTrip celsius => Sys2Proof.Machine.execThermalTrip celsius s
  | .powerGovernorDecision m => Sys2Proof.Machine.execPowerGovernorDecision m s
  | .preWake panel => Sys2Proof.Machine.execPreWake panel s
  | .domainWakeComplete d => Sys2Proof.Machine.execDomainWakeComplete d s
  | .powerBrake mj draws => Sys2Proof.Machine.execPowerBrake mj draws s
  | .pwrEnvelope c => Sys2Proof.Machine.execPwrEnvelope c s
  | .pwrHold c => Sys2Proof.Machine.execPwrHold c s
  | .bootRomStart => Sys2Proof.Machine.execBootRomStart s
  | .bootPushGo => Sys2Proof.Machine.execBootPushGo s
  | .bootFirmwareStart failed low nominal boost => Sys2Proof.Machine.execBootFirmwareStart failed low nominal boost s
  | .watchdogKick core mask => Sys2Proof.Machine.execWatchdogKick core mask s
  | .watchdogExpiry core => Sys2Proof.Machine.execWatchdogExpiry core s
  | .coreParityFail core => Sys2Proof.Machine.execCoreParityFail core s
  | .rstNAssert ns => Sys2Proof.Machine.execRstNAssert ns s
  | .rstNRise => Sys2Proof.Machine.execRstNRise s
  | .fwUpdate c => Sys2Proof.Machine.execFwUpdate c s
  | .attest c => Sys2Proof.Machine.execAttest c s
  | .attestCert c => Sys2Proof.Machine.execAttestCert c s
  | .partStage c => Sys2Proof.Machine.execPartStage c s
  | .fwSvnCommit c => Sys2Proof.Machine.execFwSvnCommit c s
  | .ownerKeyFuse c => Sys2Proof.Machine.execOwnerKeyFuse c s
  | .smbusBlockRead cmd => Sys2Proof.Machine.execSmbusBlockRead cmd s
  | .smbusWriteByte cmd data => Sys2Proof.Machine.execSmbusWriteByte cmd data s
  | .smbusAlertResponse => Sys2Proof.Machine.execSmbusAlertResponse s
  | .timeInLoss => Sys2Proof.Machine.execTimeInLoss s
  | .timeInReturn => Sys2Proof.Machine.execTimeInReturn s
  | .pairActive peer => Sys2Proof.Machine.execPairActive peer s
  | .pairStandby => Sys2Proof.Machine.execPairStandby s
  | .unpair => Sys2Proof.Machine.execUnpair s
  | .solo => Sys2Proof.Machine.execSolo s
  | .promote => Sys2Proof.Machine.execPromote s
  | .mirrorRecord => Sys2Proof.Machine.execMirrorRecord s
  | .mirrorAck => Sys2Proof.Machine.execMirrorAck s
  | .mirrorLag => Sys2Proof.Machine.execMirrorLag s
  | .twinHeartbeat => Sys2Proof.Machine.execTwinHeartbeat s
  | .heartbeatReceive => Sys2Proof.Machine.execHeartbeatReceive s
  | .headMove panel => Sys2Proof.Machine.execHeadMove panel s
  | .dbgAuth c => Sys2Proof.Machine.execDbgAuth c s
  | .dbgDeauth c => Sys2Proof.Machine.execDbgDeauth c s
  | .dbgHalt c => Sys2Proof.Machine.execDbgHalt c s
  | .haltAtCycle t => Sys2Proof.Machine.execHaltAtCycle t s
  | .dbgResume c => Sys2Proof.Machine.execDbgResume c s
  | .dbgSnap c => Sys2Proof.Machine.execDbgSnap c s
  | .replaySet c => Sys2Proof.Machine.execReplaySet c s
  | .replayInject c => Sys2Proof.Machine.execReplayInject c s
  | .replayRun c => Sys2Proof.Machine.execReplayRun c s
  | .registerWrite a v => Sys2Proof.Machine.execRegisterWrite a v s
  | .rcRegisterRead a => Sys2Proof.Machine.execRcRegisterRead a s
  | .linkCycle port => Sys2Proof.Machine.execLinkCycle port s
  | .seamPassiveMonitor port bad => Sys2Proof.Machine.execSeamPassiveMonitor port bad s
  | .vinReturn mv => Sys2Proof.Machine.execVinReturn mv s
  | .unparkReadFail spool => Sys2Proof.Machine.execUnparkReadFail spool s
  | .configurationRequest fn op => Sys2Proof.Machine.execConfigurationRequest fn op s
  | .jtagAccess op => Sys2Proof.Machine.execJtagAccess op s

end Sys2Proof.Machine
end

