-- ==== Sys2Proof/Machine/Grades.lean ====
section
/-! DEFINITION. The grades of the C4 and what each fixes in the fused fields (spec/00 R2, R14, R15; the DEV_, PWR_CAP and PWR_DOM tables). -/

namespace Sys2Proof.Machine

/-- A row of R2: grade code, active tiles, stack tiers, link dies and maximum input power in W. A link die has four fabric ports. -/
structure GradeRow where
  code : Nat
  tiles : Nat
  tiers : Nat
  dies : Nat
  watts : Nat
  deriving DecidableEq, Repr

/-- The grades (R2): C4-T3L6 (the flagship), C4-T2L6, C4-T1L6, C4-T3L4 and C4S-T3L6. -/
def gradeRows : List GradeRow :=
  [⟨0x01, 1024, 3, 6, 2400⟩, ⟨0x02, 1024, 2, 6, 2250⟩, ⟨0x03, 1024, 1, 6, 2100⟩, ⟨0x04, 1024, 3, 4, 2250⟩, ⟨0x11, 960, 3, 6, 2300⟩]

/-- Disabled rows of a grade: 16 active tiles each (R2). -/
def GradeRow.disabled (g : GradeRow) : Nat := (1024 - g.tiles) / 16

/-- Stack SRAM in MiB: 8 MiB for each bobbin above an active tile (R2, R14). -/
def GradeRow.stackMiB (g : GradeRow) : Nat := g.tiles * g.tiers * 8

/-- Base scratchpad in MiB: 2 MiB for each active tile (R2, R14). -/
def GradeRow.scratchMiB (g : GradeRow) : Nat := g.tiles * 2

/-- Fabric ports: four on each link die (R2, DEV_FEAT_LINK.PORTS_PER_DIE). -/
def GradeRow.ports (g : GradeRow) : Nat := 4 * g.dies

/-- Seams the device can hold: 12 with six link dies, 8 with four (DEV_FEAT_LINK.MAX_SEAMS). -/
def GradeRow.seams (g : GradeRow) : Nat := 2 * g.dies

/-- Switched domains (DEV_FEAT_PWR.POWER_DOMAINS): 64 rows, disabled ones too (R15), four for each tier, the link dies, engine and spine. -/
def GradeRow.domains (g : GradeRow) : Nat := 64 + 4 * g.tiers + g.dies + 2

/-- Is domain `d` of R433 present on the grade? -/
def GradeRow.hasDomain (g : GradeRow) (d : Nat) : Bool :=
  d < 64 || (64 ≤ d && d < 76 && (d - 64) / 4 < g.tiers) || (76 ≤ d && d < 82 && d - 76 < g.dies) || d = 82 || d = 83

/-- The fused fields a grade fixes, with their values; `rows` has one bit for each disabled row (DEV_ROW_MAP). OVERHEAD_W is 55 W for the
host die and the capacity of the link dies, the engine and the spine (PWR_CAP); the host die homes the knots that the tile routers, 48 to a
tile, do not (R264). -/
def GradeRow.fused (g : GradeRow) (rows : Nat) : List (Fld × Nat) :=
  [(Reg.DEV_GRADE_GRADE_CODE, g.code), (Reg.DEV_GRADE_ROW_SALVAGE, if g.disabled = 0 then 0 else 1), (Reg.DEV_FEAT_TILE_ACTIVE_TILES, g.tiles),
   (Reg.DEV_FEAT_TILE_DISABLED_ROWS, g.disabled), (Reg.DEV_ROW_MAP_DISABLED, rows), (Reg.DEV_FEAT_MEM_STACK_PAGES, 16 * g.stackMiB),
   (Reg.DEV_FEAT_MEM_TIERS, g.tiers), (Reg.DEV_FEAT_LINK_LINK_DIES, g.dies), (Reg.DEV_FEAT_LINK_FABRIC_PORTS, g.ports),
   (Reg.DEV_FEAT_LINK_MAX_SEAMS, g.seams), (Reg.DEV_FEAT_PWR_MAX_INPUT_W, g.watts), (Reg.DEV_FEAT_PWR_POWER_DOMAINS, g.domains),
   (Reg.PWR_CAP_OVERHEAD_W, 55 + 75 * g.dies + 15 + 110), (Reg.DBG_KNOT_CAP_HOST_KNOTS, 65536 - 48 * g.tiles)] ++
  (List.range 84).map (fun d => (Reg.PWR_DOM_PRESENT d, if g.hasDomain d then 1 else 0))

/-- The grade a code names (R2). -/
def gradeOf (code : Nat) : Option GradeRow := gradeRows.find? (fun g => g.code = code)

/-- A part of a grade right after a cold reset: the flagship is `State.reset` (log entry 1). -/
def State.ofGrade (g : GradeRow) (rows : Nat) : State := (g.fused rows).foldl (fun s f => s.wr f.1 f.2) State.reset

/-- The number of bits set among the 64 of a row map. -/
def rowsSet (m : Nat) : Nat := ((List.range 64).filter (fun i => m.testBit i)).length

/-- The device's fused fields are those of the grade GRADE_CODE names, with as many rows disabled as it says (R2, R14). -/
def State.gradeHolds (s : State) : Bool :=
  match gradeOf (s.rd Reg.DEV_GRADE_GRADE_CODE) with
  | none => false
  | some g => rowsSet (s.rd Reg.DEV_ROW_MAP_DISABLED) = g.disabled &&
      (g.fused (s.rd Reg.DEV_ROW_MAP_DISABLED)).all (fun f => s.rd f.1 = f.2)

end Sys2Proof.Machine
end

