-- ==== Sys2Proof/WellFormed.lean ====
section
/-! DEFINITION. Well-formed commands: every operand that names a tile, a bobbin, a queue, a panel or another numbered thing of the device
names one that the device can have (spec/00 R2; spec/04 R100; spec/08 R217; spec/10 R264; spec/15 R385; spec/16 R400, R404, R408; spec/17
R433), and every list of measurements has the length the device has. The device itself is total: an operand out of range reaches nothing. -/

namespace Sys2Proof

/-- A tile site: 34 sites in each of 32 rows of the grid (R2, R254). -/
def isTile (t : Nat) : Bool := t < 1088
/-- A bobbin: a site in one of at most four tiers (R100). -/
def isBob (b : Nat) : Bool := b < 4352
/-- A link port (R217). -/
def isPort (n : Nat) : Bool := n < 24
/-- A row: 16 in each of four fields (R2). -/
def isRow (r : Nat) : Bool := r < 64
/-- A knot home: a tile, or the host die (R264). -/
def isHome (h : Nat) : Bool := h ≤ 1088
/-- An endpoint of a device (R254). -/
def isEp (e : Nat) : Bool := e < 16384
/-- A panel (R385). -/
def isPanel (p : Nat) : Bool := p < 16
/-- A spool (R331). -/
def isSpool (i : Nat) : Bool := i < 16384
/-- A knot (R264). -/
def isKnot (k : Nat) : Bool := k < 65536
/-- A hardware queue (R408). -/
def isQueue (q : Nat) : Bool := q < 16384
/-- A PCIe function: 0 the PF, p + 1 the VF of panel p (R400). -/
def isFn (f : Nat) : Bool := f ≤ 16
/-- A Thimble core (R448). -/
def isCore (c : Nat) : Bool := c < 4
/-- A power domain (R433). -/
def isDomain (d : Nat) : Bool := d < 84
/-- A stack page (R100). -/
def isPage (g : Nat) : Bool := g < 1048576
/-- A model layer: at most 512 (R301). -/
def isLayer (l : Nat) : Bool := l < 512
/-- A send slot of a tile: four (R156). -/
def isSlot (k : Nat) : Bool := k < 4
/-- A scratchpad bank (R59). -/
def isBank (k : Nat) : Bool := k < 32
/-- A virtual lane of a link (R220). -/
def isVl (v : Nat) : Bool := v < 3
/-- A fabric coordinate, or an index of a device within an instance (R239, R301). -/
def isCoord (c : Nat) : Bool := c < 1024
/-- A step number, taken modulo 2^16 (R343). -/
def isStep (q : Nat) : Bool := q < 65536
/-- A bucket of a panel's table (R342). -/
def isBucket (k : Nat) : Bool := k < 32
/-- A word of a scratchpad, and of a bobbin's stack memory (R282). -/
def isSpWord (w : Nat) : Bool := w < 65536
def isStackWord (w : Nat) : Bool := w < 131072

/-- A host command: issued by a function through a queue (R409, R422). -/
def Cmd.wf (c : Cmd) : Bool := isFn c.fn && isQueue c.sq

/-- A register access: within the function's BAR (R404 to R406). -/
def RegAccess.wf (a : RegAccess) : Bool :=
  isFn a.fn && (match a.space with
    | .bar0 => a.off + a.bytes ≤ (if a.fn = 0 then 0x4000000 else 0x400000)
    | .bar2 => a.fn = 0 && a.off + a.bytes ≤ 0x1000000)

/-- A flit: at most 240 bytes of payload (R219). -/
def Flit.wf (f : Flit) : Bool := f.body.length ≤ 240 && f.cws ≤ 2

/-- What the power manager measures: 83 sensors, 16 panels, 64 rows (R430, R437 to R445). -/
def PowerSample.wf (m : PowerSample) : Bool := m.temps.length ≤ 83 && m.draws.length ≤ 16 && m.margins.length ≤ 64

/-- A configuration request: NumVFs is at most 16, and the sizes are among those that R400 supports. -/
def CfgOp.wf : CfgOp → Bool
  | .read off => off < 4096
  | .busMaster _ => true
  | .numVfs n => n ≤ 16
  | .msix _ => true
  | .maxPayload n => n = 128 || n = 256 || n = 512
  | .maxRead n => n = 128 || n = 256 || n = 512 || n = 1024 || n = 2048 || n = 4096
  | .ecrc _ _ => true

/-- What a peer reports: its coordinate and at most 16 panels (R467). -/
def TwinPeer.wf (p : TwinPeer) : Bool := isCoord p.coord && isCoord p.names && p.panels.length ≤ 16

/-- Is the command well formed? -/
def Instr.wf : Instr → Bool
  | .stitchRole c => c.wf
  | .stitchSet c => c.wf
  | .timeFrame port _ => isPort port
  | .timeFrameSend => true
  | .acquireConverged => true
  | .masterPathLost => true
  | .backupPromote => true
  | .holdoverExpiry => true
  | .clockChangeWindow => true
  | .changeWindowEnd => true
  | .trimWindow => true
  | .marginWarn row _ => isRow row
  | .marginVoltageStep row => isRow row
  | .marginCrit row _ => isRow row
  | .stepLaunch panel => isPanel panel
  | .mnop t => isTile t
  | .mwarm t => isTile t
  | .mpass t => isTile t
  | .mswap t => isTile t
  | .mread t => isTile t
  | .arrayWarmDone t => isTile t
  | .arrayRampDown t => isTile t
  | .vnop t _ => isTile t
  | .vadd t _ => isTile t
  | .vsub t _ => isTile t
  | .vmul t _ => isTile t
  | .vfma t _ => isTile t
  | .vmin t _ => isTile t
  | .vmax t _ => isTile t
  | .vabs t _ => isTile t
  | .vneg t _ => isTile t
  | .vadds t _ => isTile t
  | .vsubs t _ => isTile t
  | .vand t _ => isTile t
  | .vor t _ => isTile t
  | .vxor t _ => isTile t
  | .vandn t _ => isTile t
  | .vshl t _ => isTile t
  | .vshr t _ => isTile t
  | .vsra t _ => isTile t
  | .vcmp t _ => isTile t
  | .vsel t _ => isTile t
  | .vmov t _ => isTile t
  | .vins t _ => isTile t
  | .vexts t _ => isTile t
  | .viota t _ => isTile t
  | .vperm t _ => isTile t
  | .vplog t _ => isTile t
  | .vrsum t _ => isTile t
  | .vrmax t _ => isTile t
  | .vrmin t _ => isTile t
  | .vcvt t _ => isTile t
  | .vpack t _ => isTile t
  | .vunpack t _ => isTile t
  | .vexp t => isTile t
  | .vrcp t => isTile t
  | .vrsqrt t => isTile t
  | .vtanh t => isTile t
  | .verf t => isTile t
  | .lnop t => isTile t
  | .llds t => isTile t
  | .lsts t => isTile t
  | .lldv t => isTile t
  | .lstv t => isTile t
  | .lldt t => isTile t
  | .lldtl t => isTile t
  | .lldth t => isTile t
  | .lstt t => isTile t
  | .lsttl t => isTile t
  | .lstth t => isTile t
  | .lldtt4 t => isTile t
  | .lldtt8 t => isTile t
  | .lldtt16 t => isTile t
  | .lmvtv t => isTile t
  | .lmvvt t => isTile t
  | .lraw0 t => isTile t
  | .lraw1 t => isTile t
  | .lsadd t => isTile t
  | .lscvt t => isTile t
  | .lbob t => isTile t
  | .nnop t => isTile t
  | .sli t => isTile t
  | .slih t => isTile t
  | .saddi t => isTile t
  | .sadd t => isTile t
  | .ssub t => isTile t
  | .smul t => isTile t
  | .sand t => isTile t
  | .sor t => isTile t
  | .sxor t => isTile t
  | .sshl t => isTile t
  | .sshr t => isTile t
  | .ssra t => isTile t
  | .scmp t => isTile t
  | .srfeat t => isTile t
  | .srpos t => isTile t
  | .srcnt t => isTile t
  | .njmp t => isTile t
  | .nbrp t => isTile t
  | .nloop t => isTile t
  | .nend t => isTile t
  | .nsend t => isTile t
  | .nrecv t => isTile t
  | .nclose t => isTile t
  | .nsig t => isTile t
  | .nwait t => isTile t
  | .nwall t => isTile t
  | .nbcast t => isTile t
  | .resultWriteback t => isTile t
  | .tileHoldCycle t => isTile t
  | .freezeTimeout t => isTile t
  | .stepOverrun t => isTile t
  | .stepCycleLimit t => isTile t
  | .stepEnd panel => isPanel panel
  | .slotMaskUpdate t => isTile t
  | .bufferedWritePerform t _ bank => isTile t && isBank bank
  | .spMergeWriteback t word => isTile t && isSpWord word
  | .windowPacketArrival t => isTile t
  | .sendSlotFree t slot => isTile t && isSlot slot
  | .tileMemAccess => true
  | .tileCntClr t => isTile t
  | .xferUp b => isBob b
  | .xferDown b => isBob b
  | .append b => isBob b
  | .actLoad b => isBob b
  | .listLoad b => isBob b
  | .decodeOp b => isBob b
  | .cbLoad b _ => isBob b
  | .gemv b => isBob b
  | .attn b => isBob b
  | .copyOp b _ => isBob b
  | .fillOp b _ => isBob b
  | .sendOp b => isBob b
  | .flush b _ => isBob b
  | .bobResultPresent b => isBob b
  | .bobbinWritePacket b => isBob b
  | .bobMergeWriteback b word => isBob b && isStackWord word
  | .bobMemAccess => true
  | .patrolPass b => isBob b
  | .packetInjection ep => isEp ep
  | .packetForward _ => true
  | .packetEject _ => true
  | .ecnEchoReceive _ => true
  | .elasticRateRestore => true
  | .rdirWrite c => c.wf
  | .rdirCopy c => c.wf
  | .rdirSwap c => c.wf
  | .rdirUpdateDone => true
  | .routeDirectoryBankSwap => true
  | .flitReceive port f => isPort port && f.wf
  | .replayStart port => isPort port
  | .nakRepeat port => isPort port
  | .signalLoss port => isPort port
  | .linkElecAdapted port _ _ _ => isPort port
  | .linkAlignLocked port _ => isPort port
  | .trainFlit port _ => isPort port
  | .linkParamDone port => isPort port
  | .linkTrainTimeout port => isPort port
  | .retrainTimeout port => isPort port
  | .downRetry port => isPort port
  | .downNotice port => isPort port
  | .linkPacketIngress port vl => isPort port && isVl vl
  | .portSet c => c.wf
  | .portOfflineDone port => isPort port
  | .seamOpen c => c.wf
  | .seamClose c => c.wf
  | .fabDiscover c => c.wf
  | .fabPortRole c => c.wf
  | .fabPortService c => c.wf
  | .identSend port => isPort port
  | .identFrame port _ => isPort port
  | .strapRootStart => true
  | .coordAssign => true
  | .discoveryVerified => true
  | .discoveryTimeout => true
  | .signalOp home => isHome home
  | .arrive home => isHome home
  | .waitOp home => isHome home
  | .waitall home => isHome home
  | .broadcast home => isHome home
  | .setOp home => isHome home
  | .grant ep => isEp ep
  | .refuse ep => isEp ep
  | .knotSignal c => c.wf
  | .knotWait c => c.wf
  | .knotWaitall c => c.wf
  | .knotBroadcast c => c.wf
  | .knotSet c => c.wf
  | .knotRead c => c.wf
  | .hostKnotWaitTimeout knot _ => isKnot knot
  | .knotWaiterRemove home => isHome home
  | .knotLendReport knot _ => isKnot knot
  | .memFill c => c.wf
  | .memFillDone _ => true
  | .memRetire c => c.wf
  | .modelLoad c => c.wf
  | .modelUnload c => c.wf
  | .modelRefit c => c.wf
  | .refitResume c => c.wf
  | .wgtRelease c => c.wf
  | .modelSource c => c.wf
  | .refitJournal c => c.wf
  | .ingestRequest panel => isPanel panel
  | .ingestReply panel _ => isPanel panel
  | .ingestRequestTimeout panel _ => isPanel panel
  | .segmentVerify panel _ => isPanel panel
  | .pageRefetchDone page => isPage page
  | .loadTimeout panel => isPanel panel
  | .verifiedReport panel dev coord _ _ => isPanel panel && isCoord dev && isCoord coord
  | .readyMessage panel _ _ => isPanel panel
  | .refitBarrier panel => isPanel panel
  | .layerRelease panel layer => isPanel panel && isLayer layer
  | .refitDoneReport panel dev coord _ _ => isPanel panel && isCoord dev && isCoord coord
  | .spoolSubmit c => c.wf
  | .spoolAppend c => c.wf
  | .spoolCancel c => c.wf
  | .spoolClose c => c.wf
  | .spoolRead c => c.wf
  | .bucketSet c => c.wf
  | .tokenizerLoad c => c.wf
  | .parkAreaSet c => c.wf
  | .spoolAck c => c.wf
  | .stepAnnounce panel => isPanel panel
  | .fwBatchReturn panel bucket picks => isPanel panel && isBucket bucket && picks.length ≤ 512
  | .fwBatchTimeout panel => isPanel panel
  | .announce panel => isPanel panel
  | .slots panel => isPanel panel
  | .blocks panel => isPanel panel
  | .tokens panel => isPanel panel
  | .maskMessage panel => isPanel panel
  | .report panel => isPanel panel
  | .stepInputDeadline panel q => isPanel panel && isStep q
  | .decodeInputDeadline panel q => isPanel panel && isStep q
  | .candidatePacket panel => isPanel panel
  | .candidateTimeout panel => isPanel panel
  | .stepCommit panel => isPanel panel
  | .requestDeadline spool => isSpool spool
  | .finalRecordPost spool => isSpool spool
  | .idleTest => true
  | .parkComplete spool => isSpool spool
  | .parkMoveFail spool => isSpool spool
  | .parkTtlExpiry spool => isSpool spool
  | .unparkComplete spool => isSpool spool
  | .panelStart c => c.wf
  | .panelStop c => c.wf
  | .drainComplete panel => isPanel panel
  | .panelReset c => c.wf
  | .panelSuspend c => c.wf
  | .panelRestore c => c.wf
  | .panelCtxRelease c => c.wf
  | .patternLoad c => c.wf
  | .patternUnload c => c.wf
  | .doorbell fn q _ => isFn fn && isQueue q
  | .queueEnable fn q => isFn fn && isQueue q
  | .queueDisable fn q => isFn fn && isQueue q
  | .ringFetch q => isQueue q
  | .ringWrite q => isQueue q
  | .commandDecode => true
  | .queuePacketArrival q => isQueue q
  | .irqDelayExpiry q => isQueue q
  | .queueCtl c => c.wf
  | .queueTake q => isQueue q
  | .queueDrop q => isQueue q
  | .queueMark q => isQueue q
  | .queueRewind q => isQueue q
  | .queueRelease q _ => isQueue q
  | .queueReset q _ => isQueue q
  | .perst => true
  | .vfFlr panel => isPanel panel
  | .pfFlr => true
  | .devReset c => c.wf
  | .devResetFire => true
  | .vinLow _ => true
  | .vinHigh _ => true
  | .inputLoss _ _ => true
  | .pwrEnRise _ => true
  | .powerOkRise => true
  | .pwrEnFall => true
  | .thermalTrip _ => true
  | .powerGovernorDecision m => m.wf
  | .preWake panel => isPanel panel
  | .domainWakeComplete d => isDomain d
  | .powerBrake _ draws => draws.length ≤ 16
  | .pwrEnvelope c => c.wf
  | .pwrHold c => c.wf
  | .bootRomStart => true
  | .bootPushGo => true
  | .bootFirmwareStart failed _ _ _ => failed.all isTile
  | .watchdogKick core _ => (core.map isCore).getD true
  | .watchdogExpiry core => isCore core
  | .coreParityFail core => isCore core
  | .rstNAssert _ => true
  | .rstNRise => true
  | .fwUpdate c => c.wf
  | .attest c => c.wf
  | .attestCert c => c.wf
  | .partStage c => c.wf
  | .fwSvnCommit c => c.wf
  | .ownerKeyFuse c => c.wf
  | .smbusBlockRead _ => true
  | .smbusWriteByte _ _ => true
  | .smbusAlertResponse => true
  | .timeInLoss => true
  | .timeInReturn => true
  | .pairActive peer => (peer.map TwinPeer.wf).getD true
  | .pairStandby => true
  | .unpair => true
  | .solo => true
  | .promote => true
  | .mirrorRecord => true
  | .mirrorAck => true
  | .mirrorLag => true
  | .twinHeartbeat => true
  | .heartbeatReceive => true
  | .headMove panel => isPanel panel
  | .dbgAuth c => c.wf
  | .dbgDeauth c => c.wf
  | .dbgHalt c => c.wf
  | .haltAtCycle t => isTile t
  | .dbgResume c => c.wf
  | .dbgSnap c => c.wf
  | .replaySet c => c.wf
  | .replayInject c => c.wf
  | .replayRun c => c.wf
  | .registerWrite a _ => a.wf
  | .rcRegisterRead a => a.wf
  | .linkCycle port => isPort port
  | .seamPassiveMonitor port _ => isPort port
  | .vinReturn _ => true
  | .unparkReadFail spool => isSpool spool
  | .configurationRequest fn op => isFn fn && op.wf
  | .jtagAccess _ => true

end Sys2Proof
end

