-- ==== Sys2Proof/Safety.lean ====
section
/-! DEFINITION. What claims are stated in: a command that completes, a safe step, the panel states of the spec, and the canonical form of the
machine's sparse stores. -/

namespace Sys2Proof.Machine

/-- The command completes in `t`. -/
def Completes (c : Instr) (s t : State) : Prop := exec c s = .next t

/-- The next state of an outcome; the state given where there is none. -/
def outcomeState (o : Host.Outcome State Fault Refusal) (s : State) : State :=
  match o with
  | .next t => t
  | _ => s

/-- The state after a command. -/
def after (c : Instr) (s : State) : State := outcomeState (exec c s) s

/-- No panel is FAULTED (R392). -/
def State.healthy (s : State) : Bool := panels16.all (fun p => s.pst p ≠ PS.faulted)

/-- Keys strictly rise. -/
def Rising {α : Type} : Store α → Prop
  | [] => True
  | [_] => True
  | (i, _) :: (j, b) :: r => i < j ∧ Rising ((j, b) :: r)

/-- Keys strictly rise, and nothing listed is what an unlisted key reads as: equal contents are equal data. -/
def Canonical {α : Type} (d : α) (m : Store α) : Prop := Rising m ∧ ∀ e ∈ m, e.2 ≠ d

/-- Every sparse store of the machine is in its one form: equal contents are equal data. -/
structure State.Canon (s : State) : Prop where
  csr : Rising s.csr
  hostMem : Canonical 0 s.hostMem
  tiles : Canonical {} s.tiles
  bobs : Canonical {} s.bobs
  panels : Canonical {} s.panels
  ports : Canonical {} s.ports
  knots : Canonical {} s.knots
  homes : Canonical [] s.homes
  homeWait : Canonical [] s.noc.homeWait
  mail : Canonical [] s.noc.mail
  queues : Canonical {} s.queues
  fns : Canonical {} s.fns
  wgts : Canonical {} s.wgts
  serves : Canonical {} s.serves
  spools : Canonical {} s.spools

/-! ## Frames -/

/-- Every register field but those named reads in `t` as in `s`. -/
def RegsBut (fs : List Fld) (s t : State) : Prop := ∀ f : Fld, (∀ g ∈ fs, f.key ≠ g.key) → t.rd f = s.rd f

/-! ## Commands (R422 to R426) -/

/-- The job a command becomes when it is taken (R423). -/
def CmdSpec.job (k : CmdSpec) (c : Cmd) (s : State) : Job := { id := s.nextJob, opcode := k.opcode, cmd := c, cq := s.cqOf c }

/-- The state with the command taken: its job listed and its completion slot reserved (R423). -/
def CmdSpec.begun (k : CmdSpec) (c : Cmd) (s : State) : State := s.startJob k.opcode none c

/-- Changes of panel `p` are made at once: no twin mirrors or fences them (R470, R474). -/
def State.direct (s : State) (p : Nat) : Bool := s.twin.capture || !(s.mirrors p || (s.mapped p && s.tws = TW.fenced))

/-- The command names no panel whose changes a twin mirrors, or fences (R470, R478). -/
def State.unmirrored (s : State) (c : Cmd) : Bool :=
  match c.pnl with
  | none => true
  | some p => s.direct p

/-- The command passes the checks of orders 1 to 5 of R424, is not one a twin mirrors, and the domains it reaches are Active (R436). -/
def CmdSpec.accepts (k : CmdSpec) (c : Cmd) (s : State) : Prop :=
  k.check c s = St.OK ∧ s.unmirrored c = true ∧ (k.needs c s).all s.domOn = true

/-! ## Tile operations (R53, R132, R133, R165) -/

/-- Slot `k` of tile `t`'s bundle, which carries opcode `op`, issues on this edge: it may issue, the run-time operands of its bundle are
legal (R165), and none of its destinations waits for window data (R133). -/
def State.issues (s : State) (t k op : Nat) : Bool :=
  s.issuable t k op && (s.tile t).operandsOk ((s.tile t).bundle (s.tile t).pc) &&
    (slotInfo k (s.opWord t k)).dsts.all (fun d => !(s.tile t).pendingDest d)

/-- Tile `t` with slot `k` of its bundle marked issued and its destinations absent (R53, R132). -/
def State.begunTile (s : State) (t k : Nat) : Tile := (s.tile t).mark s.clk.edge k (slotInfo k (s.opWord t k)).dsts

/-- The result of an operation issued now in slot `k` with latency `l`; none for S0 and P0, which discard it (R51, R134). -/
def State.flightOf (s : State) (k dst l : Nat) (cells : List (Nat × Nat × Nat)) : List Result :=
  if isConst dst then [] else [⟨dst, cells, s.clk.edge + l, s.clk.edge, k⟩]

/-- From `s` to `u`, tile `t` became `x`, and nothing else changed but the registers `fs`. -/
def TileOnly (s u : State) (t : Nat) (x : Tile) (fs : List Fld) : Prop :=
  u.tile t = x ∧ (∀ j, j ≠ t → u.tile j = s.tile j) ∧ RegsBut fs s u ∧ u = { s with tiles := u.tiles, csr := u.csr }

/-- From `s` to `u`, slot `k` of tile `t` issued and put results `rs` in flight; nothing else changed but the registers `fs`. -/
def Issued (s u : State) (t k : Nat) (rs : List Result) (fs : List Fld) : Prop :=
  TileOnly s u t { s.begunTile t k with inflight := (s.tile t).inflight ++ rs } fs

/-- The counter of vector operations issued, and its overflow flag (R68). -/
def vecRegs (t : Nat) : List Fld := [Reg.TILE_PERF_VEC_COUNT t, Reg.TILE_PERF_VEC_OVF t]

/-- Tile `t` has recorded fault `code`, and its panel, when one that runs owns it, is FAULTED and its step is gone (R165, R394). -/
def TileFaulted (s u : State) (t : Nat) (code : Code) : Prop :=
  u.rd (Reg.TILE_FAULT_CODE t) = code.toNat ∧
  ∀ p, s.panelOfTile t = some p → s.isLive p = true → u.pst p = PS.faulted ∧ (u.panel p).run = none

/-- One byte of a tile's scratchpad as a load sees it: a merge-buffer entry's byte over the bank's (R62, R286). -/
def Tile.byteAt (x : Tile) (a : Nat) : Byte := (x.spWordBytes (a / 32 % 65536)).getD (a % 32) 0

/-- One byte of a bobbin's stack as a read sees it: a merge-buffer entry's byte over the bank's (R123). -/
def Bobbin.byteAt (x : Bobbin) (a : Nat) : Byte := (x.wordBytes (a / 64)).getD (a % 64) 0

/-- A load puts in flight what `f` says of the tile as it is when the load's words are read (R62). -/
def LLoad.gives (l : LLoad) (f : Tile → List (Nat × Nat × Nat)) : Prop :=
  ∀ (y : Tile) (e : Nat), (∀ r ∈ l.reads, r.1 ≤ e) → (LLoad.sample y e l).reads = [] ∧ (LLoad.sample y e l).cells = f y

/-- Once the stores issued so far have reached their banks, `bs` stands in tile `y`'s scratchpad from byte `a` on, and every other byte is
what it would have been in tile `x` (R62, R147). -/
def StoresHave (x y : Tile) (a : Nat) (bs : List Byte) : Prop :=
  ∀ i, i < spSize → y.lsettle.byteAt i =
    (if (i + spSize - a) % spSize < bs.length then bs.getD ((i + spSize - a) % spSize) 0 else x.lsettle.byteAt i)

/-- Step descriptor `n` of bobbin `b`, whose flags go to `P[pd]` and which started at bobbin cycle `start`, has run from `s` to `u` and left
the result `r`: it has left the queue, its port is busy for its duration, and its result is due after its tail (R104 to R106). -/
def RanStep (s u : State) (b n pd start : Nat) (r : BobResult) : Prop :=
  (u.bob b).stepQ = (s.bob b).stepQ.drop 1 ∧ (u.bob b).results = (s.bob b).results ++ [r] ∧ r.pd = pd ∧
    r.at_ = start + durOf n + s.tailOf (bobTile b) n ∧ (u.bob b).portFree = start + durOf n ∧ (u.bob b).op = dOp n ∧
    (u.bob b).svcQ = (s.bob b).svcQ ∧ ∀ c, c ≠ b → u.bob c = s.bob c

/-- Bytes `bs` go to the tile as descriptor `n` says: to its register, or through the vertical port to the scratchpad (R109). -/
def BobResult.carries (r : BobResult) (n id : Nat) (bs : List Byte) : Prop :=
  (dKind n = 1 → r.dreg = some (dReg n) ∧ r.cells = tCells 0 bs) ∧ (dKind n = 2 → r.words = bufWrites (dAddr n) id 0 bs)

/-- In the stack of bobbin `b`, `bs` stands from byte `a` on, and every other byte reads as in `s`. -/
def StackHas (s u : State) (b a : Nat) (bs : List Byte) : Prop :=
  ∀ i, (u.bob b).byteAt i = (if a ≤ i ∧ i < a + bs.length then bs.getD (i - a) 0 else (s.bob b).byteAt i)

/-- Bobbin `b` ran the service descriptor in front of `rest`. -/
def RanSvc (s u : State) (b : Nat) (rest : List Desc) : Prop :=
  rest <+: (u.bob b).svcQ ∧ (u.bob b).stepQ = (s.bob b).stepQ

/-- The operation at the front of home `h` has left its queue; operations of host-die sources that waited for room have followed, unless a
packet that came before them waits (R266). -/
def LeftHome (s u : State) (h : Nat) : Prop :=
  ∃ more, u.home h = (s.home h).drop 1 ++ more.map Prod.snd ∧ u.homeWaits h = (s.homeWaits h).drop more.length ∧ more <+: s.homeWaits h ∧
    (∀ v ∈ more, ∀ g ∈ s.opsAt h, v.1 < g.busy) ∧ (∀ k, k ≠ h → u.home k = s.home k ∧ u.homeWaits k = s.homeWaits k)

/-- An operation of a host-die source has joined home `h`: its queue, when that has room and nothing that came before waits, and otherwise
those that wait for it (R266). -/
def JoinedHome (s u : State) (h : Nat) (o : KnotOp) : Prop :=
  u.home h ++ (u.homeWaits h).map Prod.snd = s.home h ++ (s.homeWaits h).map Prod.snd ++ [o] ∧ s.home h <+: u.home h ∧
    ((s.home h).length < 8 → s.homeWaits h = [] → s.opsAt h = [] → s.homeStopped h = false → u.home h = s.home h ++ [o]) ∧
    (8 ≤ (s.home h).length → u.home h = s.home h) ∧ ∀ k, k ≠ h → u.home k = s.home k ∧ u.homeWaits k = s.homeWaits k

/-- The checks of R313 on the manifest of `n` bytes at `a` and the source list at `sa`, for command `c` on panel `p`, all pass: the
manifest, its sources and the device's segments. -/
def State.manifestAt (s : State) (c : Cmd) (p a n sa sn place idx : Nat) (m : List Byte) (srcs : List Source) (segs : List Segment) : Prop :=
  a % 64 = 0 ∧ 1 ≤ sn ∧ sn ≤ 8 ∧ s.dmaFail c.fn sa (16 * sn) = none ∧ sourcesOf (s.hostRead sa (16 * sn)) sn = some srcs ∧ 288 ≤ n ∧
    n ≤ 67108864 ∧ s.dmaFail c.fn a n = none ∧ m = s.hostRead a n ∧ manifestOk m n idx = true ∧ s.manifestSigned p m = true ∧
    s.placeSegs p place m idx = some segs ∧ (segs.flatMap s.segPageIds).any s.isRetired = false

/-- The panel of a serving command exists and is not a follower's (R331, R393). -/
def State.servable (s : State) (c : Cmd) (p : Nat) : Prop := c.pnl = some p ∧ s.pst p ≠ PS.empty ∧ s.follower p = false

/-- What a message of kind `k` for panel `p` finds: the packet `pk` waits at the panel's engine, from a head that has not been replaced
(R346, R475). -/
def State.hears (s : State) (p kind i : Nat) (pk : Packet) : Prop :=
  ∃ f : Flight, s.ejected (epHost (32 + p)) (fun k => k.op = POp.ctrl && msgKind k.payload = kind) = some (i, f) ∧ f.pkt = pk ∧
    (s.serve p).staleHeads.contains (feidCoord pk.src) = false

/-- What a mirror packet of a kind finds: the packet `pk` of this device's peer waits at the twin agent (R469). -/
def State.twinHears (s : State) (kind : Nat → Bool) (i : Nat) (pk : Packet) : Prop :=
  ∃ f : Flight, s.ejected (epHost 64) (fun k => k.op = POp.ctrl && kind (bits (natOf (k.payload.take 16)) 32 8)) = some (i, f) ∧ f.pkt = pk ∧
    s.paired = true ∧ s.rd Reg.FAB_TWIN_STAT_PEER_COORD = feidCoord pk.src

end Sys2Proof.Machine
end

