-- ==== Sys2Proof/Certificates/Slice0/Obligations.lean ====
section
/-! DEFINITION. The statements for the provers. -/

open Sys2Proof Sys2Proof.Machine

/-- A step takes the command at the front of the queue and runs it on the state with the rest of the queue (first in, first out). The queue
is the model's own. -/
def Obligations.StepRunsTheFrontCommand : Prop :=
  ∀ (c : Instr) (s : State) (r : List Instr), step { s with pending := c :: r } = exec c { s with pending := r }

/-- The machine right after a cold reset, for the values the spec gives (R9, R18, R33; the Reset columns of the register tables). -/
def Obligations.ResetLeavesTheStatedValues : Prop :=
  State.reset.pending = [] ∧ State.reset.now = 0 ∧ State.reset.rd Reg.STI_CLK_POINT = 0 ∧ State.reset.rd Reg.STI_STATUS_STATE = SS.freerun ∧
  State.reset.rd Reg.STI_CTL_ROLE = 0 ∧ State.reset.rd Reg.STI_CTL_HOLD_MS = 10 ∧ State.reset.rd Reg.STI_STATUS_UPSTREAM_PORT = 0x1F ∧
  (∀ p, State.reset.pst p = PS.empty ∧ State.reset.enabled p = false) ∧
  (∀ r, State.reset.rd (Reg.STI_MARGIN_WARN_PS r) = 20 ∧ State.reset.rd (Reg.STI_MARGIN_CRIT_PS r) = 8 ∧
    State.reset.rd (Reg.STI_MARGIN_LOW_PS r) = 0xFF) ∧
  (∀ n, State.reset.lst n = LS.off) ∧ State.reset.stage = 0 ∧
  State.reset.logUsed = 0 ∧ State.reset.tiles = [] ∧ State.reset.bobs = [] ∧ State.reset.knots = [] ∧ State.reset.queues = [] ∧
  State.reset.spools = [] ∧ State.reset.hostMem = [] ∧ State.reset.jobs = [] ∧ State.reset.out = [] ∧ State.reset.gradeHolds = true ∧
  (∀ g ∈ gradeRows, ∀ rows : Nat, rows < 2 ^ 64 → rowsSet rows = g.disabled → (State.ofGrade g rows).gradeHolds = true)

/-- The tick: time passes only on an empty queue (DESIGN CHOICE, log entry 2); the count is modulo 2^64 (R16, R17), the edges are those of
R32, and in a change window no arithmetic clock runs (R35). A firmware update in progress ends its passes first (R462, log entries 2 and 66). -/
def Obligations.IdleStepPassesOneEdge : Prop :=
  ∀ s : State, s.pending = [] →
    (s.power.on = false → step s = .next s) ∧
    (s.power.on = true → s.boot.update.isSome → step s = .next s.finishUpdate) ∧
    (s.power.on = true → s.boot.update = none → s.clk.inWindow = true → ∃ t, step s = .next t ∧ t.now = s.now + 1 ∧ t.clk = s.clk ∧
      t.bobs = s.bobs ∧ t.hostMem = s.hostMem ∧ ((∀ p, (s.panel p).run = none) → t.tiles = s.tiles) ∧
      RegsBut [Reg.STI_COUNT_COUNT, Reg.PWR_VIN_VIN_MV, Reg.PWR_RAIL_E_MJ] s t) ∧
    (s.power.on = true → s.boot.update = none → s.clk.inWindow = false → (∀ p, (s.panel p).run = none) →
      (∀ t, (s.tile t).loads = [] ∧ (s.tile t).lstores = []) → (∀ e ∈ s.bobs, e.2.inbound = []) → ∃ t, step s = .next t ∧
      t.clk.edge = s.clk.edge + 1 ∧ t.tiles = s.tiles ∧ t.bobs = s.bobs ∧ t.knots = s.knots ∧ t.hostMem = s.hostMem ∧ t.spools = s.spools ∧
      (if edgesPer10 (s.rd Reg.STI_CLK_POINT) ≤ s.clk.phase + 10
       then t.now = s.now + 1 ∧ t.clk.phase + edgesPer10 (s.rd Reg.STI_CLK_POINT) = s.clk.phase + 10
       else t.now = s.now ∧ t.clk.phase = s.clk.phase + 10))

/-- R25, for a command that passes the checks of R424 and touches no mirrored panel; what is measured in ticks of the time domain goes on over
the step (R16, R18). -/
def Obligations.StitchSetNeedsAFreerunMaster : Prop :=
  ∀ (c : Cmd) (s : State), specStitchSet.accepts c s →
    let j := specStitchSet.job c s
    let b := specStitchSet.begun c s
    (s.rd Reg.STI_CTL_ROLE = 1 ∧ s.rd Reg.STI_STATUS_STATE = SS.freerun ∧ b.stitchArmed = false →
      ∃ u, exec (.stitchSet c) s = .next (u.complete j St.OK) ∧ u.now = BitVec.ofNat 64 (c.fld 0 8) ∧
        u = b.stepCount (BitVec.ofNat 64 (c.fld 0 8)) ∧ RegsBut [Reg.STI_COUNT_COUNT] b u ∧ u.bobs = b.bobs ∧ u.panels = b.panels ∧
        u.hostMem = b.hostMem ∧ u.pending = b.pending) ∧
    (¬ (s.rd Reg.STI_CTL_ROLE = 1 ∧ s.rd Reg.STI_STATUS_STATE = SS.freerun ∧ b.stitchArmed = false) →
      exec (.stitchSet c) s = .next (b.complete j St.STITCH_SET_REFUSED))

/-- The command part of R22, and the timing rows (R18, R19, R21, R23, R232). Every row completes in every state; out of its condition it changes nothing. -/
def Obligations.StitchTimeFollowsTheMaster : Prop :=
  (∀ (c : Cmd) (s : State), specStitchRole.accepts c s →
    let j := specStitchRole.job c s
    let b := specStitchRole.begun c s
    (2 < c.fld 0 1 → exec (.stitchRole c) s = .next (b.complete j St.CMD_FORMAT)) ∧
    (c.fld 0 1 ≤ 2 → ∃ u, exec (.stitchRole c) s = .next (u.complete j St.OK) ∧ u.rd Reg.STI_CTL_ROLE = c.fld 0 1 ∧
      u.rd Reg.STI_STATUS_IS_MASTER = (if c.fld 0 1 = 1 then 1 else 0) ∧ u.clk.roleSet = true ∧ u = { b with csr := u.csr, clk := u.clk } ∧
      RegsBut [Reg.STI_CTL_ROLE, Reg.STI_STATUS_IS_MASTER, Reg.STI_STATUS_MASTER_COORD, Reg.STI_STATUS_UPSTREAM_PORT, Reg.STI_STATUS_HOPS] b u ∧
      (c.fld 0 1 = 1 → u.clk.master = none ∧ u.clk.fromFreerun = false ∧ u.rd Reg.STI_STATUS_UPSTREAM_PORT = 0x1F) ∧
      (c.fld 0 1 ≠ 1 → RegsBut [Reg.STI_CTL_ROLE, Reg.STI_STATUS_IS_MASTER] b u ∧
        u.clk = { b.clk with roleSet := true, reachAt := if b.bit Reg.STI_STATUS_IS_MASTER then b.now else b.clk.reachAt }))) ∧
  (∀ s : State, ∃ t, exec .acquireConverged s = .next t ∧
    (¬ (s.sst = SS.acquire ∧ 64 ≤ s.clk.conv) → t = s) ∧
    (s.sst = SS.acquire → 64 ≤ s.clk.conv → t.sst = SS.locked ∧ t.rd Reg.STI_LOCK_CNT_COUNT = (s.rd Reg.STI_LOCK_CNT_COUNT + 1) % 65536 ∧
      (s.clk.fromFreerun = false → t.now = s.now) ∧
      (s.clk.fromFreerun = true → t.now = s.now + BitVec.ofInt 64 ((s.clk.offset + 128) / 256)) ∧
      t.clk.fromFreerun = false ∧ t.bobs = s.bobs ∧ t.panels = s.panels ∧ t.hostMem = s.hostMem ∧
      (s.clk.fromFreerun = false → t = { s with csr := t.csr, clk := t.clk }) ∧
      RegsBut [Reg.STI_STATUS_STATE, Reg.STI_LOCK_CNT_COUNT, Reg.STI_COUNT_COUNT] s t)) ∧
  (∀ s : State, ∃ t, exec .masterPathLost s = .next t ∧
    (s.pathLost = false ∨ s.rd Reg.STI_CTL_ROLE = 2 → t = s) ∧
    (s.pathLost = true → s.rd Reg.STI_CTL_ROLE ≠ 2 → t.clk.master = none) ∧
    (s.pathLost = true → s.rd Reg.STI_CTL_ROLE ≠ 2 → s.sst ≠ SS.locked → s.sst ≠ SS.acquire → t = { s with clk := t.clk }) ∧
    (s.pathLost = true → s.rd Reg.STI_CTL_ROLE ≠ 2 → s.sst = SS.locked ∨ s.sst = SS.acquire →
      t.sst = (if s.sst = SS.acquire ∧ s.clk.fromFreerun = true then SS.freerun else SS.holdover) ∧
      t.rd Reg.STI_STATUS_UPSTREAM_PORT = 0x1F ∧ t.clk.lostAt = some s.now ∧ t.now = s.now ∧
      t = { s with csr := t.csr, clk := t.clk } ∧ RegsBut [Reg.STI_STATUS_STATE, Reg.STI_STATUS_UPSTREAM_PORT] s t)) ∧
  (∀ s : State, ∃ t, exec .backupPromote s = .next t ∧
    (¬ (s.rd Reg.STI_CTL_ROLE = 2 ∧ s.pathLost = true) → t = s) ∧
    (s.rd Reg.STI_CTL_ROLE = 2 → s.pathLost = true → t.rd Reg.STI_CTL_ROLE = 1 ∧ t.bit Reg.STI_STATUS_IS_MASTER = true ∧ t.now = s.now ∧
      t.newest.code = St.STITCH_MASTER_LOST ∧ t.tiles = s.tiles ∧ t.bobs = s.bobs ∧ t.hostMem = s.hostMem)) ∧
  (∀ s : State, ∃ t, exec .holdoverExpiry s = .next t ∧
    (∀ a, s.clk.lostAt = some a → s.sst = SS.holdover →
      s.lasted a (max 1 (s.rd Reg.STI_CTL_HOLD_MS) * 1000000) = true →
      t.sst = SS.freerun ∧ t.clk.lostAt = none ∧ t.now = s.now ∧ t.newest.code = St.STITCH_MASTER_LOST ∧ t.tiles = s.tiles ∧ t.bobs = s.bobs) ∧
    (s.sst ≠ SS.holdover ∨ s.clk.lostAt = none → t = s)) ∧
  (∀ s : State, ∃ t, exec .timeFrameSend s = .next t ∧
    (∀ a, s.clk.sentAt = some a → s.lasted a 4000 = false → t = s) ∧
    ((∀ a, s.clk.sentAt = some a → s.lasted a 4000 = true) → t.clk.sentAt = some s.now ∧ t.csr = s.csr ∧ t.tiles = s.tiles ∧
      ∀ n, if n < 24 ∧ s.portPresent n = true ∧ s.lst n = LS.active
        then t.port n = { s.port n with ctrlOut := (s.port n).ctrlOut ++ [[1]] }
        else t.port n = s.port n)) ∧
  (∀ (s : State) (n : Nat) (f : TimeFrame), ∃ t, exec (.timeFrame n f) s = .next t ∧
    (s.portPresent n = false ∨ s.lst n ≠ LS.active → t = s) ∧
    (s.portPresent n = true → s.lst n = LS.active → (t.port n).peerTseq = some f.tseq.toNat ∧ (t.port n).peerPrevTx = f.prevTx ∧
      (t.port n).peerRx = s.stamp ∧ t.tiles = s.tiles ∧ t.bobs = s.bobs ∧ t.now = s.now))

/-- The clock-window and margin rows (R34 to R38). -/
def Obligations.ClockWindowsAndMargins : Prop :=
  (∀ s : State, ∃ t, exec .clockChangeWindow s = .next t ∧
    (s.bit Reg.STI_CLK_PEND = false ∨ s.clk.inWindow = true ∨ reached s.now (BitVec.ofNat 64 (s.rd Reg.STI_CLK_WIN_WIN_START)) = false ∨
      s.inTurn Ev.governor = false → t = s) ∧
    (s.bit Reg.STI_CLK_PEND = true → s.clk.inWindow = false → reached s.now (BitVec.ofNat 64 (s.rd Reg.STI_CLK_WIN_WIN_START)) = true →
      s.inTurn Ev.governor = true →
      t.rd Reg.STI_CLK_POINT = s.rd Reg.STI_CLK_POINT ∧ t = { s with csr := t.csr, clk := t.clk } ∧
      (if s.stepping then t.bit Reg.STI_CLK_PEND = false ∧ t.clk.deferred = true ∧ t.clk.inWindow = false ∧ RegsBut [Reg.STI_CLK_PEND] s t
       else t.clk.inWindow = true ∧ t.csr = s.csr))) ∧
  (∀ s : State, ∃ t, exec .changeWindowEnd s = .next t ∧
    (s.clk.inWindow = true → reached s.now (BitVec.ofNat 64 (s.rd Reg.STI_CLK_WIN_WIN_START) + 1500) = true →
      t.rd Reg.STI_CLK_POINT = s.rd Reg.STI_CLK_PEND_POINT % 4 ∧ t.bit Reg.STI_CLK_PEND = false ∧
      t.rd Reg.STI_CLK_CHANGES = (s.rd Reg.STI_CLK_CHANGES + 1) % 65536 ∧ t.clk.inWindow = false ∧
      (∀ r, r < 64 → t.rd (Reg.STI_MARGIN_VSTEPS r) = 0) ∧ t.now = s.now ∧
      (∀ h, ∃ more, t.home h = s.home h ++ more.map Prod.snd ∧ t.homeWaits h = (s.homeWaits h).drop more.length ∧ more <+: s.homeWaits h) ∧
      t = { s with csr := t.csr, clk := t.clk, free := t.free, homes := t.homes, noc := { s.noc with homeWait := t.noc.homeWait } }) ∧
    (s.clk.inWindow = false → t = s)) ∧
  (∀ s : State, ∃ t, exec .trimWindow s = .next t ∧
    (s.part.a1 = true ∨ s.clk.trimAt = none ∨ s.clk.inWindow = true → t = s) ∧
    (∀ w, s.part.a1 = false → s.clk.trimAt = some w → s.clk.inWindow = false → s.clk.inTrim = false →
      t = (if reached s.now w = false ∨ s.inTurn Ev.governor = false then s
        else if s.stepping then { s with clk := { s.clk with trimAt := none } }
        else { s with clk := { s.clk with inTrim := true, trimAt := some s.now } })) ∧
    (∀ w, s.part.a1 = false → s.clk.trimAt = some w → s.clk.inWindow = false → s.clk.inTrim = true → reached s.now (w + 200) = false → t = s) ∧
    (∀ w, s.part.a1 = false → s.clk.trimAt = some w → s.clk.inWindow = false → s.clk.inTrim = true → reached s.now (w + 200) = true →
      t.clk.inTrim = false ∧ t.clk.trimAt = none ∧ t.rd Reg.STI_SKEW_RETRAINS = min (s.rd Reg.STI_SKEW_RETRAINS + 1) 65535 ∧ t.clk.trimLast = s.now ∧
      s.rd Reg.STI_SKEW_MAX_PS % 256 ≤ t.rd Reg.STI_SKEW_MAX_PS ∧ RegsBut [Reg.STI_SKEW_RETRAINS, Reg.STI_SKEW_MAX_PS] s t)) ∧
  (∀ (s : State) (row ps : Nat), ∃ t, exec (.marginWarn row ps) s = .next t ∧
    (row < 64 → s.rowDisabled row = false → ps < 256 → ps < s.rd (Reg.STI_MARGIN_WARN_PS row) →
      t.rd (Reg.STI_MARGIN_MARGIN_PS row) = ps ∧ t.rd (Reg.STI_MARGIN_LOW_PS row) = min (s.rd (Reg.STI_MARGIN_LOW_PS row)) ps ∧
      t.rd (Reg.STI_MARGIN_WARN_CNT row) = min (s.rd (Reg.STI_MARGIN_WARN_CNT row) + 1) 65535 ∧
      t.newest.code = St.MARGIN_WARN ∧ t.newest.d0 = BitVec.ofNat 64 row ∧
      (s.rd (Reg.STI_MARGIN_VSTEPS row) < 8 → row ∈ t.clk.vAsk ∧ t.clk.lowerAsk = s.clk.lowerAsk) ∧
      (8 ≤ s.rd (Reg.STI_MARGIN_VSTEPS row) → t.clk.vAsk = s.clk.vAsk ∧
        t.clk.lowerAsk = (s.clk.lowerAsk || decide (0 < s.rd Reg.STI_CLK_POINT))) ∧
      t.panels = s.panels ∧ t.tiles = s.tiles ∧ t.bobs = s.bobs) ∧
    (s.rowDisabled row = true ∨ s.rd (Reg.STI_MARGIN_WARN_PS row) ≤ ps → t = s)) ∧
  (∀ (s : State) (row : Nat), row < 64 → ∃ t, exec (.marginVoltageStep row) s = .next t ∧
    (s.clk.vAsk.contains row = true → s.rd (Reg.STI_MARGIN_VSTEPS row) < 8 →
      (∀ p, s.panelOfRow row = some p → (s.panel p).run = none) →
      t.rd (Reg.STI_MARGIN_VSTEPS row) = s.rd (Reg.STI_MARGIN_VSTEPS row) + 1 ∧ t.clk.vAsk.contains row = false ∧
      t = { s with csr := t.csr, clk := t.clk } ∧ RegsBut [Reg.STI_MARGIN_VSTEPS row] s t) ∧
    (s.clk.vAsk.contains row = false ∨ (∃ p, s.panelOfRow row = some p ∧ (s.panel p).run.isSome) → t = s)) ∧
  (∀ (s : State) (row ps p : Nat) (r : Run), row < 64 → s.rowDisabled row = false → ps < 256 → ps < s.rd (Reg.STI_MARGIN_CRIT_PS row) →
    s.panelOfRow row = some p → (s.panel p).run = some r →
    ∃ t, exec (.marginCrit row ps) s = .next t ∧ (t.panel p).run = some { r with detect := true } ∧ t.newest.code = St.MARGIN_CRIT ∧
      t.newest.d0 = BitVec.ofNat 64 row ∧ t.newest.d1 = r.ctr ∧ t.rd (Reg.STI_MARGIN_MARGIN_PS row) = ps ∧
      t.tiles = s.tiles ∧ t.bobs = s.bobs ∧ (∀ q, q ≠ p → t.panel q = s.panel q))

/-- R103 to R108, R111 to R120, R121, R123, R124 of the step queue. -/
def Obligations.StepDescriptorsRunInOrder : Prop :=
  (∀ (s : State) (t : Nat),
    let x := s.tile t
    let w := s.opWord t 3
    let n := natOf ((x.vbytes (bits w 8 5)).take 64)
    s.issues t 3 0x20 = true →
      (dTier n < s.tiers → (s.bob (bobAt (dTier n) t)).stepQ.length < 8 → s.checkDesc (bobAt (dTier n) t) true (s.panelOfTile t) n = St.OK →
        (∀ d ∈ descDsts n, x.pendingDest d = false) →
        ∃ u, exec (.lbob t) s = .next u ∧ (u.bob (bobAt (dTier n) t)).stepQ =
          (s.bob (bobAt (dTier n) t)).stepQ ++ [⟨BitVec.ofNat 512 n, .step (bits w 51 3), x.cy⟩] ∧
          (u.bob (bobAt (dTier n) t)).mem = (s.bob (bobAt (dTier n) t)).mem ∧ (∀ b, b ≠ bobAt (dTier n) t → u.bob b = s.bob b) ∧
          (u.tile t).scr = x.scr ∧ (u.tile t).treg = x.treg ∧ u = { s with tiles := u.tiles, bobs := u.bobs }) ∧
      (dTier n < s.tiers → 8 ≤ (s.bob (bobAt (dTier n) t)).stepQ.length →
        ∃ u, exec (.lbob t) s = .next u ∧ u.newest.code = St.BOB_QUEUE_FULL ∧ ∀ b, (u.bob b).stepQ = (s.bob b).stepQ) ∧
      (dTier n < s.tiers → (s.bob (bobAt (dTier n) t)).stepQ.length < 8 → s.checkDesc (bobAt (dTier n) t) true (s.panelOfTile t) n ≠ St.OK →
        ∃ u, exec (.lbob t) s = .next u ∧ (∀ b, (u.bob b).stepQ = (s.bob b).stepQ) ∧
          u.rd (Reg.BOB_FLAGS_LAST_CODE (bobAt (dTier n) t)) = (s.checkDesc (bobAt (dTier n) t) true (s.panelOfTile t) n).toNat)) ∧
  (∀ (s : State) (b : Nat),
    ∀ e ∈ ([(Instr.xferUp b, 0x01), (Instr.xferDown b, 0x02), (Instr.append b, 0x03), (Instr.actLoad b, 0x04), (Instr.listLoad b, 0x05),
        (Instr.decodeOp b, 0x10), (Instr.cbLoad b false, 0x11), (Instr.gemv b, 0x20), (Instr.attn b, 0x30),
        (Instr.copyOp b false, 0x40), (Instr.fillOp b false, 0x41), (Instr.flush b false, 0x43)] : List (Instr × Nat)),
      s.stepReady b e.2 = none → exec e.1 s = .next s) ∧
  (∀ (s : State) (b n pd start : Nat), s.stepReady b 0x10 = some (n, pd, start) → s.cbOk b n = false →
    ∃ u, exec (.decodeOp b) s = .next u ∧ (u.bob b).stepQ = (s.bob b).stepQ.drop 1 ∧ (u.bob b).results = (s.bob b).results ∧
      u.rd (Reg.BOB_FLAGS_LAST_CODE b) = St.BOB_CODEBOOK_MISMATCH.toNat) ∧
  (∀ (s : State) (b n pd start : Nat), s.stepReady b 0x20 = some (n, pd, start) → s.cbOk b n = false →
    ∃ u, exec (.gemv b) s = .next u ∧ (u.bob b).stepQ = (s.bob b).stepQ.drop 1 ∧ (u.bob b).results = (s.bob b).results ∧
      u.rd (Reg.BOB_FLAGS_LAST_CODE b) = St.BOB_CODEBOOK_MISMATCH.toNat) ∧
  (∀ (s : State) (b n pd start : Nat), s.stepReady b 0x30 = some (n, pd, start) → s.listCode b n ≠ St.OK →
    ∃ u, exec (.attn b) s = .next u ∧ (u.bob b).stepQ = (s.bob b).stepQ.drop 1 ∧ (u.bob b).results = (s.bob b).results ∧
      u.rd (Reg.BOB_FLAGS_LAST_CODE b) = (s.listCode b n).toNat) ∧
  (∀ (s : State) (b n pd start : Nat), s.stepReady b 0x01 = some (n, pd, start) →
    let a := stackAddr (dPage n) (dOff n)
    ∃ u r, exec (.xferUp b) s = .next u ∧ RanStep s u b n pd start r ∧ (u.bob b).mem = (s.bob b).mem ∧ (u.bob b).merge = (s.bob b).merge ∧
      r.flags = (if (s.bob b).anyBad b a (dLen n) then 2 else 0) ∧
      ((s.bob b).masked n = false → 1 ≤ dLen n → r.carries n (s.tile (bobTile b)).nextId ((s.bob b).bytes a (dLen n)))) ∧
  (∀ (s : State) (b n pd start : Nat), s.stepReady b 0x02 = some (n, pd, start) →
    ∃ u r, exec (.xferDown b) s = .next u ∧ RanStep s u b n pd start r ∧ r.cells = [] ∧ r.words = [] ∧
      StackHas s u b (stackAddr (dPage n) (dOff n)) (if (s.bob b).masked n then [] else s.tileSource (bobTile b) n)) ∧
  (∀ (s : State) (b n pd start : Nat), s.stepReady b 0x03 = some (n, pd, start) →
    ∃ u r, exec (.append b) s = .next u ∧ RanStep s u b n pd start r ∧ r.cells = [] ∧ r.words = [] ∧
      StackHas s u b (stackAddr (dPage n) (dOff n)) (if (s.bob b).masked n then [] else s.tileSource (bobTile b) n)) ∧
  (∀ (s : State) (b n pd start : Nat), s.stepReady b 0x04 = some (n, pd, start) →
    ∃ u r, exec (.actLoad b) s = .next u ∧ RanStep s u b n pd start r ∧ StackHas s u b 0 [] ∧
      ∀ i, sget 0 (u.bob b).act i = (if (s.bob b).masked n = false ∧ dOff2 n ≤ i ∧ i < dOff2 n + dLen n
        then (s.tileSource (bobTile b) n).getD (i - dOff2 n) 0 else sget 0 (s.bob b).act i)) ∧
  (∀ (s : State) (b n pd start : Nat), s.stepReady b 0x05 = some (n, pd, start) →
    ∃ u r, exec (.listLoad b) s = .next u ∧ RanStep s u b n pd start r ∧ StackHas s u b 0 [] ∧
      ∀ i, sget 0 (u.bob b).list i = (if (s.bob b).masked n = false ∧ dOff2 n ≤ i ∧ i < dOff2 n + dCount n
        then BitVec.ofNat 32 (leAt (s.tileSource (bobTile b) n) (4 * (i - dOff2 n)) 4) else sget 0 (s.bob b).list i)) ∧
  (∀ (s : State) (b n pd start : Nat), s.stepReady b 0x10 = some (n, pd, start) → s.cbOk b n = true →
    let x := s.bob b
    let k := fmtDepth (dFmt n)
    ∃ u r, exec (.decodeOp b) s = .next u ∧ RanStep s u b n pd start r ∧ (u.bob b).mem = x.mem ∧ (u.bob b).merge = x.merge ∧
      (x.masked n = false → r.carries n (s.tile (bobTile b)).nextId ((List.range 64).flatMap (fun c =>
        if c < dNcol n then bytesOf 64 (((x.weights n (stackAddr (dPage n) 0) ((dRow0 n + c) * dRowlen n + dK0 n) k).zipIdx.map
          (fun p => p.1 * 2 ^ (elemBits (outCode n) * p.2))).sum)
        else List.replicate 64 0)))) ∧
  (∀ (s : State) (b n pd start : Nat), s.stepReady b 0x11 = some (n, pd, start) →
    ∃ u r, exec (.cbLoad b false) s = .next u ∧ RanStep s u b n pd start r ∧ StackHas s u b 0 [] ∧
      ((s.bob b).masked n = true → (u.bob b).cb = (s.bob b).cb) ∧
      ((s.bob b).masked n = false → u.rd (Reg.BOB_CB_CB_ID b) = dCbId n ∧ u.bit (Reg.BOB_CB_VALID b) = true ∧
        ∀ i, i < 524288 → sget 0 (u.bob b).cb.bytes i = (s.bob b).byteAt (stackAddr (dPage n) 0 + i))) ∧
  (∀ (s : State) (b n pd start : Nat), s.stepReady b 0x20 = some (n, pd, start) → s.cbOk b n = true →
    let x := s.bob b
    let aw := elemBits (actCode (gAfmt n)) / 8
    let anchor := if dStart n then gAnchor n else x.anchor
    let row (r : Nat) : List Machine.Num := (x.weights n (stackAddr (dPage n) 0) (r * gK n) (gK n)).zipIdx.map (fun p =>
      let sc := x.scale n (stackAddr (dSpage n) 0) (r * gK n + p.2)
      elemValue (outCode n) p.1 sc.1 sc.2)
    let vec (v : Nat) : List Machine.Num :=
      if dSlot n ≠ 0xFFFF && x.mask.getLsbD ((dSlot n + v) % 512) then List.replicate (gK n) (.fin false 0 0)
      else x.acts (actCode (gAfmt n)) (v * gK n * aw) (gK n)
    ∃ u r, exec (.gemv b) s = .next u ∧ RanStep s u b n pd start r ∧ (u.bob b).mem = x.mem ∧ (u.bob b).merge = x.merge ∧
      (u.bob b).anchor = anchor ∧
      ∀ v j, v < gNv n → j < gN n → sget 0 (u.bob b).lanes (v * gN n + j) =
        (dotInto anchor 1 (row j) (vec v) (if dStart n then 0 else sget 0 x.lanes (v * gN n + j))).1) ∧
  (∀ (s : State) (b n pd start : Nat), s.stepReady b 0x30 = some (n, pd, start) → s.listCode b n = St.OK →
    ∃ u r, exec (.attn b) s = .next u ∧ RanStep s u b n pd start r ∧ (u.bob b).mem = (s.bob b).mem ∧ (u.bob b).merge = (s.bob b).merge ∧
      ((s.bob b).masked n = false → r.carries n (s.tile (bobTile b)).nextId (s.attnEff b n).out)) ∧
  (∀ (s : State) (b n pd start : Nat), s.stepReady b 0x40 = some (n, pd, start) →
    ∃ u r, exec (.copyOp b false) s = .next u ∧ RanStep s u b n pd start r ∧
      StackHas s u b (stackAddr (dPage2 n) (dOff2 n))
        (if (s.bob b).masked n then [] else (s.bob b).bytes (stackAddr (dPage n) (dOff n)) (dLen n))) ∧
  (∀ (s : State) (b n pd start : Nat), s.stepReady b 0x41 = some (n, pd, start) → dOff n % 64 = 0 → dLen n % 64 = 0 →
    ∃ u r, exec (.fillOp b false) s = .next u ∧ RanStep s u b n pd start r ∧
      StackHas s u b (stackAddr (dPage n) (dOff n)) (if (s.bob b).masked n then [] else List.replicate (dLen n) 0)) ∧
  (∀ (s : State) (b n pd start : Nat), s.stepReady b 0x43 = some (n, pd, start) →
    ∃ u r, exec (.flush b false) s = .next u ∧ RanStep s u b n pd start r ∧ StackHas s u b 0 [] ∧
      ((s.bob b).masked n = false → (u.bob b).merge = []))

/-- R103, R106, R107, R114, R121 to R123, R125, R128, R293. -/
def Obligations.ServiceDescriptorsAndBobbinRows : Prop :=
  (∀ (s : State) (b : Nat), ∀ e ∈ ([(Instr.cbLoad b true, 0x11), (Instr.copyOp b true, 0x40), (Instr.fillOp b true, 0x41),
      (Instr.sendOp b, 0x42), (Instr.flush b true, 0x43)] : List (Instr × Nat)),
    ((s.bob b).svcQ ≠ [] → (∀ d r, (s.bob b).svcQ = d :: r → dOp d.d.toNat = e.2) → s.bobActive b = true → s.bobOn b = false →
      exec e.1 s = .next ((if e.2 = 0x11 then State.afterService b else id) (s.demand (domOfBob b)))) ∧
    (e.2 ≠ 0x11 → (s.bob b).svcQ = [] ∨ (∃ d r, (s.bob b).svcQ = d :: r ∧ dOp d.d.toNat ≠ e.2) ∨ s.bobActive b = false →
      exec e.1 s = .next s)) ∧
  (∀ (s : State) (b : Nat) (d : Desc) (r : List Desc), (s.bob b).svcQ = d :: r → s.bobActive b = true → s.bobOn b = true →
    s.portsIdle b (dOp d.d.toNat) = true →
    let n := d.d.toNat
    let a := stackAddr (dPage n) (dOff n)
    let m := (s.bob b).masked n
    (dOp n = 0x11 → ∃ u, exec (.cbLoad b true) s = .next u ∧ RanSvc s u b r ∧ StackHas s u b 0 [] ∧
      (m = false → u.rd (Reg.BOB_CB_CB_ID b) = dCbId n ∧ u.bit (Reg.BOB_CB_VALID b) = true ∧
        ∀ i, i < 524288 → sget 0 (u.bob b).cb.bytes i = (s.bob b).byteAt (stackAddr (dPage n) 0 + i))) ∧
    (dOp n = 0x40 → ∃ u, exec (.copyOp b true) s = .next u ∧ RanSvc s u b r ∧
      StackHas s u b (stackAddr (dPage2 n) (dOff2 n)) (if m then [] else (s.bob b).bytes a (dLen n))) ∧
    (dOp n = 0x41 → dOff n % 64 = 0 → dLen n % 64 = 0 → ∃ u, exec (.fillOp b true) s = .next u ∧ RanSvc s u b r ∧
      StackHas s u b a (if m then [] else List.replicate (dLen n) 0)) ∧
    (dOp n = 0x42 → ∃ u, exec (.sendOp b) s = .next u ∧ RanSvc s u b r ∧ StackHas s u b 0 [] ∧
      u.noc.flights = s.noc.flights ++ (if m then [] else (chunksOf 512 (dLen n) ((s.bob b).bytes a (dLen n))).zipIdx.map (fun c =>
        { pkt := { dst := sDest n, src := s.feid (epBob b), tenant := s.tenantOf (s.panelOfBob b), tc := 1, op := POp.write, knv := dSig n,
                   knot := dKnot n, len := (c.1.length + 63) / 64, addr := sAddr n + 512 * c.2, payload := pad64 c.1 }
          loc := .inject (epBob b), since := s.clk.edge }))) ∧
    (dOp n = 0x43 → ∃ u, exec (.flush b true) s = .next u ∧ RanSvc s u b r ∧ StackHas s u b 0 [] ∧ (m = false → (u.bob b).merge = []))) ∧
  (∀ (s : State) (b w : Nat) (e : BobMerge), (s.bob b).mergeOf w = some e → e.mask = BitVec.allOnes 64 → s.bobOn b = true →
    s.writePortBusy b = false → ∃ u, exec (.bobMergeWriteback b w) s = .next u ∧ (u.bob b).mergeOf w = none ∧ (u.bob b).mem.word Space.stack w = bytesOf 64 e.data.toNat ∧
      StackHas s u b 0 [] ∧ (∀ c, c ≠ b → u.bob c = s.bob c) ∧ u = { s with bobs := u.bobs }) ∧
  (∀ (s : State) (b : Nat), s.clk.inWindow = true → exec (.bobbinWritePacket b) s = .next s) ∧
  (∀ (s : State) (b : Nat), s.clk.inWindow = false →
    (s.ejected (epBob b) (fun _ => true) = none → exec (.bobbinWritePacket b) s = .next s) ∧
    (∀ i f, s.bobOn b = false → s.ejected (epBob b) (fun _ => true) = some (i, f) →
      exec (.bobbinWritePacket b) s = .next (s.demand (domOfBob b))) ∧
    (∀ i f, s.bobOn b = true → s.ejected (epBob b) (fun _ => true) = some (i, f) → f.pkt.op ≠ POp.write →
      ∃ u, exec (.bobbinWritePacket b) s = .next u ∧ u.newest.code = St.BOB_BAD_DESC ∧ u.bobs = s.bobs ∧
        u.noc.flights = s.noc.flights.eraseIdx i) ∧
    (∀ i f, s.bobOn b = true → s.ejected (epBob b) (fun _ => true) = some (i, f) → f.pkt.op = POp.write →
      let p := f.pkt
      let v := leAt p.payload 0 8
      let pages := pageSpan (bits v 0 20) (bits v 20 16) (bits v 36 10)
      bits v 36 10 ≠ 0 → bits v 36 10 ≤ 64 * p.len - 8 → bits v 20 16 % 64 = 0 → bits v 46 18 = 0 →
      (p.tenant = 0 ∨ ∀ g ∈ pages, s.tenantOf (s.panelOfPage g) = p.tenant ∧ (s.panelOfPage g).isSome) →
      (∀ g ∈ pages, s.bobOfPage g = some b ∧ s.isRetired g = false) →
      (4096 < (s.bob b).inboundUsed + bits v 36 10 → exec (.bobbinWritePacket b) s = .next s) ∧
      ((s.bob b).inboundUsed + bits v 36 10 ≤ 4096 → ∃ u, exec (.bobbinWritePacket b) s = .next u ∧
        (u.bob b).inbound = (s.bob b).inbound ++ [⟨stackAddr (bits v 0 20) (bits v 20 16), (p.payload.drop 8).take (bits v 36 10),
          if p.knv then some (p.knot, p.npkt, p.tenant, p.src) else none, s.moverSpool p⟩] ∧
        u.noc.flights = s.noc.flights.eraseIdx i ∧ StackHas s u b 0 [] ∧ (∀ c, c ≠ b → u.bob c = s.bob c)))) ∧
  (∀ (s : State) (b : Nat) (i : Inbound) (rest : List Inbound), (s.bob b).inbound = i :: rest → s.writePortBusy b = false → s.bobOn b = true →
    StackHas s (s.inboundCycle b) b i.at_ (i.bytes.take 128) ∧
      ((s.inboundCycle b).bob b).inbound =
        (if i.bytes.length ≤ 128 then rest else { i with at_ := i.at_ + 128, bytes := i.bytes.drop 128 } :: rest)) ∧
  (∀ (s : State) (b : Nat), let y := s.tile (bobTile b)
    ((∀ r ∈ (s.bob b).results, r.acts (y.cy / 2) y s.clk.edge = false) → exec (.bobResultPresent b) s = .next s) ∧
    (∀ r l k, (s.bob b).results = r :: l → r.acts (y.cy / 2) y s.clk.edge = true → r.words = [] → r.dreg = some k → k < 32 → r.sreg = none →
      r.sig = none → ∃ u, exec (.bobResultPresent b) s = .next u ∧ (u.bob b).results = l ∧
        (∀ c, (u.tile (bobTile b)).isAbsent c (kT k) = false) ∧
        (u.tile (bobTile b)).treg = (y.wrCells (kT k) r.cells).treg ∧ (u.tile (bobTile b)).scr = y.scr)) ∧
  (∀ s : State, (s.bobGo = none → exec .bobMemAccess s = .next s) ∧
    (∀ fn write raw, s.bobGo = some (fn, write, raw) → s.bobSel fn = none → ∃ u, exec .bobMemAccess s = .next u ∧
      u.rd Reg.BOB_MEM_STAT_STATUS = St.BOB_WINDOW_SITE.toNat ∧ u.bit Reg.BOB_MEM_STAT_BUSY = false ∧ u.bobGo = none ∧ u.bobs = s.bobs) ∧
    (∀ fn write raw b, s.bobGo = some (fn, write, raw) → s.bobSel fn = some b → s.windowPermitted fn (bobTile b) = true →
      s.rd Reg.BOB_MEM_ADDR_SPACE = 0 → s.rd Reg.BOB_MEM_ADDR_INDEX ≤ 131071 → s.bobOn b = true → ∃ u, exec .bobMemAccess s = .next u ∧
        u.rd Reg.BOB_MEM_STAT_STATUS = St.OK.toNat ∧ u.bit Reg.BOB_MEM_STAT_BUSY = false ∧ u.bobGo = none ∧
        (if write then StackHas s u b (64 * s.rd Reg.BOB_MEM_ADDR_INDEX)
            ((List.range 8).flatMap (fun k => bytesOf 8 (s.rd (Reg.BOB_MEM_DATA_DATA k))))
         else StackHas s u b 0 [] ∧ ∀ k, k < 8 → u.rd (Reg.BOB_MEM_DATA_DATA k) =
            leAt ((s.bob b).wordBytes (s.rd Reg.BOB_MEM_ADDR_INDEX)) (8 * k) 8))) ∧
  (∀ (s : State) (b : Nat), (s.bit Reg.INT_PATROL_CTL_ENABLE = false → exec (.patrolPass b) s = .next s) ∧
    (s.bit Reg.INT_PATROL_CTL_ENABLE = true → s.bobActive b = true → s.bobOn b = true →
      s.readPortBusy b = false → s.integ.patrolDone.contains b = false → ∃ u, exec (.patrolPass b) s = .next u ∧ b ∈ u.integ.patrolDone ∧
        (reached s.now (s.integ.patrolAt + BitVec.ofNat 64 (max 10 (s.rd Reg.INT_PATROL_CTL_PERIOD_MS) * 1000000)) = true →
          u.integ.patrolAt = s.now ∧ u.integ.patrolDone = [b])))

/-- The scalar rows of R152, R161 and R162: results modulo 2^64, shifts by S[SB][5:0]. -/
def Obligations.ScalarOperationsPutOneResultInFlight : Prop :=
  ∀ (s : State) (t : Nat),
    let w := s.opWord t 4
    let x := s.tile t
    (∀ e ∈ ([
        (Instr.sli, 0x01, 1, BitVec.ofInt 64 (signed 32 (bits w 13 32))),
        (Instr.saddi, 0x03, 1, x.s (bits w 13 5) + BitVec.ofInt 64 (signed 25 (bits w 23 25))),
        (Instr.sadd, 0x04, 1, x.s (bits w 13 5) + x.s (bits w 18 5)),
        (Instr.ssub, 0x05, 1, x.s (bits w 13 5) - x.s (bits w 18 5)),
        (Instr.smul, 0x06, s.lat t 13, x.s (bits w 13 5) * x.s (bits w 18 5)),
        (Instr.sand, 0x07, 1, x.s (bits w 13 5) &&& x.s (bits w 18 5)),
        (Instr.sor, 0x08, 1, x.s (bits w 13 5) ||| x.s (bits w 18 5)),
        (Instr.sxor, 0x09, 1, x.s (bits w 13 5) ^^^ x.s (bits w 18 5)),
        (Instr.sshl, 0x0A, 1, x.s (bits w 13 5) <<< ((x.s (bits w 18 5)).toNat % 64)),
        (Instr.sshr, 0x0B, 1, x.s (bits w 13 5) >>> ((x.s (bits w 18 5)).toNat % 64)),
        (Instr.ssra, 0x0C, 1, (x.s (bits w 13 5)).sshiftRight ((x.s (bits w 18 5)).toNat % 64)),
        (Instr.srfeat, 0x10, s.lat t 14, match srfeatOff (bits w 23 8) with
          | some off => BitVec.ofNat 64 (composeWith s.rd (regFields 0 off))
          | none => 0),
        (Instr.srpos, 0x11, s.lat t 14, BitVec.ofNat 64 (s.position t (bits w 23 2))),
        (Instr.srcnt, 0x12, s.lat t 14, BitVec.ofNat 64 (s.counter t (bits w 23 3)))] : List ((Nat → Instr) × Nat × Nat × W64)),
      s.issues t 4 e.2.1 = true →
        ∃ u, exec (e.1 t) s = .next u ∧ Issued s u t 4 (s.flightOf 4 (kS (bits w 8 5)) e.2.2.1 [(0, e.2.2.2.toNat, 2 ^ 64 - 1)]) []) ∧
    (s.issues t 4 0x02 = true → ∃ u, exec (.slih t) s = .next u ∧
      Issued s u t 4 (s.flightOf 4 (kS (bits w 8 5)) 1 [(0, bits w 13 32 * 2 ^ 32, (2 ^ 32 - 1) * 2 ^ 32)]) []) ∧
    (s.issues t 4 0x0E = true → ∃ u, exec (.scmp t) s = .next u ∧ Issued s u t 4 (s.flightOf 4 (kP (bits w 8 3)) 1
      [(0, if condInt64 (bits w 23 3) (x.s (bits w 13 5)) (x.s (bits w 18 5)) then 2 ^ 64 - 1 else 0, 2 ^ 64 - 1)]) []) ∧
    (s.issues t 4 0x00 = true → ∃ u, exec (.nnop t) s = .next u ∧ Issued s u t 4 [] [])

/-- R56, R143, R144. `a`, `b` and `c` are lane i of VA, of operand B and of VC. -/
def Obligations.LaneOperationsWriteGuardedLanes : Prop :=
  ∀ (s : State) (t : Nat) (pipe : Bool),
    let w := s.opWord t (vslot pipe)
    let x := s.tile t
    let ty := vty w
    let a (i : Nat) : W32 := x.lane (bits w 13 5) i
    let b (i : Nat) : W32 := x.laneB w i
    let c (i : Nat) : W32 := x.lane (bits w 23 5) i
    ∀ e ∈ ([
        (Instr.vadd, 0x01, vItem ty, fun i => if ty = 3 then a i + b i else laneAdd2 ty (a i) (b i)),
        (Instr.vsub, 0x02, vItem ty, fun i => if ty = 3 then a i - b i else laneSub2 ty (a i) (b i)),
        (Instr.vmul, 0x03, 4, fun i => if ty = 3 then a i * b i else laneMul2 ty (a i) (b i)),
        (Instr.vfma, 0x04, 4, fun i => laneFma ty (a i) (b i) (c i)),
        (Instr.vmin, 0x05, vItem ty, fun i => if ty = 3 then (if (a i).slt (b i) then a i else b i) else laneMinMax false ty (a i) (b i)),
        (Instr.vmax, 0x06, vItem ty, fun i => if ty = 3 then (if (a i).slt (b i) then b i else a i) else laneMinMax true ty (a i) (b i)),
        (Instr.vabs, 0x07, vItem ty, fun i => laneAbs ty (a i)),
        (Instr.vneg, 0x08, vItem ty, fun i => if ty = 3 then -(a i) else laneKeep ty (a i) ^^^ laneSign ty),
        (Instr.vadds, 0x09, 3, fun i => satI32 ((a i).toInt + (b i).toInt)),
        (Instr.vsubs, 0x0A, 3, fun i => satI32 ((a i).toInt - (b i).toInt)),
        (Instr.vand, 0x10, 3, fun i => a i &&& b i),
        (Instr.vor, 0x11, 3, fun i => a i ||| b i),
        (Instr.vxor, 0x12, 3, fun i => a i ^^^ b i),
        (Instr.vandn, 0x13, 3, fun i => a i &&& ~~~(b i)),
        (Instr.vshl, 0x14, 3, fun i => a i <<< ((b i).toNat % 32)),
        (Instr.vshr, 0x15, 3, fun i => a i >>> ((b i).toNat % 32)),
        (Instr.vsra, 0x16, 3, fun i => (a i).sshiftRight ((b i).toNat % 32)),
        (Instr.vsel, 0x19, 3, fun i => if (x.p (bits w 23 3)).getLsbD i then a i else b i),
        (Instr.vmov, 0x1A, 3, b),
        (Instr.viota, 0x1D, 3, fun i => BitVec.ofNat 32 i),
        (Instr.vperm, 0x1E, 4, fun i => a ((b i).toNat % 64))] : List ((Nat → Bool → Instr) × Nat × Nat × (Nat → W32))),
      s.issues t (vslot pipe) e.2.1 = true →
        ∃ u, exec (e.1 t pipe) s = .next u ∧ Issued s u t (vslot pipe) (s.flightOf (vslot pipe) (kV (bits w 8 5)) (s.lat t e.2.2.1)
          (((List.range 64).filter (x.guard w)).map (fun i => (i, (e.2.2.2 i).toNat, 0xFFFFFFFF)))) (vecRegs t)

/-- R57, R58, R97, R144 to R146: the remaining vector operations. -/
def Obligations.VectorUnitPutsItsResultsInFlight : Prop :=
  ∀ (s : State) (t : Nat) (pipe : Bool),
    let k := vslot pipe
    let w := s.opWord t k
    let x := s.tile t
    let ty := vty w
    let lanes (f : Nat → W32) : List (Nat × Nat × Nat) := ((List.range 64).filter (x.guard w)).map (fun i => (i, (f i).toNat, 0xFFFFFFFF))
    let pbits (f : Nat → Bool) : List (Nat × Nat × Nat) :=
      [(0, ((List.range 64).filter f).foldl (fun a i => a + 2 ^ i) 0, (x.p (bits w 28 3)).toNat)]
    (∀ e ∈ ([
        (Instr.vrsum, 0x20, laneSum ty (x.v (bits w 13 5))),
        (Instr.vrmax, 0x21, (treeReduce (laneMinMax true ty) (x.v (bits w 13 5))).headD 0),
        (Instr.vrmin, 0x22, (treeReduce (laneMinMax false ty) (x.v (bits w 13 5))).headD 0)] : List ((Nat → Bool → Instr) × Nat × W32)),
      s.issues t k e.2.1 = true → ∃ u, exec (e.1 t pipe) s = .next u ∧
        Issued s u t k (s.flightOf k (kV (bits w 8 5)) (s.lat t 6) (lanes (fun _ => e.2.2))) (vecRegs t)) ∧
    (s.issues t k 0x18 = true → ∃ u, exec (.vcmp t pipe) s = .next u ∧
      Issued s u t k (s.flightOf k (kP (bits w 8 5)) (s.lat t (vItem ty)) (pbits (fun i =>
        if ty = 3 then condInt32 (bits w 34 3) (x.lane (bits w 13 5) i) (x.laneB w i)
        else condFp (bits w 34 3) (laneIn ty (x.lane (bits w 13 5) i)) (laneIn ty (x.laneB w i))))) (vecRegs t)) ∧
    (s.issues t k 0x1F = true → ∃ u, exec (.vplog t pipe) s = .next u ∧
      Issued s u t k (s.flightOf k (kP (bits w 8 5)) (s.lat t 3) (pbits (fun i => (bits w 34 4).testBit
        ((if (x.p (bits w 13 3)).getLsbD i then 2 else 0) + (if (x.p (bits w 18 3)).getLsbD i then 1 else 0))))) (vecRegs t)) ∧
    (s.issues t k 0x1B = true → ∃ u, exec (.vins t pipe) s = .next u ∧
      Issued s u t k (s.flightOf k (kV (bits w 8 5)) (s.lat t 3)
        ((lanes (fun _ => (x.s (bits w 18 5)).setWidth 32)).filter (fun c => c.1 = bits w 34 6))) (vecRegs t)) ∧
    (s.issues t k 0x1C = true → ∃ u, exec (.vexts t pipe) s = .next u ∧
      Issued s u t k (s.flightOf k (kS (bits w 8 5)) (s.lat t 3)
        [(0, (x.lane (bits w 13 5) (bits w 34 6)).toNat, 2 ^ 64 - 1)]) (vecRegs t)) ∧
    (s.issues t k 0x24 = true → ∃ u, exec (.vcvt t pipe) s = .next u ∧
      TileOnly s u t { s.begunTile t k with
        q := if ty ≠ 3 ∧ bits w 36 2 = 2 then x.q + 1 else x.q
        inflight := x.inflight ++ s.flightOf k (kV (bits w 8 5)) (s.lat t 4) (lanes (fun i =>
          laneCvt ty (bits w 34 2) (rmodeOf (bits w 36 2) (s.slotCtx t k (x.s (bits w 18 5))) i) (x.lane (bits w 13 5) i))) } (vecRegs t)) ∧
    (s.issues t k 0x25 = true →
      let fmt := bits w 34 4
      let ew := elemBits fmt
      let at_ := 2 * bits w 44 4
      let l := s.lat t (if elemScaled fmt then 5 else 4)
      let packed := packElems fmt (rmodeOf (bits w 42 2) (s.slotCtx t k (x.s (bits w 18 5)))) (shiftOf (x.s (bits w 18 5)))
        ((x.v (bits w 13 5)).map f32)
      let elems := (packed.1.zipIdx.map (fun e => e.1 * 2 ^ (ew * e.2))).sum
      let elemMask := (((List.range 64).filter (x.guard w)).map (fun i => (2 ^ ew - 1) * 2 ^ (ew * i))).sum
      let scaleMask (b : Nat) : Nat := if (List.range 32).any (fun i => x.guard w (32 * b + i)) then 255 else 0
      ∃ u, exec (.vpack t pipe) s = .next u ∧
        TileOnly s u t { s.begunTile t k with
          q := if bits w 42 2 = 2 then x.q + 1 else x.q
          inflight := x.inflight ++ s.flightOf k (kV (bits w 8 5)) l (vCells (4 * bits w 38 4) (2 * ew) elems elemMask) ++
            (if elemScaled fmt then s.flightOf k (kV (bits w 23 5)) l
              [(at_ / 4, (packed.2.getD 0 0 + 256 * packed.2.getD 1 0) * 2 ^ (8 * (at_ % 4)),
                (scaleMask 0 + 256 * scaleMask 1) * 2 ^ (8 * (at_ % 4)))] else []) } (vecRegs t)) ∧
    (s.issues t k 0x26 = true → ∃ u, exec (.vunpack t pipe) s = .next u ∧
      Issued s u t k (s.flightOf k (kV (bits w 8 5)) (s.lat t 4) (lanes (fun i =>
        let sc := x.unpackScale (bits w 34 4) (bits w 23 5) (bits w 44 4) i
        toF32 (elemValue (bits w 34 4) (elemAt (leAt (x.vbytes (bits w 13 5)) (16 * bits w 38 4) (8 * elemBits (bits w 34 4)))
          (elemBits (bits w 34 4)) i) sc.1 sc.2)))) (vecRegs t)) ∧
    (s.issues t k 0x00 = true → ∃ u, exec (.vnop t pipe) s = .next u ∧ Issued s u t k [] []) ∧
    (pipe = true → ∀ e ∈ ([
        (Instr.vexp, 0x30, fun a => if w.testBit 34 then laneTrans 1 ty (transExp true) a else laneTrans 0 ty (transExp false) a),
        (Instr.vrcp, 0x31, laneTrans 2 ty transRcp),
        (Instr.vrsqrt, 0x32, laneTrans 3 ty transRsqrt),
        (Instr.vtanh, 0x33, laneTrans 4 ty transTanh),
        (Instr.verf, 0x34, laneTrans 5 ty transErf)] : List ((Nat → Instr) × Nat × (W32 → W32))),
      s.issues t k e.2.1 = true → ∃ u, exec (e.1 t) s = .next u ∧
        Issued s u t k (s.flightOf k (kV (bits w 8 5)) (s.lat t 7) (lanes (fun i => e.2.2 (x.lane (bits w 13 5) i)))) (vecRegs t))

/-- R55, R62, R147, R148, R286: the stores of the L slot, with the address their meaning computes; their words reach the banks from bank
cycle c + 3 on. -/
def Obligations.StoresWriteExactlyTheirBytes : Prop :=
  ∀ (s : State) (t : Nat),
    let w := s.opWord t 3
    let x := s.tile t
    ∀ e ∈ ([
        (Instr.lsts, 0x02, 8, bytesOf 8 (x.s (lrd w)).toNat),
        (Instr.lstv, 0x04, 32, x.vbytes (lrd w)),
        (Instr.lstt, 0x08, 64, x.tbytes (lrd w) 0 4096),
        (Instr.lsttl, 0x09, 64, x.tbytes (lrd w) 0 2048),
        (Instr.lstth, 0x0A, 64, x.tbytes (lrd w) 2048 2048)] : List ((Nat → Instr) × Nat × Nat × List Byte)),
      s.issues t 3 e.2.1 = true → ∃ u, exec (e.1 t) s = .next u ∧
        StoresHave x (u.tile t) (x.addr w e.2.2.1) (if x.storeMasked w then [] else e.2.2.2) ∧
        (u.tile t).scr = x.scr ∧ (u.tile t).merge = x.merge ∧
        (∃ l, (u.tile t).lstores = x.lstores ++ l ∧ ∀ y ∈ l, y.issued = s.clk.edge ∧ s.clk.edge + 3 ≤ y.edge) ∧
        (u.tile t).sreg = x.sreg ∧ (u.tile t).preg = x.preg ∧ (u.tile t).vreg = x.vreg ∧ (u.tile t).treg = x.treg ∧
        (u.tile t).inflight = x.inflight ∧ (u.tile t).slots = x.slots ||| 8#5 ∧
        (∀ j, j ≠ t → u.tile j = s.tile j) ∧ u = { s with tiles := u.tiles }

/-- R62, R66, R147, R148: the loads of the L slot. A load is in flight from its issue, and takes its bytes as its words are read, from bank
cycle c + 3 on (R289 says what a failing check adds). -/
def Obligations.LoadsPutTheirBytesInFlight : Prop :=
  (∀ (s : State) (t : Nat),
    let w := s.opWord t 3
    let x := s.tile t
    (∀ e ∈ ([
        (Instr.llds, 0x01, 8, 8, 8, kS (lrd w), fun bs => [(0, natOf bs, 2 ^ 64 - 1)]),
        (Instr.lldv, 0x03, 32, 256, 8, kV (lrd w), vByteCells),
        (Instr.lldt, 0x05, 64, 4096, 9, kT (lrd w), tCells 0),
        (Instr.lldtl, 0x06, 64, 2048, 9, kT (lrd w), tCells 0),
        (Instr.lldth, 0x07, 64, 2048, 9, kT (lrd w), tCells 2048)] :
          List ((Nat → Instr) × Nat × Nat × Nat × Nat × Nat × (List Byte → List (Nat × Nat × Nat)))),
      s.issues t 3 e.2.1 = true → ∃ u l, exec (e.1 t) s = .next u ∧
          (u.tile t).inflight = x.inflight ++ s.flightOf 3 e.2.2.2.2.2.1 (s.lat t e.2.2.2.2.1) [] ∧
          (u.tile t).loads = x.loads ++ [l] ∧ l.dst = e.2.2.2.2.2.1 ∧ l.issued = s.clk.edge ∧ (∀ r ∈ l.reads, s.clk.edge + 3 ≤ r.1) ∧
          l.gives (fun y => e.2.2.2.2.2.2 ((List.range e.2.2.2.1).map (fun i => y.byteAt (x.addr w e.2.2.1 + i)))) ∧
          (u.tile t).sreg = x.sreg ∧ (u.tile t).preg = x.preg ∧ (u.tile t).vreg = x.vreg ∧ (u.tile t).treg = x.treg ∧
          (u.tile t).scr = x.scr ∧ (u.tile t).merge = x.merge ∧ (u.tile t).slots = x.slots ||| 8#5 ∧
          (∀ j, j ≠ t → u.tile j = s.tile j) ∧ u = { s with tiles := u.tiles }) ∧
    (∀ e ∈ ([(Instr.lldtt4, 0x0B, 4), (Instr.lldtt8, 0x0C, 8), (Instr.lldtt16, 0x0D, 16)] : List ((Nat → Instr) × Nat × Nat)),
      s.issues t 3 e.2.1 = true →
        ∃ u l, exec (e.1 t) s = .next u ∧ (u.tile t).inflight = x.inflight ++ s.flightOf 3 (kT (lrd w)) (s.lat t 10) [] ∧
          (u.tile t).loads = x.loads ++ [l] ∧ l.dst = kT (lrd w) ∧ l.issued = s.clk.edge ∧ (∀ r ∈ l.reads, s.clk.edge + 3 ≤ r.1) ∧
          l.gives (fun y => tCells 0 (transpose e.2.2 ((List.range (ttK e.2.1)).map (fun i =>
            natOf (y.spBytes ((x.addr w 64 + i * x.ttStride w) % spSize) (ttRow e.2.1)))))) ∧
          (u.tile t).treg = x.treg ∧ (u.tile t).scr = x.scr ∧ (u.tile t).merge = x.merge ∧
          (∀ j, j ≠ t → u.tile j = s.tile j) ∧ u = { s with tiles := u.tiles })) ∧
  (∀ (s : State) (t : Nat) (l : LLoad), (s.tile t).loads = [l] → (s.tile t).lstores = [] → (∀ r ∈ l.reads, r.1 ≤ s.clk.edge) →
    let u := s.bankCycle t
    (u.tile t).loads = [] ∧ (u.tile t).scr = (s.tile t).scr ∧
      (u.tile t).inflight = (s.tile t).inflight.map (fun r => if r.dst = l.dst && r.issued = l.issued && r.slot = 3
        then { r with writes := (LLoad.sample (s.tile t) s.clk.edge l).cells } else r))

/-- R46, R85, R86, R89, R148 to R150. -/
def Obligations.LSlotMovesReadoutsAndLanes : Prop :=
  ∀ (s : State) (t : Nat),
    let w := s.opWord t 3
    let x := s.tile t
    let e := s.clk.edge
    (s.issues t 3 0x0E = true → ∃ u, exec (.lmvtv t) s = .next u ∧ (u.tile t).inflight = x.inflight ++
      s.flightOf 3 (kV (bits w 36 5)) (s.lat t 11) (vByteCells (x.tbytes (lrd w) (256 * bits w 18 4) 256)) ∧
      (u.tile t).vreg = x.vreg ∧ (u.tile t).treg = x.treg ∧ (u.tile t).scr = x.scr ∧ (u.tile t).merge = x.merge ∧
      (u.tile t).lstores = x.lstores ∧ (u.tile t).slots = x.slots ||| 8#5 ∧ (∀ j, j ≠ t → u.tile j = s.tile j) ∧
      u = { s with tiles := u.tiles }) ∧
    (s.issues t 3 0x0F = true → ∃ u, exec (.lmvvt t) s = .next u ∧ (u.tile t).inflight = x.inflight ++
      s.flightOf 3 (kT (lrd w)) (s.lat t 11) (tCells (256 * bits w 18 4) (x.vbytes (bits w 36 5))) ∧
      (u.tile t).vreg = x.vreg ∧ (u.tile t).treg = x.treg ∧ (u.tile t).scr = x.scr ∧ (u.tile t).merge = x.merge ∧
      (u.tile t).lstores = x.lstores ∧ (u.tile t).slots = x.slots ||| 8#5 ∧ (∀ j, j ≠ t → u.tile j = s.tile j) ∧
      u = { s with tiles := u.tiles }) ∧
    (∀ r ∈ ([(Instr.lraw0, 0x10, 0, x.ovf0), (Instr.lraw1, 0x11, 1, x.ovf1)] : List ((Nat → Instr) × Nat × Nat × Bool)),
      s.issues t 3 r.2.1 = true → ∃ u, exec (r.1 t) s = .next u ∧
        (u.tile t).inflight = x.inflight ++ s.flightOf 3 (kP (bits w 51 3)) (s.lat t 2) [(0, if r.2.2.2 then 1 else 0, 1)] ∧
        StoresHave x (u.tile t) (x.addr w 64) (laneBytes (x.setLanes r.2.2.1)) ∧ (u.tile t).scr = x.scr ∧ (u.tile t).merge = x.merge ∧
        (u.tile t).setRead0 = (if r.2.2.1 = 0 then e + 32 else x.setRead0) ∧
        (u.tile t).setRead1 = (if r.2.2.1 = 1 then e + 32 else x.setRead1) ∧
        (u.tile t).acc = x.acc ∧ (u.tile t).treg = x.treg ∧ (∀ j, j ≠ t → u.tile j = s.tile j) ∧ u = { s with tiles := u.tiles }) ∧
    (s.issues t 3 0x12 = true →
      let n := x.lsaddN w
      let d := x.addr w 64
      let a := x.laneAddr (bits w 36 5)
      let b := x.laneAddr (bits w 41 5)
      let la := x.lsettle.spLanes a n
      let lb := x.lsettle.spLanes b n
      let undef (i : Nat) : Bool := (d ≠ a && overlaps (d + 18 * i) 18 a (18 * n)) || (d ≠ b && overlaps (d + 18 * i) 18 b (18 * n))
      let outs := (List.zipWith (fun p q => (laneAdd p q).1) la lb).zipIdx.map (fun v =>
        if undef v.2 then laneOfBits (laneBits (Config.overlapLane (lsaddKey d a b n la lb) v.2)) else v.1)
      ∃ u, exec (.lsadd t) s = .next u ∧
        (u.tile t).inflight = x.inflight ++ s.flightOf 3 (kP (bits w 51 3)) (lsaddU n + 3) [(0, if lanesOvf outs then 1 else 0, 1)] ∧
        StoresHave x (u.tile t) d (laneBytes outs) ∧ (u.tile t).loads = x.loads ++ [lsaddReads e a b n] ∧
        (∃ l, (u.tile t).lstores = x.lstores ++ l ∧ ∀ y ∈ l, y.issued = e ∧ e + 5 ≤ y.edge) ∧
        (u.tile t).scr = x.scr ∧ (u.tile t).merge = x.merge ∧ (u.tile t).slots = x.slots ||| 8#5 ∧
        (∀ j, j ≠ t → u.tile j = s.tile j) ∧ u = { s with tiles := u.tiles }) ∧
    (s.issues t 3 0x13 = true →
      let conv (y : Tile) := cvtCells (bits w 18 4) (bits w 22 2) (bits w 24 2) (anchorOf (x.s (bits w 36 5))) (shiftOf (x.s (bits w 46 5)))
        (s.slotCtx t 3 (x.s (bits w 41 5))) (lanesOfBytes 64 (y.spBytes (x.laneAddr (bits w 13 5)) (18 * 64)))
      ∃ u l ls, exec (.lscvt t) s = .next u ∧ (u.tile t).inflight = x.inflight ++ s.flightOf 3 (kV (lrd w)) (s.lat t 12) [] ++
          (if ofmtMx (bits w 18 4) then s.flightOf 3 (kV (bits w 26 5)) (s.lat t 12) [] else []) ∧
        (u.tile t).loads = x.loads ++ l :: ls ∧ l.dst = kV (lrd w) ∧ l.gives (fun y => (conv y).1) ∧
        ls.map (fun m => m.dst) = (if ofmtMx (bits w 18 4) then [kV (bits w 26 5)] else []) ∧ (∀ m ∈ ls, m.gives (fun y => (conv y).2)) ∧
        (∀ m ∈ l :: ls, m.issued = e ∧ ∀ r ∈ m.reads, e + 3 ≤ r.1) ∧ (u.tile t).q = (if bits w 22 2 = 2 then x.q + 1 else x.q) ∧
        (u.tile t).scr = x.scr ∧ (u.tile t).vreg = x.vreg ∧ (∀ j, j ≠ t → u.tile j = s.tile j) ∧ u = { s with tiles := u.tiles }) ∧
    (s.issues t 3 0x00 = true → ∃ u, exec (.lnop t) s = .next u ∧ Issued s u t 3 [] [])

/-- R42 to R50, R137 to R142. -/
def Obligations.MSlotPassesReadoutsAndRamp : Prop :=
  (∀ (s : State) (t : Nat),
    let w := s.opWord t 0
    let x := s.tile t
    let e := s.clk.edge
    let set := bits w 32 1
    let start := w.testBit 33
    let anchor := if start then anchorOf (x.s (bits w 34 5)) else x.anchor set
    let ts := x.tbytes (bits w 27 5) 0 4096
    let sums (cols : List (List Machine.Num)) := passSum anchor (if passK (bits w 8 4) = 128 then 2 else 1)
      (x.rowsA (bits w 8 4) (bits w 16 5) (w.testBit 21) ts (x.rowMasked w)) cols
      (if start then List.replicate 2048 0 else x.setLanes set)
    let pass (u : State) (cols : List (List Machine.Num)) (p done : Nat) (caps : List Nat) : Prop :=
      (u.tile t).setLanes set = (sums cols).1 ∧ (u.tile t).anchor set = anchor ∧
      (if set = 0 then (u.tile t).ovf0 else (u.tile t).ovf1) = ((sums cols).2.1 || (!start && if set = 0 then x.ovf0 else x.ovf1)) ∧
      (u.tile t).arrayFree = e + p ∧ (u.tile t).setDone0 = (if bits w 32 1 = 0 then e + done else x.setDone0) ∧
      (u.tile t).setDone1 = (if bits w 32 1 = 1 then e + done else x.setDone1) ∧
      (u.tile t).setLanes (1 - bits w 32 1) = x.setLanes (1 - bits w 32 1) ∧
      (∀ k ∈ caps, (k, e + 4) ∈ (u.tile t).capture) ∧ ((u.tile t).ramp = if x.ramp = .down then .warm else x.ramp) ∧
      (u.tile t).sreg = x.sreg ∧ (u.tile t).preg = x.preg ∧ (u.tile t).vreg = x.vreg ∧ (u.tile t).treg = x.treg ∧
      (u.tile t).inflight = x.inflight ∧ (u.tile t).scr = x.scr ∧ (∀ j, j ≠ t → u.tile j = s.tile j) ∧
      RegsBut [Reg.TILE_ARRAY_STAT_COLD_STARTS t, Reg.TILE_PERF_ZERO_COUNT t, Reg.TILE_PERF_ZERO_OVF t] s u ∧
      u = { s with tiles := u.tiles, csr := u.csr }
    (s.issues t 0 0x10 = true → ∃ u, exec (.mpass t) s = .next u ∧
      pass u (colsB (bits w 12 4) (x.tbytes (bits w 22 5) 0 4096) ts) (passP (bits w 8 4)) (passP (bits w 8 4) + s.lat t 0) [kT (bits w 16 5), kT (bits w 22 5)] ∧
      (u.tile t).latch = ssetList 0 [] 0 (x.tbytes (bits w 22 5) 0 4096) ∧ (u.tile t).latchFmt = bits w 12 4 ∧
      (u.tile t).latchValid = decide (bits w 12 4 ≤ 5)) ∧
    (s.issues t 0 0x11 = true → ∃ u, exec (.mswap t) s = .next u ∧
      pass u (if x.latchValid && pairOk (bits w 8 4) x.latchFmt then colsSwapped x.latchFmt (sgetList 0 x.latch 0 4096) ts
        else List.replicate 64 (List.replicate 64 (.fin false 0 0))) 66 (s.lat t 1) [kT (bits w 16 5)] ∧
      (u.tile t).latch = x.latch) ∧
    (s.issues t 0 0x20 = true →
      let of := bits w 9 4
      let rows := (chunksOf 64 32 (x.setLanes (bits w 8 1))).zipIdx.map (fun r =>
        convRow of (rmodeOf (bits w 24 2) (s.slotCtx t 0 (x.s (bits w 26 5)))) (64 * r.2) (shiftOf (x.s (bits w 31 5)))
          (r.1.map (laneNum (x.anchor (bits w 8 1)))))
      let cells (rs : List (List Nat × List Nat)) : List (Nat × Nat × Nat) := rs.zipIdx.flatMap (fun r =>
        tCells ((if ofmt8 of && w.testBit 18 then 2048 else 0) + 64 * ofmtBytes of * r.2) (rowBytes of r.1.1))
      ∃ u, exec (.mread t) s = .next u ∧ (u.tile t).inflight = x.inflight ++
        (if of = 0 then s.flightOf 0 (kT (bits w 13 5)) (s.lat t 2) (cells (rows.take 16)) ++
            s.flightOf 0 (kT (bits w 13 5 + 1)) (s.lat t 2) (cells (rows.drop 16))
         else s.flightOf 0 (kT (bits w 13 5)) (s.lat t 2) (cells rows)) ++
        (if ofmtMx of then s.flightOf 0 (kT (bits w 19 5)) (s.lat t 2) (tCells 0 ((rows.flatMap (fun r => r.2)).map (BitVec.ofNat 8)))
         else []) ∧
      (u.tile t).q = (if bits w 24 2 = 2 then x.q + 1 else x.q) ∧
      (u.tile t).setRead0 = (if bits w 8 1 = 0 then e + 32 else x.setRead0) ∧
      (u.tile t).setRead1 = (if bits w 8 1 = 1 then e + 32 else x.setRead1) ∧
      (u.tile t).acc = x.acc ∧ (u.tile t).treg = x.treg ∧ (∀ j, j ≠ t → u.tile j = s.tile j) ∧ u = { s with tiles := u.tiles }) ∧
    (s.issues t 0 0x01 = true → ∃ u, exec (.mwarm t) s = .next u ∧
      TileOnly s u t (if x.ramp = .cold ∨ x.ramp = .down then { s.begunTile t 0 with ramp := .up, rampAt := e } else s.begunTile t 0) []) ∧
    (s.issues t 0 0x00 = true → ∃ u, exec (.mnop t) s = .next u ∧ TileOnly s u t (s.begunTile t 0) [])) ∧
  (∀ (s : State) (t : Nat), ∃ u, exec (.arrayWarmDone t) s = .next u ∧
    TileOnly s u t (if (s.tile t).ramp = .up ∧ (s.tile t).rampAt + 32 ≤ s.clk.edge
      then { s.tile t with ramp := .warm, rampAt := s.clk.edge } else s.tile t) []) ∧
  (∀ (s : State) (t : Nat), ∃ u, exec (.arrayRampDown t) s = .next u ∧
    ((s.tile t).ramp = .warm → (s.tile t).rampAt < (s.tile t).arrayFree → (s.tile t).arrayFree ≤ s.clk.edge →
      TileOnly s u t { s.tile t with ramp := .down, rampAt := s.clk.edge } []) ∧
    ((s.tile t).ramp = .down → (s.tile t).rampAt + 32 ≤ s.clk.edge → TileOnly s u t { s.tile t with ramp := .cold } []) ∧
    ((s.tile t).ramp = .cold ∨ (s.tile t).ramp = .up → TileOnly s u t (s.tile t) []))

/-- R152 to R157, R160, R165, R273, R274. -/
def Obligations.NSlotControlSendsWindowsAndKnots : Prop :=
  ∀ (s : State) (t : Nat),
    let w := s.opWord t 4
    let x := s.tile t
    let toHome (kop token : Nat) : Packet := s.knotPacket (epTile t) (s.feid (homeEp (s.knotHome (bits w 16 16))))
      (s.tenantOf (s.panelOfTile t)) (bits w 16 16) kop (bits w 44 2) false token (bits w 32 12)
    (s.issues t 4 0x20 = true → ∃ u, exec (.njmp t) s = .next u ∧ TileOnly s u t { s.begunTile t 4 with branch := some (bits w 17 13) } []) ∧
    (s.issues t 4 0x21 = true → ∃ u, exec (.nbrp t) s = .next u ∧
      TileOnly s u t (if (x.p (bits w 8 3)).getLsbD 0 = w.testBit 11 then { s.begunTile t 4 with branch := some (bits w 17 13) }
        else s.begunTile t 4) []) ∧
    (s.issues t 4 0x22 = true → ∃ u, exec (.nloop t) s = .next u ∧
      TileOnly s u t { s.begunTile t 4 with
        inflight := x.inflight ++ s.flightOf 4 (kS (bits w 12 5)) 1 [(0, (x.s (bits w 12 5) - 1).toNat, 2 ^ 64 - 1)]
        branch := if x.s (bits w 12 5) - 1 ≠ 0 then some (bits w 17 13) else x.branch } []) ∧
    (s.issues t 4 0x2F = true → ∃ u, exec (.nend t) s = .next u ∧ (u.tile t).ending = true ∧
      (∀ n, (sget {} (u.tile t).wins n).isOpen = false) ∧ (u.tile t).inflight = x.inflight ∧ (u.tile t).scr = x.scr ∧
      (∀ j, j ≠ t → u.tile j = s.tile j) ∧ u = { s with tiles := u.tiles }) ∧
    (s.issues t 4 0x30 = true →
      (x.freeSlot = none → ∃ u, exec (.nsend t) s = .next u ∧ u.rd (Reg.TILE_FAULT_CODE t) = St.SEND_OVERRUN.toNat) ∧
      (∀ sl, x.freeSlot = some sl →
        let a := (x.s (bits w 14 5)).toNat
        let g := (x.s (bits w 19 5)).toNat
        let bs := if w.testBit 8 then ((x.vbytes (bits w 9 5)).drop (bits a 24 12)).take (bits a 36 13)
          else x.tbytes (bits w 9 5) (bits a 24 12) (bits a 36 13)
        let fl := (sendPayloads (bits w 24 2) (bits g 32 10) (g.testBit 42) bs).zipIdx.map (fun c =>
          ({ pkt := { dst := a % 2 ^ 24, src := s.feid (epTile t), tenant := s.tenantOf (s.panelOfTile t), tc := bits w 26 1, knv := true,
                      knot := bits w 30 16, op := bits w 24 2, len := c.1.length / 64, rtag := (g % 2 ^ 32 + c.2) % 2 ^ 24, payload := c.1 }
             loc := .inject (epTile t), since := s.clk.edge, slot := sl + 1 } : Flight))
        ∃ u, exec (.nsend t) s = .next u ∧ u.noc.flights = s.noc.flights ++ fl ∧ fl ≠ [] ∧
        (∀ f ∈ fl, f.pkt.payload.length % 64 = 0 ∧ f.pkt.payload.length ≤ 512) ∧
        sget 0 (u.tile t).sends sl = bits w 27 3 ∧ (u.tile t).treg = x.treg ∧ (u.tile t).vreg = x.vreg ∧ (u.tile t).scr = x.scr ∧
        RegsBut [Reg.TILE_SEND_STAT_PACKETS t] s u ∧ (∀ j, j ≠ t → u.tile j = s.tile j))) ∧
    (s.issuable t 4 0x31 = true → x.operandsOk (x.bundle x.pc) = true →
      (∀ d ∈ (slotInfo 4 w).dsts, (x.closeWin s.clk.edge (bits w 26 4)).pendingDest d = false) →
      (x.wins.any (fun v => v.1 ≠ bits w 26 4 && v.2.isOpen && v.2.knot = bits w 30 16) = true →
        ∃ u, exec (.nrecv t) s = .next u ∧ u.rd (Reg.TILE_FAULT_CODE t) = St.WINDOW_DUP.toNat) ∧
      (x.wins.any (fun v => v.1 ≠ bits w 26 4 && v.2.isOpen && v.2.knot = bits w 30 16) = false →
        ∃ u, exec (.nrecv t) s = .next u ∧ (sget {} (u.tile t).wins (bits w 26 4)).isOpen = true ∧
          (sget {} (u.tile t).wins (bits w 26 4)).knot = bits w 30 16 ∧ (sget {} (u.tile t).wins (bits w 26 4)).seen = [] ∧
          (sget {} (u.tile t).wins (bits w 26 4)).len = bits (x.s (bits w 16 5)).toNat 21 22 ∧
          (∀ n, n ≠ bits w 26 4 → sget {} (u.tile t).wins n = sget {} x.wins n) ∧ (u.tile t).scr = x.scr ∧
          u = { s with tiles := u.tiles })) ∧
    (s.issues t 4 0x32 = true → ∃ u, exec (.nclose t) s = .next u ∧
      (∀ n, sget {} (u.tile t).wins n = (if n = bits w 8 4 ∧ (sget {} x.wins n).isOpen = true
        then { sget {} x.wins n with isOpen := false, shut := some s.clk.edge } else sget {} x.wins n)) ∧
      (u.tile t).treg = x.treg ∧ (u.tile t).scr = x.scr ∧ (∀ j, j ≠ t → u.tile j = s.tile j) ∧ u = { s with tiles := u.tiles }) ∧
    (∀ e ∈ ([(Instr.nsig, 0x40, 0), (Instr.nbcast, 0x43, 3)] : List ((Nat → Instr) × Nat × Nat)),
      s.issues t 4 e.2.1 = true → ∃ u, exec (e.1 t) s = .next u ∧
        u.noc.flights = s.noc.flights ++ [{ pkt := toHome e.2.2 0, loc := .inject (epTile t), since := s.clk.edge }] ∧
        u.tile t = s.begunTile t 4 ∧ (∀ j, j ≠ t → u.tile j = s.tile j)) ∧
    (∀ e ∈ ([(Instr.nwait, 0x41, 1), (Instr.nwall, 0x42, 2)] : List ((Nat → Instr) × Nat × Nat)),
      s.issues t 4 e.2.1 = true →
        (x.waits.any (fun v => v.pd = bits w 8 3) = false → ∃ u, exec (e.1 t) s = .next u ∧
          u.noc.flights = s.noc.flights ++ [{ pkt := toHome e.2.2 (bits w 8 3), loc := .inject (epTile t), since := s.clk.edge }] ∧
          u.tile t = { s.begunTile t 4 with waits := x.waits ++ [⟨bits w 8 3, bits w 16 16⟩] } ∧ (∀ j, j ≠ t → u.tile j = s.tile j)) ∧
        (x.waits.any (fun v => v.pd = bits w 8 3) = true → ∃ u, exec (e.1 t) s = .next u ∧
          u.rd (Reg.TILE_FAULT_CODE t) = St.KNOT_MISUSE.toNat))

/-- R53 to R55, R68, R133, R156, R181 to R186. -/
def Obligations.TileResultsHoldsAndLimits : Prop :=
  ∀ (s : State) (t : Nat),
    let x := s.tile t
    let e := s.clk.edge
    let ready := x.inflight.filter (x.ripe e)
    (∃ u, exec (.resultWriteback t) s = .next u ∧
      (ready.find? (collides ready) = none → u = { s with tiles := u.tiles } ∧ (∀ j, j ≠ t → u.tile j = s.tile j) ∧
        (u.tile t).inflight = x.inflight.filter (fun r => !x.ripe e r) ∧ (u.tile t).scr = x.scr ∧
        (∀ r ∈ ready, ∀ c, (u.tile t).isAbsent c r.dst = false) ∧
        (∀ r n v, ready = [r] → 0 < n → n < 32 → r.dst = kS n → r.writes = [(0, v, 2 ^ 64 - 1)] →
          (u.tile t).s n = BitVec.ofNat 64 v)) ∧
      (∀ r, ready.find? (collides ready) = some r → TileFaulted s u t St.REG_WRITE_COLLISION)) ∧
    (∀ p r c, s.panelOfTile t = some p → (s.panel p).run = some r → s.isLive p = true → x.run = true → x.held = false →
      s.stopped p t = false → s.clk.inWindow = false → r.startIn = 0 → x.slots = 0 → r.treeT ≤ x.sx → x.ended = false →
      x.imem.syndrome Space.imem t x.pc = 0 → bundleLegal (x.bundle x.pc) = true → x.owes e = false → s.lateCause t (x.bundle x.pc) = c → c ≠ 0 → c < 8 →
      ∃ u, exec (.tileHoldCycle t) s = .next u ∧ (u.tile t).held = true ∧ (u.tile t).sx = x.sx + 1 ∧
        u.rd (Reg.TILE_LATE_COUNT t) = min (s.rd (Reg.TILE_LATE_COUNT t) + 1) (2 ^ (Reg.TILE_LATE_COUNT t).w - 1) ∧
        u.rd (Reg.TILE_LATE_LAST_CAUSE t) = c ∧ u.bit (Reg.LAT_PNL_FROZEN p) = true ∧
        (s.pst p = PS.running → u.pst p = PS.frozen) ∧ (u.tile t).cy = x.cy ∧ (u.tile t).pc = x.pc) ∧
    (∃ u, exec (.freezeTimeout t) s = .next u ∧
      (x.lateSince = none ∨ x.run = false ∨ s.rd Reg.LAT_FREEZE_LIMIT_LIMIT_US = 0 → u = s) ∧
      (∀ a, x.lateSince = some a → x.run = true → s.rd Reg.LAT_FREEZE_LIMIT_LIMIT_US ≠ 0 →
        stDiff a s.now > (s.rd Reg.LAT_FREEZE_LIMIT_LIMIT_US * 1000 : Nat) → TileFaulted s u t St.FREEZE_TIMEOUT)) ∧
    (∃ u, exec (.stepOverrun t) s = .next u ∧
      (∀ p r, s.panelOfTile t = some p → (s.panel p).run = some r →
        (x.run = true → r.maxCy < x.cy → TileFaulted s u t St.STEP_OVERRUN) ∧ (x.cy ≤ r.maxCy → u = s))) ∧
    (∃ u, exec (.stepCycleLimit t) s = .next u ∧
      (x.run = true → x.cy = 2 ^ 40 - 1 → TileFaulted s u t St.STEP_CYCLE_LIMIT) ∧ (x.cy < 2 ^ 40 - 1 → u = s)) ∧
    (∃ u, exec (.slotMaskUpdate t) s = .next u ∧ (x.maskIn = none → u = s) ∧ (∀ a m, x.maskIn = some (a, m) → e ≤ a → u = s) ∧
      (∀ a m, x.maskIn = some (a, m) → a < e → u.tile t = { x with mask := m, maskIn := none } ∧
        ∀ k, t < 1088 → k < s.tiers → u.bob (bobAt k t) = { s.bob (bobAt k t) with mask := m }) ∧
      (u.tile t).scr = x.scr ∧ (∀ j, j ≠ t → u.tile j = s.tile j) ∧ u = { s with tiles := u.tiles, bobs := u.bobs }) ∧
    (∀ n, ∃ u, exec (.sendSlotFree t n) s = .next u ∧
      (sget 0 x.sends n = 0 ∨ s.noc.flights.any (fun f => f.ofSlot (s.feid (epTile t)) n e) = true → u = s) ∧
      (sget 0 x.sends n ≠ 0 → sget 0 x.sends n < 8 → s.noc.flights.any (fun f => f.ofSlot (s.feid (epTile t)) n e) = false →
        sget 0 (u.tile t).sends n = 0 ∧ ((u.tile t).p (sget 0 x.sends n)).getLsbD 0 = true ∧
        (∀ c, (u.tile t).isAbsent c (kP (sget 0 x.sends n)) = false) ∧ (u.tile t).scr = x.scr ∧
        (∀ j, j ≠ t → u.tile j = s.tile j) ∧ u = { s with tiles := u.tiles })) ∧
    (∃ u, exec (.tileCntClr t) s = .next u ∧ u.rd (Reg.TILE_LATE_COUNT t) = 0 ∧ u.rd (Reg.TILE_PORT_WAIT_NET_WAIT t) = 0 ∧
      u.rd (Reg.TILE_PORT_WAIT_VERT_WAIT t) = 0 ∧ u.rd (Reg.TILE_ARRAY_STAT_COLD_STARTS t) = 0 ∧
      (∀ i, i < 16 → u.rd (Reg.TILE_BANK_CONF_BANK_LO t i) = 0 ∧ u.rd (Reg.TILE_BANK_CONF_BANK_HI t i) = 0) ∧ u = { s with csr := u.csr } ∧
      RegsBut ([Reg.TILE_ARRAY_STAT_COLD_STARTS t, Reg.TILE_LATE_COUNT t, Reg.TILE_LATE_LAST_CAUSE t, Reg.TILE_LATE_LAST_CY t,
        Reg.TILE_PORT_WAIT_NET_WAIT t, Reg.TILE_PORT_WAIT_VERT_WAIT t] ++
        (List.range 16).flatMap (fun i => [Reg.TILE_BANK_CONF_BANK_LO t i, Reg.TILE_BANK_CONF_BANK_HI t i])) s u)

/-- R59 to R61, R64, R68, R69, R158, R286, R523. -/
def Obligations.TilePortsWindowsAndTheTileWindow : Prop :=
  (∀ (s : State) (t bank : Nat) (vert : Bool),
    let x := s.tile t
    let e := s.clk.edge
    ((∀ b ∈ x.portBuf vert, b.word % 32 ≠ bank) → exec (.bufferedWritePerform t vert bank) s = .next s) ∧
    (∀ b, (x.portBuf vert).find? (fun b => b.word % 32 = bank) = some b → b.word < 65536 → x.orphanWord e b.id = false →
      x.lstores.any (fun a => !a.narrow && a.word = b.word && a.edge = e && b.since + 16 ≤ a.issued) = false →
      x.resv.contains (bank, e) = false → (vert = false → ∀ v ∈ x.vertBuf, v.word % 32 ≠ bank) →
      (b.mask = BitVec.allOnes 32 ∨ b.rmw = true ∨ x.mergeFull b.word = none) →
      ∃ u, exec (.bufferedWritePerform t vert bank) s = .next u ∧
        (b.rmw = false → ∀ a, a < spSize → (u.tile t).byteAt a =
          (if a / 32 = b.word ∧ b.mask.getLsbD (a % 32) = true then b.data.extractLsb' (8 * (a % 32)) 8 else x.byteAt a)) ∧
        (b.rmw = true → b.fp = true → ∀ a, a < spSize → (u.tile t).byteAt a =
          (if a / 32 = b.word ∧ b.mask.getLsbD (a % 32) = true
            then (addFp32 (x.spWordBytes b.word) (bytesOf 32 b.data.toNat)).getD (a % 32) 0 else x.byteAt a)) ∧
        (b.rmw = true → b.fp = false → ∀ (i : Nat) (v : BitVec 144), b.lanes = [(i, v)] → i < spSize → ∀ a, a < spSize →
          (u.tile t).byteAt a = (if (a + spSize - i) % spSize < 18
            then (laneBytes ((x.spLanes i 1).map (fun l => (laneAdd l (laneOfBits v.toNat)).1))).getD ((a + spSize - i) % spSize) 0
            else x.byteAt a)) ∧
        (u.tile t).portBuf vert = (x.portBuf vert).eraseP (fun b => b.word % 32 = bank) ∧ (u.tile t).sreg = x.sreg ∧
        (u.tile t).treg = x.treg ∧ (u.tile t).vreg = x.vreg ∧ (∀ j, j ≠ t → u.tile j = s.tile j))) ∧
  (∀ (s : State) (t w : Nat) (m : MergeEntry),
    (s.tile t).mergeOf w = some m → m.mask = BitVec.allOnes 32 → (s.tile t).resv.contains (w % 32, s.clk.edge) = false → w < 65536 →
    (s.tile t).portWaits (w % 32) = false →
    ∃ u, exec (.spMergeWriteback t w) s = .next u ∧ (u.tile t).mergeOf w = none ∧
      (∀ a, a < spSize → (u.tile t).byteAt a = (s.tile t).byteAt a) ∧ (u.tile t).scr.syndrome Space.scratch t w = 0 ∧
      (∀ j, j ≠ t → u.tile j = s.tile j) ∧ u = { s with tiles := u.tiles }) ∧
  (∀ (s : State) (t : Nat), s.clk.inWindow = true → exec (.windowPacketArrival t) s = .next s) ∧
  (∀ (s : State) (t : Nat), s.clk.inWindow = false → let x := s.tile t
    (s.ejected (epTile t) Packet.isData = none → s.tileOn t = false ∨ x.tabIn = [] → exec (.windowPacketArrival t) s = .next s) ∧
    (s.ejected (epTile t) Packet.isData = none → s.tileOn t = true → x.netIn = [] → x.netAt ≠ some s.clk.edge → x.tabIn ≠ [] →
      let k := min 4 (16 - x.netBuf.length)
      ∃ u, exec (.windowPacketArrival t) s = .next u ∧ (u.tile t).tabIn = x.tabIn.drop k ∧
        (u.tile t).netBuf = x.netBuf ++ (x.tabIn.take k).map (fun b => { b with since := s.clk.edge }) ∧ u = { s with tiles := u.tiles }) ∧
    (∀ i f, s.tileOn t = false → s.ejected (epTile t) Packet.isData = some (i, f) →
      exec (.windowPacketArrival t) s = .next (s.demand (domOfTile t))) ∧
    (∀ i f, s.tileOn t = true → s.ejected (epTile t) Packet.isData = some (i, f) → f.taken ≠ 1 →
      (∀ v ∈ x.wins, v.2.takes s.clk.edge f.pkt.knot = false ∨ f.pkt.knv = false) →
      ∃ u, exec (.windowPacketArrival t) s = .next u ∧ u.rd (Reg.TILE_FAULT_CODE t) = St.NO_WINDOW.toNat) ∧
    (∀ i f n v, s.tileOn t = true → s.ejected (epTile t) Packet.isData = some (i, f) → f.taken ≠ 1 →
      x.wins.find? (fun v => v.2.takes s.clk.edge f.pkt.knot && f.pkt.knv) = some (n, v) → v.mode = 0 → v.dk = true → f.pkt.op = POp.write →
      let j := (f.pkt.rtag + 2 ^ 32 - v.tag) % 2 ^ 24
      let k := min 4 (16 - x.netBuf.length)
      512 * j < v.len → 512 * j + f.pkt.payload.length < v.len + 64 → f.pkt.payload ≠ [] → x.done.all (fun d => d.id ≠ x.nextId) = true →
      x.netAt ≠ some s.clk.edge →
      let ws := bufWrites (v.base + 512 * j) x.nextId s.clk.edge (f.pkt.payload.take (v.len - 512 * j))
      ∃ u, exec (.windowPacketArrival t) s = .next u ∧ (u.tile t).netIn = ws.drop k ∧ (u.tile t).netBuf = x.netBuf ++ ws.take k ∧
        (sget {} (u.tile t).wins n).seen = nins j v.seen ∧ (u.tile t).scr = x.scr ∧ (u.tile t).treg = x.treg ∧
        u.noc.flights.length = s.noc.flights.length - (if ws.length ≤ k then 1 else 0))) ∧
  (∀ s : State, (s.tileGo = none → exec .tileMemAccess s = .next s) ∧
    (∀ fn write raw, s.tileGo = some (fn, write, raw) →
      (s.tileSel fn = none → ∃ u, exec .tileMemAccess s = .next u ∧ u.rd Reg.TILE_MEM_STAT_STATUS = St.TILE_WINDOW_SITE.toNat ∧
        u.bit Reg.TILE_MEM_STAT_BUSY = false ∧ u.tileGo = none ∧ u.tiles = s.tiles) ∧
      (∀ t, s.tileSel fn = some t → s.windowPermitted fn t = false → ∃ u, exec .tileMemAccess s = .next u ∧
        u.rd Reg.TILE_MEM_STAT_STATUS = St.TILE_WINDOW_BUSY.toNat ∧ u.bit Reg.TILE_MEM_STAT_BUSY = false ∧ u.tileGo = none ∧ u.tiles = s.tiles) ∧
      (∀ t, s.tileSel fn = some t → s.windowPermitted fn t = true → s.tileOn t = true →
        let x := s.tile t
        let i := s.rd Reg.TILE_MEM_ADDR_INDEX
        (write = false → s.rd Reg.TILE_MEM_ADDR_SPACE = 4 → i < 32 → ∃ u, exec .tileMemAccess s = .next u ∧
          u.rd (Reg.TILE_MEM_DATA_DATA 0) = (x.s i).toNat ∧
          u.rd Reg.TILE_MEM_STAT_STATUS = 0 ∧ u.tileGo = none ∧ (u.tile t).sreg = x.sreg ∧ StoresHave x (u.tile t) 0 []) ∧
        (write = false → s.rd Reg.TILE_MEM_ADDR_SPACE = 0 → i < 65536 → ∃ u, exec .tileMemAccess s = .next u ∧
          (∀ k, k < 4 → u.rd (Reg.TILE_MEM_DATA_DATA k) = leAt (x.lsettle.spWordBytes i) (8 * k) 8) ∧
          u.rd Reg.TILE_MEM_STAT_STATUS = 0 ∧ u.tileGo = none ∧ StoresHave x (u.tile t) 0 [] ∧ ∀ j, j ≠ t → u.tile j = s.tile j) ∧
        (write = true → s.rd Reg.TILE_MEM_ADDR_SPACE = 0 → i < 65536 → ∃ u, exec .tileMemAccess s = .next u ∧
          StoresHave x (u.tile t) (32 * i) ((List.range 4).flatMap (fun k => bytesOf 8 (s.rd (Reg.TILE_MEM_DATA_DATA k)))) ∧
          u.rd Reg.TILE_MEM_STAT_STATUS = 0 ∧ u.tileGo = none ∧ ∀ j, j ≠ t → u.tile j = s.tile j))))

/-- R35, R195, R199, R200, R205, R206, R210, R211, R213, R230, R266, R524. -/
def Obligations.PacketsEnterCrossAndLeave : Prop :=
  (∀ (s : State) (ep i : Nat) (damaged : Bool), s.clk.inWindow = true → exec (.packetInjection ep) s = .next s ∧
    exec (.packetForward ⟨i, damaged⟩) s = .next s ∧ exec (.packetEject i) s = .next s) ∧
  (∀ (s : State) (ep : Nat) (i : Nat) (f : Flight), s.headOf ep true = some (i, f) → s.mayLeave ep (i, f) = true → s.nextOut ep = some (i, f)) ∧
  (∀ (s : State) (ep : Nat), s.clk.inWindow = false →
    (s.nextOut ep = none → exec (.packetInjection ep) s = .next s) ∧
    (∀ i f code, s.nextOut ep = some (i, f) → s.fate ep f.pkt = .drop code → ∃ u : State, exec (.packetInjection ep) s = .next u ∧
      u.rd Reg.FAB_NOC_LASTERR_CODE = code.toNat ∧
      (code ≠ St.NOC_INTEGRITY → ∀ p, s.panelOfEp ep = some p → s.isLive p = true → u.pst p = PS.faulted ∧ (u.panel p).run = none) ∧
      (code = St.NOC_INTEGRITY ∨ (∀ p, s.panelOfEp ep = some p → s.isLive p = false) → u.noc.flights = s.noc.flights.eraseIdx i ∧
        u.panels = s.panels ∧ u.tiles = s.tiles ∧ u.bobs = s.bobs)) ∧
    (∀ i f d r, s.nextOut ep = some (i, f) → s.fate ep f.pkt = .noRoute d r → ∃ u : State, exec (.packetInjection ep) s = .next u ∧
      u.noc.flights = s.noc.flights.eraseIdx i ∧ u.newest.code = St.FAB_NO_ROUTE ∧ u.panels = s.panels ∧ u.tiles = s.tiles ∧
      u.bobs = s.bobs) ∧
    (∀ i f p out, s.nextOut ep = some (i, f) → s.fate ep f.pkt = .go p out →
      let g := { f with pkt := s.stampSeq ep p, out := out }
      ∃ u : State, exec (.packetInjection ep) s = .next u ∧
        sget 0 u.noc.seqs (2 * ep + (s.stampSeq ep p).tc) = sget 0 s.noc.seqs (2 * ep + (s.stampSeq ep p).tc) + 1 ∧
        u.tiles = s.tiles ∧ u.bobs = s.bobs ∧ u.panels = s.panels ∧ u.hostMem = s.hostMem ∧
        (p.op ≠ POp.sadd → (∀ k, k ≠ i → u.noc.flights[k]? = s.noc.flights[k]?) ∧
          ∃ h, u.noc.flights[i]? = some h ∧ h.loc = s.entryLoc g (s.epPos ep) ∧ h.out = out ∧ h.pkt.seq = (s.stampSeq ep p).seq ∧
            h.pkt.payload = p.payload))) ∧
  (∀ (s : State) (i j : Nat) (f q : Flight) (a : Lane) (up : Bool) (p : Pos) (lat : Nat), i < s.noc.flights.length → s.noc.flights[j]? = some q →
    j ≠ i → q.loc = .buf a up p → q.taken = 0 → combines f.pkt q.pkt = true → s.bit Reg.FAB_NOC_CTL_COMB_DIS = false →
    (∀ m g, m < j → m ≠ i → s.noc.flights[m]? = some g → g.loc = .buf a up p → g.taken = 0 → combines f.pkt g.pkt = false) →
    let u := s.placeAt i f (.buf a up p) lat
    u.noc.flights.length + 1 = s.noc.flights.length ∧
      ∃ h ∈ u.noc.flights, h.loc = .buf a up p ∧ h.pkt = combined (s.marked (.buf a up p) f.pkt) q.pkt) ∧
  (∀ (s : State) (i : Nat) (f : Flight) (damaged : Bool), s.noc.flights[i]? = some f → f.busy ≤ s.clk.edge → s.clk.inWindow = false →
    (f.loc.inRings = false → f.loc.stored = false ∨ damaged = false ∨ f.taken ≠ 0 → exec (.packetForward ⟨i, damaged⟩) s = .next s) ∧
    ((f.loc.stored = true ∧ damaged = true ∧ f.taken = 0) ∨ (f.loc.inRings = true ∧ f.pkt.sound = false) → ∃ u : State,
      exec (.packetForward ⟨i, damaged⟩) s = .next u ∧
      u.noc.flights = s.noc.flights.eraseIdx i ∧ u.rd Reg.FAB_NOC_LASTERR_CODE = St.NOC_INTEGRITY.toNat ∧ u.newest.code = St.NOC_INTEGRITY ∧
      u.newest.d0 = BitVec.ofNat 64 (s.ringStage f.loc) ∧ u.tiles = s.tiles ∧ u.bobs = s.bobs ∧ u.panels = s.panels) ∧
    (∀ l k, f.loc.inRings = true → damaged = false → f.pkt.sound = true → s.nextHop f = some (l, k) →
      (s.granted i f l k = false → exec (.packetForward ⟨i, damaged⟩) s = .next s) ∧
      (s.granted i f l k = true → f.pkt.op ≠ POp.sadd → ∃ u : State, exec (.packetForward ⟨i, damaged⟩) s = .next u ∧
        (∀ m, m ≠ i → u.noc.flights[m]? = s.noc.flights[m]?) ∧
        ∃ h, u.noc.flights[i]? = some h ∧ h.loc = l ∧ h.since = s.clk.edge ∧ h.pkt.payload = f.pkt.payload)) ∧
    (∀ n, f.loc.inRings = true → damaged = false → f.pkt.sound = true → s.nextHop f = none → f.out = some n →
      (s.egressDead n = true → ∃ u : State, exec (.packetForward ⟨i, damaged⟩) s = .next u ∧ u.noc.flights = s.noc.flights.eraseIdx i) ∧
      (s.egressDead n = false → s.roomFor (.egress n) 1 = true → ∃ u h, exec (.packetForward ⟨i, damaged⟩) s = .next u ∧
        u.noc.flights[i]? = some h ∧ h.loc = .egress n ∧ h.pkt.payload = f.pkt.payload ∧ ∀ m, m ≠ i → u.noc.flights[m]? = s.noc.flights[m]?) ∧
      (s.egressDead n = false → s.roomFor (.egress n) 1 = false → exec (.packetForward ⟨i, damaged⟩) s = .next s))) ∧
  (∀ (s : State) (i : Nat) (damaged : Bool), (s.noc.flights[i]? = none → exec (.packetForward ⟨i, damaged⟩) s = .next s ∧
      exec (.packetEject i) s = .next s) ∧
    (∀ f, s.noc.flights[i]? = some f → s.clk.edge < f.busy → exec (.packetForward ⟨i, damaged⟩) s = .next s ∧ exec (.packetEject i) s = .next s) ∧
    (∀ f ep, s.noc.flights[i]? = some f → f.loc = .eject ep → f.busy ≤ s.clk.edge → s.clk.inWindow = false → f.pkt.op = POp.knot →
      f.pkt.kop < 6 → let h := homeOfEp ep
      (8 ≤ (s.home h).length ∨ s.homeTurn h f = false → exec (.packetEject i) s = .next s) ∧
      ((s.home h).length < 8 → s.homeTurn h f = true → ∃ (u : State) (more : List (Nat × KnotOp)), exec (.packetEject i) s = .next u ∧
        u.home h = s.home h ++ [f.pkt.knotOp] ++ more.map Prod.snd ∧ more <+: s.homeWaits h ∧ u.homeWaits h = (s.homeWaits h).drop more.length ∧
        (u.home h).length ≤ 8 ∧
        u.noc.flights = s.noc.flights.eraseIdx i ∧
        (∀ h', h' ≠ h → u.home h' = s.home h') ∧ u = { s with noc := u.noc, homes := u.homes })) ∧
    (∀ f, s.noc.flights[i]? = some f → f.busy ≤ s.clk.edge → s.clk.inWindow = false → f.out = none → s.arrived f = true →
      let ep := (epOfDloc f.pkt.dloc).getD 8472
      (∀ code, s.ejectCheck ep f.pkt = some code → ∃ u : State, exec (.packetEject i) s = .next u ∧ u.newest.code = code ∧
        u.rd Reg.FAB_NOC_LASTERR_CODE = code.toNat ∧ u.noc.flights = s.noc.flights.eraseIdx i ∧ u.panels = s.panels ∧ u.tiles = s.tiles) ∧
      (s.ejectCheck ep f.pkt = none → f.pkt.ce = false → ep < 4400 ∨ 4416 ≤ ep →
        (s.roomFor (.eject ep) 1 = false → exec (.packetEject i) s = .next s) ∧
        (s.roomFor (.eject ep) 1 = true → f.pkt.op ≠ POp.sadd → ∃ u h, exec (.packetEject i) s = .next u ∧ u.noc.flights[i]? = some h ∧
          h.loc = .eject ep ∧ h.pkt.payload = f.pkt.payload ∧ ∀ m, m ≠ i → m < s.noc.flights.length → u.noc.flights[m]? = s.noc.flights[m]?))))

/-- R251, R252. -/
def Obligations.CongestionEchoesAndRates : Prop :=
  (∀ (s : State) (i : Nat),
    (s.noc.flights[i]? = none → exec (.ecnEchoReceive i) s = .next s) ∧
    (∀ f, s.noc.flights[i]? = some f → let ep := (epOfDloc f.pkt.dloc).getD 8472
      ((s.clk.inWindow = true ∨ f.pkt.ce = false ∨ s.clk.edge < f.busy ∨ f.out.isSome = true ∨ s.arrived f = false ∨ (s.ejectCheck ep f.pkt).isSome = true) →
        exec (.ecnEchoReceive i) s = .next s) ∧
      (s.clk.inWindow = false → f.pkt.ce = true → f.busy ≤ s.clk.edge → f.out = none → s.arrived f = true → s.ejectCheck ep f.pkt = none →
        ∃ u : State, exec (.ecnEchoReceive i) s = .next u ∧ u.rate ep = max (s.rate ep / 2) (65536 / 2 ^ s.rd Reg.FAB_ECN_CTL_FLOOR_SHIFT) ∧
          (∀ e, e ≠ ep → u.rate e = s.rate e) ∧ u.noc.flights = s.noc.flights.eraseIdx i ∧ u = { s with noc := u.noc, csr := u.csr } ∧
          RegsBut [Reg.FAB_ECN_STAT_ECHO_RX, Reg.FAB_ECN_STAT_MIN_RATE] s u))) ∧
  (∀ s : State, let every := max 1 (s.rd Reg.FAB_ECN_CTL_RESTORE_US) * 1000
    ((s.now.toNat % every ≠ 0 ∨ s.now = s.noc.restoredAt) → exec .elasticRateRestore s = .next s) ∧
    (s.now.toNat % every = 0 → s.now ≠ s.noc.restoredAt → Canonical 65536 s.noc.rates → ∃ u : State, exec .elasticRateRestore s = .next u ∧
      (∀ ep, u.rate ep = min (s.rate ep + s.rd Reg.FAB_ECN_CTL_RESTORE_STEP * 1024) 65536) ∧ u.noc.restoredAt = s.now ∧
      u = { s with noc := { s.noc with rates := u.noc.rates, restoredAt := s.now } }))

/-- R198, R201, R202. -/
def Obligations.RouteDirectoryIsWrittenAndSwapped : Prop :=
  (∀ (c : Cmd) (s : State), specRdirWrite.check c s = St.OK → let j := specRdirWrite.job c s
    let b := specRdirWrite.begun c s
    (¬ (1 ≤ c.fld 8 4 ∧ c.fld 8 4 ≤ 65536 ∧ c.fld 0 8 % 64 = 0) → exec (.rdirWrite c) s = .next (b.complete j St.CMD_FORMAT)) ∧
    (1 ≤ c.fld 8 4 ∧ c.fld 8 4 ≤ 65536 ∧ c.fld 0 8 % 64 = 0 →
      (s.noc.upd.isSome = true ∨ s.noc.swapJob.isSome = true → exec (.rdirWrite c) s = .next (b.complete j St.RDIR_BUSY)) ∧
      (∀ bad, s.noc.upd = none → s.noc.swapJob = none → s.dmaFail c.fn (c.fld 0 8) (8 * c.fld 8 4) = some bad →
        exec (.rdirWrite c) s = .next (b.completeD j St.DMA_ERROR bad 0)) ∧
      (s.noc.upd = none → s.noc.swapJob = none → s.dmaFail c.fn (c.fld 0 8) (8 * c.fld 8 4) = none →
        let es := (List.range (c.fld 8 4)).map (fun i => BitVec.ofNat 64 (leAt (s.hostRead (c.fld 0 8) (8 * c.fld 8 4)) (8 * i) 8))
        let r := bankApply (c.fld 12 1 % 2 = 1) es 0 s.shadowBank
        ∃ u : State, exec (.rdirWrite c) s = .next u ∧ u.shadowBank = r.1 ∧ u.activeBank = s.activeBank ∧
          u.noc.upd = some ⟨s.nextJob, if r.2.isSome then St.RDIR_SET_FULL else St.OK, r.2.getD 0⟩ ∧
          u = { b with noc := u.noc, csr := u.csr } ∧ RegsBut [Reg.FAB_RDIR_STAT_SHADOW_USED] s u))) ∧
  (∀ (c : Cmd) (s : State), specRdirCopy.check c s = St.OK → let j := specRdirCopy.job c s
    let b := specRdirCopy.begun c s
    (s.noc.upd.isSome = true ∨ s.noc.swapJob.isSome = true → exec (.rdirCopy c) s = .next (b.complete j St.RDIR_BUSY)) ∧
    (s.noc.upd = none → s.noc.swapJob = none → ∃ u : State, exec (.rdirCopy c) s = .next u ∧ u.shadowBank = s.activeBank ∧
      u.activeBank = s.activeBank ∧ u.noc.upd = some ⟨s.nextJob, St.OK, 0⟩ ∧ u = { b with noc := u.noc, csr := u.csr } ∧
      RegsBut [Reg.FAB_RDIR_STAT_SHADOW_USED] s u)) ∧
  (∀ (c : Cmd) (s : State), specRdirSwap.check c s = St.OK → let j := specRdirSwap.job c s
    let b := specRdirSwap.begun c s
    let a := BitVec.ofNat 64 (c.fld 0 8)
    (a = 0 → s.noc.swapJob = none → exec (.rdirSwap c) s = .next (b.complete j St.OK)) ∧
    (∀ k, a = 0 → s.noc.swapJob = some k → ∃ u : State, exec (.rdirSwap c) s = .next (u.complete j St.OK) ∧ u.noc.swapJob = none ∧
      u.activeBank = s.activeBank ∧ u.shadowBank = s.shadowBank ∧ ∀ x ∈ u.jobs, x.id ≠ k) ∧
    (a ≠ 0 → (s.noc.swapJob.isSome = true ∨ s.noc.upd.isSome = true) → exec (.rdirSwap c) s = .next (b.complete j St.RDIR_BUSY)) ∧
    (a ≠ 0 → s.noc.swapJob = none → s.noc.upd = none → stDiff s.now a < 1000 →
      exec (.rdirSwap c) s = .next (b.complete j St.RDIR_SWAP_TOO_SOON)) ∧
    (a ≠ 0 → s.noc.swapJob = none → s.noc.upd = none → 1000 ≤ stDiff s.now a → ∃ u : State, exec (.rdirSwap c) s = .next u ∧
      u.noc = { s.noc with swapJob := some s.nextJob } ∧ u.bit Reg.FAB_RDIR_STAT_SWAP_ARMED = true ∧
      u.bit Reg.FAB_RDIR_STAT_SHADOW_LOCKED = true ∧ u.rd Reg.FAB_RDIR_SWAP_AT_STITCH = c.fld 0 8 ∧ u = { b with noc := u.noc, csr := u.csr } ∧
      RegsBut [Reg.FAB_RDIR_STAT_SWAP_ARMED, Reg.FAB_RDIR_STAT_SHADOW_LOCKED, Reg.FAB_RDIR_SWAP_AT_STITCH] s u)) ∧
  (∀ s : State, (s.noc.upd = none → exec .rdirUpdateDone s = .next s) ∧
    (∀ x, s.noc.upd = some x → ∃ u : State, exec .rdirUpdateDone s = .next u ∧ u.noc.upd = none ∧ u.noc.bank0 = s.noc.bank0 ∧
      u.noc.bank1 = s.noc.bank1 ∧ ∀ j ∈ u.jobs, j.id ≠ x.job)) ∧
  (∀ s : State,
    (s.noc.swapJob = none ∨ s.inTurn Ev.bankSwap = false ∨ reached s.now (BitVec.ofNat 64 (s.rd Reg.FAB_RDIR_SWAP_AT_STITCH)) = false →
      exec .routeDirectoryBankSwap s = .next s) ∧
    (∀ k, s.noc.swapJob = some k → s.inTurn Ev.bankSwap = true → reached s.now (BitVec.ofNat 64 (s.rd Reg.FAB_RDIR_SWAP_AT_STITCH)) = true →
      s.rd Reg.FAB_RDIR_STAT_ACTIVE < 2 → ∃ u : State,
      exec .routeDirectoryBankSwap s = .next u ∧ u.activeBank = s.shadowBank ∧ u.shadowBank = s.activeBank ∧ u.noc.swapJob = none ∧
      u.bit Reg.FAB_RDIR_STAT_SWAP_ARMED = false ∧ u.bit Reg.FAB_RDIR_STAT_SHADOW_LOCKED = false ∧ ∀ x ∈ u.jobs, x.id ≠ k))

/-- R211, R219 to R225, R234. -/
def Obligations.FlitsAreAcceptedInOrder : Prop :=
  (∀ (s : State) (n : Nat) (f : Flit),
    (s.portUp n = false ∨ (s.lst n ≠ LS.active ∧ s.lst n ≠ LS.seamed ∧ s.phase n ≠ some 1) → exec (.flitReceive n f) s = .next s) ∧
    (s.portUp n = true → s.lst n = LS.seamed → (s.seamPartner n = none → exec (.flitReceive n f) s = .next s) ∧
      (∀ m, s.seamPartner n = some m → exec (.flitReceive n f) s = .next (s.emit (.flit m (seamBytes f))))) ∧
    (s.portUp n = true → s.phase n = some 1 → ∃ u : State, exec (.flitReceive n f) s = .next u ∧
      u.port n = { s.port n with uncorr := (u.port n).uncorr } ∧ (∀ m, m ≠ n → u.port m = s.port m) ∧ u = { s with ports := u.ports, csr := u.csr } ∧
      RegsBut ([Reg.LNK_ERR_CRC n, Reg.LNK_ERR_UNCORR n, Reg.LNK_FEC_CORR n, Reg.LNK_FEC_OVF n] ++
        (List.range 8).map (Reg.LNK_LANE_SYM_ERR n)) s u ∧
      (f.corrupt = true → f.uncorr = false → u.rd (Reg.LNK_ERR_CRC n) = min (s.rd (Reg.LNK_ERR_CRC n) + 1) (2 ^ (Reg.LNK_ERR_CRC n).w - 1)) ∧
      (f.uncorr = true → u.rd (Reg.LNK_ERR_UNCORR n) = min (s.rd (Reg.LNK_ERR_UNCORR n) + f.cws) (2 ^ (Reg.LNK_ERR_UNCORR n).w - 1))) ∧
    (s.portUp n = true → s.lst n = LS.active →
      (f.corr ≠ [] → ∃ u : State, exec (.flitReceive n f) s = .next u ∧
        u.rd (Reg.LNK_FEC_CORR n) = (s.rd (Reg.LNK_FEC_CORR n) + 1) % 2 ^ (Reg.LNK_FEC_CORR n).w) ∧
      (f.corrupt = true ∨ f.uncorr = true ∨ f.ftype = 3 ∨ (f.ftype = 0 ∧ f.vl = 3) → ∃ u : State, exec (.flitReceive n f) s = .next u ∧
        (u.port n).expect = (s.port n).expect ∧ (u.port n).rx0 = (s.port n).rx0 ∧ (u.port n).rx1 = (s.port n).rx1 ∧
        (u.port n).rx2 = (s.port n).rx2 ∧ (u.port n).replay = (s.port n).replay ∧
        (f.uncorr = false → u.rd (Reg.LNK_ERR_CRC n) = min (s.rd (Reg.LNK_ERR_CRC n) + 1) (2 ^ (Reg.LNK_ERR_CRC n).w - 1)) ∧
        (f.uncorr = true → u.rd (Reg.LNK_ERR_UNCORR n) = min (s.rd (Reg.LNK_ERR_UNCORR n) + f.cws) (2 ^ (Reg.LNK_ERR_UNCORR n).w - 1)) ∧
        (f.ftype = 0 → u.lst n = LS.active ∨ f.uncorr = false → (u.port n).episode = true)) ∧
      (f.corrupt = false → f.uncorr = false → f.ftype = 0 → f.vl ≠ 3 → f.nak = false →
        let l := (s.port n).rx f.vl.toNat ++ flitUnits f
        let pair := if s.bit Reg.FAB_NOC_CTL_COMB_DIS then none else joinPair (rxPackets l.length 0 l)
        (f.fseq.toNat = (s.port n).expect → flitsHeld ((s.port n).rx f.vl.toNat) < vlBuffers f.vl.toNat →
          ∃ u : State, exec (.flitReceive n f) s = .next u ∧ (u.port n).expect = ((s.port n).expect + 1) % 4096 ∧
            (∀ v, v < 3 → v ≠ f.vl.toNat → (u.port n).rx v = (s.port n).rx v) ∧ (u.port n).episode = false ∧ (u.port n).nakOut = false ∧
            (u.port n).replay = unacked f.ack.toNat (s.port n).replay ∧ u.lst n = LS.active ∧
            u = { s with ports := u.ports, csr := u.csr, noc := u.noc } ∧ (∀ m, m ≠ n → u.port m = s.port m) ∧
            RegsBut ([Reg.LNK_PCRED_REPLAY n, Reg.LNK_PCRED_VL0 n, Reg.LNK_PCRED_VL1 n, Reg.LNK_PCRED_VL2 n, Reg.LNK_RXFLITS_COUNT n,
              Reg.LNK_RXFLITS_OVF n, Reg.LNK_FEC_CORR n, Reg.LNK_FEC_OVF n, Reg.FAB_NOC_COMB_COUNT, Reg.FAB_NOC_COMB_OVF] ++
              (List.range 8).map (Reg.LNK_LANE_SYM_ERR n)) s u ∧
            (pair = none → (u.port n).rx f.vl.toNat = l ∧ u.noc = s.noc ∧ u.rd Reg.FAB_NOC_COMB_COUNT = s.rd Reg.FAB_NOC_COMB_COUNT) ∧
            (pair ≠ none → u.rd Reg.FAB_NOC_COMB_COUNT ≠ s.rd Reg.FAB_NOC_COMB_COUNT)) ∧
        (f.fseq.toNat = (s.port n).expect → vlBuffers f.vl.toNat ≤ flitsHeld ((s.port n).rx f.vl.toNat) →
          ∃ u : State, exec (.flitReceive n f) s = .next u ∧ (u.port n).expect = (s.port n).expect ∧ u.newest.code = St.CREDIT_VIOLATION ∧
            (∀ v, v < 3 → (u.port n).rx v = (s.port n).rx v) ∧ (u.port n).episode = true ∧
            u.rd (Reg.LNK_ERR_CREDIT n) = min (s.rd (Reg.LNK_ERR_CREDIT n) + 1) (2 ^ (Reg.LNK_ERR_CREDIT n).w - 1)) ∧
        (f.fseq.toNat ≠ (s.port n).expect → ∃ u : State, exec (.flitReceive n f) s = .next u ∧ (u.port n).expect = (s.port n).expect ∧
          (u.port n).rx0 = (s.port n).rx0 ∧ (u.port n).rx1 = (s.port n).rx1 ∧ (u.port n).rx2 = (s.port n).rx2 ∧ (u.port n).episode = true ∧
          ((s.port n).episode = true → (u.port n).nakOut = (s.port n).nakOut) ∧
          ((s.port n).episode = false → (u.port n).nakOut = true ∧ (u.port n).naksSent = (s.port n).naksSent + 1 ∧
            u.lst n = (if s.rd Reg.LNK_CTL_NAK_LIMIT ≤ (s.port n).naksSent + 1 then LS.retrain else LS.active)))))) ∧
  (∀ (s : State) (n : Nat), (s.lst n ≠ LS.active ∨ (s.port n).nakIn = false → exec (.replayStart n) s = .next s) ∧
    (s.lst n = LS.active → (s.port n).nakIn = true → ∃ u : State, exec (.replayStart n) s = .next u ∧
      u.port n = { s.port n with nakIn := false, replayAt := if (s.port n).replay = [] then none else some 0 } ∧
      (∀ m, m ≠ n → u.port m = s.port m) ∧ u = { s with ports := u.ports, csr := u.csr } ∧ RegsBut [Reg.LNK_ERR_REPLAY n] s u)) ∧
  (∀ (s : State) (n : Nat), n < 24 → let due : Bool := s.lst n = LS.active && (s.port n).episode && s.lasted (s.port n).nakAt (2 * s.rd (Reg.LNK_PRTT_RTT_NS n))
    (due = false → exec (.nakRepeat n) s = .next s) ∧
    (due = true → ∃ u : State, exec (.nakRepeat n) s = .next u ∧ (u.port n).nakOut = true ∧ (u.port n).nakAt = s.now ∧
      (u.port n).rx0 = (s.port n).rx0 ∧ (u.port n).replay = (s.port n).replay ∧
      (if s.rd Reg.LNK_CTL_NAK_LIMIT ≤ (s.port n).naksSent + 1 then u.lst n = LS.retrain ∧ u.rd (Reg.LNK_PSTAT_LAST_CAUSE n) = 1
       else u.csr = s.csr))) ∧
  (∀ (s : State) (n : Nat), n < 24 → ∀ e ∈ ([(Instr.signalLoss n, 2), (Instr.downNotice n, 5)] : List (Instr × Nat)),
    (s.lst n ≠ LS.active → exec e.1 s = .next s) ∧
    (s.lst n = LS.active → ∃ u : State, exec e.1 s = .next u ∧ u.lst n = LS.retrain ∧ u.rd (Reg.LNK_PSTAT_LAST_CAUSE n) = e.2 ∧
      (u.port n).retrainAt = s.now ∧ (u.port n).held = (s.port n).held ∧ (u.port n).replay = (s.port n).replay ∧ (u.port n).checked = false ∧
      (∀ m, m ≠ n → u.port m = s.port m) ∧ u = { s with ports := u.ports, csr := u.csr, fab := u.fab, power := u.power } ∧
      ((s.port n).checked = true → u.fab = { s.fab with checkAt := s.now }) ∧ (s.domOn (domOfPort n) = true → u.power = s.power) ∧
      RegsBut [Reg.LNK_PSTAT_STATE n, Reg.LNK_PSTAT_LAST_CAUSE n, Reg.LNK_ERR_RETRAIN n, Reg.FAB_PORTMAP_MISWIRED n] s u))

/-- R216, R217, R225 to R230. -/
def Obligations.PortsTrainAndFall : Prop :=
  (∀ (s : State) (n : Nat) (l i : BitVec 8) (x4 : Bool),
    let half : Bool := (l &&& 0x0F == 0x0F || l &&& 0xF0 == 0xF0) && s.part.a1 && s.bit Reg.LNK_CTL_X4_EN && x4
    (s.portUp n = false ∨ s.phase n ≠ some 2 → exec (.linkElecAdapted n l i x4) s = .next s) ∧
    (s.portUp n = true → s.phase n = some 2 → ∃ u : State, exec (.linkElecAdapted n l i x4) s = .next u ∧
      (∀ k, k < 8 → u.rd (Reg.LNK_LANE_FAILED n k) = (if l.getLsbD k then 0 else 1) ∧
        u.rd (Reg.LNK_LANE_INVERTED n k) = (if i.getLsbD k then 1 else 0)) ∧
      (l = 0xFF → u.bit (Reg.LNK_PSTAT_WIDTH n) = false) ∧
      (l ≠ 0xFF → half = true → u.bit (Reg.LNK_PSTAT_WIDTH n) = true ∧ u.newest.code = St.LINK_DEGRADED) ∧
      (l = 0xFF ∨ half = true → if s.lst n = LS.elec then u.lst n = LS.align else u.lst n = s.lst n ∧ (u.port n).sub = 0) ∧
      (l ≠ 0xFF → half = false → u.lst n = s.lst n ∧ u.port n = s.port n))) ∧
  (∀ (s : State) (n : Nat) (o : BitVec 24),
    (s.portUp n = false ∨ s.phase n ≠ some 0 → exec (.linkAlignLocked n o) s = .next s) ∧
    (s.portUp n = true → s.phase n = some 0 → ∃ u : State, exec (.linkAlignLocked n o) s = .next u ∧
      (o = straightOrder ∨ o = reversedOrder → u.rd (Reg.LNK_PSTAT_REVERSED n) = (if o = reversedOrder then 1 else 0) ∧
        u.rd (Reg.LNK_PRTT_RTT_NS n) = 0 ∧ (u.port n).sentDone = false ∧ (u.port n).recvDone = false ∧
        if s.lst n = LS.align then u.lst n = LS.param else u.lst n = s.lst n ∧ (u.port n).sub = 1) ∧
      (o ≠ straightOrder → o ≠ reversedOrder → u.lst n = LS.down ∧ u.newest.code = St.LINK_LANE_MAP ∧ (u.port n).retryAt = s.now))) ∧
  (∀ (s : State) (n : Nat) (f : TrainFlit),
    (s.portUp n = false ∨ (s.phase n ≠ some 1 ∧ (f.retrain = false ∨ s.lst n ≠ LS.active)) → exec (.trainFlit n f) s = .next s) ∧
    (s.portUp n = true → f.retrain = true → s.lst n = LS.active → ∃ u : State, exec (.trainFlit n f) s = .next u ∧ u.lst n = LS.retrain ∧
      u.rd (Reg.LNK_PSTAT_LAST_CAUSE n) = 5) ∧
    (s.portUp n = true → s.phase n = some 1 → ∃ u : State, exec (.trainFlit n f) s = .next u ∧
      u.rd (Reg.LNK_PCRED_VL0 n) = min f.cr0.toNat 511 ∧ u.rd (Reg.LNK_PCRED_VL1 n) = min f.cr1.toNat 511 ∧
      u.rd (Reg.LNK_PCRED_VL2 n) = min f.cr2.toNat 127 ∧ (u.port n).heard = true ∧ (u.port n).recvDone = ((s.port n).recvDone || f.done) ∧
      (u.port n).echoOwed = f.probe ∧
      (∀ e, f.echo = some e →
        let old := s.rd (Reg.LNK_PRTT_RTT_NS n)
        let rtt := if old = 0 then s.roundTrip e else min old (s.roundTrip e)
        u.rd (Reg.LNK_PRTT_RTT_NS n) = rtt % 2 ^ (Reg.LNK_PRTT_RTT_NS n).w ∧
          u.bit (Reg.LNK_PSTAT_RATE_OK n) = decide (rtt ≤ (if s.bit (Reg.LNK_PSTAT_WIDTH n) then 480 else 240))) ∧
      (f.echo = none → u.rd (Reg.LNK_PRTT_RTT_NS n) = s.rd (Reg.LNK_PRTT_RTT_NS n)) ∧ u.lst n = s.lst n ∧
      (u.port n).replay = (if s.lst n = LS.retrain then unacked ((f.expect.toNat + 4095) % 4096) (s.port n).replay else (s.port n).replay) ∧
      u = { s with ports := u.ports, csr := u.csr } ∧ (∀ m, m ≠ n → u.port m = s.port m))) ∧
  (∀ (s : State) (n : Nat),
    (s.portUp n = false ∨ s.phase n ≠ some 1 ∨ (s.port n).sentDone = false ∨ (s.port n).recvDone = false →
      exec (.linkParamDone n) s = .next s) ∧
    (s.portUp n = true → s.phase n = some 1 → (s.port n).sentDone = true → (s.port n).recvDone = true →
      ∃ u : State, exec (.linkParamDone n) s = .next u ∧ u.lst n = LS.active ∧ (u.port n).replay = (s.port n).replay ∧
        (s.lst n = LS.retrain → (u.port n).replayAt = if (s.port n).replay = [] then none else some 0) ∧ (u.port n).retry = false ∧
        (u.port n).dropLogged = false ∧ u.fab.firstActive.isSome = true ∧
        u = { s with ports := u.ports, csr := u.csr, fab := { s.fab with firstActive := u.fab.firstActive } } ∧
        (∀ m, m ≠ n → u.port m = s.port m) ∧ RegsBut [Reg.LNK_PSTAT_STATE n] s u)) ∧
  (∀ (s : State) (n : Nat), s.portPresent n = true → let x := s.port n
    (s.lst n = LS.elec ∨ s.lst n = LS.align ∨ s.lst n = LS.param →
      (s.lasted x.stateAt (trainLimit (s.lst n)) = true → ∃ u : State, exec (.linkTrainTimeout n) s = .next u ∧ u.lst n = LS.down ∧
        u.newest.code = St.LINK_TRAIN_FAIL ∧ (u.port n).held = 0 ∧ (u.port n).retryAt = s.now) ∧
      (s.lasted x.stateAt (trainLimit (s.lst n)) = false → exec (.linkTrainTimeout n) s = .next s)) ∧
    (s.lst n = LS.retrain →
      (x.sub = 0 → s.lasted x.stateAt (trainLimit LS.align) = true → ∃ u : State, exec (.linkTrainTimeout n) s = .next u ∧
        u.port n = { x with sub := 2, stateAt := s.now } ∧ u = { s with ports := u.ports }) ∧
      (x.sub ≠ 0 ∨ s.lasted x.stateAt (trainLimit LS.align) = false → exec (.linkTrainTimeout n) s = .next s) ∧
      (s.lasted x.retrainAt 100000000 = true → ∃ u : State, exec (.retrainTimeout n) s = .next u ∧ u.lst n = LS.down ∧
        u.newest.code = St.LINK_DOWN ∧ (u.port n).held = 0 ∧ (u.port n).replay = [] ∧ (u.port n).retryAt = s.now ∧
        u.rd (Reg.LNK_DROP_PACKETS n) = min (s.rd (Reg.LNK_DROP_PACKETS n) + x.held +
          (s.noc.flights.filter (fun f => f.loc = Loc.egress n)).length) (2 ^ (Reg.LNK_DROP_PACKETS n).w - 1) ∧
        u.noc.flights = s.noc.flights.filter (fun f => f.loc ≠ Loc.egress n && f.loc ≠ Loc.ingress n) ∧ u.tiles = s.tiles ∧ u.bobs = s.bobs ∧
        (∀ m, m ≠ n → u.port m = s.port m)) ∧
      (s.lasted x.retrainAt 100000000 = false → exec (.retrainTimeout n) s = .next s)) ∧
    (s.lst n = LS.down →
      (x.retry = true → s.lasted x.stateAt (trainLimit (if x.sub = 0 then LS.align else if x.sub = 1 then LS.param else LS.elec)) = true →
        ∃ u : State, exec (.linkTrainTimeout n) s = .next u ∧ u.port n = { x with retry := false } ∧ u = { s with ports := u.ports }) ∧
      (x.retry = false → exec (.linkTrainTimeout n) s = .next s) ∧
      (x.retry = false → s.lasted x.retryAt (max 1 (s.rd Reg.LNK_CTL_RETRY_MS) * 1000000) = true → ∃ u : State,
        exec (.downRetry n) s = .next u ∧ u.lst n = LS.down ∧ u.phase n = some 2 ∧ (u.port n).stateAt = s.now ∧ (u.port n).retryAt = s.now ∧
        (∀ m, m ≠ n → u.port m = s.port m) ∧ u = { s with ports := u.ports, power := u.power } ∧
        (if s.domOn (domOfPort n) then u.power = s.power else (sget none u.power.waking (domOfPort n)).isSome = true)) ∧
      (x.retry = true ∨ s.lasted x.retryAt (max 1 (s.rd Reg.LNK_CTL_RETRY_MS) * 1000000) = false → exec (.downRetry n) s = .next s)) ∧
    (s.lst n ≠ LS.retrain → exec (.retrainTimeout n) s = .next s) ∧ (s.lst n ≠ LS.down → exec (.downRetry n) s = .next s))

/-- R35, R209, R211, R218 to R224, R229, R231, R232, R234, R237, R250. -/
def Obligations.PortsSendFlitsAndPassPackets : Prop :=
  (∀ (s : State) (n : Nat), let x := s.port n
    let mark := if x.flitInPair = 0 then [Out.marker n x.pair] else []
    (s.portUp n = false ∨ (s.lst n ≠ LS.active ∧ s.phase n ≠ some 0 ∧ s.phase n ≠ some 1) → exec (.linkCycle n) s = .next s) ∧
    (s.portUp n = true → s.lst n = LS.active →
      (∀ c r, x.ctrlOut = c :: r → ∃ u : State, exec (.linkCycle n) s = .next u ∧ (u.port n).ctrlOut = r ∧
        (u.port n).replay = x.replay ∧ (u.port n).next = x.next ∧ u.csr = (s.takeEgress n).csr ∧ u.tiles = s.tiles ∧
        (∃ b, u.out = s.out ++ mark ++ [Out.flit n b]) ∧
        (c = [1] → (u.port n).tseq = (x.tseq + 1) % 65536 ∧ (u.port n).txStamps.getLast? = some ((u.port n).tseq, (u.port n).pairAt)) ∧
        (c ≠ [1] → (u.port n).tseq = x.tseq ∧ (u.port n).txStamps = x.txStamps) ∧
        (u.port n).pairAt = (if x.flitInPair = 0 then s.stamp else x.pairAt)) ∧
      (∀ v, x.ctrlOut = [] → x.replayAt = none → x.replay.length < 512 → (s.takeEgress n).pickVl n = some v →
        ∃ (u : State) (f : Flit), exec (.linkCycle n) s = .next u ∧ f.ftype = 0 ∧ f.vl = BitVec.ofNat 2 v ∧
          f.fseq = BitVec.ofNat 12 x.next ∧ (u.port n).replay = x.replay ++ [f] ∧
          (u.port n).next = (x.next + 1) % 4096 ∧ u.rd (credFld n v) = (s.rd (credFld n v) - 1) % 2 ^ (credFld n v).w ∧
          u.tiles = s.tiles ∧ u.bobs = s.bobs ∧ ∃ b, u.out = s.out ++ mark ++ [Out.flit n b])) ∧
    (s.portUp n = true → s.phase n = some 1 → ∃ (u : State) (g : Flit), exec (.linkCycle n) s = .next u ∧
      u.out = s.out ++ mark ++ [Out.flit n (flitBytes g)] ∧ g.ftype = 2 ∧
      g.body = trainBytes (s.bit (Reg.LNK_PSTAT_WIDTH n)) (s.trainOut n) ∧
      (u.port n).sentDone = (x.sentDone || (s.trainOut n).done) ∧ (u.port n).echoOwed = none ∧
      (u.port n).flitInPair = (x.flitInPair + 1) % 5 ∧ (u.port n).pair = (if x.flitInPair = 4 then (x.pair + 1) % 65536 else x.pair) ∧
      (s.rd Reg.DEV_BOOT_STAT_STAGE ≠ 5 → (s.trainOut n).cr0 = 0 ∧ (s.trainOut n).cr1 = 0) ∧ u = { s with ports := u.ports, out := u.out }) ∧
    (s.portUp n = true → s.phase n = some 0 → ∃ (u : State) (g : Flit), exec (.linkCycle n) s = .next u ∧
      u.out = s.out ++ mark ++ [Out.flit n (flitBytes g)] ∧ g.ftype = 1 ∧ u = { s with ports := u.ports, out := u.out })) ∧
  (∀ (s : State) (n v : Nat), (s.portUp n = false ∨ 3 ≤ v ∨ s.clk.inWindow = true → exec (.linkPacketIngress n v) s = .next s) ∧
    (s.portUp n = true → v < 3 → s.clk.inWindow = false →
      let y := (s.port n).takeFront v 0
      (s.waitingIn n v = none → frontPacket (y.rx v) = none → exec (.linkPacketIngress n v) s = .next (s.setPort n y)) ∧
      (∀ p k, s.waitingIn n v = none → frontPacket (y.rx v) = some (p, k) → p.bad = true →
        ∃ u : State, exec (.linkPacketIngress n v) s = .next u ∧ u.rd Reg.FAB_NOC_LASTERR_CODE = St.NOC_INTEGRITY.toNat ∧ u.noc = s.noc ∧
          u.port n = y.takeFront v k) ∧
      (∀ p k, s.waitingIn n v = none → frontPacket (y.rx v) = some (p, k) → p.bad = false → s.loaderIn n p = none →
        ∃ u : State, exec (.linkPacketIngress n v) s = .next u ∧ u.newest.code = St.LOADER_CLASS ∧ u.noc = s.noc ∧ u.port n = y.takeFront v k ∧
          u.rd Reg.FAB_DROP_LOADER = min (s.rd Reg.FAB_DROP_LOADER + 1) (2 ^ Reg.FAB_DROP_LOADER.w - 1)) ∧
      (∀ p k q, s.waitingIn n v = none → frontPacket (y.rx v) = some (p, k) → p.bad = false → s.loaderIn n p = some q →
        q.vl = v → (s.presentPacket n v).noc.flights = s.noc.flights ++
            [{ pkt := q, loc := .ingress n, since := s.clk.edge, busy := y.frontHold v }] ∧
          exec (.linkPacketIngress n v) s = exec (.linkPacketIngress n v) (s.presentPacket n v)) ∧
      (∀ i f w k, s.waitingIn n v = some (i, f) → frontPacket ((s.port n).rx v) = some (w, k) →
        (s.clk.edge < f.busy → exec (.linkPacketIngress n v) s = .next s) ∧
        (∀ p out, f.busy ≤ s.clk.edge → s.egress f.pkt = .go p out →
          let g := { f with pkt := p, out := out }
          let l := s.entryLoc g (s.attachPos n)
          (s.limHolds n p = true ∨ s.granted i f l 3 = false → exec (.linkPacketIngress n v) s = .next s) ∧
          (s.limHolds n p = false → s.granted i f l 3 = true → p.op ≠ POp.sadd → ∃ (u : State) (h : Flight),
            exec (.linkPacketIngress n v) s = .next u ∧ u.noc.flights[i]? = some h ∧ h.loc = l ∧ h.out = out ∧ h.pkt.payload = p.payload ∧
            (u.port n).rx v = skipPad (((s.port n).rx v).drop k) ∧
            (u.port n).owe v = (s.port n).owe v + (flitsHeld ((s.port n).rx v) - flitsHeld (skipPad (((s.port n).rx v).drop k))) ∧
            ∀ m, m ≠ i → u.noc.flights[m]? = s.noc.flights[m]?))))) ∧
  (∀ (s : State) (n : Nat) (bad : Bool), (s.portPresent n = true ∧ s.lst n = LS.seamed ∧ bad = true → ∃ u : State,
      exec (.seamPassiveMonitor n bad) s = .next u ∧ u.rd (Reg.LNK_ERR_UNCORR n) = min (s.rd (Reg.LNK_ERR_UNCORR n) + 1) (2 ^ (Reg.LNK_ERR_UNCORR n).w - 1) ∧
      u = { s with csr := u.csr } ∧ RegsBut [Reg.LNK_ERR_UNCORR n] s u) ∧
    (¬ (s.portPresent n = true ∧ s.lst n = LS.seamed ∧ bad = true) → exec (.seamPassiveMonitor n bad) s = .next s)) ∧
  (∀ (s : State) (n : Nat), n < 24 → let x := s.port n
    (x.offline = false ∨ (s.lst n ≠ LS.active ∧ s.lst n ≠ LS.down) ∨ (s.lst n = LS.active ∧ (x.sentAll = false ∨ s.portDrained n = false)) →
      exec (.portOfflineDone n) s = .next s) ∧
    (x.offline = true → (s.lst n = LS.active ∧ x.sentAll = true ∧ s.portDrained n = true) ∨ s.lst n = LS.down →
      ∃ u : State, exec (.portOfflineDone n) s = .next u ∧ u.lst n = LS.off ∧ (u.port n).offline = false ∧ (u.port n).offJobs = [] ∧
        (u.port n).held = 0 ∧ ∀ j ∈ u.jobs, j.id ∉ x.offJobs))

/-- R225, R226, R231, R234, R235. -/
def Obligations.PortsAndSeamsByCommand : Prop :=
  (∀ (c : Cmd) (s : State), specPortSet.check c s = St.OK →
    let j := specPortSet.job c s
    let b := specPortSet.begun c s
    let n := c.fld 0 1
    let m := c.fld 1 1
    (4 ≤ m → exec (.portSet c) s = .next (b.complete j St.CMD_FORMAT)) ∧
    (m < 4 → s.lst n = LS.seamed → exec (.portSet c) s = .next (b.complete j St.PORT_SEAMED)) ∧
    (m = 0 → s.lst n ≠ LS.seamed → ∃ u : State, exec (.portSet c) s = .next (u.complete j St.OK) ∧ u.lst n = LS.off ∧ (u.port n).held = 0 ∧
      (u.port n).replay = [] ∧ u.rd (Reg.LNK_PCTL_MODE n) = 0 ∧ (∀ k, k ≠ n → u.port k = s.port k) ∧
      ∀ k ∈ u.jobs, k.id ∉ (s.port n).offJobs) ∧
    (m = 1 → s.lst n ≠ LS.seamed → ∃ u : State, exec (.portSet c) s = .next (u.complete j St.OK) ∧ u.rd (Reg.LNK_PCTL_MODE n) = 1 ∧
      u.lst n = (if s.lst n = LS.off then LS.elec else s.lst n) ∧ u = { b with csr := u.csr, ports := u.ports, power := u.power } ∧
      RegsBut [Reg.LNK_PCTL_MODE n, Reg.LNK_PSTAT_STATE n] s u ∧ (s.lst n ≠ LS.off → u.ports = s.ports ∧ u.power = s.power) ∧
      (s.lst n = LS.off → (u.port n).held = 0 ∧
        (if s.domOn (domOfPort n) then u.power = s.power else (sget none u.power.waking (domOfPort n)).isSome = true))) ∧
    (m = 2 → s.lst n = LS.active ∨ s.lst n = LS.retrain → ∃ u : State, exec (.portSet c) s = .next u ∧
      u.port n = { s.port n with offline := true, offJobs := (s.port n).offJobs ++ [s.nextJob] } ∧ u.jobs = s.jobs ++ [j] ∧ u.rd (Reg.LNK_PCTL_MODE n) = 2 ∧
      u = { b with csr := u.csr, ports := u.ports } ∧ RegsBut [Reg.LNK_PCTL_MODE n] s u) ∧
    (m = 2 → s.lst n ≠ LS.active → s.lst n ≠ LS.retrain → s.lst n ≠ LS.seamed → ∃ u : State,
      exec (.portSet c) s = .next (u.complete j St.OK) ∧ u.lst n = LS.off ∧ (u.port n).offJobs = [] ∧
      ∀ k ∈ u.jobs, k.id ∉ (s.port n).offJobs) ∧
    (m = 3 → s.lst n ≠ LS.seamed → ∃ u : State, exec (.portSet c) s = .next (u.complete j St.OK) ∧
      u.lst n = (if s.lst n = LS.active then LS.retrain else s.lst n) ∧ (s.lst n = LS.active → u.rd (Reg.LNK_PSTAT_LAST_CAUSE n) = 6) ∧
      u = { b with csr := u.csr, ports := u.ports, fab := u.fab, power := u.power })) ∧
  (∀ (c : Cmd) (s : State), specSeamOpen.check c s = St.OK →
    let j := specSeamOpen.job c s
    let b := specSeamOpen.begun c s
    let p := c.fld 0 1
    let q := c.fld 1 1
    (s.lst p ≠ LS.off ∨ s.lst q ≠ LS.off → exec (.seamOpen c) s = .next (b.complete j St.SEAM_PORT_STATE)) ∧
    (s.lst p = LS.off → s.lst q = LS.off → p = q ∨ p / 4 ≠ q / 4 → exec (.seamOpen c) s = .next (b.complete j St.SEAM_PORTS)) ∧
    (s.lst p = LS.off → s.lst q = LS.off → p ≠ q → p / 4 = q / 4 →
      (2 ≤ s.seamsOf (p / 4) ∨ s.freeSeam = none → exec (.seamOpen c) s = .next (b.complete j St.SEAM_LIMIT)) ∧
      (∀ k, s.seamsOf (p / 4) < 2 → s.freeSeam = some k → ∃ u : State, exec (.seamOpen c) s = .next (u.completeD j St.OK k 0) ∧
        u.bit (Reg.LNK_SEAM_VALID k) = true ∧ u.rd (Reg.LNK_SEAM_PORT_A k) = p ∧ u.rd (Reg.LNK_SEAM_PORT_B k) = q ∧
        u.rd (Reg.LNK_SEAM_JOB k) = c.fld 4 4 ∧ u.lst p = LS.seamed ∧ u.lst q = LS.seamed ∧
        u = { b with csr := u.csr, ports := u.ports, power := u.power }))) ∧
  (∀ (c : Cmd) (s : State), specSeamClose.check c s = St.OK →
    let j := specSeamClose.job c s
    let b := specSeamClose.begun c s
    ((∀ k, k < 12 → s.bit (Reg.LNK_SEAM_VALID k) = true → s.rd (Reg.LNK_SEAM_JOB k) ≠ c.fld 4 4) →
      exec (.seamClose c) s = .next (b.complete j St.SEAM_JOB)) ∧
    (∀ k, k < 12 → s.bit (Reg.LNK_SEAM_VALID k) = true → s.rd (Reg.LNK_SEAM_JOB k) = c.fld 4 4 →
      s.rd (Reg.LNK_SEAM_PORT_A k) < 24 → s.rd (Reg.LNK_SEAM_PORT_B k) < 24 →
      (∀ m, m < 12 → m ≠ k → s.bit (Reg.LNK_SEAM_VALID m) = true → s.rd (Reg.LNK_SEAM_JOB m) ≠ c.fld 4 4) →
      ∃ u : State, exec (.seamClose c) s = .next (u.complete j St.OK) ∧ u.bit (Reg.LNK_SEAM_VALID k) = false ∧
        u.lst (s.rd (Reg.LNK_SEAM_PORT_A k)) = LS.off ∧ u.lst (s.rd (Reg.LNK_SEAM_PORT_B k)) = LS.off ∧
        u = { b with csr := u.csr, ports := u.ports, fab := u.fab }))

/-- R254 to R258, R263. -/
def Obligations.DiscoveryFollowsIdentityFrames : Prop :=
  (∀ (s : State) (n : Nat), let x := s.port n
    let due : Bool := match x.identAt with
      | none => true
      | some t => s.lasted t (max 1 (s.rd Reg.FAB_CTL_IDENT_US) * 1000) || x.lastIdent != s.ident n
    (s.portPresent n = true → s.lst n = LS.active → due = true → ∃ u : State, exec (.identSend n) s = .next u ∧
      (u.port n).ctrlOut = x.ctrlOut ++ [s.ident n] ∧ (u.port n).identAt = some s.now ∧ (∀ m, m ≠ n → u.port m = s.port m) ∧
      u = { s with ports := u.ports }) ∧
    (s.portPresent n = false ∨ s.lst n ≠ LS.active ∨ due = false → exec (.identSend n) s = .next s)) ∧
  (∀ (s : State) (n : Nat) (f : IdentFrame), (s.portPresent n = false ∨ s.lst n ≠ LS.active → exec (.identFrame n f) s = .next s) ∧
    (s.portPresent n = true → s.lst n = LS.active → ∃ u : State, exec (.identFrame n f) s = .next u ∧
      u.rd (Reg.FAB_NBR_COORD n) = f.coord.toNat ∧ u.bit (Reg.FAB_NBR_VALID n) = f.valid ∧ u.rd (Reg.FAB_NBR_ROLE n) = f.role.toNat ∧
      u.rd (Reg.FAB_NBR_SER_SERIAL n) = f.serial.toNat ∧ u.tiles = s.tiles ∧
      (s.adopts f = true → u.rd Reg.FAB_ROOT_SERIAL_SERIAL = f.rootSerial.toNat ∧ u.rd Reg.FAB_STAT_EPOCH = f.epoch.toNat ∧
        u.rd Reg.FAB_STAT_DSTATE = 0 ∧ u.rd Reg.FAB_STAT_HOPS = 0xFF) ∧
      (s.adopts f = false → u.rd Reg.FAB_ROOT_SERIAL_SERIAL = s.rd Reg.FAB_ROOT_SERIAL_SERIAL ∧ u.rd Reg.FAB_STAT_COORD = s.rd Reg.FAB_STAT_COORD ∧
        (∀ r, s.rd Reg.FAB_STAT_DSTATE ≠ 0 → s.role? n = some r → s.bit (Reg.FAB_PORTMAP_MISWIRED n) = false → f.valid = true →
          s.sameRoot f = true →
          (s.passes n r f = true → (u.port n).checked = true ∧ u.bit (Reg.FAB_PORTMAP_MISWIRED n) = false ∧
            u.rd (Reg.FAB_EXPECT_ROLE n) = r % 256) ∧
          (s.passes n r f = false → (u.port n).checked = false ∧ u.bit (Reg.FAB_PORTMAP_MISWIRED n) = true ∧
            u.newest.code = St.FAB_MISWIRE ∧ u.fab.checkAt = s.now)) ∧
        (∀ r, s.rd Reg.FAB_STAT_DSTATE ≠ 0 → s.role? n = some r → r ≠ Role.loader → f.valid = false ∨ s.sameRoot f = false →
          ((s.port n).checked = true → s.bit (Reg.FAB_PORTMAP_MISWIRED n) = false → (u.port n).checked = false ∧
            u.bit (Reg.FAB_PORTMAP_MISWIRED n) = true ∧ u.newest.code = St.FAB_MISWIRE ∧ u.fab.checkAt = s.now) ∧
          ((s.port n).checked = false ∨ s.bit (Reg.FAB_PORTMAP_MISWIRED n) = true → u.ports = s.ports ∧ u.fab = s.fab))))) ∧
  (∀ s : State, ((s.fab.firstActive = none ∨ s.part.rootSel = false ∨ s.fab.strapDone = true ∨
      (∃ t, s.fab.firstActive = some t ∧ s.lasted t 1000000 = false)) → exec .strapRootStart s = .next s) ∧
    (∀ t, s.fab.firstActive = some t → s.part.rootSel = true → s.fab.strapDone = false → s.lasted t 1000000 = true →
      ∃ u : State, exec .strapRootStart s = .next u ∧ u.fab.strapDone = true ∧ u.bit Reg.FAB_CTL_AS_ROOT = true ∧
        u.rd Reg.FAB_STAT_COORD = s.rd Reg.FAB_CTL_ROOT_COORD % 1024 ∧ u.rd Reg.FAB_STAT_HOPS = 0 ∧ u.rd Reg.FAB_STAT_DSTATE = 1 ∧
        u.rd Reg.FAB_STAT_EPOCH = (s.rd Reg.FAB_STAT_EPOCH + 1) % 2 ^ 32 ∧ (s.clk.roleSet = false → u.rd Reg.STI_CTL_ROLE = 1))) ∧
  (∀ s : State, ((s.fab.candAt = none ∨ s.fab.cands = [] ∨ s.rd Reg.FAB_STAT_DSTATE ≠ 0) → exec .coordAssign s = .next s) ∧
    (∀ t c, s.fab.candAt = some t → bestCand s.fab.cands = some c → s.rd Reg.FAB_STAT_DSTATE = 0 →
      (s.lasted t 20000 = false → exec .coordAssign s = .next s) ∧
      (s.lasted t 20000 = true → ∃ u : State, exec .coordAssign s = .next u ∧ u.rd Reg.FAB_STAT_COORD = c.coord % 1024 ∧
        u.rd Reg.FAB_STAT_HOPS = min 255 (c.hops + 1) ∧ u.rd Reg.FAB_STAT_DSTATE = 1 ∧ u.fab.cands = [] ∧ u.fab.checkAt = s.now ∧ u.fab.ldrShut = false ∧
        (∀ p, p < 16 → c.coord ≠ s.coord → s.pst p = PS.running ∨ s.pst p = PS.frozen → u.pst p = PS.faulted)))) ∧
  (∀ s : State, (s.rd Reg.FAB_STAT_DSTATE = 1 → s.lasted s.fab.checkAt 1000000 = true → ∃ u : State,
      exec .discoveryVerified s = .next u ∧ u.rd Reg.FAB_STAT_DSTATE = 2 ∧ u.noc = { s.noc with feidCoord := s.coord } ∧ u.fab.jobs = []) ∧
    (s.rd Reg.FAB_STAT_DSTATE ≠ 1 ∨ s.lasted s.fab.checkAt 1000000 = false → exec .discoveryVerified s = .next s)) ∧
  (∀ s : State, let late : Bool := (match s.fab.rootAt with | some t => s.rd Reg.FAB_STAT_DSTATE == 0 && s.lasted t 10000000 | none => false) ||
      (s.rd Reg.FAB_ROOT_SERIAL_SERIAL == 0 && s.fab.jobs.any (fun j => s.lasted j.2 10000000))
    (late = false → exec .discoveryTimeout s = .next s) ∧
    (late = true → ∃ u : State, exec .discoveryTimeout s = .next u ∧ u.newest.code = St.FAB_DISCOVERY_TIMEOUT ∧ u.fab.jobs = [] ∧
      u.fab.rootAt = none ∧ u.tiles = s.tiles))

/-- R241, R243, R256, R263. -/
def Obligations.FabricCommands : Prop :=
  (∀ (c : Cmd) (s : State), specFabDiscover.check c s = St.OK →
    let j := specFabDiscover.job c s
    let b := specFabDiscover.begun c s
    let bad := 10 < c.fld 0 1 ∨ 2 ^ c.fld 0 1 ≤ c.fld 2 2 ∨ 4 < c.fld 1 1 ∨ c.fld 0 1 < c.fld 1 1
    let busy := ∃ p, p < 16 ∧ (s.pst p = PS.running ∨ s.pst p = PS.frozen)
    (bad → exec (.fabDiscover c) s = .next (b.complete j St.FAB_BAD_PARAM)) ∧
    (¬ bad → busy → exec (.fabDiscover c) s = .next (b.complete j St.FAB_BUSY)) ∧
    (¬ bad → ¬ busy → ∃ u : State, exec (.fabDiscover c) s = .next u ∧ u.jobs = s.jobs ++ [j] ∧ u.rd Reg.FAB_CTL_DIMS = c.fld 0 1 ∧
      u.rd Reg.FAB_CTL_BOARD_DIMS = c.fld 1 1 ∧ u.rd Reg.FAB_CTL_ROOT_COORD = c.fld 2 2 ∧ u.fab.jobs = s.fab.jobs ++ [(s.nextJob, s.now)] ∧
      u.tiles = s.tiles ∧ u.bobs = s.bobs ∧
      (c.fld 4 1 % 2 = 0 → u.rd Reg.FAB_STAT_DSTATE = 0 ∧ u.rd Reg.FAB_ROOT_SERIAL_SERIAL = 0 ∧ u.bit Reg.FAB_CTL_AS_ROOT = false ∧
        u.rd Reg.FAB_STAT_HOPS = 0xFF ∧ (∀ n, n < 24 → s.portPresent n = true → u.inService n = false ∧
          u.rd (Reg.FAB_PORTMAP_MISWIRED n) = s.rd (Reg.FAB_PORTMAP_MISWIRED n))) ∧
      (c.fld 4 1 % 2 = 1 → u.rd Reg.FAB_STAT_DSTATE = 1 ∧ u.bit Reg.FAB_CTL_AS_ROOT = true ∧ u.rd Reg.FAB_STAT_COORD = c.fld 2 2 ∧
        u.rd Reg.FAB_STAT_HOPS = 0 ∧ u.rd Reg.FAB_STAT_EPOCH = (s.rd Reg.FAB_STAT_EPOCH + 1) % 2 ^ 32))) ∧
  (∀ (c : Cmd) (s : State), specFabPortRole.check c s = St.OK →
    let j := specFabPortRole.job c s
    let b := specFabPortRole.begun c s
    let n := c.fld 0 1
    let bad := isRole (c.fld 1 1) = false ∨ 4 ≤ c.fld 2 1 ∨ (∃ k, k < 24 ∧ k ≠ n ∧ s.portPresent k = true ∧
      s.rd (Reg.FAB_PORTMAP_ROLE k) = c.fld 1 1 ∧ s.rd (Reg.FAB_PORTMAP_MEMBER k) = c.fld 2 1)
    (bad → exec (.fabPortRole c) s = .next (b.complete j St.FAB_BAD_PARAM)) ∧
    (¬ bad → s.inService n = true → exec (.fabPortRole c) s = .next (b.complete j St.FAB_BUSY)) ∧
    (¬ bad → s.inService n = false → ∃ u : State, exec (.fabPortRole c) s = .next (u.complete j St.OK) ∧
      u.rd (Reg.FAB_PORTMAP_ROLE n) = c.fld 1 1 ∧ u.rd (Reg.FAB_PORTMAP_MEMBER n) = c.fld 2 1 ∧
      u.port n = { s.port n with checked := false } ∧ (∀ m, m ≠ n → u.port m = s.port m) ∧
      u = { b with csr := u.csr, ports := u.ports, fab := u.fab } ∧
      (if (s.port n).checked then u.fab = { s.fab with checkAt := s.now } else u.fab = s.fab) ∧
      RegsBut [Reg.FAB_PORTMAP_ROLE n, Reg.FAB_PORTMAP_MEMBER n] s u)) ∧
  (∀ (c : Cmd) (s : State), specFabPortService.check c s = St.OK →
    let j := specFabPortService.job c s
    let b := specFabPortService.begun c s
    (2 ≤ c.fld 1 1 → exec (.fabPortService c) s = .next (b.complete j St.FAB_BAD_PARAM)) ∧
    (c.fld 1 1 < 2 → ∃ u : State, exec (.fabPortService c) s = .next (u.complete j St.OK) ∧
      u.rd (Reg.FAB_PORTMAP_REMOVED (c.fld 0 1)) = 1 - c.fld 1 1 ∧ u = { b with csr := u.csr } ∧
      RegsBut [Reg.FAB_PORTMAP_REMOVED (c.fld 0 1)] s u))

/-- R265 to R272, R275, R277, R278. -/
def Obligations.KnotOperationsAtTheHome : Prop :=
  (∀ (s : State) (h : Nat), ∀ e ∈ ([(Instr.signalOp h, 0), (Instr.arrive h, 5), (Instr.waitOp h, 1), (Instr.waitall h, 2), (Instr.broadcast h, 3),
      (Instr.setOp h, 4)] : List (Instr × Nat)),
    (s.homeStopped h = true ∨ s.frontOp h e.2 false = none → exec e.1 s = .next s) ∧
    (∀ o, s.homeStopped h = false → s.frontOp h e.2 false = some o → s.knotOwner o.knot = none → ∃ u : State, exec e.1 s = .next u ∧ LeftHome s u h ∧
      u.newest.code = St.KNOT_NOT_OWNED ∧ u.knots = s.knots ∧ u.panels = s.panels) ∧
    (∀ o p, s.homeStopped h = false → s.frontOp h e.2 false = some o → s.knotOwner o.knot = some p → o.tenant ≠ 0 → o.tenant ≠ s.tenant p →
      ∃ u : State, exec e.1 s = .next u ∧ LeftHome s u h ∧
        u.rd Reg.DBG_KNOT_ERR_FOREIGN = min (s.rd Reg.DBG_KNOT_ERR_FOREIGN + 1) (2 ^ Reg.DBG_KNOT_ERR_FOREIGN.w - 1) ∧
        (s.opPanel o = none ∨ (∃ q, s.opPanel o = some q ∧ s.isLive q = false) → u.knots = s.knots) ∧
        (∀ q, s.opPanel o = some q → s.isLive q = true → u.pst q = PS.faulted))) ∧
  (∀ (s : State) (h p : Nat) (o : KnotOp), s.homeStopped h = false → s.knotOwner o.knot = some p → o.tenant = 0 ∨ o.tenant = s.tenant p →
    let x := s.knot o.knot
    let only (u : State) (y : Knot) (grants : Nat) : Prop := u.knot o.knot = y ∧ (∀ k, k ≠ o.knot → u.knot k = s.knot k) ∧
      LeftHome s u h ∧ u.noc.flights.length = s.noc.flights.length + grants ∧
      u.tiles = s.tiles ∧ u.panels = s.panels ∧ ∀ j, o.job = some j → o.kop ≠ 1 → o.kop ≠ 2 → o.kop ≠ 5 → ∀ k ∈ u.jobs, k.id ≠ j
    (∀ e ∈ ([(Instr.signalOp h, 0), (Instr.arrive h, 5)] : List (Instr × Nat)), s.frontOp h e.2 false = some o →
      (x.stuck = true → ∃ u : State, exec e.1 s = .next u ∧ only u x 0) ∧
      (x.stuck = false → x.count + o.value < 2 ^ 32 → ∃ u : State, exec e.1 s = .next u ∧
        let r := relRule (x.count + o.value) x.waiters
        only u { x with count := r.2.1, waiters := r.2.2 } r.1.length) ∧
      (x.stuck = false → 2 ^ 32 ≤ x.count + o.value → let q := (s.opPanel o).getD p
        (s.isLive q = false → ∃ u : State, exec e.1 s = .next u ∧ only u { x with count := 2 ^ 32 - 1, stuck := true } 0) ∧
        (s.isLive q = true → ∃ u : State, exec e.1 s = .next u ∧ LeftHome s u h ∧ u.pst q = PS.faulted ∧ (u.knot o.knot).stuck = true ∧
          (u.knot o.knot).count = 2 ^ 32 - 1))) ∧
    (s.frontOp h 1 false = some o → s.orphan o = false → (∀ w ∈ x.waiters, w.all = false) → s.entriesAt h < s.entriesOf h → x.stuck = false →
      ∃ (u : State) (w : Waiter), exec (.waitOp h) s = .next u ∧ w.feid = o.src ∧ w.all = false ∧ w.n = o.value ∧ w.prio = o.prio ∧
        w.at_ = s.now ∧ w.arr = x.appended ∧ (let r := relRule x.count (insWaiter w x.waiters)
          only u { x with count := r.2.1, waiters := r.2.2, appended := x.appended + 1 } r.1.length)) ∧
    (s.frontOp h 2 false = some o → s.orphan o = false → (∀ w ∈ x.waiters, w.all = true ∧ w.n = o.value) → s.entriesAt h < s.entriesOf h →
      x.stuck = false → x.count + 1 < 2 ^ 32 →
      ∃ (u : State) (w : Waiter), exec (.waitall h) s = .next u ∧ w.feid = o.src ∧ w.all = true ∧ w.n = o.value ∧ w.at_ = s.now ∧
        w.arr = x.appended ∧
        (x.count + 1 < o.value → only u { x with count := x.count + 1, waiters := insWaiter w x.waiters, appended := x.appended + 1 } 0) ∧
        (o.value ≤ x.count + 1 → let g := oldest o.value (insWaiter w x.waiters)
          only u { x with count := x.count + 1 - o.value, waiters := (insWaiter w x.waiters).filter (fun v => !g.contains v),
                          appended := x.appended + 1 } g.length)) ∧
    (s.frontOp h 3 false = some o → ∃ u : State, exec (.broadcast h) s = .next u ∧ only u { x with waiters := [] } x.waiters.length) ∧
    (s.frontOp h 4 false = some o → s.maySet o = true → ∃ u : State, exec (.setOp h) s = .next u ∧
      let r := relRule o.value x.waiters
      u.knot o.knot = { x with count := r.2.1, stuck := false, waiters := r.2.2 } ∧ (∀ k, k ≠ o.knot → u.knot k = s.knot k) ∧
        LeftHome s u h ∧ u.noc.flights.length = s.noc.flights.length + r.1.length) ∧
    (s.frontOp h 4 false = some o → s.maySet o = false → ∃ u : State, exec (.setOp h) s = .next u ∧ u.knots = s.knots ∧
      LeftHome s u h))

/-- R154, R273 to R276, R281. -/
def Obligations.GrantsRefusalsAndTimeouts : Prop :=
  (∀ (s : State) (ep : Nat), (s.answerAt ep 6 = none → exec (.grant ep) s = .next s) ∧ (s.answerAt ep 7 = none → exec (.refuse ep) s = .next s) ∧
    (∀ i f x, s.answerAt ep 6 = some (i, f) → ep < 1088 → 0 < f.pkt.knotOp.token → f.pkt.knotOp.token < 8 →
      (s.tile ep).endWait f.pkt.knotOp.token f.pkt.knot = some x → ∃ u : State, exec (.grant ep) s = .next u ∧
        (u.tile ep).p f.pkt.knotOp.token = BitVec.allOnes 64 ∧ (u.tile ep).isAbsent s.clk.edge (kP f.pkt.knotOp.token) = false ∧
        (u.tile ep).waits = x.waits ∧ (u.tile ep).scr = (s.tile ep).scr ∧ (∀ t, t ≠ ep → u.tile t = s.tile t) ∧
        u.noc = { s.noc with flights := s.noc.flights.eraseIdx i } ∧ u = { s with noc := u.noc, tiles := u.tiles }) ∧
    (∀ i f, s.answerAt ep 6 = some (i, f) → ep < 1088 → (s.tile ep).endWait f.pkt.knotOp.token f.pkt.knot = none → ∃ u : State,
      exec (.grant ep) s = .next u ∧ u = { s with noc := { s.noc with flights := s.noc.flights.eraseIdx i } }) ∧
    (∀ i f j, s.answerAt ep 6 = some (i, f) → ep = epHost 0 → s.waitJob f.pkt.knotOp.token = some j → ∃ u : State,
      exec (.grant ep) s = .next u ∧ u.noc = { s.noc with flights := s.noc.flights.eraseIdx i } ∧ ∀ k ∈ u.jobs, k.id ≠ j) ∧
    (∀ i f x, s.answerAt ep 7 = some (i, f) → ep < 1088 → (s.tile ep).endWait f.pkt.knotOp.token f.pkt.knot = some x → ∃ u : State,
      exec (.refuse ep) s = .next u ∧ TileFaulted s u ep (BitVec.ofNat 16 f.pkt.knotOp.value)) ∧
    (∀ i f j, s.answerAt ep 7 = some (i, f) → ep = epHost 0 → s.waitJob f.pkt.knotOp.token = some j → ∃ u : State,
      exec (.refuse ep) s = .next u ∧ u.noc = { s.noc with flights := s.noc.flights.eraseIdx i } ∧ ∀ k ∈ u.jobs, k.id ≠ j) ∧
    (∀ e ∈ ([(6, Instr.grant ep), (7, Instr.refuse ep)] : List (Nat × Instr)), ∀ i f, s.answerAt ep e.1 = some (i, f) → 1088 ≤ ep →
      (ep = epHost 0 → s.waitJob f.pkt.knotOp.token = none →
        exec e.2 s = .next { s with noc := { s.noc with flights := s.noc.flights.eraseIdx i } }) ∧
      (ep ≠ epHost 0 → ∃ u : State, exec e.2 s = .next u ∧ sget [] u.noc.mail ep = sget [] s.noc.mail ep ++ [f.pkt.knotOp] ∧
        u = { s with noc := { s.noc with flights := s.noc.flights.eraseIdx i, mail := u.noc.mail } }))) ∧
  (∀ (s : State) (k job : Nat) (w : Waiter) (t : W64), (s.knot k).waiters.find? (fun w => w.job = some job) = some w → w.timeout = some t →
    let asked := s.removing (s.knotHome k) job
    (reached s.now t = false ∨ asked = true ∨ s.inTurn Ev.knotTimeout = false → exec (.hostKnotWaitTimeout k job) s = .next s) ∧
    (reached s.now t = true → asked = false → s.inTurn Ev.knotTimeout = true → ∃ u : State, exec (.hostKnotWaitTimeout k job) s = .next u ∧
      JoinedHome s u (s.knotHome k) { kop := 7, knot := k, job := some job, remove := true } ∧
      u = { s with homes := u.homes, noc := { s.noc with homeWait := u.noc.homeWait } })) ∧
  (∀ (s : State) (h : Nat), s.homeStopped h = true → exec (.knotWaiterRemove h) s = .next s) ∧
  (∀ (s : State) (h : Nat), s.homeStopped h = false → (s.frontOp h 7 true = none → exec (.knotWaiterRemove h) s = .next s) ∧
    (∀ o j, s.frontOp h 7 true = some o → o.job = some j → (s.knot o.knot).waiters.any (fun w => w.job = o.job) = true →
      ∃ u : State, exec (.knotWaiterRemove h) s = .next u ∧ LeftHome s u h ∧
        (let x := s.knot o.knot
         let ws := x.waiters.filter (fun w => w.job ≠ some j)
         let r := relRule x.count ws
         u.knot o.knot = if x.stuck then { x with waiters := ws } else { x with count := r.2.1, waiters := r.2.2 }) ∧ (∀ i, i ≠ o.knot → u.knot i = s.knot i) ∧ ∀ i ∈ u.jobs, i.id ≠ j) ∧
    (∀ o, s.frontOp h 7 true = some o → (s.knot o.knot).waiters.any (fun w => w.job = o.job) = false → ∃ u : State,
      exec (.knotWaiterRemove h) s = .next u ∧ LeftHome s u h ∧
      u = { s with homes := u.homes, noc := { s.noc with homeWait := u.noc.homeWait } })) ∧
  (∀ (s : State) (k i : Nat), let us := s.rd Reg.DBG_KNOT_CTL_LEND_US
    ((s.knot k).waiters[i]? = none → exec (.knotLendReport k i) s = .next s) ∧
    (∀ w, (s.knot k).waiters[i]? = some w →
      ((s.srcTile w.feid = none ∨ w.lent = true ∨ us = 0 ∨ (s.now - w.at_).toNat < us * 1000) → exec (.knotLendReport k i) s = .next s) ∧
      ((s.srcTile w.feid).isSome = true → w.lent = false → us ≠ 0 → us * 1000 ≤ (s.now - w.at_).toNat → ∃ u : State,
        exec (.knotLendReport k i) s = .next u ∧ (u.knot k).waiters[i]? = some { w with lent := true } ∧
        (u.knot k).count = (s.knot k).count ∧ (∀ m, m ≠ k → u.knot m = s.knot m) ∧ u = { s with knots := u.knots })))

/-- R266, R271, R276, R483. -/
def Obligations.HostCommandsOnKnots : Prop :=
  (∀ e ∈ ([(specKnotSignal, Instr.knotSignal, (fun c => 1 ≤ c.fld 4 4), fun c _ => { kop := 0, knot := 0, value := c.fld 4 4 }),
      (specKnotWait, Instr.knotWait, (fun c => c.fld 8 1 ≤ 3),
        fun c s => { kop := 1, knot := 0, value := c.fld 4 4, prio := c.fld 8 1, timeout := s.timeoutAt (c.fld 12 4) }),
      (specKnotWaitall, Instr.knotWaitall, (fun c => c.fld 8 1 ≤ 3 ∧ 1 ≤ c.fld 4 2 ∧ c.fld 4 2 ≤ 4095),
        fun c s => { kop := 2, knot := 0, value := c.fld 4 2, prio := c.fld 8 1, timeout := s.timeoutAt (c.fld 12 4) }),
      (specKnotBroadcast, Instr.knotBroadcast, (fun _ => True), fun _ _ => { kop := 3, knot := 0 })] :
        List (CmdSpec × (Cmd → Instr) × (Cmd → Prop) × (Cmd → State → KnotOp))),
    ∀ (c : Cmd) (s : State), e.1.check c s = St.OK → let k := c.fld 0 2
      (¬ e.2.2.1 c → exec (e.2.1 c) s = .next ((e.1.begun c s).complete (e.1.job c s) St.KNOT_MISUSE)) ∧
      (e.2.2.1 c → s.knotOwner k = none → ∃ u : State, exec (e.2.1 c) s = .next (u.complete (e.1.job c s) St.KNOT_NOT_OWNED) ∧
        u.newest.code = St.KNOT_NOT_OWNED ∧ u.homes = s.homes ∧ u.knots = s.knots ∧ u.jobs = s.jobs ++ [e.1.job c s]) ∧
      (e.2.2.1 c → (∃ p q, s.knotOwner k = some p ∧ c.pnl = some q ∧ q ≠ p) →
        exec (e.2.1 c) s = .next ((e.1.begun c s).complete (e.1.job c s) St.KNOT_NOT_OWNED)) ∧
      (∀ p, e.2.2.1 c → s.knotOwner k = some p → (c.pnl = none ∨ c.pnl = some p) → ∃ u : State, exec (e.2.1 c) s = .next u ∧
        JoinedHome s u (s.knotHome k) { (e.2.2.2 c s) with
          knot := k, tenant := s.cmdTag c, src := s.feid (epHost 0), job := some s.nextJob, token := s.freeToken
          panel := if c.fn = 0 then none else some (c.fn - 1) } ∧
        (let wait : Bool := (e.2.2.2 c s).kop = 1 || (e.2.2.2 c s).kop = 2
         (∀ x ∈ s.jobs, x.id ≠ s.nextJob) → u.jobs = s.jobs ++ [{ e.1.job c s with token := if wait then some s.freeToken else none }]) ∧
        u = { (e.1.begun c s) with jobs := u.jobs, homes := u.homes, noc := { s.noc with homeWait := u.noc.homeWait } })) ∧
  (∀ (c : Cmd) (s : State), specKnotSet.check c s = St.OK →
    let j := specKnotSet.job c s
    let b := specKnotSet.begun c s
    let k := c.fld 0 2
    (s.knotOwner k = none → ∃ u : State, exec (.knotSet c) s = .next (u.complete j St.KNOT_NOT_OWNED) ∧
      u.newest.code = St.KNOT_NOT_OWNED ∧ u.homes = s.homes ∧ u.knots = s.knots ∧ u.jobs = s.jobs ++ [j]) ∧
    (∀ p, s.knotOwner k = some p →
      (c.fn = 0 → c.pnl = none ∨ c.pnl = some p → (s.rd Reg.DBG_AUTH_STAT_PF_AUTH).testBit p = false →
        exec (.knotSet c) s = .next (b.complete j St.DBG_NOT_AUTHORISED)) ∧
      (∀ q, c.pnl = some q → q ≠ p → exec (.knotSet c) s = .next (b.complete j St.KNOT_NOT_OWNED)) ∧
      ((c.fn ≠ 0 ∨ (s.rd Reg.DBG_AUTH_STAT_PF_AUTH).testBit p = true) → c.pnl = none ∨ c.pnl = some p → ∃ u : State,
        exec (.knotSet c) s = .next u ∧ JoinedHome s u (s.knotHome k) {
          kop := 4, knot := k, value := c.fld 4 4, token := s.freeToken, tenant := s.cmdTag c, src := s.feid (epHost 0)
          auth := c.fn == 0, job := some s.nextJob, panel := if c.fn = 0 then none else some (c.fn - 1) } ∧
        u = { b with homes := u.homes, noc := { s.noc with homeWait := u.noc.homeWait } }))) ∧
  (∀ (c : Cmd) (s : State), specKnotRead.check c s = St.OK →
    let j := specKnotRead.job c s
    let b := specKnotRead.begun c s
    let k := c.fld 0 2
    ((s.knotOwner k = none ∨ ∃ p q, s.knotOwner k = some p ∧ c.pnl = some q ∧ q ≠ p) →
      exec (.knotRead c) s = .next (b.complete j St.KNOT_NOT_OWNED)) ∧
    (∀ p, s.knotOwner k = some p → (c.pnl = none ∨ c.pnl = some p) → exec (.knotRead c) s = .next (b.completeD j St.OK
      ((s.knot k).count + min (s.knot k).waiters.length 4095 * 2 ^ 32 + (if (s.knot k).stuck then 2 ^ 44 else 0)) 0)))

/-- R285, R297. -/
def Obligations.FillsAndRetirements : Prop :=
  (∀ (c : Cmd) (s : State), specMemFill.check c s = St.OK →
    let j := specMemFill.job c s
    let b := specMemFill.begun c s
    (∀ code, s.fillRefused c = some code → exec (.memFill c) s = .next (b.complete j code)) ∧
    (s.fillRefused c = none → ∃ (u : State) (f : FillJob), exec (.memFill c) s = .next u ∧ u.integ.fills.getLast? = some f ∧
      f.job = s.nextJob ∧ f.tiles = s.fillTiles (c.fld 0 1) c.pnl ∧
      (∀ g, runsMem f.pages g = true ↔ g ∈ s.fillPages (c.fld 0 1) (c.fld 4 4) (c.fld 8 4) c.pnl) ∧ u.jobs = s.jobs ++ [j] ∧
      u = { b with integ := { s.integ with fills := u.integ.fills }, bobs := u.bobs, csr := u.csr } ∧
      (∀ k a, (u.bob k).byteAt a = (s.bob k).byteAt a) ∧
      (∀ k, c.fld 0 1 = 0 → c.fld 8 4 = 1 → s.bobOfPage (c.fld 4 4) = some k → (s.bob k).svcQ.length < 16 → (s.bob k).svcHold = [] →
        let d := fillDesc (bobTier k) (c.fld 4 4, 1)
        s.checkDesc k false c.pnl d.toNat = St.OK → f.left = 1 ∧ f.code = St.OK ∧
          (u.bob k).svcQ = (s.bob k).svcQ ++ [⟨d, .svc c.pnl (posterFill s.nextJob), 0⟩]))) ∧
  (∀ (s : State) (job : Nat), (s.integ.fills.find? (fun f => f.job = job) = none → exec (.memFillDone job) s = .next s) ∧
    (∀ f, s.integ.fills.find? (fun f => f.job = job) = some f →
      (f.tiles.all s.tileOn = false → ∃ u : State, exec (.memFillDone job) s = .next u ∧ u = { s with power := u.power } ∧
        ∀ t ∈ f.tiles, s.tileOn t = false → (sget none u.power.waking (domOfTile t)).isSome = true) ∧
      (f.tiles.all s.tileOn = true → f.left ≠ 0 → exec (.memFillDone job) s = .next s) ∧
      (f.tiles.all s.tileOn = true → f.left = 0 → ∃ v : State, exec (.memFillDone job) s = .next (v.completeJob job f.code 0 0) ∧
        (∀ t ∈ f.tiles, (∀ a, a < 2097152 → (v.tile t).byteAt a = 0) ∧ (v.tile t).treg = (s.tile t).treg) ∧
        (∀ t, t ∉ f.tiles → v.tile t = s.tile t) ∧ v.bobs = s.bobs ∧ v.csr = s.csr ∧
        v.integ.fills = s.integ.fills.filter (fun x => x.job ≠ job)))) ∧
  (∀ (c : Cmd) (s : State), specMemRetire.check c s = St.OK →
    let j := specMemRetire.job c s
    let b := specMemRetire.begun c s
    let o := c.fld 4 4
    (s.retireOwner (c.fld 0 1) o = none → exec (.memRetire c) s = .next (b.complete j St.INTEGRITY_REFUSED)) ∧
    (∀ w, s.retireOwner (c.fld 0 1) o = some w →
      (1 < c.fld 1 1 ∨ (c.fld 1 1 = 1 ∧ ∃ p, w = some p ∧ s.pst p ≠ PS.empty) →
        exec (.memRetire c) s = .next (b.complete j St.INTEGRITY_REFUSED)) ∧
      (c.fld 1 1 = 0 ∨ (c.fld 1 1 = 1 ∧ ∀ p, w = some p → s.pst p = PS.empty) → ∃ u : State,
        exec (.memRetire c) s = .next (u.complete j St.OK) ∧ u = { b with integ := u.integ, noc := u.noc, serves := u.serves } ∧
        ((∀ p, p < 16 → s.wst p = WS.none ∨ s.wst p = WS.loading ∨ s.isHead p = true) → u.noc = s.noc ∧ u.serves = s.serves) ∧
        u.integ.log = s.integ.log ∧
        (c.fld 0 1 = 0 → c.fld 1 1 = 0 → u.integ = { s.integ with retired := nins o s.integ.retired }) ∧
        (c.fld 0 1 = 0 → c.fld 1 1 = 1 → o ∉ u.integ.retired ∧ o ∉ u.integ.suspect ∧
          ∀ g, g ≠ o → (g ∈ u.integ.retired ↔ g ∈ s.integ.retired) ∧ (g ∈ u.integ.suspect ↔ g ∈ s.integ.suspect)) ∧
        (c.fld 0 1 = 1 → c.fld 1 1 = 0 → u.integ = { s.integ with bobRetired := nins (s.retireKey 1 o) s.integ.bobRetired }) ∧
        (c.fld 0 1 = 2 → c.fld 1 1 = 0 → u.integ = { s.integ with sparePending := nins (s.retireKey 2 o) s.integ.sparePending }))))

/-- R299, for the operation every log entry of the machine is written by, and for the host's write of TAIL. -/
def Obligations.FaultLogKeepsTheNewest : Prop :=
  (∀ (s : State) (code : Code) (p : Option Nat) (d0 d1 : W64),
    let head := s.rd Reg.INT_FLOG_HEAD_SEQ
    let tail := s.rd Reg.INT_FLOG_TAIL_SEQ
    let used := (head + 2 ^ 32 - tail) % 2 ^ 32
    let u := s.log code p d0 d1
    head < 2 ^ 32 → tail < 2 ^ 32 →
      sget ⟨0, none, 0, 0, 0, 0⟩ u.integ.log (head % 4096) = ⟨code, p, head, s.now, d0, d1⟩ ∧
      (∀ k, k ≠ head % 4096 → sget ⟨0, none, 0, 0, 0, 0⟩ u.integ.log k = sget ⟨0, none, 0, 0, 0, 0⟩ s.integ.log k) ∧
      u.rd Reg.INT_FLOG_HEAD_SEQ = (head + 1) % 2 ^ 32 ∧
      (used < 4096 → u.rd Reg.INT_FLOG_TAIL_SEQ = tail ∧ u.rd Reg.INT_FLOG_STAT_LOST = s.rd Reg.INT_FLOG_STAT_LOST) ∧
      (4096 ≤ used → u.rd Reg.INT_FLOG_TAIL_SEQ = (tail + 1) % 2 ^ 32 ∧
        u.rd Reg.INT_FLOG_STAT_LOST = min (s.rd Reg.INT_FLOG_STAT_LOST + 1) (2 ^ 32 - 1)) ∧
      RegsBut [Reg.INT_FLOG_HEAD_SEQ, Reg.INT_FLOG_TAIL_SEQ, Reg.INT_FLOG_STAT_LOST] s u ∧
      (used ≠ 0 → u.out = s.out ∧ u.fns = s.fns) ∧
      (used = 0 → ((s.fnc 0).msixOn = true → 0 ∈ (s.fnc 0).unmasked → u.out = s.out ++ [.msix 0 0] ∧ u.fns = s.fns) ∧
        ((s.fnc 0).msixOn = false ∨ 0 ∉ (s.fnc 0).unmasked → u.out = s.out ∧ 0 ∈ (u.fnc 0).pend))) ∧
  (∀ (v : W64) (s : State), s.reachable 0 = true → s.stage ≠ BS.waitPush →
    let t := v.toNat % 2 ^ 32
    let ok : Prop := (s.rd Reg.INT_FLOG_HEAD_SEQ + 2 ^ 32 - t) % 2 ^ 32 ≤ 4096
    (ok → ∃ u : State, exec (.registerWrite { off := 0x3000008 } v) s = .next u ∧ u.rd Reg.INT_FLOG_TAIL_SEQ = t ∧
      RegsBut [Reg.INT_FLOG_TAIL_SEQ] s u ∧ u = { s with csr := u.csr }) ∧
    (¬ ok → exec (.registerWrite { off := 0x3000008 } v) s = .next s))

/-- R309 to R317. -/
def Obligations.ModelsAreLoadedAndVerified : Prop :=
  (∀ e ∈ ([(specModelLoad, Instr.modelLoad), (specModelUnload, Instr.modelUnload)] : List (CmdSpec × (Cmd → Instr))), ∀ (c : Cmd) (s : State)
      (p : Nat), e.1.accepts c s → c.pnl = some p → s.pst p ≠ PS.empty → s.pst p ≠ PS.stopped → ∃ u : State,
    exec (e.2 c) s = .next (u.complete (e.1.job c s) St.PANEL_NOT_STOPPED) ∧ u.rd (Reg.PNL_LAST_CODE p) = 0x0202 ∧ u.wgts = s.wgts) ∧
  (∀ (c : Cmd) (s : State) (p : Nat), specModelLoad.accepts c s → c.pnl = some p → s.pst p = PS.stopped →
    let j := specModelLoad.job c s
    let b := specModelLoad.begun c s
    (s.wst p ≠ WS.none → ¬ (s.wst p = WS.loading ∧ s.shard p = SH.bad) → exec (.modelLoad c) s = .next (b.complete j St.WEIGHTS_BUSY)) ∧
    (∀ m srcs segs, s.wst p = WS.none →
      s.manifestAt c p (c.fld 0 8) (c.fld 8 4) (c.fld 16 8) (c.fld 13 1) (c.fld 12 1) (c.fld 14 2) m srcs segs → ∃ u : State,
      exec (.modelLoad c) s = .next u ∧ ((s.wgt p).early = [] → u.wst p = WS.loading ∧ (u.wgt p).reported = []) ∧
      (∀ e ∈ (s.wgt p).early, c.fld 14 2 = 0 → e.model = mfModel m → e.gen = mfGen m → e.dev < u.rd (Reg.PNL_WGT_STATE_DEVICES p) →
        e.dev ∈ (u.wgt p).reported) ∧ u.shard p = SH.fetching ∧ u.jobs = s.jobs ++ [j] ∧
      u.rd (Reg.PNL_WGT_MODEL_MODEL_ID p) = mfModel m ∧ u.rd (Reg.PNL_WGT_GEN_GEN p) = mfGen m ∧
      u.rd (Reg.PNL_WGT_STATE_DEV_INDEX p) = c.fld 14 2 % 2 ^ (Reg.PNL_WGT_STATE_DEV_INDEX p).w ∧ (u.isHead p = decide (c.fld 14 2 = 0)) ∧
      (u.wgt p).sources = srcs ∧ (u.wgt p).place = c.fld 12 1 ∧ (u.wgt p).job = some s.nextJob ∧ (u.wgt p).digest = digest384 m ∧
      (u.wgt p).segs.length = segs.length ∧ (u.wgt p).releases = (s.wgt p).releases ∧ (∀ q, q ≠ p → u.wgt q = s.wgt q) ∧
      u.tiles = s.tiles ∧ u.bobs = s.bobs ∧
      u.hostMem = s.hostMem) ∧
    (∀ srcs, s.wst p = WS.none → c.fld 0 8 % 64 = 0 → 1 ≤ c.fld 13 1 → c.fld 13 1 ≤ 8 →
      s.dmaFail c.fn (c.fld 16 8) (16 * c.fld 13 1) = none →
      sourcesOf (s.hostRead (c.fld 16 8) (16 * c.fld 13 1)) (c.fld 13 1) = some srcs → 288 ≤ c.fld 8 4 → c.fld 8 4 ≤ 67108864 →
      s.dmaFail c.fn (c.fld 0 8) (c.fld 8 4) = none →
      let m := s.hostRead (c.fld 0 8) (c.fld 8 4)
      (manifestOk m (c.fld 8 4) (c.fld 14 2) = false → exec (.modelLoad c) s = .next (b.complete j St.MANIFEST_FORMAT)) ∧
      (manifestOk m (c.fld 8 4) (c.fld 14 2) = true → s.manifestSigned p m = false →
        exec (.modelLoad c) s = .next (b.complete j St.MANIFEST_SIGNATURE)) ∧
      (manifestOk m (c.fld 8 4) (c.fld 14 2) = true → s.manifestSigned p m = true → s.placeSegs p (c.fld 12 1) m (c.fld 14 2) = none →
        exec (.modelLoad c) s = .next (b.complete j St.MANIFEST_PLACEMENT)))) ∧
  (∀ (c : Cmd) (s : State) (p : Nat), specModelUnload.accepts c s → c.pnl = some p → s.pst p = PS.stopped →
    let j := specModelUnload.job c s
    (s.wst p = WS.refit → exec (.modelUnload c) s = .next ((specModelUnload.begun c s).complete j St.WEIGHTS_BUSY)) ∧
    (s.wst p ≠ WS.refit → ∃ u : State, exec (.modelUnload c) s = .next (u.complete j St.OK) ∧ u.wst p = WS.none ∧ u.shard p = SH.absent ∧
      u.rd (Reg.PNL_WGT_GEN_GEN p) = 0 ∧ u.rd (Reg.PNL_WGT_MODEL_MODEL_ID p) = 0 ∧ u.wgt p = { journal := (s.wgt p).journal, releases := (s.wgt p).releases, early := (s.wgt p).early } ∧
      (u.serve p).headOf = none ∧
      (∀ q, q ≠ p → u.wgt q = s.wgt q) ∧ u.tiles = s.tiles ∧ u.hostMem = s.hostMem)) ∧
  (∀ (s : State) (p i : Nat) (g : Segment), p < 16 → s.direct p = true → (s.wgt p).segAt i = some g →
    let v := s.zeroTail g
    let x := v.bob g.bob
    let good := x.anyBad g.bob (65536 * g.lpage) g.bytes = false ∧ digest384 (x.bytes (65536 * g.lpage) g.bytes) = g.digest
    (g.st ≠ 1 ∨ g.todo ≠ [] ∨ (s.wgt p).reqs.any (fun r => r.seg = i) = true → exec (.segmentVerify p i) s = .next s) ∧
    (g.st = 1 → g.todo = [] → (s.wgt p).reqs.any (fun r => r.seg = i) = false →
      (good → ∃ u : State, exec (.segmentVerify p i) s = .next u ∧
        (i < (s.wgt p).segs.length ∨ s.isShadow p = false → ((u.wgt p).segAt i).map (fun h => h.st) = some 2) ∧
        (s.wst p = WS.loading → s.shard p = SH.fetching → i < (s.wgt p).segs.length → (∀ k h, k ≠ i → (s.wgt p).segs[k]? = some h → h.st = 2) →
          u.shard p = SH.verified ∧ (u.wgt p).job = none) ∧
        (s.wst p = WS.loading → (∃ (k : Nat) (h : Segment), k ≠ i ∧ (s.wgt p).segs[k]? = some h ∧ h.st ≠ 2) → u.shard p = s.shard p ∧ u.wst p = WS.loading)) ∧
      (¬ good → ∃ u : State, exec (.segmentVerify p i) s = .next u ∧
        (g.refetches + 1 ≤ s.rd Reg.PNL_WGT_CTL_REFETCH_MAX → u.rd (Reg.PNL_WGT_ERR_LAST_CODE p) = St.SEGMENT_DIGEST.toNat ∧
          ∃ h, (u.wgt p).segAt i = some h ∧ h.st = 1 ∧ h.refetches = g.refetches + 1 ∧ h.todo.length = cdiv g.bytes 65536) ∧
        (s.rd Reg.PNL_WGT_CTL_REFETCH_MAX < g.refetches + 1 → u.shard p = SH.bad ∧ (u.wgt p).reqs = [] ∧ (u.wgt p).job = none)))) ∧
  (∀ (s : State) (p : Nat), p < 16 → s.direct p = true →
    (∀ t, (s.wgt p).deadline = some t → s.wst p = WS.loading → s.shard p = SH.fetching → reached s.now t = true → ∃ u : State,
      exec (.loadTimeout p) s = .next u ∧ u.shard p = SH.bad ∧ u.wst p = WS.loading ∧ u.rd (Reg.PNL_WGT_ERR_LAST_CODE p) = St.LOAD_TIMEOUT.toNat ∧
      (u.wgt p).reqs = [] ∧ (u.wgt p).deadline = none ∧ u.hostMem = s.hostMem ∧ u.tiles = s.tiles) ∧
    ((s.wgt p).deadline = none ∨ s.wst p ≠ WS.loading ∨ s.shard p ≠ SH.fetching ∨
      (∃ t, (s.wgt p).deadline = some t ∧ reached s.now t = false) → exec (.loadTimeout p) s = .next s)) ∧
  (∀ (s : State) (p d x : Nat) (m : W64) (gen : W32), p < 16 → s.direct p = true →
    let mine := s.wst p = WS.loading ∧ s.isHead p = true ∧ m.toNat = s.rd (Reg.PNL_WGT_MODEL_MODEL_ID p) ∧
      gen.toNat = s.rd (Reg.PNL_WGT_GEN_GEN p) ∧ d < s.rd (Reg.PNL_WGT_STATE_DEVICES p) ∧ (d ≠ 0 ∨ s.shard p = SH.verified)
    let n := (nins d (s.wgt p).reported).length
    (¬ mine → d = 0 → exec (.verifiedReport p d x m gen) s = .next s) ∧
    (¬ mine → d ≠ 0 → ∃ u : State, exec (.verifiedReport p d x m gen) s = .next u ∧
      u.wgt p = { s.wgt p with early := (s.wgt p).early.filter (fun e => e.dev ≠ d) ++ [⟨d, x, m.toNat, gen.toNat⟩] } ∧
      (∀ q, q ≠ p → u.wgt q = s.wgt q) ∧ u = { s with wgts := u.wgts }) ∧
    (mine → ∃ u : State, exec (.verifiedReport p d x m gen) s = .next u ∧ (u.wgt p).reported = nins d (s.wgt p).reported ∧
      (n ≠ s.rd (Reg.PNL_WGT_STATE_DEVICES p) → u.wst p = WS.loading ∧ u.out = s.out) ∧
      (n = s.rd (Reg.PNL_WGT_STATE_DEVICES p) → u.wst p = WS.ready) ∧ u.tiles = s.tiles ∧ u.bobs = s.bobs)) ∧
  (∀ (s : State) (p : Nat) (m : W64) (gen : W32), p < 16 → s.direct p = true → m.toNat = s.rd (Reg.PNL_WGT_MODEL_MODEL_ID p) → s.shard p = SH.verified →
    (s.wst p = WS.loading → gen.toNat = s.rd (Reg.PNL_WGT_GEN_GEN p) → ∃ u : State, exec (.readyMessage p m gen) s = .next u ∧
      u.wst p = WS.ready ∧ u = { s with csr := u.csr, serves := u.serves, noc := u.noc } ∧
      (s.isHead p = true → u.serves = s.serves ∧ u.noc = s.noc) ∧ RegsBut [Reg.PNL_WGT_STATE_STATE p] s u) ∧
    (s.wst p = WS.refit → gen.toNat = s.rd (Reg.PNL_WGT_GEN_NEW_GEN p) → ∃ u : State, exec (.readyMessage p m gen) s = .next u ∧
      u.wst p = WS.ready ∧ u.rd (Reg.PNL_WGT_GEN_GEN p) = s.rd (Reg.PNL_WGT_GEN_NEW_GEN p) ∧ u.rd (Reg.PNL_WGT_GEN_NEW_GEN p) = 0 ∧
      (u.wgt p).old = [] ∧ (u.wgt p).journal.state = 3 ∧ (u.wgt p).digest = (s.wgt p).journal.digest) ∧
    (s.wst p ≠ WS.loading → s.wst p ≠ WS.refit → exec (.readyMessage p m gen) s = .next s))

/-- R305 to R310, R318, R319, R327. -/
def Obligations.IngestEngineFetchesPages : Prop :=
  (∀ (s : State) (p : Nat), s.direct p = true → let v := ((s.takeRefetches p).wave p).tellHead p
    (∀ q, q ≠ p → v.wgt q = s.wgt q) ∧ v.tiles = s.tiles ∧ v.bobs = s.bobs ∧ v.hostMem = s.hostMem ∧ v.panels = s.panels ∧
    (v.nextRequest p = none → exec (.ingestRequest p) s = .next v) ∧
    (∀ i k n g so, v.nextRequest p = some (i, k, n) → (v.wgt p).segAt i = some g → ((v.wgt p).sourcesOf i)[n]? = some so → ∃ (u : State) (r : IngestReq),
      exec (.ingestRequest p) s = .next u ∧ (u.wgt p).reqs = (v.wgt p).reqs ++ [r] ∧ r.seg = i ∧ r.page = k ∧ r.src = some n ∧
      r.source = so ∧ r.old = decide ((v.wgt p).segs.length ≤ i) ∧ r.fn = (if r.old then (v.wgt p).oldFn else (v.wgt p).srcFn) ∧
      r.off = g.off + 65536 * k ∧ r.len = min 65536 (g.bytes - 65536 * k) ∧ r.count = 0 ∧ r.sentAt = s.now ∧
      (u.wgt p).nextReq = (v.wgt p).nextReq + 1 ∧ u.noc.flights.length = v.noc.flights.length + (if so.fabric then 1 else 0) ∧
      (∀ q, q ≠ p → u.wgt q = v.wgt q) ∧ u = { v with wgts := u.wgts, noc := u.noc })) ∧
  (∀ (s : State) (p id : Nat) (r : IngestReq) (g : Segment), (s.wgt p).reqs.find? (fun r => r.id = id && !r.source.fabric) = some r →
    (s.wgt p).segAt r.seg = some g →
    let bad := s.dmaFail r.fn (r.source.addr + r.off) r.len
    (s.bobOn g.bob = false → exec (.ingestReply p (some id)) s = .next (s.demand (domOfBob g.bob))) ∧
    (s.bobOn g.bob = true → bad.isSome = true → exec (.ingestReply p (some id)) s = .next s) ∧
    (s.bobOn g.bob = true → bad = none → ∃ u : State, exec (.ingestReply p (some id)) s = .next u ∧
      (r.count = 0 → ∀ x ∈ (u.wgt p).reqs, x.id ≠ r.id) ∧
      u.bobs = (s.bobWrite g.bob (65536 * g.lpage + (r.off - g.off)) (s.hostRead (r.source.addr + r.off) r.len) false).bobs ∧
      u.hostMem = s.hostMem ∧ (∀ q, q ≠ p → u.wgt q = s.wgt q))) ∧
  (∀ (s : State) (p : Nat), (s.replyAt p = none → exec (.ingestReply p none) s = .next s) ∧
    (∀ i f, s.replyAt p = some (i, f) → f.pkt.tenant ≠ s.tenant p → ∃ u : State, exec (.ingestReply p none) s = .next u ∧
      u.noc = { s.noc with flights := s.noc.flights.eraseIdx i } ∧ u.newest.code = St.INGEST_TENANT ∧ u.wgts = s.wgts ∧ u.bobs = s.bobs) ∧
    (∀ i f r g o bs, s.replyAt p = some (i, f) → f.pkt.tenant = s.tenant p →
      (s.wgt p).reqs.find? (fun r => r.id = leAt f.pkt.payload 0 4 && r.source.fabric) = some r → (s.wgt p).segAt r.seg = some g →
      replyData r f.pkt = some (o, bs) →
        (s.bobOn g.bob = false → exec (.ingestReply p none) s = .next (s.demand (domOfBob g.bob))) ∧
        (s.bobOn g.bob = true → ∃ u : State, exec (.ingestReply p none) s = .next u ∧
        (let w := (s.dropFlight i).bobWrite g.bob (65536 * g.lpage + (o - g.off)) bs false
         u.bobs = w.bobs ∧ (f.pkt.knv = false → u.noc = w.noc)) ∧
        (r.count + bs.length = r.len → ∀ x ∈ (u.wgt p).reqs, x.id ≠ r.id) ∧
        (r.count + bs.length ≠ r.len → ∃ x ∈ (u.wgt p).reqs, x = { r with count := r.count + bs.length })))) ∧
  (∀ (s : State) (p id : Nat), s.direct p = true → ((s.wgt p).reqs.find? (fun r => r.id = id) = none → exec (.ingestRequestTimeout p id) s = .next s) ∧
    (∀ r, (s.wgt p).reqs.find? (fun r => r.id = id) = some r →
      ((s.now - r.sentAt).toNat < max 1 (s.rd Reg.PNL_WGT_CTL_REQ_TIMEOUT_US) * 1000 → exec (.ingestRequestTimeout p id) s = .next s) ∧
      (∀ g, max 1 (s.rd Reg.PNL_WGT_CTL_REQ_TIMEOUT_US) * 1000 ≤ (s.now - r.sentAt).toNat → (s.wgt p).segAt r.seg = some g →
        g.refetches + 1 ≤ s.rd Reg.PNL_WGT_CTL_REFETCH_MAX → p < 16 → ∃ u : State, exec (.ingestRequestTimeout p id) s = .next u ∧
          (u.wgt p).reqs = (s.wgt p).reqs.filter (fun x => x.id ≠ id) ∧
          (let next := (r.src.getD 0 + 1) % max 1 ((s.wgt p).sourcesOf r.seg).length
           (u.wgt p).segAt r.seg = some { g with refetches := g.refetches + 1, todo := g.todo ++ [(r.page, some next)] }) ∧
          u = { s with wgts := u.wgts, csr := u.csr } ∧ RegsBut [Reg.PNL_WGT_ERR_REFETCHES p] s u))) ∧
  (∀ (s : State) (g : Nat),
    (s.panelOfPage g = none → exec (.pageRefetchDone g) s = .next { s with integ := { s.integ with refetch := ndel g s.integ.refetch } }) ∧
    (∀ p, s.panelOfPage g = some p →
      let all (v : State) := (v.wgt p).segs ++ (v.wgt p).old
      let asks (x : Segment) : Bool := x.want.any (fun k => s.pageOf x.bob (x.lpage + k) = g)
      ((all s).find? asks = none → (all s).any (fun x => (s.segPageIds x).contains g) = true → exec (.pageRefetchDone g) s = .next s) ∧
      ((all s).find? asks = none → (all s).any (fun x => (s.segPageIds x).contains g) = false → ∃ u : State,
        exec (.pageRefetchDone g) s = .next u ∧ u.integ = { s.integ with refetch := ndel g s.integ.refetch } ∧
        u = { s with integ := u.integ, serves := u.serves, noc := u.noc }) ∧
      (∀ x, (all s).find? asks = some x →
        (x.st ≠ 2 ∨ g ∉ s.integ.refetch → exec (.pageRefetchDone g) s = .next s) ∧
        (x.st = 2 → g ∈ s.integ.refetch → ∃ u : State, exec (.pageRefetchDone g) s = .next u ∧
          u.integ = { s.integ with refetch := ndel g s.integ.refetch } ∧ (∀ y ∈ all u, asks y = false) ∧
          (∀ q, q ≠ p → u.wgt q = s.wgt q) ∧ u = { s with integ := u.integ, wgts := u.wgts, serves := u.serves, noc := u.noc })))) ∧
  (∀ (c : Cmd) (s : State) (p : Nat) (l : List Source), specModelSource.accepts c s → c.pnl = some p → s.pst p ≠ PS.empty →
    1 ≤ c.fld 8 1 → c.fld 8 1 ≤ 8 → s.dmaFail c.fn (c.fld 0 8) (16 * c.fld 8 1) = none →
    sourcesOf (s.hostRead (c.fld 0 8) (16 * c.fld 8 1)) (c.fld 8 1) = some l → ∃ u : State,
      exec (.modelSource c) s = .next (u.complete (specModelSource.job c s) St.OK) ∧ (u.wgt p).sources = l ∧ (u.wgt p).srcFn = c.fn ∧
      (u.wgt p).segs = (s.wgt p).segs ∧ (∀ r ∈ (u.wgt p).reqs, r.src = none) ∧ (∀ q, q ≠ p → u.wgt q = s.wgt q) ∧
      u = { (specModelSource.begun c s) with wgts := u.wgts }) ∧
  (∀ (c : Cmd) (s : State) (p : Nat), specWgtRelease.accepts c s → c.pnl = some p → s.pst p ≠ PS.empty →
    let j := specWgtRelease.job c s
    let b := specWgtRelease.begun c s
    let known := ∃ pat, s.pattern? p (c.fld 0 1) = some pat ∧ c.fld 1 1 < pat.entries.length
    (s.wst p = WS.refit → exec (.wgtRelease c) s = .next (b.complete j St.WEIGHTS_BUSY)) ∧
    (s.wst p ≠ WS.refit → ¬ known ∨ s.wst p = WS.none ∨ c.fld 2 2 ≠ s.rd (Reg.PNL_WGT_PROG_LAYERS p) →
      exec (.wgtRelease c) s = .next (b.complete j St.RELEASE_TABLE)) ∧
    (s.wst p ≠ WS.refit → known → s.wst p ≠ WS.none → c.fld 2 2 = s.rd (Reg.PNL_WGT_PROG_LAYERS p) →
      s.dmaFail c.fn (c.fld 8 8) (4 * c.fld 2 2) = none → ∃ u : State, exec (.wgtRelease c) s = .next (u.complete j St.OK) ∧
        (u.wgt p).releases = (s.wgt p).releases.filter (fun r => !(r.handle = c.fld 0 1 && r.entry = c.fld 1 1)) ++
          [⟨c.fld 0 1, c.fld 1 1, (List.range (c.fld 2 2)).map (fun i => leAt (s.hostRead (c.fld 8 8) (4 * c.fld 2 2)) (4 * i) 4)⟩] ∧
        u = { b with wgts := u.wgts } ∧ ∀ q, q ≠ p → u.wgt q = s.wgt q)) ∧
  (∀ (c : Cmd) (s : State) (p : Nat), specRefitJournal.accepts c s → c.pnl = some p → s.pst p ≠ PS.empty →
    let j := specRefitJournal.job c s
    let b := specRefitJournal.begun c s
    let bs := (s.wgt p).journal.bytes
    (c.fld 0 8 % 64 ≠ 0 → exec (.refitJournal c) s = .next (b.complete j St.MANIFEST_FORMAT)) ∧
    (∀ bad, c.fld 0 8 % 64 = 0 → s.dmaFail c.fn (c.fld 0 8) bs.length = some bad →
      exec (.refitJournal c) s = .next (b.completeD j St.DMA_ERROR bad 0)) ∧
    (s.twin.capture = false → c.fld 0 8 % 64 = 0 → s.dmaFail c.fn (c.fld 0 8) bs.length = none →
      exec (.refitJournal c) s = .next ((b.hostWrite (c.fld 0 8) bs).complete j St.OK)))

/-- R320 to R325, R329. -/
def Obligations.RefitsBeginReleaseAndEnd : Prop :=
  (∀ (c : Cmd) (s : State) (p : Nat), specModelRefit.accepts c s → c.pnl = some p → s.pst p ≠ PS.empty →
    let j := specModelRefit.job c s
    let b := specModelRefit.begun c s
    (s.wst p ≠ WS.ready → exec (.modelRefit c) s = .next (b.complete j St.WEIGHTS_BUSY)) ∧
    (s.wst p = WS.ready → 1 < c.fld 12 1 → exec (.modelRefit c) s = .next (b.complete j St.MANIFEST_FORMAT)) ∧
    (∀ m srcs segs, s.wst p = WS.ready → c.fld 12 1 ≤ 1 →
      s.manifestAt c p (c.fld 0 8) (c.fld 8 4) (c.fld 24 8) (c.fld 13 1) (s.wgt p).place (s.rd (Reg.PNL_WGT_STATE_DEV_INDEX p)) m srcs segs →
      let same := mfModel m = s.rd (Reg.PNL_WGT_MODEL_MODEL_ID p) ∧ mfLayers m = s.rd (Reg.PNL_WGT_PROG_LAYERS p) ∧
        mfDevices m = s.rd (Reg.PNL_WGT_STATE_DEVICES p) ∧ mfGen m ≠ s.rd (Reg.PNL_WGT_GEN_GEN p)
      let clash := segs.any (fun g => (s.wgt p).segs.any (fun o => o.layer ≠ g.layer && (s.segPageIds g).any (fun x => (s.segPageIds o).contains x)))
      (¬ same → exec (.modelRefit c) s = .next (b.complete j St.REFIT_MODEL_MISMATCH)) ∧
      (same → clash = true → exec (.modelRefit c) s = .next (b.complete j St.MANIFEST_PLACEMENT)) ∧
      (same → clash = false → stDiff s.now (BitVec.ofNat 64 (c.fld 16 8)) < 100000 →
        exec (.modelRefit c) s = .next (b.complete j St.REFIT_BARRIER_TOO_SOON)) ∧
      (same → clash = false → 100000 ≤ stDiff s.now (BitVec.ofNat 64 (c.fld 16 8)) → ∃ u : State, exec (.modelRefit c) s = .next u ∧
        u.wst p = WS.refit ∧ u.shard p = SH.fetching ∧ u.rd (Reg.PNL_WGT_GEN_NEW_GEN p) = mfGen m ∧
        u.rd (Reg.PNL_WGT_GEN_GEN p) = s.rd (Reg.PNL_WGT_GEN_GEN p) ∧ u.rd (Reg.PNL_WGT_BARRIER_STITCH p) = c.fld 16 8 ∧
        (u.wgt p).segs = segs ∧ (u.wgt p).reqs = [] ∧ (u.wgt p).oldSources = (s.wgt p).sources ∧ (u.wgt p).lastOld = s.latestOld p ∧
        (∀ g ∈ u.integ.refetch, s.panelOfPage g ≠ some p) ∧ (u.wgt p).barrierHit = false ∧ (u.wgt p).journal.state = 1 ∧ (u.wgt p).journal.newGen = mfGen m ∧
        (u.wgt p).journal.done = [] ∧ (u.wgt p).job = some s.nextJob ∧ u.jobs = s.jobs ++ [j] ∧ u.tiles = s.tiles ∧ u.bobs = s.bobs))) ∧
  (∀ (c : Cmd) (s : State) (p : Nat), specRefitResume.accepts c s → c.pnl = some p →
    let j := specRefitResume.job c s
    let b := specRefitResume.begun c s
    (s.pst p ≠ PS.empty → s.pst p ≠ PS.stopped → exec (.refitResume c) s = .next (b.complete j St.PANEL_NOT_STOPPED)) ∧
    (s.pst p = PS.stopped → s.wst p ≠ WS.stopped → exec (.refitResume c) s = .next (b.complete j St.WEIGHTS_BUSY)) ∧
    (∀ m srcs segs, s.pst p = PS.stopped → s.wst p = WS.stopped →
      s.manifestAt c p (c.fld 0 8) (c.fld 8 4) (c.fld 24 8) (c.fld 13 1) (s.wgt p).place (s.rd (Reg.PNL_WGT_STATE_DEV_INDEX p)) m srcs segs →
      (digest384 m ≠ (s.wgt p).journal.digest → exec (.refitResume c) s = .next (b.complete j St.MANIFEST_DIGEST_MISMATCH)) ∧
      (digest384 m = (s.wgt p).journal.digest → ∃ u : State, exec (.refitResume c) s = .next u ∧ u.wst p = WS.refit ∧
        u.shard p = SH.fetching ∧ (u.wgt p).barrierHit = true ∧ (u.wgt p).journal.state = 1 ∧ (u.wgt p).sources = srcs ∧
        (u.wgt p).job = some s.nextJob ∧ u.jobs = s.jobs ++ [j] ∧ u.tiles = s.tiles ∧ u.bobs = s.bobs))) ∧
  (∀ (s : State) (p : Nat), p < 16 → s.direct p = true →
    let due := s.wst p = WS.refit ∧ (s.wgt p).barrierHit = false ∧
      reached s.now (BitVec.ofNat 64 (s.rd (Reg.PNL_WGT_BARRIER_STITCH p))) = true
    (¬ due → exec (.refitBarrier p) s = .next s) ∧
    (due → ∃ u : State, exec (.refitBarrier p) s = .next u ∧ (u.wgt p).barrierHit = true ∧ u.wst p = WS.refit ∧
      u = { s with wgts := u.wgts, csr := u.csr, integ := u.integ } ∧ u.integ = { s.integ with refetch := u.integ.refetch } ∧ RegsBut [Reg.PNL_WGT_STATE_RELEASE_WAIT p] s u ∧ ∀ q, q ≠ p → u.wgt q = s.wgt q)) ∧
  (∀ (s : State) (p l : Nat), p < 16 → s.direct p = true →
    let due := s.wst p = WS.refit ∧ (s.wgt p).barrierHit = true ∧ s.passedRelease p l = true
    (¬ due → exec (.layerRelease p l) s = .next s) ∧
    (due → ∃ u : State, exec (.layerRelease p l) s = .next u ∧ (u.wgt p).released = nins l (s.wgt p).released ∧ u.wst p = WS.refit ∧
      u = { s with wgts := u.wgts, csr := u.csr, integ := u.integ } ∧ u.integ = { s.integ with refetch := u.integ.refetch } ∧ RegsBut [Reg.PNL_WGT_STATE_RELEASE_WAIT p] s u)) ∧
  (∀ (s : State) (p d x : Nat) (m : W64) (gen : W32), p < 16 → s.direct p = true →
    let late := s.wst p = WS.ready ∧ (s.wgt p).awaiting = true ∧ s.isHead p = true ∧ m.toNat = s.rd (Reg.PNL_WGT_MODEL_MODEL_ID p) ∧
      gen.toNat = s.rd (Reg.PNL_WGT_GEN_GEN p) ∧ d < s.rd (Reg.PNL_WGT_STATE_DEVICES p)
    let mine := (s.wst p = WS.refit ∨ (s.wst p = WS.stopped ∧ d ≠ 0)) ∧ s.isHead p = true ∧ m.toNat = s.rd (Reg.PNL_WGT_MODEL_MODEL_ID p) ∧
      gen.toNat = s.rd (Reg.PNL_WGT_GEN_NEW_GEN p) ∧ d < s.rd (Reg.PNL_WGT_STATE_DEVICES p) ∧ (d ≠ 0 ∨ s.shard p = SH.verified)
    let n := (nins d (s.wgt p).reported).length
    (¬ mine → ¬ late → exec (.refitDoneReport p d x m gen) s = .next s) ∧
    (late → ∃ u : State, exec (.refitDoneReport p d x m gen) s = .next u ∧ u.wst p = WS.ready ∧
      (u.wgt p).reported = nins 0 (nins d (s.wgt p).reported) ∧
      ((nins 0 (nins d (s.wgt p).reported)).length = s.rd (Reg.PNL_WGT_STATE_DEVICES p) → (u.wgt p).awaiting = false) ∧
      ((nins 0 (nins d (s.wgt p).reported)).length ≠ s.rd (Reg.PNL_WGT_STATE_DEVICES p) → (u.wgt p).awaiting = true ∧ u.out = s.out)) ∧
    (mine → ∃ u : State, exec (.refitDoneReport p d x m gen) s = .next u ∧
      (n ≠ s.rd (Reg.PNL_WGT_STATE_DEVICES p) ∨ s.wst p = WS.stopped → u.wst p = s.wst p ∧
        (u.wgt p).reported = nins d (s.wgt p).reported) ∧
      (n = s.rd (Reg.PNL_WGT_STATE_DEVICES p) → s.wst p = WS.refit → u.wst p = WS.ready ∧ (u.wgt p).digest = (s.wgt p).journal.digest ∧ u.rd (Reg.PNL_WGT_GEN_GEN p) = s.rd (Reg.PNL_WGT_GEN_NEW_GEN p) ∧
        (u.wgt p).journal.state = 3)))

/-- R341, R358, R362, R364. -/
def Obligations.SpoolSubmitAdmitsARequest : Prop :=
  ∀ (c : Cmd) (s : State) (p : Nat), specSpoolSubmit.accepts c s → s.servable c p →
    let j := specSpoolSubmit.job c s
    let b := specSpoolSubmit.begun c s
    let a := c.fld 36 8
    let n := 64 + 72 * min 8 (leAt (s.hostRead a 64) 46 1)
    let blk := s.hostRead a n
    (s.bit (Reg.DBG_PNL_CTL_REPLAY p) = true → exec (.spoolSubmit c) s = .next (b.complete j St.REPLAY_MODE)) ∧
    (s.bit (Reg.DBG_PNL_CTL_REPLAY p) = false →
      (bits (c.fld 12 1) 4 2 = 3 ∨ maxNewOk (c.fld 32 4) = false → exec (.spoolSubmit c) s = .next (b.complete j St.SPOOL_RANGE)) ∧
      (bits (c.fld 12 1) 4 2 ≠ 3 → maxNewOk (c.fld 32 4) = true →
        (s.freeSpool p = none → exec (.spoolSubmit c) s = .next (b.complete j St.SPOOL_TABLE_FULL)) ∧
        (∀ i, s.freeSpool p = some i → b.dmaFail c.fn a 64 = none → b.dmaFail c.fn a n = none →
          ((s.serve p).tok = none → exec (.spoolSubmit c) s = .next (b.complete j St.NO_TOKENIZER)) ∧
          (∀ t, (s.serve p).tok = some t → b.dmaFail c.fn (c.fld 0 8) (c.fld 8 4) = none →
            let ids := t.encode (s.hostRead (c.fld 0 8) (c.fld 8 4)) ((leAt blk 47 1) % 2 = 1)
            (b.paramOk p blk = false ∨ ids = [] → exec (.spoolSubmit c) s = .next (b.complete j St.SPOOL_RANGE)) ∧
            (b.paramOk p blk = true → ids ≠ [] →
              (s.fitsBucket p ids.length (c.fld 32 4) = false → exec (.spoolSubmit c) s = .next (b.complete j St.SPOOL_TOO_LONG)) ∧
              (s.fitsBucket p ids.length (c.fld 32 4) = true →
                (stopFit (leAt blk 46 1) (s.rd Reg.GSE_CAP2_STOP_SLOTS) s.stopRuns 0 = none →
                  exec (.spoolSubmit c) s = .next (b.complete j St.STOP_STORE_FULL)) ∧
                (∀ first, stopFit (leAt blk 46 1) (s.rd Reg.GSE_CAP2_STOP_SLOTS) s.stopRuns 0 = some first →
                  (s.histFree p 0 (ids.length + c.fld 32 4) = false → exec (.spoolSubmit c) s = .next (b.complete j St.HISTORY_FULL)) ∧
                  (s.histFree p 0 (ids.length + c.fld 32 4) = true → ∃ u : State, exec (.spoolSubmit c) s = .next (u.completeD j St.OK i 0) ∧
                    (u.spool i).st = SP.admitted ∧ (u.spool i).panel = p ∧ (u.spool i).tag = c.tag ∧ (u.spool i).tokens = ids.length ∧
                    (u.spool i).turnStart = ids.length ∧ (u.spool i).admitAt = s.now ∧ (u.spool i).kvTokens = 0 ∧ (u.spool i).maxNew = c.fld 32 4 ∧
                    (u.spool i).prio = bits (c.fld 12 1) 0 4 ∧ (u.spool i).dlPolicy = bits (c.fld 12 1) 4 2 ∧
                    (u.spool i).conv = (c.fld 12 1).testBit 6 ∧ (u.spool i).deadline = BitVec.ofNat 64 (c.fld 16 8) ∧
                    (u.spool i).seed = BitVec.ofNat 64 (c.fld 24 8) ∧ (u.spool i).sampler = BitVec.ofNat 256 (leAt blk 0 32) ∧
                    (u.spool i).stops = paramStops blk ∧ (u.spool i).outAddr = leAt blk 32 8 ∧ (u.spool i).outBytes = leAt blk 40 4 ∧
                    (u.spool i).cq = leAt blk 44 2 ∧ (u.spool i).outPos = 0 ∧ (∀ k, k ≠ i → u.spool k = s.spool k) ∧ u.tiles = s.tiles ∧
                    u.hostMem = s.hostMem ∧ u.serves = s.serves ∧ u.admitSeq = (s.admitSeq + 1) % 2 ^ 32))))))))

/-- R331, R338, R340, R352, R353, R365, R375. -/
def Obligations.SpoolCommandsActOnTheirSpool : Prop :=
  (∀ e ∈ ([(specSpoolAppend, Instr.spoolAppend), (specSpoolCancel, Instr.spoolCancel), (specSpoolClose, Instr.spoolClose),
      (specSpoolRead, Instr.spoolRead), (specSpoolAck, Instr.spoolAck)] : List (CmdSpec × (Cmd → Instr))),
    ∀ (c : Cmd) (s : State) (p : Nat), e.1.accepts c s → c.pnl = some p → s.pst p ≠ PS.empty →
      (s.follower p = true → exec (e.2 c) s = .next ((e.1.begun c s).complete (e.1.job c s) St.GSE_NOT_HEAD)) ∧
      (s.follower p = false → (s.spoolOwner (c.fld 0 2) ≠ some p ∨ (s.spool (c.fld 0 2)).st = SP.free) →
        exec (e.2 c) s = .next ((e.1.begun c s).complete (e.1.job c s) St.SPOOL_RANGE))) ∧
  (∀ (c : Cmd) (s : State) (p : Nat), let i := c.fld 0 2
    s.servable c p → s.spoolOwner i = some p → (s.spool i).st ≠ SP.free →
    let x := s.spool i
    (specSpoolAppend.accepts c s → s.bit (Reg.DBG_PNL_CTL_REPLAY p) = false →
      let j := specSpoolAppend.job c s
      let b := specSpoolAppend.begun c s
      (x.st ∉ [SP.idle, SP.parking, SP.parked, SP.cold] → exec (.spoolAppend c) s = .next (b.complete j St.SPOOL_STATE)) ∧
      (x.st ∈ [SP.idle, SP.parking, SP.parked, SP.cold] → maxNewOk (c.fld 20 4) = true → b.dmaFail c.fn (c.fld 8 8) (c.fld 16 4) = none →
        ∀ t, (s.serve p).tok = some t → let n := x.tokens + (t.encode (s.hostRead (c.fld 8 8) (c.fld 16 4)) false).length
          s.fitsBucket p n (c.fld 20 4) = true → s.histFree p x.hist.length (n + c.fld 20 4) = true →
          ∃ u : State, exec (.spoolAppend c) s = .next (u.complete j St.OK) ∧ (u.spool i).tokens = n ∧ (u.spool i).turnStart = n ∧
            (u.spool i).maxNew = c.fld 20 4 ∧
            (x.st = SP.idle ∨ x.st = SP.parking ∨ (x.st = SP.cold ∧ ∀ e, x.expired = some e → e.1 ≠ s.now) → (u.spool i).st = SP.admitted) ∧
            (x.st = SP.parked ∨ (x.st = SP.cold ∧ ∃ e, x.expired = some e ∧ e.1 = s.now) →
              (u.spool i).st = SP.unparking ∨ (u.spool i).st = SP.admitted) ∧ (∀ k, k ≠ i → u.spool k = s.spool k) ∧
            u.hostMem = s.hostMem ∧ u.serves = s.serves)) ∧
    (specSpoolCancel.accepts c s → let j := specSpoolCancel.job c s
      let b := specSpoolCancel.begun c s
      (x.st = SP.done → exec (.spoolCancel c) s = .next (b.complete j St.SPOOL_STATE)) ∧
      (x.st = SP.cancelling → exec (.spoolCancel c) s = .next (b.complete j St.OK)) ∧
      (x.st ≠ SP.done → x.st ≠ SP.cancelling → ∃ u : State, exec (.spoolCancel c) s = .next (u.completeAt j St.OK 0 0 (some (s.cancelStitch p))) ∧
        (u.serve p).cancelAt = some (s.cancelStitch p) ∧
        (u.spool i).st = (if s.heldByStep p i then SP.cancelling else SP.done) ∧ (u.spool i).final = St.SPOOL_CANCELLED ∧
        (∀ t ∈ (u.serve p).steps, ∀ k ∈ t.picks, k.spool = i → k.masked = true) ∧ (∀ k, k ≠ i → u.spool k = s.spool k))) ∧
    (specSpoolClose.accepts c s → let j := specSpoolClose.job c s
      let b := specSpoolClose.begun c s
      (x.st ∉ [SP.idle, SP.parking, SP.parked, SP.cold, SP.unparking] → exec (.spoolClose c) s = .next (b.complete j St.SPOOL_STATE)) ∧
      (x.st ∈ [SP.idle, SP.parking, SP.parked, SP.cold, SP.unparking] → ∃ u : State, exec (.spoolClose c) s = .next (u.complete j St.OK) ∧
        (u.spool i).st = (if s.heldByStep p i then SP.cancelling else SP.done) ∧ (u.spool i).final = St.OK ∧
        (∀ k, k ≠ i → u.spool k = s.spool k) ∧ u.serves = s.serves)) ∧
    (specSpoolRead.accepts c s → let j := specSpoolRead.job c s
      let b := specSpoolRead.begun c s
      let img := x.image (s.inStep p i)
      (∀ bad, b.dmaFail c.fn (c.fld 8 8) img.length = some bad → exec (.spoolRead c) s = .next (b.completeD j St.DMA_ERROR bad 0)) ∧
      (s.twin.capture = false → b.dmaFail c.fn (c.fld 8 8) img.length = none → exec (.spoolRead c) s = .next ((b.hostWrite (c.fld 8 8) img).complete j St.OK))) ∧
    (specSpoolAck.accepts c s → let j := specSpoolAck.job c s
      let b := specSpoolAck.begun c s
      (x.outPos.toNat < c.fld 8 8 → exec (.spoolAck c) s = .next (b.complete j St.SPOOL_RANGE)) ∧
      (c.fld 8 8 ≤ x.outPos.toNat →
        let room := x.outBytes - (x.outPos - BitVec.ofNat 64 (c.fld 8 8)).toNat
        let off := x.outPos.toNat % max 1 x.outBytes
        let fits := min x.pend.length room
        let k := min fits (x.outBytes - off)
        let n := if (b.dmaFail (x.panel + 1) (x.outAddr + off) k).isSome || (b.dmaFail (x.panel + 1) x.outAddr (fits - k)).isSome then 0 else fits
        ∃ u : State, exec (.spoolAck c) s = .next (u.complete j St.OK) ∧
        (s.twin.capture = false → s.direct x.panel = true → n ≠ 0 → u.hostMem = (if k < n
          then (b.hostWrite (x.outAddr + off) (x.pend.take k)).hostWrite x.outAddr ((x.pend.take n).drop k)
          else b.hostWrite (x.outAddr + off) (x.pend.take k)).hostMem) ∧ (n = 0 → u.hostMem = s.hostMem) ∧
        (u.spool i).acked = BitVec.ofNat 64 (c.fld 8 8) ∧ (u.spool i).pend = x.pend.drop n ∧ (u.spool i).outPos = x.outPos + BitVec.ofNat 64 n ∧
        (u.spool i).st = x.st ∧ (∀ k, k ≠ i → u.spool k = s.spool k) ∧ u.csr = s.csr ∧ u.bobs = s.bobs)))

/-- R342, R357, R378, R396. -/
def Obligations.ServingTablesAreSetWhileStopped : Prop :=
  (∀ e ∈ ([(specBucketSet, Instr.bucketSet), (specTokenizerLoad, Instr.tokenizerLoad), (specParkAreaSet, Instr.parkAreaSet)] :
      List (CmdSpec × (Cmd → Instr))), ∀ (c : Cmd) (s : State) (p : Nat), e.1.accepts c s → s.servable c p → s.pst p ≠ PS.stopped →
    ∃ u : State, exec (e.2 c) s = .next (u.complete (e.1.job c s) St.PANEL_NOT_STOPPED) ∧ u.rd (Reg.PNL_LAST_CODE p) = 0x0202 ∧
      RegsBut [Reg.PNL_LAST_CODE p, Reg.PNL_LAST_OFFSET p] s u ∧ u = { (e.1.begun c s) with csr := u.csr, fns := u.fns, out := u.out }) ∧
  (∀ (c : Cmd) (s : State) (p : Nat), s.servable c p → s.pst p = PS.stopped →
    (specBucketSet.accepts c s → let j := specBucketSet.job c s
      let b := specBucketSet.begun c s
      let k : Bucket := ⟨c.fld 2 1, c.fld 3 1, c.fld 4 2, c.fld 6 2, c.fld 8 4, c.fld 12 2, c.fld 14 1 = 1, c.fld 16 4⟩
      (31 < c.fld 0 1 ∨ 1 < c.fld 1 1 → exec (.bucketSet c) s = .next (b.complete j St.BUCKET_INVALID)) ∧
      (c.fld 0 1 ≤ 31 → c.fld 1 1 = 0 → ∃ u : State, exec (.bucketSet c) s = .next (u.complete j St.OK) ∧
        sget none (u.serve p).buckets (c.fld 0 1) = none ∧ (∀ n, n ≠ c.fld 0 1 → sget none (u.serve p).buckets n = sget none (s.serve p).buckets n) ∧
        u = { b with serves := u.serves } ∧ (∀ q, q ≠ p → u.serve q = s.serve q)) ∧
      (c.fld 0 1 ≤ 31 → c.fld 1 1 = 1 →
        (s.bucketOk p k = false → exec (.bucketSet c) s = .next (b.complete j St.BUCKET_INVALID)) ∧
        (s.bucketOk p k = true → k.dep = true → s.strict p = true → exec (.bucketSet c) s = .next (b.complete j St.BATCH_DEP_STRICT)) ∧
        (s.bucketOk p k = true → (k.dep = false ∨ s.strict p = false) → ∃ u : State, exec (.bucketSet c) s = .next (u.complete j St.OK) ∧
          sget none (u.serve p).buckets (c.fld 0 1) = some k ∧
          (∀ n, n ≠ c.fld 0 1 → sget none (u.serve p).buckets n = sget none (s.serve p).buckets n) ∧
          u = { b with serves := u.serves } ∧ (∀ q, q ≠ p → u.serve q = s.serve q)))) ∧
    (specTokenizerLoad.accepts c s → let j := specTokenizerLoad.job c s
      let b := specTokenizerLoad.begun c s
      let img := s.hostRead (c.fld 0 8) (c.fld 8 4)
      (33554432 < c.fld 8 4 → exec (.tokenizerLoad c) s = .next (b.complete j St.TOKENIZER_FORMAT)) ∧
      (c.fld 8 4 ≤ 33554432 → b.dmaFail c.fn (c.fld 0 8) (c.fld 8 4) = none →
        (tokCheck img = none → exec (.tokenizerLoad c) s = .next (b.complete j St.TOKENIZER_FORMAT)) ∧
        (∀ t, tokCheck img = some t → let held := s.tokStore p
          let total := (held.map (fun k => k.2)).sum + (if held.any (fun k => k.1 = t.digest) then 0 else t.bytes)
          (s.rd Reg.GSE_CAP2_TOK_STORE_MIB * 1048576 < total → exec (.tokenizerLoad c) s = .next (b.complete j St.TOKENIZER_SPACE)) ∧
          (total ≤ s.rd Reg.GSE_CAP2_TOK_STORE_MIB * 1048576 → ∃ u : State, exec (.tokenizerLoad c) s = .next (u.complete j St.OK) ∧
            (u.serve p).tok = some t ∧ u.rd (Reg.GSE_TOK_LOADED p) = 1 ∧ u.rd (Reg.GSE_TOK_VOCAB p) = t.vocab % 2 ^ (Reg.GSE_TOK_VOCAB p).w ∧
            RegsBut [Reg.GSE_TOK_LOADED p, Reg.GSE_TOK_VOCAB p, Reg.GSE_TOK_MERGES p, Reg.GSE_TOK_KIB p] s u ∧
            u = { b with serves := u.serves, csr := u.csr })))) ∧
    (specParkAreaSet.accepts c s → let j := specParkAreaSet.job c s
      let b := specParkAreaSet.begun c s
      (c.fld 8 4 ≠ 0 → (c.fld 0 8 % 65536 ≠ 0 ∨ 1048576 < c.fld 8 4) → exec (.parkAreaSet c) s = .next (b.complete j St.PARK_AREA_INVALID)) ∧
      (c.fld 8 4 = 0 ∨ (c.fld 0 8 % 65536 = 0 ∧ c.fld 8 4 ≤ 1048576) → ∃ u : State, exec (.parkAreaSet c) s = .next (u.complete j St.OK) ∧
        u.rd (Reg.GSE_PARK_BASE_ADDR p) = (if c.fld 8 4 = 0 then 0 else c.fld 0 8 % 2 ^ (Reg.GSE_PARK_BASE_ADDR p).w) ∧
        u.rd (Reg.GSE_PARK_CFG_PAGES p) = c.fld 8 4 % 2 ^ (Reg.GSE_PARK_CFG_PAGES p).w ∧
        RegsBut [Reg.GSE_PARK_BASE_ADDR p, Reg.GSE_PARK_CFG_PAGES p] s u ∧ u = { b with csr := u.csr })))

/-- R343 to R346. -/
def Obligations.StepsAreAnnounced : Prop :=
  (∀ (s : State) (p : Nat), p < 16 → s.direct p = true →
    (s.canAnnounce p = false → exec (.stepAnnounce p) s = .next s) ∧
    (s.canAnnounce p = true → s.reloads p ≠ [] → ∃ u : State, exec (.stepAnnounce p) s = .next u ∧ u.serves = s.serves ∧
      u.panels = s.panels ∧ u.tiles = s.tiles ∧ u.spools = s.spools) ∧
    (∀ t r, s.canAnnounce p = true → s.reloads p = [] → s.wst p = WS.ready → (s.serve p).policyGen = s.rd (Reg.PNL_WGT_GEN_GEN p) →
      (s.serve p).redo = t :: r → ∃ (u : State) (v : AnnStep), exec (.stepAnnounce p) s = .next u ∧ (u.serve p).redo.length = r.length ∧
        (u.serve p).steps.length = (s.serve p).steps.length + 1 ∧ (u.serve p).steps.getLast? = some v ∧ v.q = (s.serve p).nextQ ∧
        v.c = t.c ∧ v.bucket = t.bucket ∧ v.was = t.q :: t.was ∧ v.reported = [] ∧ v.endAt = none ∧ u.tiles = s.tiles) ∧
    (s.canAnnounce p = true → s.reloads p = [] → (s.wst p = WS.ready → (s.serve p).policyGen = s.rd (Reg.PNL_WGT_GEN_GEN p)) →
      (s.serve p).replay = none → (s.serve p).redo = [] →
      (s.bit (Reg.DBG_PNL_CTL_REPLAY p) = true → exec (.stepAnnounce p) s = .next s) ∧
      (s.bit (Reg.DBG_PNL_CTL_REPLAY p) = false → s.rd (Reg.GSE_PCFG_MODE p) ≠ 0 →
        ((s.serve p).fwAt.isSome → (s.serve p).fwPick = none → exec (.stepAnnounce p) s = .next s) ∧
        (∀ bk ks, (s.serve p).fwAt.isSome → (s.serve p).fwPick = some (bk, ks) → exec (.stepAnnounce p) s = .next (s.useChoice p bk ks)) ∧
        ((s.serve p).fwAt = none → ∃ u : State, exec (.stepAnnounce p) s = .next u ∧
          let cs := (s.spoolsOf p).filter (s.isCand p (s.chooseL p 0))
          u.serve p = { s.serve p with fwAt := some s.now, fwPick := none, fwCands := sortBy s.candLe (cs.filter (fun i => !s.outWaits i)) } ∧
          u.rd (Reg.GSE_SAMP_OUT_WAIT p) = min (s.rd (Reg.GSE_SAMP_OUT_WAIT p) + (cs.filter s.outWaits).length)
            (2 ^ (Reg.GSE_SAMP_OUT_WAIT p).w - 1) ∧ RegsBut [Reg.GSE_SAMP_OUT_WAIT p] s u ∧
          u = { s with serves := u.serves, csr := u.csr } ∧ (∀ q, q ≠ p → u.serve q = s.serve q))) ∧
      (s.bit (Reg.DBG_PNL_CTL_REPLAY p) = false → s.rd (Reg.GSE_PCFG_MODE p) = 0 → ∃ u : State, exec (.stepAnnounce p) s = .next u ∧
        u.tiles = s.tiles ∧ (∀ q, q ≠ p → u.serve q = s.serve q) ∧
        ((u.serve p).steps.length = (s.serve p).steps.length ∨
          ∃ t : AnnStep, (u.serve p).steps.getLast? = some t ∧ (u.serve p).steps.length = (s.serve p).steps.length + 1 ∧
            t.q = (s.serve p).nextQ ∧ (u.serve p).nextQ = ((s.serve p).nextQ + 1) % 65536 ∧
            t.c = s.rd (Reg.PNL_STEP_COUNT p) + (s.serve p).steps.length ∧ t.gen = s.rd (Reg.PNL_WGT_GEN_GEN p) ∧ t.picks ≠ [] ∧
            t.span = s.spanOf p t.bucket ∧ t.l = s.chooseL p t.span ∧ (u.serve p).prevEnd = some (t.l + BitVec.ofNat 64 t.span) ∧
            u.rd (Reg.GSE_LAST_L_STITCH p) = t.l.toNat ∧
            ∀ k ∈ t.picks, s.isCand p (s.chooseL p 0) k.spool = true ∧ s.outWaits k.spool = false)))) ∧
  (∀ (s : State) (p bk : Nat) (ks : List (Nat × Nat × Nat)), p < 16 →
    ((s.serve p).fwAt = none ∨ (s.serve p).fwPick ≠ none → exec (.fwBatchReturn p bk ks) s = .next s) ∧
    (∀ t, (s.serve p).fwAt = some t → (s.serve p).fwPick = none → s.canAnnounce p = false ∨ (s.serve p).redo ≠ [] →
      (s.fwInTime t = false → exec (.fwBatchReturn p bk ks) s = .next s) ∧
      (s.fwInTime t = true → ∃ u : State, exec (.fwBatchReturn p bk ks) s = .next u ∧ u.serve p = { s.serve p with fwPick := some (bk, ks) } ∧
        (∀ q, q ≠ p → u.serve q = s.serve q) ∧ u = { s with serves := u.serves })) ∧
    (∀ t, (s.serve p).fwAt = some t → (s.serve p).fwPick = none → s.canAnnounce p = true → (s.serve p).redo = [] → s.direct p = true →
      (s.wst p = WS.ready → (s.serve p).policyGen = s.rd (Reg.PNL_WGT_GEN_GEN p)) →
      let late : Bool := s.now ≠ t + BitVec.ofNat 64 (1000 * s.rd Reg.GSE_CTL2_FW_BUDGET_US) && s.fwLate t
      (late = true → ∃ u : State, exec (.fwBatchReturn p bk ks) s = .next u ∧ (u.serve p).fwAt = none ∧
        u.rd (Reg.GSE_PCNT_FALLBACK p) = min (s.rd (Reg.GSE_PCNT_FALLBACK p) + 1) 255) ∧
      (late = false → (∀ b, (s.buckets p).find? (fun b => b.1 = bk) = some b → s.fwChoice p (s.chooseL p 0) ks b.2 = none) →
        ∃ u : State, exec (.fwBatchReturn p bk ks) s = .next u ∧ (u.serve p).fwAt = none ∧
          u.rd (Reg.GSE_PCNT_FALLBACK p) = min (s.rd (Reg.GSE_PCNT_FALLBACK p) + 1) 255) ∧
      (∀ b v, late = false → (s.buckets p).find? (fun b => b.1 = bk) = some b → s.fwChoice p (s.chooseL p 0) ks b.2 = some v →
        ∃ u : State, exec (.fwBatchReturn p bk ks) s = .next u ∧ (u.serve p).fwAt = none ∧
          u.rd (Reg.GSE_PCNT_FALLBACK p) = s.rd (Reg.GSE_PCNT_FALLBACK p) ∧
          ((u.serve p).steps.length = (s.serve p).steps.length ∨
            ∃ t : AnnStep, (u.serve p).steps.getLast? = some t ∧ (u.serve p).steps.length = (s.serve p).steps.length + 1 ∧
              t.bix = b.1 ∧ t.bucket = b.2 ∧ t.picks ≠ [] ∧ ∀ k ∈ t.picks, ∃ x ∈ ks, x.1 = k.spool ∧ x.2.1 = k.slot)))) ∧
  (∀ (s : State) (p : Nat), p < 16 →
    ((s.serve p).fwAt = none ∨ (s.serve p).fwPick ≠ none → exec (.fwBatchTimeout p) s = .next s) ∧
    (∀ t, (s.serve p).fwAt = some t → (s.serve p).fwPick = none →
      (reached s.now (t + BitVec.ofNat 64 (1000 * s.rd Reg.GSE_CTL2_FW_BUDGET_US)) = false ∨ s.canAnnounce p = false ∨ (s.serve p).redo ≠ [] →
        exec (.fwBatchTimeout p) s = .next s) ∧
      (reached s.now (t + BitVec.ofNat 64 (1000 * s.rd Reg.GSE_CTL2_FW_BUDGET_US)) = true → s.canAnnounce p = true → (s.serve p).redo = [] →
        s.direct p = true →
        ∃ u : State, exec (.fwBatchTimeout p) s = .next u ∧ (u.serve p).fwAt = none ∧
          u.rd (Reg.GSE_PCNT_FALLBACK p) = min (s.rd (Reg.GSE_PCNT_FALLBACK p) + 1) 255)))

/-- R28, R290, R346, R347, R349, R350, R395. -/
def Obligations.EngineMessagesBuildLaunches : Prop :=
  (∀ e ∈ ([(1, Instr.announce), (2, Instr.slots), (3, Instr.blocks), (4, Instr.tokens), (5, Instr.maskMessage), (6, Instr.report)] :
      List (Nat × (Nat → Instr))), ∀ (s : State) (p : Nat), s.direct p = true →
    s.ejected (epHost (32 + p)) (fun k => k.op = POp.ctrl && msgKind k.payload = e.1) = none → exec (e.2 p) s = .next s) ∧
  (∀ (s : State) (p i : Nat) (k : Packet), p < 16 → s.hears p 1 i k →
    let b := k.payload.drop 16
    let q := msgQ k.payload
    let soon : Prop := stDiff s.now (BitVec.ofNat 64 (leAt b 0 8)) < 50000
    let same : Prop := leAt b 24 2 = s.lanes p ∧ leAt b 26 2 = s.groups p ∧ leAt b 28 1 = s.kvFirst p ∧ leAt b 29 1 = s.rd (Reg.GSE_KV_TPP_CODE p)
    (∀ code : Code, (soon → code = St.LAUNCH_TOO_SOON) → (¬ soon → s.unlocked p = true → code = St.STITCH_UNLOCKED) →
      (¬ soon → s.unlocked p = false → ¬ same → code = St.KV_GEOMETRY) →
      (¬ soon → s.unlocked p = false → same → code = St.PANEL_NOT_RUNNING) →
      (soon ∨ s.unlocked p = true ∨ ¬ same ∨ s.pst p = PS.draining) →
      ∃ u : State, exec (.announce p) s = .next u ∧ u.rd (Reg.PNL_LAST_CODE p) = code.toNat ∧ (∀ x ∈ (u.serve p).launches, x.q ≠ q) ∧
        u.panels = s.panels ∧ u.tiles = s.tiles) ∧
    (¬ soon → s.unlocked p = false → same → s.pst p ≠ PS.draining → ∃ u : State, exec (.announce p) s = .next u ∧
      (u.serve p).launches = (s.serve p).launches.filter (fun x => x.c < leAt b 8 8) ++
        [{ q := q, l := BitVec.ofNat 64 (leAt b 0 8), c := leAt b 8 8, gen := leAt b 16 4, handle := leAt b 20 1, entry := leAt b 21 1
           slots := leAt b 22 2, at_ := s.now, coord := feidCoord k.src
           bucket := { handle := leAt b 20 1, entry := leAt b 21 1, maxSlots := leAt b 30 2, slotPages := leAt b 32 2
                       maxTokens := leAt b 34 4, chunk := 0, dep := false, key := leAt b 38 4 } }] ∧
      u = { (s.dropFlight i) with serves := u.serves, wgts := u.wgts } ∧
      (if s.wst p = WS.refit ∧ leAt b 16 4 = s.rd (Reg.PNL_WGT_GEN_GEN p) then (u.wgt p).lastOld = some q else u.wgts = s.wgts) ∧ (∀ j, j ≠ p → u.serve j = s.serve j))) ∧
  (∀ (s : State) (p i : Nat) (k : Packet) (l : Launch), (s.serve p).launches = [l] → l.q = msgQ k.payload →
    let b := k.payload.drop 16
    (s.hears p 2 i k → ∃ (u : State) (m : Launch), exec (.slots p) s = .next u ∧ (u.serve p).launches = [m] ∧ m.q = l.q ∧ m.l = l.l ∧
      m.c = l.c ∧ m.mask = l.mask ∧ m.blocks = l.blocks ∧ m.toks = l.toks ∧
      ∀ n, n < min (b.length / 16) (min 31 (l.slots - 31 * msgPart k.payload)) →
        sget none m.recs (31 * msgPart k.payload + n) = some (BitVec.ofNat 128 (leAt b (16 * n) 16))) ∧
    (s.hears p 3 i k → ∃ (u : State) (m : Launch), exec (.blocks p) s = .next u ∧ (u.serve p).launches = [m] ∧ m.q = l.q ∧ m.recs = l.recs ∧
      m.mask = l.mask ∧ m.toks = l.toks ∧
      ∀ n, n < (b.length - 4) / 4 → leAt b 2 2 + n < 1024 →
        sget none m.blocks (leAt b 0 2 * 1024 + leAt b 2 2 + n) = some (leAt b (4 + 4 * n) 4 % 2 ^ 20)) ∧
    (s.hears p 4 i k → ∃ (u : State) (m : Launch), exec (.tokens p) s = .next u ∧ (u.serve p).launches = [m] ∧ m.q = l.q ∧ m.recs = l.recs ∧
      m.mask = l.mask ∧ m.blocks = l.blocks ∧
      m.toks = (leAt b 0 4, (List.range ((b.length - 4) / 4)).map (fun n => leAt b (4 + 4 * n) 4)) :: l.toks ∧
      ∀ k n, m.slotAt (leAt b 0 4) = some k → m.slotAt (leAt b 0 4 + n) = some k → n < (b.length - 4) / 4 →
        m.tokAt (leAt b 0 4 + n) = some (leAt b (4 + 4 * n) 4)) ∧
    (s.hears p 5 i k → msgPart k.payload ≠ 0xFF → ∃ (u : State) (m : Launch), exec (.maskMessage p) s = .next u ∧
      (u.serve p).launches = [m] ∧ m.q = l.q ∧ m.mask = some (BitVec.ofNat 512 (leAt k.payload 16 64)) ∧ m.recs = l.recs)) ∧
  (∀ (s : State) (p i : Nat) (k : Packet), s.hears p 5 i k → msgPart k.payload = 0xFF →
    let m := BitVec.ofNat 512 (leAt k.payload 16 64)
    ((∀ r, (s.panel p).run = some r → r.q ≠ msgQ k.payload) → exec (.maskMessage p) s = .next (s.dropFlight i)) ∧
    (∀ r, (s.panel p).run = some r → r.q = msgQ k.payload → ∃ u : State, exec (.maskMessage p) s = .next u ∧
      (∀ t ∈ s.tilesOf p, (u.tile t).maskIn = some (s.clk.edge, m) ∧
        (u.tile t).launchMask = (if r.startIn = 0 then (s.tile t).launchMask else m)) ∧
      (∀ t, t ∉ s.tilesOf p → u.tile t = s.tile t) ∧ u.serves = s.serves ∧ u.csr = s.csr ∧ (r.startIn = 0 → u.bobs = s.bobs))) ∧
  (∀ (s : State) (p i : Nat) (f : Flight), p < 16 → s.direct p = true → s.isHead p = true →
    s.ejected (epHost (32 + p)) (fun k => k.op = POp.ctrl && msgKind k.payload = 6) = some (i, f) →
    let b := f.pkt.payload.drop 16
    let q := leAt b 0 2
    ∀ m, (s.wgt p).members.find? (fun m => m.2 = feidCoord f.pkt.src) = some m →
      let lost := ((s.serve p).kvLost ++ blocksIn b).eraseDups
      (leAt b 2 1 = RK.lost → (∃ t ∈ (s.serve p).steps, t.q = q) → ∃ u : State, exec (.report p) s = .next u ∧
        u.serve p = { s.serve p with kvLost := lost } ∧ u = { (s.dropFlight i) with serves := u.serves }) ∧
      (leAt b 2 1 = RK.lost → (∀ t ∈ (s.serve p).steps, t.q ≠ q) → s.replacement p q = none → ∃ u : State, exec (.report p) s = .next u ∧
        (u.serve p).kvLost = [] ∧ (u.serve p).steps = (s.serve p).steps ∧
        ∀ j ∈ s.spoolsOf p, (s.spool j).st = SP.prefill ∨ (s.spool j).st = SP.decode → (∃ x ∈ (s.spool j).blocks, x ∈ lost) →
          (u.spool j).st = SP.prefill ∧ (u.spool j).kvTokens = 0 ∧ (u.spool j).reprefill = true ∧ (u.spool j).blocks = []) ∧
      (∀ t, leAt b 2 1 = RK.lost → (∀ t ∈ (s.serve p).steps, t.q ≠ q) → s.replacement p q = some t → ∃ u : State, exec (.report p) s = .next u ∧
        (u.serve p).steps = (s.serve p).steps.takeWhile (fun x => x.q ≠ t.q)) ∧
      (leAt b 2 1 = RK.window → ∃ u : State, exec (.report p) s = .next u ∧
        sget none (u.serve p).windows (2 * m.1 + (if leAt b 14 4 < 1500 then 1 else 0)) = some (BitVec.ofNat 64 (leAt b 6 8), leAt b 14 4) ∧
        u = { (s.dropFlight i) with serves := u.serves }) ∧
      (leAt b 2 1 = RK.retired → msgPart f.pkt.payload = 0 → ∃ u : State, exec (.report p) s = .next u ∧
        sget [] (u.serve p).badBlocks m.1 = blocksIn b ∧ u = { (s.dropFlight i) with serves := u.serves }) ∧
      (leAt b 2 1 = RK.recovering → ∃ u : State, exec (.report p) s = .next u ∧
        u.serve p = { s.serve p with recovering := if leAt b 5 1 = 1 then nins m.1 (s.serve p).recovering else ndel m.1 (s.serve p).recovering } ∧
        u = { (s.dropFlight i) with serves := u.serves }) ∧
      ((∀ t ∈ (s.serve p).steps, t.q ≠ q) → leAt b 2 1 < 2 → leAt b 3 2 ≠ St.CHECK_UNWRITTEN.toNat → exec (.report p) s = .next (s.dropFlight i)) ∧
      ((∀ t ∈ (s.serve p).steps, t.q ≠ q) → leAt b 2 1 < 2 → leAt b 3 2 = St.CHECK_UNWRITTEN.toNat → s.replacement p q = none →
        (∃ t ∈ (s.serve p).redo, t.q = q ∨ q ∈ t.was) → ∃ u : State, exec (.report p) s = .next u ∧ (u.serve p).redo = [] ∧
          u = { (s.dropFlight i) with serves := u.serves }) ∧
      ((∃ t ∈ (s.serve p).steps, t.q = q) → leAt b 2 1 = 0 → (leAt b 5 1).testBit 0 = false → ∃ u : State, exec (.report p) s = .next u ∧
        (u.serve p).steps.length = (s.serve p).steps.length ∧
        ∀ t ∈ (u.serve p).steps, t.q = q → m.1 ∈ t.reported ∧ (s.rd (Reg.PNL_WGT_STATE_DEVICES p) ≤ t.reported.length → t.endAt.isSome) ∧
          ((leAt b 5 1).testBit 1 = true → t.altered = true)) ∧
      ((∃ t ∈ (s.serve p).steps, t.q = q) → leAt b 2 1 = 1 ∨ (leAt b 2 1 = 0 ∧ (leAt b 5 1).testBit 0 = true) → ∃ u : State, exec (.report p) s = .next u ∧
        (u.serve p).steps = (s.serve p).steps.takeWhile (fun t => t.q ≠ q) ∧
        (leAt b 3 2 = St.CHECK_UNWRITTEN.toNat → (u.serve p).redo = []))) ∧
  (∀ (s : State) (p q : Nat), p < 16 →
    ((s.serve p).launches.find? (fun l => l.q = q) = none → exec (.stepInputDeadline p q) s = .next s) ∧
    (∀ l, (s.serve p).launches.find? (fun l => l.q = q) = some l →
      let due := reached s.now (l.l - BitVec.ofNat 64 (s.rd Reg.GSE_CTL_TABLE_ST))
      (due = false ∨ l.complete (s.tpp p) = true → exec (.stepInputDeadline p q) s = .next s) ∧
      (due = true → l.complete (s.tpp p) = false → ∃ u : State, exec (.stepInputDeadline p q) s = .next u ∧
        u.rd (Reg.PNL_LAST_CODE p) = 0x0C0C ∧ (u.serve p).launches = (s.serve p).launches.filter (fun x => x.q ≠ q) ∧ u.tiles = s.tiles))) ∧
  (∀ (s : State) (p q : Nat), p < 16 →
    ((s.serve p).steps.find? (fun t => t.q = q) = none → exec (.decodeInputDeadline p q) s = .next s) ∧
    (∀ t, (s.serve p).steps = [t] → t.q = q →
      let due := reached s.now (t.l - BitVec.ofNat 64 (s.rd Reg.GSE_CTL_TABLE_ST + 2000))
      let late : List Nat := (t.picks.filter (fun k => k.dec && !k.masked && (s.spool k.spool).tokens ≤ k.pos)).map (fun k => k.slot)
      (t.inputsShut = true ∨ due = false → exec (.decodeInputDeadline p q) s = .next s) ∧
      (t.inputsShut = false → due = true → s.direct p = true → ∃ u : State, exec (.decodeInputDeadline p q) s = .next u ∧
        (u.serve p).steps = [{ t with inputsShut := true
                                      picks := t.picks.map (fun k => if k.slot ∈ late then { k with masked := true } else k) }] ∧
        u.spools = s.spools)))

/-- R339, R351, R354, R366 to R371, R376, R377. -/
def Obligations.ListsAreSampledAndStepsCommit : Prop :=
  (∀ (s : State) (p : Nat), p < 16 → s.direct p = true →
    (s.ejected (epHost (32 + p)) (fun k => k.op = POp.write) = none → exec (.candidatePacket p) s = .next s) ∧
    (∀ i f, s.ejected (epHost (32 + p)) (fun k => k.op = POp.write) = some (i, f) →
      let b := f.pkt.payload
      let slot := leAt b 2 2
      let dropped := exec (.candidatePacket p) s = .next ((s.dropFlight i).stick (Reg.GSE_SAMP_DROPPED p) 1)
      ((s.serve p).steps.find? (fun t => t.q = leAt b 0 2) = none → dropped) ∧
      (∀ t, (s.serve p).steps.find? (fun t => t.q = leAt b 0 2) = some t →
        (t.picks.find? (fun k => k.slot = slot && k.sample) = none → dropped) ∧
        (∀ k, t.picks.find? (fun k => k.slot = slot && k.sample) = some k → let l := sget {} t.lists slot
          (candOk b = false ∨ (∃ r ∈ candRecs b, ∃ o ∈ l.recs, o.1 = r.1 ∧ o.2.2.1 = r.2.2.1) → dropped) ∧
          (candOk b = true → (∀ r ∈ candRecs b, ∀ o ∈ l.recs, o.1 = r.1 → o.2.2.1 ≠ r.2.2.1) →
            let m : CandList := { nparts := l.nparts ++ [leAt b 5 1], recs := l.recs ++ candRecs b }
            (m.complete = false ∨ k.masked = true → ∃ (u : State) (t' : AnnStep), exec (.candidatePacket p) s = .next u ∧
              (u.serve p).steps.find? (fun t => t.q = leAt b 0 2) = some t' ∧ sget {} t'.lists slot = m ∧ t'.tokens = t.tokens ∧
              (f.pkt.knv = false → u = { (s.dropFlight i) with serves := u.serves })) ∧
            (m.complete = true → k.masked = false → badList (s.rd (Reg.GSE_TOK_VOCAB p)) m.cands = true →
              ∃ u : State, exec (.candidatePacket p) s = .next u ∧ (u.spool k.spool).final = St.SAMPLER_INPUT ∧
                ((u.spool k.spool).st = SP.cancelling ∨ (u.spool k.spool).st = SP.done)) ∧
            (m.complete = true → k.masked = false → badList (s.rd (Reg.GSE_TOK_VOCAB p)) m.cands = false →
              let w := min (smpWindow (s.spool k.spool).sampler.toNat) (k.pos + k.n)
              (s.histGet k.spool (k.pos + k.n - w) w).2.1 = false → ∃ (u : State) (t' : AnnStep), exec (.candidatePacket p) s = .next u ∧
                (u.serve p).steps.find? (fun t => t.q = leAt b 0 2) = some t' ∧ (sget none t'.tokens slot).isSome ∧
                u.spools = s.spools ∧ u.hostMem = s.hostMem)))))) ∧
  (∀ (s : State) (p : Nat), p < 16 → s.direct p = true →
    let lim := BitVec.ofNat 64 (1000 * max 1 (s.rd Reg.GSE_SAMP_CTL_TIMEOUT_US))
    let isLate := fun (i : Nat) => ∃ t ∈ (s.serve p).steps, ∃ e, t.endAt = some e ∧ reached s.now (e + lim) = true ∧
      ∃ k ∈ t.picks, k.sample = true ∧ k.masked = false ∧ sget none t.tokens k.slot = none ∧ k.spool = i
    ((∀ i, ¬ isLate i) → exec (.candidateTimeout p) s = .next s) ∧
    ((∃ i, isLate i) → ∃ u : State, exec (.candidateTimeout p) s = .next u ∧
      (∀ i, isLate i → (u.spool i).final = St.SAMPLER_INPUT ∧ ((u.spool i).st = SP.cancelling ∨ (u.spool i).st = SP.done)) ∧
      (∀ i, ¬ isLate i → u.spool i = s.spool i) ∧ u.tiles = s.tiles)) ∧
  (∀ (s : State) (p : Nat), p < 16 →
    (s.isHead p = true → (s.serve p).steps = [] → exec (.stepCommit p) s = .next s) ∧
    (∀ t r, s.isHead p = true → (s.serve p).steps = t :: r →
      (t.endAt = none ∨ t.sampled = false ∨ s.dropDue p = true ∨ s.cancelAhead p = true → exec (.stepCommit p) s = .next s) ∧
      (t.endAt.isSome → t.sampled = true → s.dropDue p = false → s.cancelAhead p = false → s.direct p = true → ∃ u : State, exec (.stepCommit p) s = .next u ∧
        (u.serve p).steps.length = r.length ∧ u.rd (Reg.PNL_STEP_COUNT p) = min (t.c + 1) (2 ^ 48 - 1) ∧
        u.rd (Reg.GSE_LAST_C_STITCH p) = s.now.toNat ∧
        (∀ k tok, t.picks = [k] → k.masked = false → k.sample = true → t.replay = false → sget none t.tokens k.slot = some tok →
          (s.spool k.spool).kvTokens = k.pos →
          (u.spool k.spool).tokens = (s.spool k.spool).tokens + 1 ∧ (u.spool k.spool).kvTokens = (s.spool k.spool).kvTokens + k.n))) ∧
    (s.isHead p = false → ((s.serve p).endedC = [] → exec (.stepCommit p) s = .next s) ∧
      (∀ c r, (s.serve p).endedC = c :: r → let n := min (c + 1) (2 ^ 48 - 1)
        ∃ u : State, exec (.stepCommit p) s = .next u ∧ u.rd (Reg.PNL_STEP_COUNT p) = n ∧ (u.serve p).endedC = r ∧
          (n < 2 ^ 48 - 1 ∨ s.rd (Reg.PNL_STEP_COUNT p) = n →
            RegsBut [Reg.PNL_STEP_COUNT p] s u ∧ u = { s with csr := u.csr, serves := u.serves }) ∧
          (n = 2 ^ 48 - 1 → s.rd (Reg.PNL_STEP_COUNT p) ≠ n →
            (sget ⟨0, none, 0, 0, 0, 0⟩ u.integ.log (s.rd Reg.INT_FLOG_HEAD_SEQ % 4096)).code = St.STEP_COUNTER_LIMIT)))) ∧
  (∀ (s : State) (i : Nat), let x := s.spool i
    (s.spoolOwner i = none ∨ x.st = SP.free ∨ SP.cancelling ≤ x.st ∨ x.deadline = 0 ∨ x.dlDone = true ∨ reached s.now x.deadline = false ∨
        s.armedDue x.admitAt x.deadline = false ∨ s.inTurn Ev.deadline = false → exec (.requestDeadline i) s = .next s) ∧
    (∀ p, s.spoolOwner i = some p → s.onStandby p = true → exec (.requestDeadline i) s = .next s) ∧
    (∀ p, s.spoolOwner i = some p → s.direct p = true → s.onStandby p = false → x.st ≠ SP.free → x.st < SP.cancelling → x.deadline ≠ 0 →
      x.dlDone = false → s.armedDue x.admitAt x.deadline = true → s.inTurn Ev.deadline = true → ∃ u : State, exec (.requestDeadline i) s = .next u ∧ (u.spool i).dlDone = true ∧
        (x.dlPolicy = 0 → (u.spool i).final = St.SPOOL_DEADLINE ∧ (u.spool i).st = (if s.heldByStep p i then SP.cancelling else SP.done)) ∧
        (x.dlPolicy ≠ 0 → (u.spool i).late = true) ∧ (2 ≤ x.dlPolicy → (u.spool i).st = x.st ∧ ∀ k, k ≠ i → u.spool k = s.spool k))) ∧
  (∀ (s : State) (i : Nat), let x := s.spool i
    (s.spoolOwner i = none ∨ x.st ≠ SP.done ∨ x.pend ≠ [] ∨ (x.replayPos = none ∧ (s.recordHeld i = true ∨ s.qcap x.cq ≤ s.qused x.cq)) →
      exec (.finalRecordPost i) s = .next s) ∧
    (∀ p, s.spoolOwner i = some p → s.onStandby p = true → exec (.finalRecordPost i) s = .next s) ∧
    (∀ p, s.spoolOwner i = some p → s.direct p = true → s.onStandby p = false → x.st = SP.done → x.pend = [] →
      (x.replayPos.isSome ∨ (s.recordHeld i = false ∧ s.qused x.cq < s.qcap x.cq)) →
      ∃ u : State, exec (.finalRecordPost i) s = .next u ∧ u.spool i = {} ∧ (∀ k, k ≠ i → u.spool k = s.spool k) ∧ u.hostMem = s.hostMem ∧
        u.serves = s.serves))

/-- R338, R379 to R384. -/
def Obligations.SpoolsAreParkedAndUnparked : Prop :=
  (∀ s : State, s.now.toNat % 1000 ≠ 0 → exec .idleTest s = .next s) ∧
  (∀ s : State, s.now.toNat % 1000 = 0 → (∀ p, p < 16 → s.direct p = true) → ∃ u : State, exec .idleTest s = .next u ∧
    (∀ i, (u.spool i).st = (s.spool i).st ∨ ((s.spool i).st = SP.idle ∧ (u.spool i).st = SP.parking ∧
      reached s.now ((s.spool i).idleAt + BitVec.ofNat 64 ((s.spool i).idleLim * 1000000)) = true)) ∧
    (∀ i, (u.spool i).tokens = (s.spool i).tokens ∧ (u.spool i).hist = (s.spool i).hist) ∧
    u.hostMem = s.hostMem ∧ u.tiles = s.tiles ∧ u.serves = s.serves) ∧
  (∀ (s : State) (i p : Nat), s.spoolOwner i = some p → s.direct p = true → let x := s.spool i
    (x.st ≠ SP.parking ∨ x.move = none → exec (.parkComplete i) s = .next s ∧ exec (.parkMoveFail i) s = .next s) ∧
    (x.st ≠ SP.unparking ∨ x.move = none → exec (.unparkComplete i) s = .next s ∧ exec (.unparkReadFail i) s = .next s) ∧
    (x.st ≠ SP.parked ∨ s.onStandby p = true ∨ s.armedDue x.parkedAt x.parkExpiry = false ∨ s.inTurn Ev.parkExpiry = false →
      exec (.parkTtlExpiry i) s = .next s) ∧
    (∀ m, x.st = SP.parking → x.move = some m →
      (m.failed = true ∨ m.done.length < m.pages ∨ m.bytes < m.pages * 65536 → exec (.parkComplete i) s = .next s) ∧
      (m.failed = false → exec (.parkMoveFail i) s = .next s) ∧
      (m.failed = false → m.pages ≤ m.done.length → m.pages * 65536 ≤ m.bytes → ∃ u : State, exec (.parkComplete i) s = .next u ∧
        (u.spool i).st = (if s.staleKv p i then SP.cold else SP.parked) ∧ (u.spool i).parkExpiry = s.now + s.ttl p i ∧
        (u.spool i).parkedAt = s.now ∧ (u.spool i).blocks = [] ∧ (u.spool i).move = none ∧ (s.staleKv p i = false → (u.spool i).parkPages = x.parkPages) ∧
        (∀ k, k ≠ i → u.spool k = s.spool k) ∧ u.hostMem = s.hostMem ∧ u.csr = s.csr) ∧
      (m.failed = true → ∃ u : State, exec (.parkMoveFail i) s = .next u ∧ (u.spool i).st = (if s.staleKv p i then SP.cold else SP.parked) ∧
        (u.spool i).parkExpiry = s.now ∧ (u.spool i).parkedAt = s.now ∧ (u.spool i).blocks = [] ∧ (u.spool i).move = none ∧
        u.rd (Reg.GSE_PARK_STAT_MOVES_FAIL p) = min (s.rd (Reg.GSE_PARK_STAT_MOVES_FAIL p) + 1) (2 ^ (Reg.GSE_PARK_STAT_MOVES_FAIL p).w - 1) ∧
        (∀ k, k ≠ i → u.spool k = s.spool k) ∧ u.hostMem = s.hostMem ∧ RegsBut [Reg.GSE_PARK_STAT_MOVES_FAIL p] s u)) ∧
    (x.st = SP.parked → s.onStandby p = false → s.armedDue x.parkedAt x.parkExpiry = true → s.inTurn Ev.parkExpiry = true →
      ∃ u : State, exec (.parkTtlExpiry i) s = .next u ∧ (u.spool i).st = SP.cold ∧
      (u.spool i).parkPages = 0 ∧ (u.spool i).kvTokens = 0 ∧ (u.spool i).tokens = x.tokens ∧ (u.spool i).hist = x.hist ∧
      (u.spool i).expired = some (s.now, x.parkPages, x.kvTokens) ∧
      (∀ k, k ≠ i → u.spool k = s.spool k) ∧ u.hostMem = s.hostMem ∧ u.csr = s.csr) ∧
    (∀ m, x.st = SP.unparking → x.move = some m →
      (m.failed = true ∨ m.done.length < m.pages ∨ m.bytes < m.pages * 65536 → exec (.unparkComplete i) s = .next s) ∧
      (m.failed = false → exec (.unparkReadFail i) s = .next s) ∧
      (m.failed = false → m.pages ≤ m.done.length → m.pages * 65536 ≤ m.bytes → ∃ u : State, exec (.unparkComplete i) s = .next u ∧
        (u.spool i).st = SP.admitted ∧ (u.spool i).parkPages = 0 ∧ (u.spool i).move = none ∧
        (s.staleKv p i = false → (u.spool i).blocks = x.blocks ∧ (u.spool i).kvTokens = x.kvTokens) ∧
        (s.staleKv p i = true → (u.spool i).reprefill = true ∧ (u.spool i).kvTokens = 0) ∧ (∀ k, k ≠ i → u.spool k = s.spool k) ∧
        u.hostMem = s.hostMem ∧ u.csr = s.csr) ∧
      (m.failed = true → ∃ u : State, exec (.unparkReadFail i) s = .next u ∧ (u.spool i).st = SP.admitted ∧ (u.spool i).reprefill = true ∧
        (u.spool i).kvTokens = 0 ∧ (u.spool i).parkPages = 0 ∧ (u.spool i).move = none ∧
        u.rd (Reg.GSE_PARK_STAT_MOVES_FAIL p) = min (s.rd (Reg.GSE_PARK_STAT_MOVES_FAIL p) + 1) (2 ^ (Reg.GSE_PARK_STAT_MOVES_FAIL p).w - 1) ∧
        (∀ k, k ≠ i → u.spool k = s.spool k) ∧ u.hostMem = s.hostMem)))

/-- The states of R393 and the refusal of R396. -/
def Obligations.PanelCommandsNeedTheirState : Prop :=
  ∀ e ∈ ([(specPanelStart, Instr.panelStart, [PS.stopped]), (specPanelStop, Instr.panelStop, [PS.running, PS.frozen, PS.faulted]),
      (specPanelReset, Instr.panelReset, [PS.stopped, PS.running, PS.frozen, PS.draining, PS.suspended, PS.faulted]),
      (specPanelSuspend, Instr.panelSuspend, [PS.stopped]), (specPanelRestore, Instr.panelRestore, [PS.stopped, PS.suspended]),
      (specPanelCtxRelease, Instr.panelCtxRelease, [PS.stopped, PS.running, PS.frozen, PS.draining, PS.suspended, PS.faulted])] :
        List (CmdSpec × (Cmd → Instr) × List Nat)),
    ∀ (c : Cmd) (s : State), e.1.accepts c s →
      ((c.pnl = none ∨ ∃ p, c.pnl = some p ∧ s.pst p = PS.empty) →
        exec (e.2.1 c) s = .next ((e.1.begun c s).complete (e.1.job c s) St.PANEL_EMPTY)) ∧
      (∀ p, c.pnl = some p → s.pst p ≠ PS.empty → s.pst p ∉ e.2.2 →
        ∃ u : State, exec (e.2.1 c) s = .next (u.complete (e.1.job c s) St.PANEL_NOT_STOPPED) ∧ u.rd (Reg.PNL_LAST_CODE p) = 0x0202 ∧
          u.rd (Reg.PNL_LAST_OFFSET p) = 0 ∧ RegsBut [Reg.PNL_LAST_CODE p, Reg.PNL_LAST_OFFSET p] (e.1.begun c s) u ∧
          u = { (e.1.begun c s) with csr := u.csr, fns := u.fns, out := u.out })

/-- R393 to R395. -/
def Obligations.PanelsStartStopAndReset : Prop :=
  (∀ (c : Cmd) (s : State) (p : Nat), specPanelStart.accepts c s → c.pnl = some p → s.pst p = PS.stopped →
    let j := specPanelStart.job c s
    let b := specPanelStart.begun c s
    (b.mixedLayers p = true → ∃ u : State, exec (.panelStart c) s = .next (u.complete j St.MIXED_GENERATION) ∧
      u.rd (Reg.PNL_LAST_CODE p) = St.MIXED_GENERATION.toNat ∧ u.pst p = PS.stopped) ∧
    (b.mixedLayers p = false → b.bucketsOk p = false → ∃ u : State, exec (.panelStart c) s = .next (u.complete j St.BUCKET_INVALID) ∧
      u.rd (Reg.PNL_LAST_CODE p) = St.BUCKET_INVALID.toNat ∧ u.pst p = PS.stopped) ∧
    (b.mixedLayers p = false → b.bucketsOk p = true → ∃ u : State, exec (.panelStart c) s = .next (u.complete j St.OK) ∧
      u.pst p = PS.running ∧ u.bit (Reg.LAT_PNL_FROZEN p) = false ∧ u.rd (Reg.LAT_PNL_FREEZES p) = 0 ∧
      (b.groups p < 2 ^ (Reg.GSE_KV_GROUPS p).w → u.rd (Reg.GSE_KV_GROUPS p) = b.groups p) ∧
      u = { b with csr := u.csr, serves := u.serves, noc := u.noc } ∧
      RegsBut [Reg.PNL_STATE_STATE p, Reg.LAT_PNL_FREEZES p, Reg.LAT_PNL_LAST_X p, Reg.LAT_PNL_LAST_Y p, Reg.LAT_PNL_LAST_CAUSE p,
        Reg.LAT_PNL_FROZEN p, Reg.GSE_KV_GROUPS p] b u)) ∧
  (∀ (c : Cmd) (s : State) (p : Nat), specPanelStop.accepts c s → c.pnl = some p →
    let j := specPanelStop.job c s
    let b := specPanelStop.begun c s
    (s.pst p = PS.running ∨ s.pst p = PS.frozen → c.fld 0 1 ≠ 1 → ∃ u : State, exec (.panelStop c) s = .next u ∧ u.pst p = PS.draining ∧
      u.panel p = { s.panel p with stopJob := some s.nextJob, stopAt := s.now } ∧ u.jobs = s.jobs ++ [j] ∧
      RegsBut [Reg.PNL_STATE_STATE p] s u ∧ u = { b with csr := u.csr, panels := u.panels } ∧ (∀ q, q ≠ p → u.panel q = s.panel q)) ∧
    (s.pst p = PS.faulted ∨ (c.fld 0 1 = 1 ∧ (s.pst p = PS.running ∨ s.pst p = PS.frozen)) →
      ∃ u : State, exec (.panelStop c) s = .next (u.complete j St.OK) ∧ u.pst p = PS.stopped ∧ (u.panel p).run = none ∧ u.hostMem = s.hostMem ∧
        (∀ q, q ≠ p → u.panel q = s.panel q) ∧ (∀ q, q < 16 → q ≠ p → u.pst q = s.pst q))) ∧
  (∀ (s : State) (p : Nat), p < 16 → (s.drained p = false → exec (.drainComplete p) s = .next s) ∧
    (s.drained p = true → s.direct p = true → ∃ u : State, exec (.drainComplete p) s = .next u ∧ u.pst p = PS.stopped ∧ (u.panel p).stopJob = none ∧
      u.hostMem = s.hostMem ∧ (∀ q, q ≠ p → u.panel q = s.panel q) ∧ (∀ q, q < 16 → q ≠ p → u.pst q = s.pst q) ∧
      ∀ i, (s.panel p).stopJob = some i → ∀ j ∈ u.jobs, j.id ≠ i)) ∧
  (∀ (c : Cmd) (s : State) (p : Nat), specPanelReset.accepts c s → c.pnl = some p → s.pst p ≠ PS.empty → s.pst p ≤ 6 →
    ∃ u : State, exec (.panelReset c) s = .next (u.complete (specPanelReset.job c s) St.OK) ∧ u.pst p = PS.stopped ∧ (u.panel p).run = none ∧
      (u.panel p).stopJob = none ∧ u.hostMem = s.hostMem ∧ (∀ q, q ≠ p → u.panel q = s.panel q) ∧ (∀ q, q < 16 → q ≠ p → u.pst q = s.pst q) ∧
      (u.panel p).patterns = (s.panel p).patterns)

/-- R398, R399. -/
def Obligations.PanelContextsAreSavedAndRestored : Prop :=
  (∀ (c : Cmd) (s : State) (p : Nat), specPanelSuspend.accepts c s → c.pnl = some p → s.pst p = PS.stopped →
    let j := specPanelSuspend.job c s
    let b := specPanelSuspend.begun c s
    let a := s.parkAddr p (c.fld 0 4)
    (s.rd (Reg.GSE_PARK_CFG_PAGES p) = 0 ∨ b.parkPagesFree p (c.fld 0 4) (b.ctxMax p) = false →
      exec (.panelSuspend c) s = .next (b.complete j St.CTX_NO_SPACE)) ∧
    (s.rd (Reg.GSE_PARK_CFG_PAGES p) ≠ 0 → b.parkPagesFree p (c.fld 0 4) (b.ctxMax p) = true →
      b.dmaFail (p + 1) a (b.context p).length = none →
      ∃ u : State, exec (.panelSuspend c) s = .next (u.complete j St.OK) ∧ u.pst p = PS.suspended ∧ u.hostMem = (b.hostWrite a (b.context p)).hostMem ∧
        (u.serve p).ctx = (c.fld 0 4, cdiv (b.context p).length 65536) :: (s.serve p).ctx ∧ u.tiles = s.tiles ∧ u.panels = s.panels ∧
        u.queues = b.queues ∧ u.knots = s.knots)) ∧
  (∀ (c : Cmd) (s : State) (p : Nat), specPanelRestore.accepts c s → c.pnl = some p → s.pst p = PS.stopped ∨ s.pst p = PS.suspended →
    c.fld 0 4 < s.rd (Reg.GSE_PARK_CFG_PAGES p) →
    let j := specPanelRestore.job c s
    let b := specPanelRestore.begun c s
    let a := s.parkAddr p (c.fld 0 4)
    let h := s.hostRead a ctxHeader
    let n := leAt h 40 8 - ctxHeader
    let body := s.hostRead (a + ctxHeader) n
    b.dmaFail (p + 1) a ctxHeader = none →
    (b.ctxHeadOk p h = false → exec (.panelRestore c) s = .next (b.complete j St.CTX_INVALID)) ∧
    (b.ctxHeadOk p h = true → c.fld 0 4 + cdiv (leAt h 40 8) 65536 ≤ s.rd (Reg.GSE_PARK_CFG_PAGES p) →
      b.dmaFail (p + 1) (a + ctxHeader) n = none →
      (sha384 body ≠ slice h 96 48 → exec (.panelRestore c) s = .next (b.complete j St.CTX_INVALID)) ∧
      (sha384 body = slice h 96 48 → ∃ u : State, exec (.panelRestore c) s = .next (u.complete j St.OK) ∧ u.pst p = PS.stopped ∧
        (u.serve p).ctx = (s.serve p).ctx.filter (fun x => x.1 ≠ c.fld 0 4) ∧ u.hostMem = s.hostMem))) ∧
  (∀ (c : Cmd) (s : State) (p : Nat), specPanelCtxRelease.accepts c s → c.pnl = some p → s.pst p ≠ PS.empty → s.pst p ≤ 6 →
    ∃ u : State, exec (.panelCtxRelease c) s = .next (u.complete (specPanelCtxRelease.job c s) St.OK) ∧
      (u.serve p).ctx = (s.serve p).ctx.filter (fun x => x.1 ≠ c.fld 0 4) ∧
      u = { (specPanelCtxRelease.begun c s) with serves := u.serves } ∧ ∀ q, q ≠ p → u.serve q = s.serve q)

/-- R168 to R170, R317, R396, R397. -/
def Obligations.PatternsLoadAndUnload : Prop :=
  (∀ (c : Cmd) (s : State) (p : Nat), specPatternUnload.accepts c s → c.pnl = some p → s.pst p ≠ PS.empty →
    let j := specPatternUnload.job c s
    let b := specPatternUnload.begun c s
    (s.pst p ≠ PS.stopped → ∃ u : State, exec (.patternUnload c) s =
        .next (u.complete j (if s.isLive p then St.IMEM_IN_USE else St.PANEL_NOT_STOPPED)) ∧
      u.rd (Reg.PNL_LAST_CODE p) = (if s.isLive p then 0x0203 else 0x0202) ∧ u.panels = s.panels ∧ u.tiles = s.tiles) ∧
    (s.pst p = PS.stopped → s.pattern? p (c.fld 0 1) = none → exec (.patternUnload c) s = .next (b.complete j St.PAT_HANDLE)) ∧
    (s.pst p = PS.stopped → (s.pattern? p (c.fld 0 1)).isSome → s.wst p ≠ WS.none → (s.wgt p).place = c.fld 0 1 →
      exec (.patternUnload c) s = .next (b.complete j St.WEIGHTS_BUSY)) ∧
    (s.pst p = PS.stopped → (s.pattern? p (c.fld 0 1)).isSome → (s.wst p = WS.none ∨ (s.wgt p).place ≠ c.fld 0 1) →
      ∃ u : State, exec (.patternUnload c) s = .next (u.complete j St.OK) ∧ u.pattern? p (c.fld 0 1) = none ∧
        (∀ h, h ≠ c.fld 0 1 → u.pattern? p h = s.pattern? p h) ∧ (∀ q, q ≠ p → u.panel q = s.panel q) ∧ (∀ x ∈ (u.wgt p).releases, x.handle ≠ c.fld 0 1) ∧
        (∀ q g, s.pattern? p (c.fld 0 1) = some q → g ∈ q.ranges → g.shared = true →
          ((u.panel p).patterns.any (fun v => v.2.ranges.any (fun r => r.shared && r.key = g.key)) = true → g ∈ (u.panel p).kept)) ∧
        (∀ q, q ≠ p → u.wgt q = s.wgt q) ∧ u = { b with panels := u.panels, wgts := u.wgts })) ∧
  (∀ (c : Cmd) (s : State) (p : Nat), specPatternLoad.accepts c s → c.fld 0 8 % 64 = 0 → c.pnl = some p → s.pst p ≠ PS.empty →
    let j := specPatternLoad.job c s
    let b := specPatternLoad.begun c s
    let verify := bits (c.fld 15 1) 1 1 = 1
    let img := s.hostRead (c.fld 0 8) (c.fld 8 4)
    (¬ verify → s.pst p ≠ PS.stopped → ∃ u : State, exec (.patternLoad c) s =
        .next (u.complete j (if s.isLive p then St.IMEM_IN_USE else St.PANEL_NOT_STOPPED)) ∧
      u.rd (Reg.PNL_LAST_CODE p) = (if s.isLive p then 0x0203 else 0x0202) ∧ u.panels = s.panels ∧ u.tiles = s.tiles) ∧
    (¬ verify → s.pst p = PS.stopped → 32 ≤ (s.panel p).patterns.length → exec (.patternLoad c) s = .next (b.complete j St.PAT_TABLE_FULL)) ∧
    (verify ∨ (s.pst p = PS.stopped ∧ (s.panel p).patterns.length < 32) →
      (∀ bad, b.dmaFail c.fn (c.fld 0 8) (c.fld 8 4) = some bad → exec (.patternLoad c) s = .next (b.completeD j St.DMA_ERROR bad 0)) ∧
      (b.dmaFail c.fn (c.fld 0 8) (c.fld 8 4) = none →
        (∀ f, b.buildPattern p c img = .error f → exec (.patternLoad c) s = .next (b.completeD j f.1 f.2 0)) ∧
        (∀ m y, b.buildPattern p c img = .ok (m, y) →
          (verify → exec (.patternLoad c) s = .next (b.completeD j St.OK (0xFF + 256 * y.base) 0)) ∧
          (¬ verify → (∃ t ∈ y.tiles, b.domOn (domOfTile t) = false) → ∃ u : State, exec (.patternLoad c) s = .next u ∧
            u = { b with power := u.power } ∧ u.jobs = s.jobs ++ [j] ∧ (∃ v ∈ u.power.jobsWait, v.1 = j.id)) ∧
          (¬ verify → (∀ t ∈ y.tiles, b.domOn (domOfTile t) = true) → ∃ u : State,
            exec (.patternLoad c) s = .next (u.completeD j St.OK (s.freeHandle p + 256 * y.base) 0) ∧
            u.pattern? p (s.freeHandle p) = some (residentOf m y (digest384 img)) ∧
            (∀ h, h ≠ s.freeHandle p → u.pattern? p h = s.pattern? p h) ∧ (y.data = [] → u.csr = s.csr) ∧ u.hostMem = s.hostMem ∧ u.bobs = s.bobs)))))

/-- R28, R29, R184, R187, R290. -/
def Obligations.StepsLaunchAndEnd : Prop :=
  (∀ (s : State) (p : Nat), p < 16 → let due := sortBy (fun a b => stDiff a.l b.l ≥ 0) ((s.serve p).launches.filter (fun l => reached s.now l.l))
    (due = [] ∨ s.inTurn Ev.launch = false → exec (.stepLaunch p) s = .next s) ∧
    (∀ l r, due = l :: r → s.inTurn Ev.launch = true → s.launchRefusal p l ≠ St.OK → ∃ u : State, exec (.stepLaunch p) s = .next u ∧ u.panels = s.panels ∧ u.tiles = s.tiles ∧
      u.rd (Reg.PNL_LAST_CODE p) = (s.launchRefusal p l).toNat ∧ (u.serve p).launches = (s.serve p).launches.filter (fun x => x.q ≠ l.q) ∧
      RegsBut [Reg.PNL_LAST_CODE p, Reg.PNL_LAST_OFFSET p] s u) ∧
    (∀ l r, due = l :: r → s.inTurn Ev.launch = true → s.launchRefusal p l = St.OK → ∃ (u : State) (pat : Pattern) (n : Run), exec (.stepLaunch p) s = .next u ∧ s.pattern? p l.handle = some pat ∧
      (u.panel p).run = some n ∧ n.handle = l.handle ∧ n.entry = l.entry ∧ n.launch = l.l ∧ n.q = l.q ∧ n.ctr = BitVec.ofNat 64 l.c ∧
      n.startIn = (if s.clk.phase = 0 then 17 else 16) ∧ n.tiles = pat.tiles ∧
      (∀ t ∈ s.tilesOf p, (u.tile t).launchMask = l.mask.getD (BitVec.allOnes 512) ∧
        ∀ k, k < s.tiers → (u.bob (bobAt k t)).launchMask = l.mask.getD (BitVec.allOnes 512)) ∧
      (∀ t ∈ pat.tiles, (u.tile t).halted = false) ∧
      (∀ d ∈ s.wakeGroup p, u.domOn d = true) ∧ (∀ x ∈ (u.serve p).launches, x.q ≠ l.q) ∧ (∀ q, q ≠ p → u.panel q = s.panel q) ∧ u.hostMem = s.hostMem)) ∧
  (∀ (s : State) (p : Nat), p < 16 → ((s.panel p).run = none → exec (.stepEnd p) s = .next s) ∧
    (∀ r, (s.panel p).run = some r → (s.isLive p = false ∨ s.stepOver r = false) → exec (.stepEnd p) s = .next s) ∧
    (∀ r, (s.panel p).run = some r → s.isLive p = true → s.stepOver r = true → ∃ u : State, exec (.stepEnd p) s = .next u ∧ (u.panel p).run = none ∧
      u.bit (Reg.LAT_PNL_FROZEN p) = false ∧ (r.unwritten = true → u.pst p = PS.faulted) ∧
      (r.unwritten = false → u.pst p = (if s.pst p = PS.frozen then PS.running else s.pst p))))

/-- R415, R422 to R426. -/
def Obligations.CommandsAreCheckedInOrder : Prop :=
  ∀ e ∈ ([(specDevReset, .devReset), (specQueueCtl, .queueCtl), (specStitchRole, .stitchRole), (specStitchSet, .stitchSet), (specPanelStart,
      .panelStart), (specPanelStop, .panelStop), (specPanelReset, .panelReset), (specPanelSuspend, .panelSuspend), (specPanelRestore,
      .panelRestore), (specPanelCtxRelease, .panelCtxRelease), (specPatternLoad, .patternLoad), (specPatternUnload, .patternUnload),
      (specModelLoad, .modelLoad), (specModelUnload, .modelUnload), (specModelRefit, .modelRefit), (specRefitResume, .refitResume),
      (specWgtRelease, .wgtRelease), (specModelSource, .modelSource), (specRefitJournal, .refitJournal), (specSpoolSubmit,
      .spoolSubmit), (specSpoolAppend, .spoolAppend), (specSpoolCancel, .spoolCancel), (specSpoolClose, .spoolClose), (specSpoolRead,
      .spoolRead), (specBucketSet, .bucketSet), (specTokenizerLoad, .tokenizerLoad), (specParkAreaSet, .parkAreaSet), (specSpoolAck,
      .spoolAck), (specFabDiscover, .fabDiscover), (specFabPortRole, .fabPortRole), (specFabPortService, .fabPortService),
      (specRdirWrite, .rdirWrite), (specRdirCopy, .rdirCopy), (specRdirSwap, .rdirSwap), (specPortSet, .portSet), (specSeamOpen,
      .seamOpen), (specSeamClose, .seamClose), (specKnotSignal, .knotSignal), (specKnotWait, .knotWait), (specKnotWaitall,
      .knotWaitall), (specKnotBroadcast, .knotBroadcast), (specKnotSet, .knotSet), (specKnotRead, .knotRead), (specDbgAuth, .dbgAuth),
      (specDbgDeauth, .dbgDeauth), (specDbgHalt, .dbgHalt), (specDbgResume, .dbgResume), (specDbgSnap, .dbgSnap), (specReplaySet,
      .replaySet), (specReplayInject, .replayInject), (specReplayRun, .replayRun), (specPwrEnvelope, .pwrEnvelope), (specPwrHold,
      .pwrHold), (specFwUpdate, .fwUpdate), (specAttest, .attest), (specAttestCert, .attestCert), (specPartStage, .partStage),
      (specFwSvnCommit, .fwSvnCommit), (specOwnerKeyFuse, .ownerKeyFuse), (specMemFill, .memFill), (specMemRetire, .memRetire)] :
      List (CmdSpec × (Cmd → Instr))), ∀ (c : Cmd) (s : State), s.unmirrored c = true →
    let fails := fun (code : Code) => exec (e.2 c) s = .next ((e.1.begun c s).complete (e.1.job c s) code)
    (e.1.formOk c = false → fails 0x0101) ∧
    (e.1.formOk c = true → c.cq ≠ 0xFFFF → s.isCq c.fn c.cq.toNat = false → fails 0x0104) ∧
    (e.1.formOk c = true → c.cq = 0xFFFF ∨ s.isCq c.fn c.cq.toNat = true →
      (c.fn ≠ 0 → e.1.vf = false ∨ c.panel.toNat + 1 ≠ c.fn ∨ e.1.foreign c s = true → fails 0x0103) ∧
      (c.fn = 0 ∨ (e.1.vf = true ∧ c.panel.toNat + 1 = c.fn ∧ e.1.foreign c s = false) → e.1.absent c s = true → fails 0x0105)) ∧
    (e.1.check c s ≠ St.OK → s.twin.capture = false → let q := s.cqOf c
      (q < 16384 → s.qtype q = QT.cq → s.bit (Reg.QCFG_STAT_STOPPED q) = false → s.qused q < s.qcap q → ∃ u : State, exec (e.2 c) s = .next u ∧
        u.qprod q = (s.qprod q + 1) % 2 ^ 32 ∧
        (let v := sget 0 (u.queue q).slots (s.qprod q % s.qcap q)
         slotBits v 0 32 = c.tag ∧ slotBits v 32 16 = e.1.check c s ∧ slotBits v 48 14 = BitVec.ofNat 14 c.sq ∧ slotBits v 62 1 = 0#1 ∧
           slotBits v 63 1 = BitVec.ofNat 1 (s.phaseOf q (s.qprod q)) ∧ slotBits v 64 128 = 0#128 ∧ slotBits v 192 64 = s.now) ∧
        u.jobs = s.jobs.filter (fun k => k.id ≠ s.nextJob) ∧ u.nextJob = s.nextJob + 1 ∧ RegsBut [Reg.QCFG_PROD_PROD q] s u ∧
        u = { s with csr := u.csr, queues := u.queues, jobs := u.jobs, nextJob := u.nextJob, bobs := u.bobs, power := u.power } ∧
        (s.qused q < 15 → u.bobs = s.bobs ∧ u.power = s.power)) ∧
      (q < 16384 → s.qtype q = QT.cq → s.bit (Reg.QCFG_STAT_STOPPED q) = true → ∃ u : State, exec (e.2 c) s = .next u ∧
        u.rd (Reg.QCFG_STAT_DROPS q) = min (s.rd (Reg.QCFG_STAT_DROPS q) + 1) 65535 ∧ RegsBut [Reg.QCFG_STAT_DROPS q] s u ∧
        u.heldEntries = s.heldEntries ∧ u.nextJob = s.nextJob + 1 ∧ (∀ r, u.queue r = s.queue r) ∧ u.bobs = s.bobs) ∧
      (16384 ≤ q ∨ s.qtype q ≠ QT.cq ∨ (s.bit (Reg.QCFG_STAT_STOPPED q) = false ∧ s.qcap q ≤ s.qused q) → ∃ u : State, exec (e.2 c) s = .next u ∧
        u.heldEntries.length = s.heldEntries.length + 1 ∧ (∃ h, u.heldEntries.getLast? = some h ∧ h.cq = q) ∧ u.csr = s.csr ∧
        (∀ r, u.queue r = s.queue r) ∧ u = { s with queues := u.queues, jobs := u.jobs, nextJob := u.nextJob, heldEntries := u.heldEntries }))

/-- R418, R422 to R425, R473. -/
def Obligations.DecoderTakesCommandsInTurn : Prop :=
  (∀ s : State, (∀ q, q < 16384 → s.decodable q = false) → exec .commandDecode s = .next s) ∧
  (∀ (s : State) (q : Nat), s.nextSq = some q →
    s.decodable q = true ∧ s.qon q = true ∧ s.qtype q = QT.sq ∧
    (s.turn ∈ s.enabledQueues → s.decodable s.turn = true → (s.queue s.turn).turn < s.rd (Reg.QCFG_CFG_WEIGHT s.turn) → q = s.turn) ∧
    (s.pairOk q = false → ∃ u : State, exec .commandDecode s = .next u ∧ u.bit (Reg.QCFG_STAT_STOPPED q) = true ∧
      u.rd (Reg.QCFG_STAT_LAST_CODE q) = 0x0104 ∧ RegsBut [Reg.QCFG_STAT_STOPPED q, Reg.QCFG_STAT_LAST_CODE q] s u ∧ u.jobs = s.jobs ∧
      u = { s with csr := u.csr, queues := u.queues }) ∧
    (∀ d, s.pairOk q = true → s.asleep q (s.qread q) = some d → exec .commandDecode s = .next (s.demand d)) ∧
    (s.pairOk q = true → s.asleep q (s.qread q) = none → s.qslot q (s.qread q) = none → ∃ u : State, exec .commandDecode s = .next u ∧
      u.bit (Reg.QCFG_STAT_STOPPED q) = true ∧ u.rd (Reg.QCFG_STAT_LAST_CODE q) = 0x0609 ∧ u.qread q = s.qread q ∧ u.tiles = s.tiles) ∧
    (∀ v, s.pairOk q = true → s.asleep q (s.qread q) = none → s.qslot q (s.qread q) = some v →
      let op := parseCmd (s.queueFn q) q v
      let c := op.2
      let t := (s.countTurn q).passPacket q
      s.qused (s.cqOf c) < s.qcap (s.cqOf c) ∧ (c.flags.getLsbD 1 = true → ∀ j ∈ s.jobs, j.cmd.sq ≠ q) ∧
      t.qread q = s.packetEnd q (s.qcap q) (s.qread q) ∧ t.turn = q ∧ 1 ≤ (t.queue q).turn ∧ ((s.queue q).area = [] → t.tiles = s.tiles ∧ t.jobs = s.jobs) ∧
      (t.twin.tags = [] → t.mirroredSq q = none →
        (specOf op.1 = none → let j : Job := { id := t.nextJob, opcode := op.1, cmd := c, cq := t.cqOf c, idx := some (s.qread q) }
          exec .commandDecode s = .next ((t.startJob op.1 (some (s.qread q)) c).complete j
            (if c.rsv = 0 ∧ c.flags.toNat < 4 ∧ c.len.toNat ≤ 48 ∧ c.par.toNat < 2 ^ (8 * c.len.toNat) then St.CMD_OPCODE else St.CMD_FORMAT))) ∧
        (∀ k, specOf op.1 = some k → t.unmirrored c = true →
          let j : Job := { id := t.nextJob, opcode := op.1, cmd := c, cq := t.cqOf c, idx := some (s.qread q) }
          let t1 := t.startJob op.1 (some (s.qread q)) c
          (k.check c t ≠ St.OK → exec .commandDecode s = .next (t1.complete j (k.check c t))) ∧
          (k.check c t = St.OK → (k.needs c t).all t1.domOn = true → exec .commandDecode s = .next (k.body j t1)) ∧
          (k.check c t = St.OK → (k.needs c t).all t1.domOn = false → ∃ u : State, exec .commandDecode s = .next u ∧
            (j.id, k.needs c t) ∈ u.power.jobsWait ∧ (∀ d ∈ k.needs c t, t1.domOn d = false → (sget none u.power.waking d).isSome) ∧
            u = { t1 with power := u.power }))) ∧
      (t.twin.tags = [] → ∀ p, t.mirroredSq q = some p →
        (specOf op.1 = none → exec .commandDecode s = .next (t.mirrored p (fun x => x.unknownCmd op.1 (s.qread q) c))) ∧
        (∀ k, specOf op.1 = some k → k.check c t = St.OK → (op.1 < 0x0401 ∨ 0x0409 < op.1) →
          exec .commandDecode s = .next (t.mirrored p (fun x => (x.startJob op.1 (some (s.qread q)) c).complete
            { id := x.nextJob, opcode := op.1, cmd := c, cq := x.cqOf c, idx := some (s.qread q) } St.TWIN_QUEUE_OP))) ∧
        (∀ k, specOf op.1 = some k → (0x0401 ≤ op.1 ∧ op.1 ≤ 0x0409) →
          exec .commandDecode s = .next (t.mirrored p (fun x => k.perform (some (s.qread q)) c x)))) ∧
      (∀ y, (s.queueOwner q).isSome → t.twin.tags.find? (fun y => y.q = q && y.i = s.qread q && y.tag = c.tag) = some y → t.mirroredSq q = none →
        let t2 := { t with twin := { t.twin with tags := t.twin.tags.erase y } }
        let j : Job := { id := t.nextJob, opcode := op.1, cmd := c, cq := t.cqOf c, idx := some (s.qread q) }
        exec .commandDecode s = .next ((t2.startJob op.1 (some (s.qread q)) c).completeD j y.status y.detail.toNat 0))))

/-- R403, R409, R410, R413 to R415, R418, R427. -/
def Obligations.RingsMoveEntriesInOrder : Prop :=
  (∀ (fn q : Nat) (v : BitVec 32) (s : State),
    let ok : Prop := s.qon q = true ∧ s.qtype q ≠ QT.none ∧ s.hasRing q = true ∧
      (if hostFed (s.qtype q) = true then d32 v.toNat (s.qhost q) ≤ s.ringSize q ∧ d32 v.toNat (s.qrel q) ≤ s.ringSize q
       else d32 v.toNat (s.qhost q) ≤ d32 (s.qrel q) (s.qhost q))
    (16384 ≤ q ∨ s.queueFn q ≠ fn → exec (.doorbell fn q v) s = .next s) ∧
    (q < 16384 → s.queueFn q = fn → ok → ∃ u : State, exec (.doorbell fn q v) s = .next u ∧ u.qhost q = v.toNat ∧
      RegsBut [Reg.QCFG_PROD_HOST q] s u ∧ u = { s with csr := u.csr }) ∧
    (q < 16384 → s.queueFn q = fn → ¬ ok → ∃ u : State, exec (.doorbell fn q v) s = .next u ∧ u.rd (Reg.QCFG_STAT_LAST_CODE q) = 0x0113 ∧
      RegsBut [Reg.QCFG_STAT_LAST_CODE q] s u ∧ u = { s with csr := u.csr })) ∧
  (∀ (q : Nat) (s : State), let i := s.qprod q
    let may : Prop := s.qon q = true ∧ hostFed (s.qtype q) = true ∧ s.hasRing q = true ∧ s.bit (Reg.QCFG_STAT_STOPPED q) = false ∧
      (s.fnc (s.queueFn q)).bme = true ∧ i ≠ s.qhost q ∧ s.qused q < s.qcap q
    (¬ may → exec (.ringFetch q) s = .next s) ∧
    (may → s.dmaFail (s.queueFn q) (s.ringAddr q i) 64 = none → ∃ u : State, exec (.ringFetch q) s = .next u ∧ u.qprod q = (i + 1) % 2 ^ 32 ∧
      sget 0 (u.queue q).slots (i % s.qcap q) = BitVec.ofNat 512 (natOf (s.hostRead (s.ringAddr q i) 64)) ∧
      RegsBut [Reg.QCFG_PROD_PROD q] s u ∧ (∀ r, r ≠ q → u.queue r = s.queue r) ∧
      u = { s with csr := u.csr, queues := u.queues, bobs := u.bobs, power := u.power } ∧
      (d32 i (s.qrel q) < 16 → u.bobs = s.bobs ∧ u.power = s.power)) ∧
    (may → s.dmaFail (s.queueFn q) (s.ringAddr q i) 64 ≠ none → ∃ u : State, exec (.ringFetch q) s = .next u ∧
      u.bit (Reg.QCFG_STAT_STOPPED q) = true ∧ u.rd (Reg.QCFG_STAT_LAST_CODE q) = 0x0106 ∧
      RegsBut [Reg.QCFG_STAT_STOPPED q, Reg.QCFG_STAT_LAST_CODE q] s u ∧ u = { s with csr := u.csr, queues := u.queues })) ∧
  (∀ (q : Nat) (s : State), let i := s.qread q
    let k := s.packetSlots q
    let addr := fun (n : Nat) => s.ringAddr q ((i + n) % 2 ^ 32)
    let may : Prop := s.qon q = true ∧ (s.qtype q = QT.cq ∨ s.qtype q = QT.fabric) ∧ s.hasRing q = true ∧
      s.bit (Reg.QCFG_STAT_STOPPED q) = false ∧ (s.fnc (s.queueFn q)).bme = true ∧ i ≠ s.qprod q ∧ d32 i (s.qhost q) + k ≤ s.ringSize q
    (¬ may → exec (.ringWrite q) s = .next s) ∧
    (may → s.packetAsleep q k ≠ [] → ∃ u : State, exec (.ringWrite q) s = .next u ∧ u = { s with power := u.power } ∧
      ∀ d ∈ s.packetAsleep q k, (sget none u.power.waking d).isSome) ∧
    (∀ j, may → s.packetAsleep q k = [] → s.readPacket q k = .error j → ∃ u : State, exec (.ringWrite q) s = .next u ∧ u.bit (Reg.QCFG_STAT_STOPPED q) = true ∧
      u.rd (Reg.QCFG_STAT_LAST_CODE q) = 0x0609 ∧ u.hostMem = s.hostMem ∧ u.qread q = i) ∧
    (∀ l n, may → s.packetAsleep q k = [] → s.readPacket q k = .ok l → n < k → s.dmaFail (s.queueFn q) (addr n) (s.ringEntry q) ≠ none →
      ∃ u : State, exec (.ringWrite q) s = .next u ∧ u.bit (Reg.QCFG_STAT_STOPPED q) = true ∧
        u.rd (Reg.QCFG_STAT_LAST_CODE q) = 0x0106 ∧ u.hostMem = s.hostMem ∧ u.qread q = i) ∧
    (∀ l, may → s.packetAsleep q k = [] → s.readPacket q k = .ok l → (∀ n, n < k → s.dmaFail (s.queueFn q) (addr n) (s.ringEntry q) = none) →
      ∃ u : State, exec (.ringWrite q) s = .next u ∧ u.qread q = (i + k) % 2 ^ 32 ∧ u.qrel q = (i + k) % 2 ^ 32 ∧
        (∀ n v, l[n]? = some v → u.hostRead (addr n) (s.ringEntry q) =
          (if s.qtype q = QT.cq then bytesOf 32 ((v.toNat % 2 ^ 256) - bits v.toNat 63 1 * 2 ^ 63 + s.phaseOf q ((i + n) % 2 ^ 32) * 2 ^ 63)
           else bytesOf 64 v.toNat)) ∧
        (∀ a, (∀ n, n < k → a < addr n ∨ addr n + s.ringEntry q ≤ a) → sget 0 u.hostMem a = sget 0 s.hostMem a) ∧
        ((s.queue q).area = [] → u.tiles = s.tiles ∧ u.panels = s.panels ∧ u.spools = s.spools))) ∧
  (∀ (q : Nat) (s : State),
    let may : Prop := s.qon q = true ∧ (s.qtype q = QT.fabric ∨ s.qtype q = QT.engine) ∧ s.rd (Reg.QCFG_CFG_EP q) ≠ 0
    let drops := min (s.rd (Reg.QCFG_STAT_DROPS q) + 1) 65535
    (¬ may ∨ s.ejected (epHost (s.rd (Reg.QCFG_CFG_EP q))) (fun _ => true) = none → exec (.queuePacketArrival q) s = .next s) ∧
    (∀ i f, may → s.ejected (epHost (s.rd (Reg.QCFG_CFG_EP q))) (fun _ => true) = some (i, f) → let n := (packetSlotList f.pkt).length
      let bad : Prop := (f.pkt.op ≠ POp.write ∧ f.pkt.op ≠ POp.ctrl) ∨ s.qcap q < s.qused q + n
      (s.bit (Reg.QCFG_STAT_STOPPED q) = true → ∃ u : State, exec (.queuePacketArrival q) s = .next u ∧ u.rd (Reg.QCFG_STAT_DROPS q) = drops ∧
        RegsBut [Reg.QCFG_STAT_DROPS q] s u ∧ u = { s.dropFlight i with csr := u.csr }) ∧
      (s.bit (Reg.QCFG_STAT_STOPPED q) = false → bad → ∃ u : State, exec (.queuePacketArrival q) s = .next u ∧
        u.rd (Reg.QCFG_STAT_DROPS q) = drops ∧ u.rd (Reg.QCFG_STAT_LAST_CODE q) = 0x0114 ∧
        RegsBut [Reg.QCFG_STAT_DROPS q, Reg.QCFG_STAT_LAST_CODE q] s u ∧ u = { s.dropFlight i with csr := u.csr }) ∧
      (s.bit (Reg.QCFG_STAT_STOPPED q) = false → ¬ bad → s.qcap q ≤ 65536 → s.qprod q < 2 ^ 32 →
        ∃ u : State, exec (.queuePacketArrival q) s = .next u ∧ u.qprod q = (s.qprod q + n) % 2 ^ 32 ∧
          (∀ m v, (packetSlotList f.pkt)[m]? = some v → sget 0 (u.queue q).slots ((s.qprod q + m) % 2 ^ 32 % s.qcap q) = v) ∧
          RegsBut [Reg.QCFG_PROD_PROD q] s u ∧ u.tiles = s.tiles ∧
          (f.pkt.knv = false → u = { s.dropFlight i with csr := u.csr, queues := u.queues, bobs := u.bobs, power := u.power })))) ∧
  (∀ (q : Nat) (s : State), let us := s.rd (Reg.QCFG_IRQ_DELAY_US q)
    let due : Prop := 0 < (s.queue q).unsig ∧ us ≠ 0 ∧ reached s.now ((s.queue q).unsigAt + BitVec.ofNat 64 (1000 * us)) = true
    (¬ due ∨ s.bit (Reg.QCFG_IRQ_IRQ_EN q) = false → exec (.irqDelayExpiry q) s = .next s) ∧
    (due → s.bit (Reg.QCFG_IRQ_IRQ_EN q) = true → ∃ u : State, exec (.irqDelayExpiry q) s = .next u ∧ (u.queue q).unsig = 0 ∧
      let f := s.fnc (s.queueFn q)
      let v := s.rd (Reg.QCFG_IRQ_VECTOR q)
      (f.msixOn = true → v ∈ f.unmasked → u = { s with queues := u.queues, out := s.out ++ [.msix (s.queueFn q) v] }) ∧
      (f.msixOn = false ∨ v ∉ f.unmasked → v ∈ (u.fnc (s.queueFn q)).pend ∧ u = { s with queues := u.queues, fns := u.fns })))

/-- R396, R416 to R419, R428. -/
def Obligations.QueuesAreEnabledAndConsumed : Prop :=
  (∀ (fn q : Nat) (s : State),
    (16384 ≤ q ∨ (fn ≠ 0 ∧ s.queueFn q ≠ fn) → exec (.queueEnable fn q) s = .next s ∧ exec (.queueDisable fn q) s = .next s) ∧
    (∀ p, q < 16384 → fn = 0 ∨ s.queueFn q = fn → s.queueOwner q = some p → s.pst p ≠ PS.stopped →
      ∃ u t : State, exec (.queueEnable fn q) s = .next u ∧ exec (.queueDisable fn q) s = .next t ∧
        (∀ x ∈ [u, t], x.rd (Reg.PNL_LAST_CODE p) = 0x0202 ∧ x.rd (Reg.PNL_LAST_OFFSET p) = 0x800000 + 0x40 * q ∧
          x = { s with csr := x.csr, fns := x.fns, out := x.out }) ∧
        u.rd (Reg.QCFG_STAT_LAST_CODE q) = (if s.qon q = false ∧ s.enableOk q = false then 0x0110 else s.rd (Reg.QCFG_STAT_LAST_CODE q)) ∧
        RegsBut [Reg.PNL_LAST_CODE p, Reg.PNL_LAST_OFFSET p, Reg.QCFG_STAT_LAST_CODE q] s u ∧
        RegsBut [Reg.PNL_LAST_CODE p, Reg.PNL_LAST_OFFSET p] s t) ∧
    (q < 16384 → fn = 0 ∨ s.queueFn q = fn → (∀ p, s.queueOwner q = some p → s.pst p = PS.stopped) →
      (s.qon q = true → exec (.queueEnable fn q) s = .next s) ∧
      (s.qon q = false → s.enableOk q = true → ∃ u : State, exec (.queueEnable fn q) s = .next u ∧ u.qon q = true ∧
        RegsBut [Reg.QCFG_CFG_ENABLE q, Reg.QCFG_PROD_PROD q, Reg.QCFG_STAT_DROPS q] s u ∧ (s.qtype q ≠ QT.cq → u.qprod q = s.qprod q) ∧
        u = { s with csr := u.csr, queues := u.queues, heldEntries := u.heldEntries, bobs := u.bobs, power := u.power }) ∧
      (s.qon q = false → s.enableOk q = false → ∃ u : State, exec (.queueEnable fn q) s = .next u ∧ u.qon q = false ∧
        u.rd (Reg.QCFG_STAT_LAST_CODE q) = 0x0110 ∧ RegsBut [Reg.QCFG_STAT_LAST_CODE q] s u ∧ u = { s with csr := u.csr }) ∧
      (∃ u : State, exec (.queueDisable fn q) s = .next u ∧ u.qon q = false ∧ RegsBut [Reg.QCFG_CFG_ENABLE q] s u ∧
        u = { s with csr := u.csr }))) ∧
  (∀ (q : Nat) (s : State) (i : Instr), i ∈ [.queueTake q, .queueDrop q, .queueMark q, .queueRewind q] ∨ (∃ v, i = .queueRelease q v ∨ i = .queueReset q v) →
    (s.qon q = false ∨ hostFed (s.qtype q) = false) → exec i s = .next s) ∧
  (∀ (q : Nat) (s : State), s.qon q = true → hostFed (s.qtype q) = true →
    let refused := fun (i : Instr) => ∃ u : State, exec i s = .next u ∧ u.rd (Reg.QCFG_STAT_LAST_CODE q) = 0x0112 ∧
      RegsBut [Reg.QCFG_STAT_LAST_CODE q] s u ∧ u = { s with csr := u.csr }
    let passes := fun (i : Instr) => ∃ u : State, exec i s = .next u ∧ u.qread q = s.packetEnd q (s.qcap q) (s.qread q) ∧
      u.qrel q = (if s.bit (Reg.QCFG_CFG_AUTO_RELEASE q) then u.qread q else s.qrel q) ∧
      ((s.queue q).area = [] → RegsBut [Reg.QCFG_CONS_READ q, Reg.QCFG_CONS_RELEASE q] s u ∧
        u = { s with csr := u.csr, noc := u.noc, queues := u.queues } ∧ (∀ r, r ≠ q → u.queue r = s.queue r) ∧
        (u.queue q).slots = (s.queue q).slots ∧ (s.bit (Reg.QCFG_CFG_CREDIT_EN q) = false → u.noc = s.noc))
    (s.bit (Reg.QCFG_CFG_AUTO_RELEASE q) = true → refused (.queueMark q)) ∧
    (s.bit (Reg.QCFG_CFG_AUTO_RELEASE q) = false → ∃ u : State, exec (.queueMark q) s = .next u ∧
      u.rd (Reg.QCFG_MARK_MARK q) = s.qread q % 2 ^ 32 ∧ u.bit (Reg.QCFG_MARK_MARK_VALID q) = true ∧
      RegsBut [Reg.QCFG_MARK_MARK q, Reg.QCFG_MARK_MARK_VALID q] s u ∧ u = { s with csr := u.csr }) ∧
    (s.bit (Reg.QCFG_MARK_MARK_VALID q) = false → refused (.queueRewind q)) ∧
    (s.bit (Reg.QCFG_MARK_MARK_VALID q) = true → ∃ u : State, exec (.queueRewind q) s = .next u ∧
      u.qread q = s.rd (Reg.QCFG_MARK_MARK q) % 2 ^ 32 ∧ RegsBut [Reg.QCFG_CONS_READ q] s u ∧ u = { s with csr := u.csr }) ∧
    (∀ v : BitVec 32, let k := d32 v.toNat (s.qrel q)
      (d32 (s.qread q) (s.qrel q) < k → refused (.queueRelease q v)) ∧
      (k ≤ d32 (s.qread q) (s.qrel q) → ∃ u : State, exec (.queueRelease q v) s = .next u ∧ u.qrel q = v.toNat ∧ u.qread q = s.qread q ∧
        u.bit (Reg.QCFG_MARK_MARK_VALID q) =
          (if d32 (s.rd (Reg.QCFG_MARK_MARK q)) (s.qrel q) < k then false else s.bit (Reg.QCFG_MARK_MARK_VALID q)) ∧
        ((s.queue q).area = [] → RegsBut [Reg.QCFG_CONS_RELEASE q, Reg.QCFG_MARK_MARK_VALID q] s u ∧
          u = { s with csr := u.csr, noc := u.noc, queues := u.queues } ∧ (u.queue q).slots = (s.queue q).slots) ∧
        ((s.queue q).area = [] → u.noc.flights.length = s.noc.flights.length + (if s.bit (Reg.QCFG_CFG_CREDIT_EN q) = true ∧ 0 < k then 1 else 0))) ∧
      (∃ u : State, exec (.queueReset q v) s = .next u ∧ u.qprod q = v.toNat ∧ u.qhost q = v.toNat ∧ u.qread q = v.toNat ∧ u.qrel q = v.toNat ∧
        u.rd (Reg.QCFG_MARK_MARK q) = v.toNat ∧ u.bit (Reg.QCFG_MARK_MARK_VALID q) = false ∧ u.bit (Reg.QCFG_STAT_STOPPED q) = false ∧
        RegsBut [Reg.QCFG_PROD_PROD q, Reg.QCFG_PROD_HOST q, Reg.QCFG_CONS_READ q, Reg.QCFG_CONS_RELEASE q, Reg.QCFG_MARK_MARK q,
          Reg.QCFG_MARK_MARK_VALID q, Reg.QCFG_STAT_STOPPED q] s u ∧ u = { s with csr := u.csr, queues := u.queues })) ∧
    (s.qread q = s.qprod q → refused (.queueDrop q) ∧ exec (.queueTake q) s = .next s) ∧
    (s.qread q ≠ s.qprod q → passes (.queueDrop q)) ∧
    (s.deliverable q = false → exec (.queueTake q) s = .next s) ∧
    (s.deliverable q = true → s.packetAsleep q (s.packetSlots q) ≠ [] → ∃ u : State, exec (.queueTake q) s = .next u ∧
      u = { s with power := u.power } ∧ ∀ d ∈ s.packetAsleep q (s.packetSlots q), (sget none u.power.waking d).isSome) ∧
    (s.deliverable q = true → s.packetAsleep q (s.packetSlots q) = [] → (∃ l, s.readPacket q (s.packetSlots q) = .ok l) → passes (.queueTake q)) ∧
    (s.deliverable q = true → s.packetAsleep q (s.packetSlots q) = [] → (∃ j, s.readPacket q (s.packetSlots q) = .error j) → ∃ u : State, exec (.queueTake q) s = .next u ∧
      u.bit (Reg.QCFG_STAT_STOPPED q) = true ∧ u.rd (Reg.QCFG_STAT_LAST_CODE q) = 0x0609 ∧ u.qread q = s.qread q)) ∧
  (∀ (c : Cmd) (s : State), specQueueCtl.accepts c s →
    let b := specQueueCtl.begun c s
    let q := c.fld 0 2
    let op := c.fld 2 1
    (q = c.sq ∨ (∃ p, s.queueOwner q = some p ∧ c.pnl ≠ some p) ∨ 4 < op ∨ b.qdoOp q op (c.fld 4 4) = none → exec (.queueCtl c) s =
      .next (b.complete (specQueueCtl.job c s) 0x0112)) ∧
    (∀ t, q ≠ c.sq → (∀ p, s.queueOwner q = some p → c.pnl = some p) → b.qdoOp q op (c.fld 4 4) = some t → (∀ p, s.queueOwner q = some p → s.bit (Reg.DBG_PNL_STAT_HALTED p) = false) →
      exec (.queueCtl c) s = .next (t.completeD (specQueueCtl.job c s) St.OK (t.qread q + t.qrel q * 2 ^ 32) 0)))

/-- R401, R402, R420, R458, R460. -/
def Obligations.HostSideResets : Prop :=
  let warm := fun (cause : Nat) (s u : State) => u.now = s.now ∧ u.hostMem = s.hostMem ∧ u.rd Reg.DEV_RST_CAUSE_CAUSE = cause ∧
    u.rd Reg.DEV_RST_CAUSE_COLD = 0 ∧ u.stage = BS.rom ∧ (∀ p, p < 16 → u.pst p = (if s.pst p = PS.empty then PS.empty else PS.stopped)) ∧
    (∀ q, u.qon q = false) ∧ u.knots = [] ∧ u.jobs = [] ∧ u.tws = TW.unpaired ∧ u.pending = s.pending
  (∀ (c : Cmd) (s : State), specDevReset.accepts c s →
    let b := specDevReset.begun c s
    (1 < c.fld 0 1 → exec (.devReset c) s = .next (b.complete (specDevReset.job c s) 0x0101)) ∧
    (c.fld 0 1 ≤ 1 → ∃ u : State, exec (.devReset c) s = .next (u.complete (specDevReset.job c s) St.OK) ∧
      u.boot = { b.boot with resetWait := s.boot.resetWait ++
        [(s.cqOf c, (entryBits c.tag St.OK c.sq false 0 0).toNat % 2 ^ 63, c.fld 0 1 == 1)] } ∧
      u.tws = TW.unpaired ∧ (s.tws = TW.unpaired → u = { b with boot := u.boot }))) ∧
  (∀ (q : Nat) (v : BitVec 512) (s : State),
    ((∀ r ∈ s.boot.resetWait, s.qtype q = QT.cq → r.1 = q → r.2.1 ≠ v.toNat % 2 ^ 63) → s.entryWritten q v = s) ∧
    (∀ k, s.qtype q = QT.cq → s.boot.resetWait = [(q, v.toNat % 2 ^ 63, k)] →
      s.entryWritten q v = { s with boot := { s.boot with resetWait := [], resets := s.boot.resets ++ [(s.now + 100000, k)] } })) ∧
  (∀ s : State,
    (s.boot.resets.find? (fun r => reached s.now r.1) = none → exec .devResetFire s = .next s) ∧
    (∀ t, s.boot.resets.find? (fun r => reached s.now r.1) = some (t, false) → ∃ u : State, exec .devResetFire s = .next u ∧ warm 3 s u) ∧
    (∀ t, s.boot.resets.find? (fun r => reached s.now r.1) = some (t, true) → ∃ u : State, exec .devResetFire s = .next u ∧ u.now = 0 ∧
      u.rd Reg.DEV_RST_CAUSE_CAUSE = 3 ∧ u.stage = BS.rom ∧ u.tiles = [] ∧ u.bobs = [] ∧ u.knots = [] ∧ u.queues = [] ∧ u.spools = [] ∧
      u.jobs = [] ∧ (∀ q, u.qon q = false) ∧ (∀ p, p < 16 → u.pst p = PS.empty) ∧ (∀ n, n < 24 → u.lst n = LS.off) ∧
      u.bit Reg.FAB_CTL_AS_ROOT = s.part.rootSel ∧ u.logUsed = 0 ∧ u.hostMem = s.hostMem ∧
      u.boot.flash = s.boot.flash ∧ u.pending = s.pending)) ∧
  (∀ s : State, ∃ u : State, exec .pfFlr s = .next u ∧ warm 4 s u ∧ u.fns = []) ∧
  (∀ s : State, ∃ u : State, exec .perst s = .next u ∧ u.fns = [] ∧ (∀ q, u.qon q = (s.qon q && !s.hasRing q)) ∧
    (∀ f : Fld, (∀ q, q < 16384 → f.key ≠ (Reg.QCFG_CFG_ENABLE q).key) → u.rd f = s.rd f) ∧ u = { s with csr := u.csr, fns := u.fns }) ∧
  (∀ (p : Nat) (s : State),
    (16 ≤ p → exec (.vfFlr p) s = .next s) ∧
    (p < 16 → s.pst p ≤ 6 → ∃ u : State, exec (.vfFlr p) s = .next u ∧
      u.pst p = (if s.pst p = PS.empty then PS.empty else PS.stopped) ∧ u.fnc (p + 1) = {} ∧
      (s.pst p ≠ PS.empty → ∀ i, s.spoolOwner i = some p → (u.spool i).st = SP.free) ∧
      (∀ r, r < 16 → r ≠ p → u.pst r = s.pst r) ∧ u.now = s.now ∧
      (∀ q, q < 16384 → s.queueOwner q = some p → u.qon q = false ∧ u.qprod q = 0 ∧ u.qhost q = 0 ∧ u.qread q = 0 ∧ u.qrel q = 0 ∧
        u.rd (Reg.QCFG_MARK_MARK q) = 0 ∧ ∀ h ∈ u.heldEntries, h.cq ≠ q) ∧
      (∀ q, s.enabled p = true → s.queueOwner q ≠ some p → (∀ r, r < p → s.enabled r = true →
          ¬ (s.rd (Reg.PNL_PART_RANGE_Q_BASE r) ≤ q ∧ q < s.rd (Reg.PNL_PART_RANGE_Q_BASE r) + s.rd (Reg.PNL_PART_RANGE_Q_COUNT r))) →
        u.qon q = s.qon q)))

/-- R3, R6, R7, R396, R400 to R402, R409, R450, R456. -/
def Obligations.RegistersAreAccessedByTheirRules : Prop :=
  (∀ (a : RegAccess) (v : W64) (s : State),
    (s.reachable a.fn = false → exec (.registerWrite a v) s = .next s ∧ exec (.rcRegisterRead a) s = .next s) ∧
    (s.reachable a.fn = true → a.ok = false → exec (.registerWrite a v) s = .next s ∧
      exec (.rcRegisterRead a) s = .next { s with out := s.out ++ [.read 0] }) ∧
    (s.target a = .none ∨ (∃ off, s.target a = .reg off true) ∨ (∃ q w, s.target a = .mirror q w) ∨ (∃ i w, s.target a = .flog i w) ∨
      (∃ w, s.target a = .pba w) → exec (.registerWrite a v) s = .next s) ∧
    (∀ q, s.reachable a.fn = true → a.ok = true → a.lo = 0 → s.target a = .doorbell q →
      exec (.registerWrite a v) s = exec (.doorbell a.fn q (BitVec.ofNat 32 v.toNat)) s) ∧
    (s.reachable a.fn = true → a.ok = true → ∃ u : State, exec (.rcRegisterRead a) s = .next u ∧
      u.out = s.out ++ [.read (BitVec.ofNat 64 (bits (s.targetValue a.fn (s.target a)) a.lo a.width))] ∧
      u = { s with csr := u.csr, out := u.out } ∧ (∀ off, s.target a ≠ .reg off false → u.csr = s.csr))) ∧
  (∀ (v : W64) (s : State), s.reachable 0 = true → s.stage ≠ BS.waitPush →
    (∃ u : State, exec (.registerWrite { off := 0x1000008 } v) s = .next u ∧ u.rd Reg.GSE_CTL_LEAD_ST = v.toNat % 2 ^ 20 ∧
      u.rd Reg.GSE_CTL_GAP_ST = v.toNat / 2 ^ 20 % 2 ^ 16 ∧ u.rd Reg.GSE_CTL_TABLE_ST = v.toNat / 2 ^ 36 % 2 ^ 16 ∧
      RegsBut [Reg.GSE_CTL_LEAD_ST, Reg.GSE_CTL_GAP_ST, Reg.GSE_CTL_TABLE_ST, Reg.GSE_CTL_MASK_ST] s u ∧ u = { s with csr := u.csr }) ∧
    (∀ p, p < 16 → s.pst p ≠ PS.stopped → ∃ u : State, exec (.registerWrite { off := 0x310008 + 0x40 * p } v) s = .next u ∧
      u.rd (Reg.PNL_LAST_CODE p) = 0x0202 ∧ u.rd (Reg.PNL_LAST_OFFSET p) = 0x310008 + 0x40 * p ∧
      RegsBut [Reg.PNL_LAST_CODE p, Reg.PNL_LAST_OFFSET p] s u ∧ u = { s with csr := u.csr, fns := u.fns, out := u.out }) ∧
    (∀ p, p < 16 → s.bit Reg.DEV_LOCK_STAT_LOCKED = true → ∃ u : State, exec (.registerWrite { off := 0x300010 + 0x80 * p } v) s = .next u ∧
      u.rd (Reg.PNL_PART_RANGE_Q_BASE p) = s.rd (Reg.PNL_PART_RANGE_Q_BASE p) ∧
      u.rd (Reg.PNL_PART_RANGE_Q_COUNT p) = s.rd (Reg.PNL_PART_RANGE_Q_COUNT p) ∧
      u.rd Reg.DEV_LOCK_STAT_VIOLATIONS = min (s.rd Reg.DEV_LOCK_STAT_VIOLATIONS + 1) (2 ^ 15 - 1) ∧
      u.rd Reg.DEV_LOCK_STAT_LAST_OFFSET = 0x300010 + 0x80 * p ∧ u.rd Reg.DEV_LOCK_STAT_LAST_RID = 0 ∧
      u.newest.code = 0x0E10 ∧ u.tiles = s.tiles ∧ u.panels = s.panels) ∧
    (∀ q, q < 16384 → ∃ (u : State) (w : W64), exec (.rcRegisterRead { off := 0x800030 + 0x40 * q }) s = .next u ∧
      u.out = s.out ++ [.read w] ∧ w.toNat / 2 ^ 48 = s.rd (Reg.QCFG_STAT_DROPS q) % 65536 ∧ u.rd (Reg.QCFG_STAT_DROPS q) = 0 ∧
      RegsBut [Reg.QCFG_STAT_DROPS q] s u)) ∧
  (∀ (fn : Nat) (op : CfgOp) (s : State),
    let answers := fun (st : Nat) (t : State) => exec (.configurationRequest fn op) s = .next { t with out := t.out ++ [.config st 0] }
    (s.power.on = false → exec (.configurationRequest fn op) s = .next s) ∧
    (s.power.on = true → s.stage ≠ BS.ready → s.stage ≠ BS.waitPush → answers 2 s) ∧
    (s.power.on = true → s.stage = BS.ready ∨ s.stage = BS.waitPush →
      (s.reachable fn = false → answers 1 s) ∧
      (s.reachable fn = true →
        (∀ on, op = .busMaster on → answers 0 (s.setFn fn { s.fnc fn with bme := on })) ∧
        (∀ n, op = .maxPayload n → n = 128 ∨ n = 256 ∨ n = 512 → answers 0 (s.setFn fn { s.fnc fn with maxPayload := n })) ∧
        (∀ g k, op = .ecrc g k → answers 0 (s.setFn fn { s.fnc fn with ecrcGen := g, ecrcCheck := k })) ∧
        (∀ n, op = .maxRead n → ∃ m, (m = n ∨ m = (s.fnc fn).maxRead) ∧ answers 0 (if m = n then s.setFn fn { s.fnc fn with maxRead := n } else s)) ∧
        (∀ n, op = .numVfs n → fn = 0 → n ≤ 16 → answers 0 (s.setFn 0 { s.fnc 0 with numVfs := n })) ∧
        (op = .msix false → answers 0 (s.setFn fn { s.fnc fn with msixOn := false })) ∧
        (op = .msix true → ∃ u : State, exec (.configurationRequest fn op) s = .next u ∧ (u.fnc fn).msixOn = true ∧
          ∀ v ∈ (u.fnc fn).pend, v ∉ (u.fnc fn).unmasked) ∧
        (op = .read 0 → exec (.configurationRequest fn op) s =
          .next { s with out := s.out ++ [.config 0 (if fn = 0 then 0xC4001F3A else 0xC4011F3A)] }))))

/-- R430, R431, R434 to R437, R441, R442, R446, R447, R510. -/
def Obligations.PowerFollowsInputAndDecisions : Prop :=
  let down := fun (s u : State) => u.power.on = false ∧ u.hostMem = s.hostMem ∧ u.boot.flash = s.boot.flash ∧ u.pending = s.pending ∧
    (s.power.on = true → u.tiles = [] ∧ u.bobs = [] ∧ u.knots = [] ∧ u.spools = [] ∧ u.queues = [] ∧ u.now = 0 ∧
      Out.pin "POWER_OK" false ∈ u.out)
  (∀ (mv : Nat) (s : State),
    (mv < 40000 ∨ 42000 ≤ mv → exec (.vinLow mv) s = .next s) ∧ (mv ≤ 58000 ∨ 59000 < mv → exec (.vinHigh mv) s = .next s) ∧
    (40000 ≤ mv → mv < 42000 → ∃ u : State, exec (.vinLow mv) s = .next u ∧ u.power.vin = mv ∧ u.power.on = s.power.on ∧
      (s.power.lowEp = true → u.csr = s.csr) ∧
      (s.power.lowEp = false → u.rd Reg.PWR_EVT_VIN_LOW = 1 ∧ (s.power.on = true → u.newest.code = 0x0D01) ∧
        (s.power.on = false → RegsBut [Reg.PWR_EVT_VIN_LOW] s u))) ∧
    (58000 < mv → mv ≤ 59000 → ∃ u : State, exec (.vinHigh mv) s = .next u ∧ u.power.vin = mv ∧ u.power.on = s.power.on ∧
      (s.power.highEp = true → u.csr = s.csr) ∧
      (s.power.highEp = false → u.rd Reg.PWR_EVT_VIN_HIGH = 1 ∧ (s.power.on = true → u.newest.code = 0x0D02) ∧
        (s.power.on = false → RegsBut [Reg.PWR_EVT_VIN_HIGH] s u))) ∧
    (mv < 40000 ∨ 59000 < mv → exec (.vinReturn mv) s = .next s) ∧
    (40000 ≤ mv → mv ≤ 59000 → ∃ u : State, exec (.vinReturn mv) s = .next u ∧ u.power.vin = mv ∧ u = { s with power := u.power } ∧
      (42000 ≤ mv → u.power.lowEp = false) ∧ (mv ≤ 58000 → u.power.highEp = false) ∧
      (42000 ≤ mv → mv ≤ 58000 → s.power.deferredStart = true → s.power.pwrEn = true → u.power.starting = true))) ∧
  (∀ (mv ns : Nat) (s : State), let lost : Prop := (mv < 40000 ∧ 10000 ≤ ns) ∨ (59000 < mv ∧ 1000 ≤ ns)
    (¬ lost → exec (.inputLoss mv ns) s = .next s) ∧
    (lost → ∃ u : State, exec (.inputLoss mv ns) s = .next u ∧ down s u ∧ u.rd Reg.PWR_EVT_INPUT_LOSS = 1)) ∧
  (∀ s : State, ∃ u : State, exec .pwrEnFall s = .next u ∧ down s u ∧ u.power.pwrEn = false) ∧
  (∀ (c : Nat) (s : State), (c < 115 ∨ s.power.on = false → exec (.thermalTrip c) s = .next s) ∧
    (115 ≤ c → s.power.on = true → ∃ u : State, exec (.thermalTrip c) s = .next u ∧ down s u ∧ u.rd Reg.PWR_EVT_TRIP = 1 ∧
      u.out.getLast? = some (.pin "THERM_TRIP_N" false))) ∧
  (∀ (ns : Nat) (s : State), let early : Prop := s.power.fell = true ∧ ns < 250000000
    (early → exec (.pwrEnRise ns) s = .next s) ∧
    (¬ early → s.power.on = false → ∃ u : State, exec (.pwrEnRise ns) s = .next u ∧ u.power.pwrEn = true ∧ u.power.on = false ∧
      u = { s with power := u.power, out := u.out } ∧
      (42000 ≤ s.power.vin → s.power.vin ≤ 58000 → u.power.starting = true) ∧
      (s.power.vin < 42000 ∨ 58000 < s.power.vin → u.power.deferredStart = true ∧ u.power.starting = s.power.starting))) ∧
  (∀ s : State, (s.power.starting = false ∨ s.power.on = true → exec .powerOkRise s = .next s) ∧
    (s.power.starting = true → s.power.on = false → ∃ u : State, exec .powerOkRise s = .next u ∧ u.power.on = true ∧ u.now = 0 ∧
      u.stage = BS.rom ∧ u.tiles = [] ∧ (∀ p, p < 16 → u.pst p = PS.empty) ∧ u.out = s.out ++ [.pin "POWER_OK" true] ∧ u.hostMem = s.hostMem)) ∧
  (∀ (m : PowerSample) (s : State),
    let st := 1000 * max 1 (s.rd Reg.PWR_CTL_DECIDE_US)
    let due := s.multipleDue st s.power.decidedAt
    (s.power.on = false ∨ s.rd Reg.DEV_BOOT_STAT_STAGE ≠ 5 ∨ due = false ∨ s.inTurn Ev.governor = false →
      exec (.powerGovernorDecision m) s = .next s) ∧
    (s.power.on = true → s.rd Reg.DEV_BOOT_STAT_STAGE = 5 → due = true → s.inTurn Ev.governor = true →
      ∃ u : State, exec (.powerGovernorDecision m) s = .next u ∧ u.power.decidedAt = some (s.lastMultiple st) ∧
        u.power.iin = s.power.iin ∧ u.power.rail = m.rail * 10 ^ 15 ∧ u.power.vin = m.vin ∧ u.power.ballast = s.power.ballast ∧ u.rd Reg.PWR_VIN_VIN_MV = m.vin % 65536 ∧
        u.rd Reg.PWR_VIN_PIN_W = m.pin % 65536 ∧ u.rd Reg.PWR_RAIL_E_MJ = m.rail % 4096 ∧
        u.power.braked = (if s.rd Reg.PWR_RAIL_RELEASE_MJ ≤ m.rail % 4096 then [] else s.power.braked) ∧
        u.now = s.now ∧ u.hostMem = s.hostMem ∧ u.panels = s.panels ∧ u.spools = s.spools ∧
        ∀ d, d < 84 → s.domPresent d = true →
          (d < 64 → s.rowDisabled d = true → u.rd (Reg.PWR_DOM_TARGET d) = DS.off) ∧
          (64 ≤ d ∨ s.rowDisabled d = false → s.bit (Reg.PWR_DOM_HOLD d) = true ∨ d = 83 → u.rd (Reg.PWR_DOM_TARGET d) = DS.active) ∧
          (d < 64 → s.rowDisabled d = false → (s.panelOfRow d).isSome → u.rd (Reg.PWR_DOM_TARGET d) ≠ DS.off))) ∧
  (∀ (p : Nat) (s : State), let near := (s.serve p).launches.any (fun l => reached (s.now + BitVec.ofNat 64 (s.groupWake p)) l.l)
    (16 ≤ p ∨ near = false → exec (.preWake p) s = .next s) ∧
    (p < 16 → near = true → ∃ u : State, exec (.preWake p) s = .next u ∧ u = { s with power := u.power } ∧
      (∀ d ∈ s.wakeGroup p, s.domOn d = false → sget none s.power.waking d = none →
        sget none u.power.waking d = some (s.now + BitVec.ofNat 64 (s.panelWake p (s.domState d)))) ∧
      (∀ d, d ∉ s.wakeGroup p ∨ s.domOn d = true → sget none u.power.waking d = sget none s.power.waking d))) ∧
  (∀ (d : Nat) (s : State), d < 84 →
    ((∀ t, sget none s.power.waking d = some t → reached s.now t = false) → (sget none s.power.waking d = none → s.domOn d = false) →
      exec (.domainWakeComplete d) s = .next s) ∧
    (s.domOn d = true → s.power.jobsWait = [] → (∀ v ∈ s.queues, v.2.moving = []) → exec (.domainWakeComplete d) s = .next s) ∧
    (∀ t j ds k, sget none s.power.waking d = some t → reached s.now t = true → s.domOn d = false → (∀ v ∈ s.queues, v.2.moving = []) →
      s.jobs = [j] → s.power.jobsWait = [(j.id, ds)] → (∀ e ∈ ds, e = d ∨ s.domOn e = true) → specOf j.opcode = some k →
      s.unmirrored j.cmd = true → s.mirroredSq j.cmd.sq = none → ∃ u : State, exec (.domainWakeComplete d) s = .next (k.body j u) ∧
        u.domOn d = true ∧ u.power.jobsWait = [] ∧ RegsBut [Reg.PWR_DOM_STATE d, Reg.PWR_DOM_WAKES d] s u ∧ u = { s with csr := u.csr, power := u.power }) ∧
    (∀ t, sget none s.power.waking d = some t → reached s.now t = true → s.domOn d = false → s.power.jobsWait = [] →
      (∀ v ∈ s.queues, v.2.moving = []) → ∃ u : State, exec (.domainWakeComplete d) s = .next u ∧
      u.rd (Reg.PWR_DOM_STATE d) = DS.active ∧ sget none u.power.waking d = none ∧
      u.rd (Reg.PWR_DOM_WAKES d) = min (s.rd (Reg.PWR_DOM_WAKES d) + 1) 65535 ∧
      RegsBut [Reg.PWR_DOM_STATE d, Reg.PWR_DOM_WAKES d] s u ∧ u = { s with csr := u.csr, power := u.power })) ∧
  (∀ s : State, let u := s.governStitch
    let slew := 250 * max 1 (s.rd Reg.PWR_CTL_SLEW)
    let full : Prop := s.rd Reg.DEV_FEAT_PWR_MAX_INPUT_W * 1000000000 ≤ s.power.vin * s.power.iin
    u = { s with power := u.power, csr := u.csr } ∧ RegsBut [Reg.PWR_RAIL_E_MJ] s u ∧ u.rd Reg.PWR_RAIL_E_MJ = u.power.rail / 10 ^ 15 % 4096 ∧
    u.power.rail = min (s.rd Reg.PWR_CAP_RAIL_MAX_MJ * 10 ^ 15)
      (s.power.rail + s.power.vin * u.power.iin - (s.loadMw * 1000000 + u.power.ballast)) ∧
    u.power.iin ≤ s.power.iin + slew ∧ s.power.iin ≤ u.power.iin + slew ∧ (full → u.power.iin ≤ s.power.iin) ∧
    (s.power.iin < s.targetUa → ¬ full → u.power.iin = min s.targetUa (s.power.iin + slew)) ∧
    (s.targetUa ≤ s.power.iin → u.power.iin = max s.targetUa (s.power.iin - slew)) ∧ u.power.load = s.loadMw ∧
    (s.loadMw ≤ s.power.load → s.rd Reg.PWR_RAIL_E_MJ < s.rd Reg.PWR_RAIL_TARGET_MJ →
      u.power.ballast = min s.ballastMax (s.power.ballast + (s.power.load - s.loadMw) * 1000000) - s.power.vin * (s.power.iin - u.power.iin)) ∧
    (s.power.load < s.loadMw → s.rd Reg.PWR_RAIL_E_MJ < s.rd Reg.PWR_RAIL_TARGET_MJ →
      u.power.ballast = s.power.ballast - (s.loadMw - s.power.load) * 1000000 - s.power.vin * (s.power.iin - u.power.iin))) ∧
  (∀ (mj : Nat) (draws : List Nat) (s : State),
    (s.power.on = false ∨ s.rd Reg.PWR_RAIL_BRAKE_MJ < mj → exec (.powerBrake mj draws) s = .next s) ∧
    (s.power.on = true → mj ≤ s.rd Reg.PWR_RAIL_BRAKE_MJ →
      let live := panels16.filter (fun p => s.isLive p && !s.power.braked.contains p)
      let above := live.filter (fun p => s.rd (Reg.PWR_PNL_EFFECTIVE_W p) < draws.getD p 0)
      let borrow := live.filter (fun p => s.rd (Reg.PNL_PART_CFG_BUDGET_W p) < s.rd (Reg.PWR_PNL_EFFECTIVE_W p))
      let ps := if above ≠ [] then above else if borrow ≠ [] then borrow else live
      ∃ u : State, exec (.powerBrake mj draws) s = .next u ∧ u.rd Reg.PWR_RAIL_E_MJ = mj % 4096 ∧
        (∀ p, p ∈ u.power.braked ↔ p ∈ s.power.braked ∨ p ∈ ps) ∧
        (∀ p, p < 16 → u.pst p = (if p ∈ ps ∧ s.pst p = PS.running ∧ (s.panel p).run.isSome then PS.frozen else s.pst p)) ∧
        u.tiles = s.tiles ∧ u.panels = s.panels ∧
        (ps ≠ [] → u.rd Reg.PWR_EVT_BRAKE = 1 ∧ u.newest.code = 0x0D04 ∧ u.newest.d0 = BitVec.ofNat 64 (ps.map (fun p => 2 ^ p)).sum))) ∧
  (∀ (c : Cmd) (s : State) (p : Nat), specPwrEnvelope.accepts c s → c.pnl = some p → s.pst p ≠ PS.empty →
    let b := specPwrEnvelope.begun c s
    let j := specPwrEnvelope.job c s
    (s.ceiling32 p < 32 * c.fld 0 2 → exec (.pwrEnvelope c) s = .next (b.complete j 0x0D08)) ∧
    (32 * c.fld 0 2 ≤ s.ceiling32 p → ∃ u : State, exec (.pwrEnvelope c) s = .next (u.complete j St.OK) ∧
      u.rd (Reg.PWR_PNL_ENVELOPE_W p) = c.fld 0 2 % 4096 ∧ u.rd (Reg.PWR_PNL_BORROW p) = c.fld 2 1 % 2 ∧
      RegsBut [Reg.PWR_PNL_ENVELOPE_W p, Reg.PWR_PNL_BORROW p] b u ∧ u = { b with csr := u.csr })) ∧
  (∀ (c : Cmd) (s : State), specPwrHold.accepts c s →
    let b := specPwrHold.begun c s
    let j := specPwrHold.job c s
    let d := c.fld 0 1
    let v := c.fld 1 1
    let bad : Prop := 84 ≤ d ∨ 1 < v ∨ (d < 64 ∧ s.rowDisabled d = true)
    (bad → exec (.pwrHold c) s = .next (b.complete j 0x0D08)) ∧
    (¬ bad → ∃ u : State, exec (.pwrHold c) s = .next (u.complete j St.OK) ∧ u.rd (Reg.PWR_DOM_HOLD d) = v ∧
      RegsBut [Reg.PWR_DOM_HOLD d] b u ∧ u = { b with csr := u.csr, power := u.power } ∧ (v = 0 → u.power = b.power) ∧
      (v = 1 → s.domOn d = false → (sget none u.power.waking d).isSome)))

/-- R448 to R454, R456 to R458, R461 to R465, R506, R507, R509, R510. -/
def Obligations.BootSecurityAndSideband : Prop :=
  let warm := fun (cause : Nat) (s u : State) => u.now = s.now ∧ u.rd Reg.DEV_RST_CAUSE_CAUSE = cause ∧ u.rd Reg.DEV_RST_CAUSE_COLD = 0 ∧
    u.stage = BS.rom ∧ u.jobs = [] ∧ u.hostMem = s.hostMem ∧ (∀ p, p < 16 → u.pst p = (if s.pst p = PS.empty then PS.empty else PS.stopped))
  (∀ s : State,
    let code := if !s.boot.flashOk then (0x0E11 : Code) else if leAt (s.flashRead 0 4) 0 4 ≠ 0x4D524946 then 0x0E01 else s.imageCheck s.flashImage
    (s.power.on = false ∨ s.boot.rstLow = true ∨ s.stage ≠ BS.rom → exec .bootRomStart s = .next s) ∧
    (s.power.on = true → s.boot.rstLow = false → s.stage = BS.rom → ∃ u : State, exec .bootRomStart s = .next u ∧
      u = { s with csr := u.csr, boot := u.boot } ∧ u.boot.flash = s.boot.flash ∧ sget none u.boot.cores 0 = some s.now ∧
      (code = St.OK → u.stage = BS.fwInit ∧ u.rd Reg.DEV_BOOT_STAT_SOURCE = 0 ∧ u.rd Reg.DEV_BOOT_STAT_IMAGE_SVN = leAt s.flashImage 8 4 % 64) ∧
      (code ≠ St.OK → u.stage = BS.waitPush ∧ u.rd Reg.DEV_BOOT_STAT_CODE = code.toNat ∧
        RegsBut [Reg.DEV_BOOT_STAT_STAGE, Reg.DEV_BOOT_STAT_CODE] s u)) ∧
    (s.stage ≠ BS.waitPush ∨ s.power.on = false → exec .bootPushGo s = .next s) ∧
    (s.stage = BS.waitPush → s.power.on = true →
      let a := s.rd Reg.DEV_BOOT_PUSH_ADDR_ADDR
      let n := s.rd Reg.DEV_BOOT_PUSH_LEN_LEN
      let pc := if (s.dmaFail 0 a n).isSome then (0x0E06 : Code) else s.imageCheck (s.hostRead a n)
      ∃ u : State, exec .bootPushGo s = .next u ∧ u = { s with csr := u.csr, boot := { s.boot with cores := u.boot.cores, sram := u.boot.sram, sramParity := u.boot.sramParity } } ∧
        u.rd Reg.DEV_BOOT_STAT_PUSHES = min (s.rd Reg.DEV_BOOT_STAT_PUSHES + 1) 65535 ∧
        (pc = St.OK → u.stage = BS.fwInit ∧ u.rd Reg.DEV_BOOT_STAT_SOURCE = 1 ∧ sget none u.boot.cores 0 = some s.now ∧
          ∀ k, sget 0 u.boot.sram k = (slice (s.hostRead a n) 4096 (leAt (s.hostRead a n) 12 4)).getD k 0 ∧
            sget false u.boot.sramParity k = parity8 (sget 0 u.boot.sram k)) ∧
        (pc ≠ St.OK → u.boot = s.boot ∧ u.stage = BS.waitPush ∧ u.rd Reg.DEV_BOOT_STAT_CODE = pc.toNat))) ∧
  (∀ (failed : List Nat) (low nominal boost : Bool) (s : State),
    (s.stage ≠ BS.fwInit ∨ s.power.on = false → exec (.bootFirmwareStart failed low nominal boost) s = .next s) ∧
    (s.stage = BS.fwInit → s.power.on = true →
      ((low = false ∨ nominal = false) → ∃ u : State, exec (.bootFirmwareStart failed low nominal boost) s = .next u ∧ u.stage = BS.halted ∧
        u.rd Reg.DEV_BOOT_STAT_CODE = 0x0E20) ∧
      (low = true → nominal = true → (s.placeSpares failed).2 = false → ∃ u : State,
        exec (.bootFirmwareStart failed low nominal boost) s = .next u ∧ u.stage = BS.halted ∧ u.rd Reg.DEV_BOOT_STAT_CODE = 0x0E21) ∧
      (low = true → nominal = true → (s.placeSpares failed).2 = true → ∃ u : State,
        exec (.bootFirmwareStart failed low nominal boost) s = .next u ∧ u.stage = BS.ready ∧ (∀ k, k < 4 → k ≠ 0 → sget none u.boot.cores k = some s.now) ∧
        (s.bit Reg.DEV_RST_CAUSE_COLD = true → ∀ n, n < 24 → let small := s.rd Reg.DEV_FEAT_LINK_FABRIC_PORTS = 16
          u.rd (Reg.FAB_PORTMAP_ROLE n) = (if small then portRole16 n else portRole24 n) ∧
          u.rd (Reg.FAB_PORTMAP_MEMBER n) = (if small then portMember16 n else portMember24 n)) ∧
        (s.bit Reg.DEV_RST_CAUSE_COLD = true → ∀ p, (u.wgt p).journal = {}) ∧ u.noc.feidCoord = 0 ∧
        (s.bit Reg.DEV_RST_CAUSE_COLD = false → ∀ n, n < 24 → u.rd (Reg.FAB_PORTMAP_ROLE n) = s.rd (Reg.FAB_PORTMAP_ROLE n) ∧
          u.rd (Reg.FAB_PORTMAP_MEMBER n) = s.rd (Reg.FAB_PORTMAP_MEMBER n)) ∧
        u.rd Reg.DEV_LOCK_STAT_LOCKED = 1 ∧ u.rd Reg.PNL_PART_STAT_LOCKED = 1 ∧ u.rd Reg.STI_CLK_POINT = 1 ∧
        u.rd Reg.STI_CLK_BOOST_OK = (if boost then 1 else 0) ∧ u.boot.staged = none ∧
        (s.partSource = none → u.rd Reg.PNL_PART_STAT_CODE = 0 ∧ ∀ p, p < 16 → u.pst p = PS.empty)))) ∧
  (∀ (c : Option Nat) (m : BitVec 4) (s : State),
    (c = none ∨ (∃ k, c = some k ∧ (4 ≤ k ∨ m.getLsbD k = false ∨ sget none s.boot.cores k = none)) → exec (.watchdogKick c m) s = .next s) ∧
    (∀ k, c = some k → k < 4 → m.getLsbD k = true → (sget none s.boot.cores k).isSome → ∃ u : State, exec (.watchdogKick c m) s = .next u ∧
      u = { s with boot := { s.boot with cores := u.boot.cores } } ∧ sget none u.boot.cores k = some s.now ∧
      ∀ j, j ≠ k → sget none u.boot.cores j = sget none s.boot.cores j)) ∧
  (∀ (k : Nat) (s : State),
    (4 ≤ k ∨ sget none s.boot.cores k = none → exec (.watchdogExpiry k) s = .next s ∧ exec (.coreParityFail k) s = .next s) ∧
    (∀ t, k < 4 → sget none s.boot.cores k = some t →
      let due := reached s.now (t + BitVec.ofNat 64 (1000000 * max 10 (s.rd Reg.DEV_WDT_MS)))
      (due = false ∨ (k = 0 ∧ s.stage = BS.waitPush) → exec (.watchdogExpiry k) s = .next s) ∧
      (due = true → k ≠ 0 ∨ s.stage ≠ BS.waitPush → ∃ u : State, exec (.watchdogExpiry k) s = .next u ∧ warm 5 s u ∧
        u.rd Reg.DEV_RST_CAUSE_CORE = k ∧ u.rd Reg.DEV_WDT_KICK_LAST = 2 ^ k) ∧
      (∃ u : State, exec (.coreParityFail k) s = .next u ∧ warm 6 s u ∧ u.rd Reg.DEV_RST_CAUSE_CORE = k))) ∧
  (∀ (ns : Nat) (s : State),
    (ns < 100 ∨ s.power.vin < 40000 ∨ s.boot.rstLow = true → exec (.rstNAssert ns) s = .next s) ∧
    (100 ≤ ns → 40000 ≤ s.power.vin → s.boot.rstLow = false →
      (ns < 1000 → exec (.rstNAssert ns) s = .next { s with out := s.out ++ [.pin "RST_OUT_N" false] ++ [.pin "RST_OUT_N" true] }) ∧
      (1000 ≤ ns → ∃ u : State, exec (.rstNAssert ns) s = .next u ∧ u.boot.rstLow = true ∧
        (s.power.on = true → s.bit Reg.DEV_RST_CTL_RST_N_COLD = false → warm 2 s u) ∧
        (s.power.on = true → s.bit Reg.DEV_RST_CTL_RST_N_COLD = true → u.now = 0 ∧ u.rd Reg.DEV_RST_CAUSE_CAUSE = 2 ∧ u.tiles = [] ∧
          u.stage = BS.rom))) ∧
    (s.boot.rstLow = false → exec .rstNRise s = .next s) ∧
    (s.boot.rstLow = true → exec .rstNRise s =
      .next { s with boot := { s.boot with rstLow := false }, out := s.out ++ [.pin "RST_OUT_N" true] })) ∧
  (∀ (c : Cmd) (s : State), s.boot.update.isSome → ∀ e ∈ ([(specFwUpdate, .fwUpdate), (specPartStage, .partStage),
      (specFwSvnCommit, .fwSvnCommit), (specOwnerKeyFuse, .ownerKeyFuse)] : List (CmdSpec × (Cmd → Instr))),
    e.1.accepts c s → exec (e.2 c) s = .next ((e.1.begun c s).complete (e.1.job c s) St.SEC_BUSY)) ∧
  (∀ (s : State) (v : FwJob), s.boot.update = some v → s.power.on = true → s.pending = [] → step s = .next s.finishUpdate) ∧
  (∀ (s : State) (v : FwJob), s.boot.update = some v → let rest : State := { s with boot := { s.boot with update := none } }
    let img := imageBytes (s.hostRead v.at_ v.len)
    (∀ bad, s.dmaFail v.fn v.at_ v.len = some bad → s.finishUpdate = rest.completeJob v.job St.DMA_ERROR bad 0) ∧
    (s.dmaFail v.fn v.at_ v.len = none → s.flashBad = true ∨ sha384 img ≠ v.digest → s.finishUpdate = rest.completeJob v.job St.FLASH_ERROR 0 0) ∧
    (s.dmaFail v.fn v.at_ v.len = none → s.flashBad = false → sha384 img = v.digest → ∃ u : State,
      s.finishUpdate = u.completeJob v.job St.OK 0 0 ∧ u = { rest with boot := { rest.boot with flash := u.boot.flash } } ∧
      u.flashRead 0 img.length = img ∧ ∀ k, img.length ≤ k → sget 0xFF u.boot.flash k = sget 0xFF s.boot.flash k)) ∧
  (∀ (c : Cmd) (s : State), specFwUpdate.accepts c s → s.boot.update = none → s.dmaFail c.fn (c.fld 0 8) (c.fld 8 4) = none →
    let b := specFwUpdate.begun c s
    let j := specFwUpdate.job c s
    let img := s.hostRead (c.fld 0 8) (c.fld 8 4)
    (s.imageCheck img ≠ St.OK → exec (.fwUpdate c) s = .next (b.complete j (s.imageCheck img))) ∧
    (s.imageCheck img = St.OK → s.boot.flashOk = false → exec (.fwUpdate c) s = .next (b.complete j 0x0E11)) ∧
    (s.imageCheck img = St.OK → s.boot.flashOk = true → ∃ u : State, exec (.fwUpdate c) s = .next u ∧
      u = { b with boot := { b.boot with flash := u.boot.flash, update := some ⟨j.id, c.fn, c.fld 0 8, c.fld 8 4, sha384 (imageBytes img)⟩ } } ∧
      (∀ k, k < 0x400000 → sget 0xFF u.boot.flash k = 0xFF) ∧ ∀ k, 0x400000 ≤ k → sget 0xFF u.boot.flash k = sget 0xFF s.boot.flash k)) ∧
  (∀ (c : Cmd) (s : State), specPartStage.accepts c s → s.boot.update = none →
    let b := specPartStage.begun c s
    let j := specPartStage.job c s
    let m := s.hostRead (c.fld 0 8) 2336
    (c.fld 8 4 ≠ 2336 → exec (.partStage c) s = .next (b.complete j 0x0101)) ∧
    (c.fld 8 4 = 2336 → s.dmaFail c.fn (c.fld 0 8) 2336 = none →
      (s.partCheck m ≠ St.OK → exec (.partStage c) s = .next (b.complete j (s.partCheck m))) ∧
      (s.partCheck m = St.OK → ∃ (u : State) (code : Code), exec (.partStage c) s = .next (u.complete j code) ∧ u.boot.staged = some m ∧
        u = { b with boot := u.boot } ∧ (c.fld 12 1 = 0 → code = St.OK ∧ u.boot.flash = s.boot.flash) ∧
        (c.fld 12 1 ≠ 0 → s.flashBad = true → code = 0x0E11) ∧
        (c.fld 12 1 ≠ 0 → s.flashBad = false → code = St.OK ∧ u.flashRead 0x400000 2336 = m)))) ∧
  (∀ (c : Cmd) (s : State),
    (specFwSvnCommit.accepts c s → s.boot.update = none → ∃ u : State, exec (.fwSvnCommit c) s = .next (u.complete (specFwSvnCommit.job c s) St.OK) ∧
      u.boot.newSvn = some (s.rd Reg.DEV_BOOT_STAT_IMAGE_SVN) ∧ u = { specFwSvnCommit.begun c s with boot := u.boot }) ∧
    (specOwnerKeyFuse.accepts c s → s.boot.update = none → let b := specOwnerKeyFuse.begun c s
      (s.ownerFused = true ∨ s.boot.newOwner.isSome → exec (.ownerKeyFuse c) s = .next (b.complete (specOwnerKeyFuse.job c s) 0x0E13)) ∧
      (s.ownerFused = false → s.boot.newOwner = none → ∃ u : State, exec (.ownerKeyFuse c) s =
        .next (u.complete (specOwnerKeyFuse.job c s) St.OK) ∧ u.boot.newOwner = some (bytesOf 48 c.par.toNat) ∧ u = { b with boot := u.boot })) ∧
    (specAttest.accepts c s → let j := specAttest.job c s
      let ps := if c.fn ≠ 0 then [c.fn - 1] else panels16.filter (fun p => (c.fld 40 2).testBit p && s.pst p ≠ PS.empty)
      (c.fn ≠ 0 → c.fld 40 2 ≠ 0 → exec (.attest c) s = .next ((specAttest.begun c s).complete j 0x0101)) ∧
      (c.fn = 0 ∨ c.fld 40 2 = 0 → s.twin.capture = false → (∀ n, s.dmaFail c.fn (c.fld 0 8) n = none) → ∃ (u : State) (r : List Byte),
        exec (.attest c) s = .next (u.completeD j St.OK r.length 0) ∧ u.hostRead (c.fld 0 8) r.length = r ∧
        r.take 4 = bytesOf 4 0x54535441 ∧ slice r 18 1 = bytesOf 1 ps.length ∧ slice r 24 8 = bytesOf 8 s.now.toNat ∧
        slice r 32 32 = bytesOf 32 (c.fld 8 32) ∧ (∃ k, r = r.take (r.length - 96) ++ ecdsaSign identityScalar k (r.take (r.length - 96))) ∧ slice r 112 48 = s.rdHash Reg.DEV_FW_DIGEST_HASH ∧ slice r 256 4 = bytesOf 4 r.length ∧
        u = { specAttest.begun c s with hostMem := u.hostMem, free := u.free })) ∧
    (specAttestCert.accepts c s → s.twin.capture = false → s.dmaFail c.fn (c.fld 0 8) s.certBytes.length = none → ∃ u : State,
      exec (.attestCert c) s = .next (u.completeD (specAttestCert.job c s) St.OK s.certBytes.length 0) ∧ s.certBytes.length ≤ 1536 ∧
      u.hostRead (c.fld 0 8) s.certBytes.length = s.certBytes ∧ u = { specAttestCert.begun c s with hostMem := u.hostMem })) ∧
  (∀ (cmd d : BitVec 8) (s : State),
    (cmd.toNat < 0x10 ∨ 0x18 ≤ cmd.toNat ∨ s.power.vin < 40000 → exec (.smbusBlockRead cmd) s = .next s) ∧
    (0x10 ≤ cmd.toNat → cmd.toNat < 0x18 → 40000 ≤ s.power.vin → ∃ v : Nat,
      exec (.smbusBlockRead cmd) s = .next { s with out := s.out ++ [.smbus (8 :: bytesOf 8 v)] } ∧
      (s.power.on = true → some v = (smbusReg cmd.toNat).map (s.regValue 0)) ∧
      (s.power.on = false → cmd.toNat ∈ [0x12, 0x13, 0x15, 0x17] → v = 0)) ∧
    (cmd ≠ 0x20 ∨ s.power.vin < 40000 → exec (.smbusWriteByte cmd d) s = .next s) ∧
    (cmd = 0x20 → 40000 ≤ s.power.vin → ∃ u : State, exec (.smbusWriteByte cmd d) s = .next u ∧ u = { s with csr := u.csr } ∧
      (∀ e ∈ ([(0, Reg.PWR_EVT_VIN_LOW), (1, Reg.PWR_EVT_VIN_HIGH), (2, Reg.PWR_EVT_TRIP), (3, Reg.PWR_EVT_INPUT_LOSS),
        (4, Reg.PWR_EVT_BRAKE)] : List (Nat × Fld)), s.rd e.2 ≤ 1 → u.rd e.2 = (if d.getLsbD e.1 then 0 else s.rd e.2)) ∧
      RegsBut [Reg.PWR_EVT_VIN_LOW, Reg.PWR_EVT_VIN_HIGH, Reg.PWR_EVT_TRIP, Reg.PWR_EVT_INPUT_LOSS, Reg.PWR_EVT_BRAKE] s u) ∧
    (s.power.vin < 40000 ∨ s.alertLow = false → exec .smbusAlertResponse s = .next s) ∧
    (40000 ≤ s.power.vin → s.alertLow = true →
      exec .smbusAlertResponse s = .next { s with out := s.out ++ [.smbus [BitVec.ofNat 8 (2 * (0x30 + s.part.pos))]] }) ∧
    (∃ u : State, exec .timeInLoss s = .next u ∧ u.power.timeIn = false ∧ u.now = s.now ∧
      (s.power.on = false ∨ s.bit Reg.STI_STATUS_TIME_IN_OK = false → u = { s with power := u.power, out := u.out }) ∧
      (s.power.on = true → s.bit Reg.STI_STATUS_TIME_IN_OK = true → u.rd Reg.STI_STATUS_TIME_IN_OK = 0 ∧ u.newest.code = 0x0965) ∧
      (s.power.on = false → s.timeOut = true → Out.pin "TIME_OUT" false ∈ u.out)) ∧
    (∃ u : State, exec .timeInReturn s = .next u ∧ RegsBut [Reg.STI_STATUS_TIME_IN_OK] s u ∧
      u = { s with csr := u.csr, boot := u.boot, power := u.power, out := u.out } ∧
      (s.power.on = true → u.rd Reg.STI_STATUS_TIME_IN_OK = 1) ∧ (s.power.on = false → u.csr = s.csr ∧ u.boot = s.boot) ∧
      (40000 ≤ s.power.vin → u.power.timeIn = true ∧ (s.timeOut = false → Out.pin "TIME_OUT" true ∈ u.out))) ∧
    (∀ o : JtagOp, (∃ w, o = .debugModule w) → s.bit Reg.DEV_FUSE_STAT_JTAG_DBG_DIS = true → exec (.jtagAccess o) s = .next s) ∧
    (∀ o : JtagOp, o = .idcode → s.rd Reg.DEV_ID_STEPPING = 1 → exec (.jtagAccess o) s =
      .next { s with out := s.out ++ [.jtag 0x1C400D55] }) ∧
    (∀ o : JtagOp, o = .boundaryScan ∨ ((∃ w, o = .debugModule w) ∧ s.bit Reg.DEV_FUSE_STAT_JTAG_DBG_DIS = false) →
      ∃ (u : State) (v : W64), exec (.jtagAccess o) s = .next u ∧ u = { s with out := s.out ++ [.jtag v], free := u.free }))

/-- R467 to R478. -/
def Obligations.TwinsMirrorAndPromote : Prop :=
  (∀ (peer : Option TwinPeer) (s : State),
    (s.tws ≠ TW.unpaired → s.tws ≠ TW.solo → exec (.pairActive peer) s = .next s ∧ exec .pairStandby s = .next s) ∧
    (s.tws = TW.unpaired ∨ s.tws = TW.solo → s.twin.held = [] →
      (∀ k, s.pairRefused peer = some k → ∃ u : State, exec (.pairActive peer) s = .next u ∧ u.tws = TW.unpaired ∧
        u.newest.code = 0x0F01 ∧ u.newest.d0 = BitVec.ofNat 64 k ∧ u.spools = s.spools ∧ u.hostMem = s.hostMem) ∧
      (∀ w, peer = some w → s.pairRefused peer = none → ∃ u : State, exec (.pairActive peer) s = .next u ∧
        u.tws = (if s.mappedPanels = [] then TW.active else TW.activeSync) ∧ u.rd Reg.FAB_TWIN_STAT_PEER_COORD = w.coord % 1024 ∧
        u.bit Reg.FAB_TWIN_STAT_PEER_VALID = true ∧
        ((∀ p ∈ s.mappedPanels, ∀ i ∈ s.spoolsOf p, (s.spool i).tokens = 0) → u.spools = s.spools ∧ u.hostMem = s.hostMem ∧
          u.tiles = s.tiles ∧ (s.mappedPanels ≠ [] → s.noc.flights.length < u.noc.flights.length))) ∧
      (∃ u : State, exec .pairStandby s = .next u ∧ u.tws = TW.standbySync ∧ u.bit Reg.FAB_TWIN_STAT_PEER_VALID = false ∧
        (∀ i, (∃ p ∈ s.mappedPanels, s.spoolOwner i = some p) → (u.spool i).st = SP.free) ∧
        (∀ i, (∀ p ∈ s.mappedPanels, s.spoolOwner i ≠ some p) → u.spool i = s.spool i) ∧ u.hostMem = s.hostMem ∧ u.tiles = s.tiles))) ∧
  (∀ s : State,
    (s.tws = TW.unpaired → exec .unpair s = .next s) ∧
    (s.tws ≠ TW.unpaired → s.twin.held = [] → ∃ u : State, exec .unpair s = .next u ∧ u.tws = TW.unpaired ∧
      u.rd Reg.FAB_TWIN_STAT_MISSES = 0 ∧ u.bit Reg.FAB_TWIN_STAT_PEER_VALID = false ∧ u.hostMem = s.hostMem ∧ u.spools = s.spools ∧
      u.noc.flights.length = s.noc.flights.length + (if s.paired then 1 else 0)) ∧
    (s.tws ≠ TW.fenced → s.tws ≠ TW.active → s.tws ≠ TW.activeSync → exec .solo s = .next s) ∧
    (s.tws = TW.fenced ∨ s.tws = TW.active ∨ s.tws = TW.activeSync → ∃ u : State, exec .solo s = .next u ∧ u.tws = TW.solo ∧
      u.twin.held = [] ∧ u.twin.groups = [] ∧ u.tiles = s.tiles ∧ (s.twin.held = [] → u.hostMem = s.hostMem) ∧
      (∀ k a bs, s.twin.held = [(k, .bytes a bs)] → u.hostMem = (s.hostWrite a bs).hostMem)) ∧
    (s.tws ≠ TW.standby ∨ s.rd Reg.FAB_TWIN_STAT_MISSES ≠ 3 → exec .promote s = .next s) ∧
    (s.tws = TW.standby → s.rd Reg.FAB_TWIN_STAT_MISSES = 3 →
      (∀ p, p < 16 → s.rd (Reg.PNL_PART_RANGE_Q_BASE p) + s.rd (Reg.PNL_PART_RANGE_Q_COUNT p) ≤ 16384) →
      ∃ u : State, exec .promote s = .next u ∧ u.tws = TW.solo ∧ u.newest.code = 0x0F03 ∧ u.twin.group = [] ∧
        u.rd Reg.FAB_TWIN_LAG_PROMOTIONS = min (s.rd Reg.FAB_TWIN_LAG_PROMOTIONS + 1) 65535 ∧
        ∀ p ∈ s.mappedPanels, u.rd (Reg.PNL_STEP_COUNT p) = (sget (0, 0, 0, 0) s.twin.panels p).1 % 2 ^ 48 ∧
          u.rd (Reg.PNL_WGT_STATE_HEAD p) = 1 ∧ u.rd (Reg.PNL_WGT_STATE_HEAD_COORD p) = s.coord % 1024 ∧ (u.serve p).steps = [] ∧
          u.rd (Reg.GSE_PCFG_ENABLE p) = 1 ∧
          (s.wst p = WS.ready → s.rd (Reg.PNL_WGT_GEN_GEN p) ≠ (sget (0, 0, 0, 0) s.twin.panels p).2.1 → u.wst p = WS.none) ∧
          (∀ i, s.spoolOwner i = some p → let x := s.spool i
            (u.spool i).final = St.HISTORY_LOST ∨
            (x.st = SP.prefill ∨ x.st = SP.decode → (u.spool i).st = SP.prefill ∧ (u.spool i).kvTokens = 0 ∧ (u.spool i).reprefill = true) ∧
            (x.st = SP.idle → (u.spool i).st = SP.idle ∧ (u.spool i).kvTokens = 0) ∧
            (x.st = SP.admitted → (u.spool i).st = SP.admitted ∧ (u.spool i).kvTokens = 0 ∧ (u.spool i).tokens = x.tokens) ∧
            (x.st = SP.parked → (u.spool i).st = SP.parked ∧ (u.spool i).kvTokens = x.kvTokens ∧ (u.spool i).parkPages = x.parkPages) ∧
            (x.st = SP.unparking → (u.spool i).st = SP.admitted) ∧
            (x.st = SP.cancelling → (u.spool i).st = SP.done ∧ (u.spool i).final = x.final)) ∧
          (∀ q ∈ s.panelSqs p, u.qread q = s.rd (Reg.QCFG_MARK_MARK q) % 2 ^ 32 ∧ u.bit (Reg.QCFG_CFG_AUTO_RELEASE q) = true))) ∧
  (∀ s : State,
    (s.ejected (epHost 64) (fun k => k.op = POp.ctrl && (1 ≤ bits (natOf (k.payload.take 16)) 32 8 && bits (natOf (k.payload.take 16)) 32 8 ≤ 9)) = none →
      exec .mirrorRecord s = .next s) ∧
    (s.ejected (epHost 64) (fun k => k.op = POp.ctrl && bits (natOf (k.payload.take 16)) 32 8 = 0) = none → exec .mirrorAck s = .next s) ∧
    (s.ejected (epHost 64) (fun k => k.op = POp.ctrl && bits (natOf (k.payload.take 16)) 32 8 = 15) = none →
      exec .heartbeatReceive s = .next s)) ∧
  (∀ (s : State) (i : Nat) (k : Packet), s.twinHears (fun n => 1 ≤ n && n ≤ 9) i k → s.tws = TW.standby ∨ s.tws = TW.standbySync →
    let v := natOf (k.payload.take 16)
    let b := k.payload.drop 16
    let m := leAt k.payload 0 4
    (∀ a, s.twin.applied = some a → seqLe m a = true → s.twin.ready = [] → exec .mirrorRecord s = .next (s.dropFlight i)) ∧
    ((∃ r ∈ s.twin.group, recMseq r = m) → s.twin.ready = [] → exec .mirrorRecord s = .next (s.dropFlight i)) ∧
    (s.twin.group = [] → (∀ a, s.twin.applied = some a → seqLe m a = false) →
      v.testBit 40 = false ∨ (∃ a, s.twin.applied = some a ∧ m ≠ (a + 1) % 2 ^ 32) →
      exec .mirrorRecord s = .next { s.dropFlight i with twin := { s.twin with group := [k.payload] } }) ∧
    (v.testBit 40 = true → s.twin.group = [] → (∀ a, s.twin.applied = some a → m = (a + 1) % 2 ^ 32) → ∃ (u : State) (f : Flight), exec .mirrorRecord s = .next u ∧ u.tws = TW.standby ∧ u.twin.group = [] ∧
      u.twin.applied = some (leAt k.payload 0 4) ∧ u.noc.flights.getLast? = some f ∧
      f.pkt.payload.take 20 = bytesOf 16 0 ++ bytesOf 4 (leAt k.payload 0 4) ∧ u.hostMem = s.hostMem ∧
      (∀ p, s.panelOfPeer (bits v 44 4) = some p → let n := leAt b 0 2
        (bits v 32 8 = 8 → u.rd (Reg.QCFG_MARK_MARK n) = leAt b 2 4 ∧ u.qrel n = leAt b 2 4) ∧
        (bits v 32 8 = 1 → (Spool.ofImage (slice b 2 128)).st = SP.free → u.spool n = {}) ∧
        (bits v 32 8 = 1 → (Spool.ofImage (slice b 2 128)).st ≠ SP.free → (u.spool n).st = (Spool.ofImage (slice b 2 128)).st ∧
          (u.spool n).tokens = (Spool.ofImage (slice b 2 128)).tokens ∧ (u.spool n).hist = (s.spool n).hist ∧
          (u.spool n).blocks = (s.spool n).blocks) ∧
        (bits v 32 8 = 9 → u.twin.tags = s.twin.tags ++ [⟨n, leAt b 2 4, BitVec.ofNat 32 (leAt b 6 4), BitVec.ofNat 16 (leAt b 10 2),
          BitVec.ofNat 64 (leAt b 12 8)⟩])))) ∧
  (∀ (s : State) (i : Nat) (k : Packet), s.twinHears (· = 0) i k → s.tws = TW.active ∨ s.tws = TW.activeSync ∨ s.tws = TW.fenced →
    let m := leAt k.payload 16 4
    ∃ u : State, exec .mirrorAck s = .next u ∧ u.rd Reg.FAB_TWIN_STAT_MSEQ_ACKED = m ∧ u.tiles = s.tiles ∧ u.spools = s.spools ∧
      (∀ e, s.twin.syncEnd = some e → seqLe e m = true → s.tws = TW.activeSync → u.tws = TW.active) ∧
      (s.twin.syncEnd = none → u.tws = s.tws) ∧
      (∀ n a bs, s.twin.held = [(n, .bytes a bs)] → u.hostMem =
        (if s.tws ≠ TW.fenced ∧ seqLe n m = true then (s.hostWrite a bs).hostMem else s.hostMem))) ∧
  (∀ s : State,
    (s.twin.groups.find? (fun g => !g.late) = none → exec .mirrorLag s = .next s) ∧
    (∀ g, s.twin.groups.find? (fun g => !g.late) = some g →
      (reached s.now (g.at_ + 2000) = false → exec .mirrorLag s = .next s) ∧
      (reached s.now (g.at_ + 2000) = true → ∃ u : State, exec .mirrorLag s = .next u ∧
        u.rd Reg.FAB_TWIN_LAG_LATE = min (s.rd Reg.FAB_TWIN_LAG_LATE + 1) 65535 ∧ u.newest.code = 0x0F04 ∧
        (∀ h ∈ u.twin.groups, h.last = g.last → h.late = true) ∧ u.twin.held = s.twin.held)) ∧
    let due := s.multipleDue 10000 s.twin.beatAt
    (s.twin.beatAt = none → due = (s.now.toNat % 10000 == 0)) ∧
    (∀ t, s.twin.beatAt = some t → due = decide (0 < stDiff t (BitVec.ofNat 64 (s.now.toNat / 10000 * 10000)))) ∧
    (s.paired = false ∨ due = false ∨ s.inTurn Ev.heartbeat = false → exec .twinHeartbeat s = .next s) ∧
    (s.paired = true → due = true → s.inTurn Ev.heartbeat = true → let n := s.rd Reg.FAB_TWIN_STAT_MISSES
      ∃ u : State, exec .twinHeartbeat s = .next u ∧ (n < 2 ∨ s.twin.beat = true → u.multipleDue 10000 u.twin.beatAt = false) ∧
        (s.twin.beat = true ∨ n < 2 ∨ n = 3 → u.rd Reg.FAB_TWIN_STAT_MISSES = (if s.twin.beat then 0 else if n = 3 then 3 else n + 1) ∧
          u.tws = s.tws ∧ u.noc.flights.length = s.noc.flights.length + 1 ∧ u.hostMem = s.hostMem ∧ u.spools = s.spools) ∧
        (s.twin.beat = false → n = 2 →
          (s.tws = TW.active ∨ s.tws = TW.activeSync → u.tws = TW.fenced ∧ u.newest.code = 0x0F02) ∧
          (s.tws = TW.standby → s.bit Reg.FAB_TWIN_CTL_AUTO_PROMOTE = true → u.tws = TW.solo ∧ u.newest.code = 0x0F03) ∧
          (s.tws = TW.standby → s.bit Reg.FAB_TWIN_CTL_AUTO_PROMOTE = false → u.tws = TW.standby ∧ u.rd Reg.FAB_TWIN_STAT_MISSES = 3 ∧
            u.newest.code = 0x0F02) ∧
          (s.tws = TW.standbySync → u.tws = TW.unpaired ∧ u.newest.code = 0x0F02)))) ∧
  (∀ (s : State) (i : Nat) (k : Packet), s.twinHears (· = 15) i k →
    let st := leAt k.payload 16 1
    ∃ u : State, exec .heartbeatReceive s = .next u ∧ u.rd Reg.FAB_TWIN_STAT_MISSES = 0 ∧
      (st ≠ 0 → u.twin.beat = true ∧ u.tws = (if s.tws = TW.standbySync ∧ st = TW.active then TW.standby else s.tws) ∧
        u.noc.flights = (s.dropFlight i).noc.flights) ∧
      (st = 0 → u.tws = (if s.tws = TW.active ∨ s.tws = TW.activeSync ∨ s.tws = TW.fenced then TW.solo else TW.unpaired))) ∧
  (∀ (s : State) (p : Nat), p < 16 →
    (s.ejected (epHost (32 + p)) (fun k => k.op = POp.ctrl && msgKind k.payload = 7) = none → exec (.headMove p) s = .next s) ∧
    (∀ i f, s.ejected (epHost (32 + p)) (fun k => k.op = POp.ctrl && msgKind k.payload = 7) = some (i, f) →
      let b := f.pkt.payload.drop 16
      let old := s.rd (Reg.PNL_WGT_STATE_HEAD_COORD p)
      let new := leAt b 0 8 % 1024
      let mine : Prop := (leAt b 16 8 = 0 ∨ leAt b 16 8 = s.rd (Reg.PNL_WGT_MODEL_MODEL_ID p)) ∧ leAt b 24 4 = s.rd (Reg.PNL_WGT_GEN_GEN p)
      (¬ mine → exec (.headMove p) s = .next (s.dropFlight i)) ∧
      (mine → ∃ u : State, exec (.headMove p) s = .next u ∧ u.rd (Reg.PNL_STEP_COUNT p) = leAt b 8 8 % 2 ^ 48 ∧
        u.rd (Reg.PNL_WGT_STATE_HEAD_COORD p) = new ∧ (u.serve p).launches = [] ∧ new ∉ (u.serve p).staleHeads ∧
        (old ≠ new → old ∈ (u.serve p).staleHeads) ∧ RegsBut [Reg.PNL_STEP_COUNT p, Reg.PNL_WGT_STATE_HEAD_COORD p] s u ∧
        u.panels = s.panels)))

/-- R483 to R486, R490 to R492, R494. -/
def Obligations.DebugAndReplay : Prop :=
  (∀ (c : Cmd) (s : State) (p : Nat), c.pnl = some p → p < 16 → s.pst p ≠ PS.empty →
    let f := if c.fn = 0 then Reg.DBG_AUTH_STAT_PF_AUTH else Reg.DBG_AUTH_STAT_VF_AUTH
    (specDbgAuth.accepts c s → let b := specDbgAuth.begun c s
      (c.fn = 0 → s.bit (Reg.PNL_PART_CFG_ADMIN_DEBUG p) = false → exec (.dbgAuth c) s = .next (b.complete (specDbgAuth.job c s) 0x1001)) ∧
      (c.fn ≠ 0 ∨ s.bit (Reg.PNL_PART_CFG_ADMIN_DEBUG p) = true → ∃ u : State,
        exec (.dbgAuth c) s = .next (u.complete (specDbgAuth.job c s) St.OK) ∧ u.authFor c.fn p = true ∧
        (∀ q, q < 16 → q ≠ p → (u.rd f).testBit q = (s.rd f).testBit q) ∧ RegsBut [f] b u ∧ u = { b with csr := u.csr })) ∧
    (specDbgDeauth.accepts c s → ∃ u : State,
      exec (.dbgDeauth c) s = .next (u.complete (specDbgDeauth.job c s) St.OK) ∧ u.authFor c.fn p = false ∧
      (∀ q, q < 16 → q ≠ p → (u.rd f).testBit q = (s.rd f).testBit q) ∧ RegsBut [f] s u ∧ u = { specDbgDeauth.begun c s with csr := u.csr }) ∧
    (∀ e ∈ ([(specDbgHalt, .dbgHalt), (specDbgResume, .dbgResume), (specReplaySet, .replaySet), (specReplayInject, .replayInject),
        (specReplayRun, .replayRun)] : List (CmdSpec × (Cmd → Instr))), e.1.accepts c s → s.authFor c.fn p = false →
      exec (e.2 c) s = .next ((e.1.begun c s).complete (e.1.job c s) 0x1001)) ∧
    (specDbgHalt.accepts c s → s.authFor c.fn p = true →
      let b := specDbgHalt.begun c s
      let j := specDbgHalt.job c s
      let bad : Prop := 1 < c.fld 0 1 ∨ 2 ^ 40 ≤ c.fld 8 8
      (bad → exec (.dbgHalt c) s = .next (b.complete j 0x0101)) ∧
      (¬ bad → s.isLive p = false → exec (.dbgHalt c) s = .next (b.complete j 0x1002)) ∧
      (¬ bad → s.isLive p = true → s.bit (Reg.DBG_PNL_STAT_HALTED p) = true → exec (.dbgHalt c) s = .next (b.complete j St.OK)) ∧
      (¬ bad → s.isLive p = true → s.bit (Reg.DBG_PNL_STAT_HALTED p) = false → (s.panel p).haltJob = none →
        (c.fld 0 1 = 0 ∨ c.fld 8 8 < s.maxCy p → (∀ k ∈ s.jobs, k.id ≠ s.nextJob) → ∃ u : State,
          exec (.dbgHalt c) s = .next (u.complete j St.OK) ∧ u.bit (Reg.DBG_PNL_STAT_HALTED p) = true ∧
          (∀ t ∈ s.runTiles p, u.tile t = { s.tile t with halted := true }) ∧ (∀ t, t ∉ s.runTiles p → u.tile t = s.tile t) ∧
          (u.panel p).haltAt = none ∧ (u.panel p).haltJob = none ∧ (u.panel p).run = (s.panel p).run ∧
          RegsBut [Reg.DBG_PNL_STAT_HALTED p, Reg.DBG_PNL_STAT_HALT_ARMED p, Reg.DBG_PNL_STAT_HALT_AT p] s u ∧ u.knots = s.knots) ∧
        (c.fld 0 1 = 1 → s.maxCy p ≤ c.fld 8 8 → ∃ u : State, exec (.dbgHalt c) s = .next u ∧ u.jobs = b.jobs ∧
          (u.panel p).haltAt = some (c.fld 8 8) ∧ (u.panel p).haltJob = some s.nextJob ∧ u.bit (Reg.DBG_PNL_STAT_HALT_ARMED p) = true ∧
          u.rd (Reg.DBG_PNL_STAT_HALT_AT p) ≤ c.fld 8 8 ∧ u.tiles = s.tiles ∧
          RegsBut [Reg.DBG_PNL_STAT_HALT_ARMED p, Reg.DBG_PNL_STAT_HALT_AT p] s u))) ∧
    (specDbgResume.accepts c s → s.authFor c.fn p = true →
      let b := specDbgResume.begun c s
      let j := specDbgResume.job c s
      (s.bit (Reg.DBG_PNL_STAT_HALTED p) = false → exec (.dbgResume c) s = .next (b.complete j 0x1002)) ∧
      (s.bit (Reg.DBG_PNL_STAT_HALTED p) = true → ∃ u : State, exec (.dbgResume c) s = .next (u.complete j St.OK) ∧
        u.bit (Reg.DBG_PNL_STAT_HALTED p) = false ∧ (∀ t ∈ s.runTiles p, u.tile t = { s.tile t with halted := false }) ∧
        (∀ t, t ∉ s.runTiles p → u.tile t = s.tile t) ∧ (u.panel p).run = (s.panel p).run ∧
        (u.panel p).haltAt = (if c.fld 8 8 = 0 then none else some (min (s.maxCy p + c.fld 8 8) (2 ^ 40 - 1))))) ∧
    (specDbgSnap.accepts c s → s.twin.capture = false → s.dmaFail c.fn (c.fld 0 8) (s.snapshot p).length = none → ∃ u : State,
      exec (.dbgSnap c) s = .next (u.complete (specDbgSnap.job c s) St.OK) ∧ u.hostRead (c.fld 0 8) (s.snapshot p).length = s.snapshot p ∧
      (s.snapshot p).take 16 = bytesOf 8 s.now.toNat ++ bytesOf 8 (s.rd (Reg.PNL_STEP_COUNT p)) ∧
      (s.snapshot p).length = 64 + 64 * (s.tilesOf p).length ∧ u = { specDbgSnap.begun c s with hostMem := u.hostMem }) ∧
    (specReplaySet.accepts c s → s.authFor c.fn p = true →
      let b := specReplaySet.begun c s
      let j := specReplaySet.job c s
      (s.pst p ≠ PS.stopped → ∃ u : State, exec (.replaySet c) s = .next (u.complete j 0x0202) ∧ u.rd (Reg.PNL_LAST_CODE p) = 0x0202 ∧
        u.bit (Reg.DBG_PNL_CTL_REPLAY p) = s.bit (Reg.DBG_PNL_CTL_REPLAY p)) ∧
      (s.pst p = PS.stopped → 1 < c.fld 0 1 → exec (.replaySet c) s = .next (b.complete j 0x0101)) ∧
      (s.pst p = PS.stopped → c.fld 0 1 = 1 ∨ (c.fld 0 1 = 0 ∧ (s.serve p).replay = none) → ∃ u : State,
        exec (.replaySet c) s = .next (u.complete j St.OK) ∧ u.rd (Reg.DBG_PNL_CTL_REPLAY p) = c.fld 0 1 ∧
        RegsBut [Reg.DBG_PNL_CTL_REPLAY p] s u ∧ u = { b with csr := u.csr })) ∧
    (s.authFor c.fn p = true → s.follower p = false → s.bit (Reg.DBG_PNL_CTL_REPLAY p) = false →
      (specReplayInject.accepts c s →
        exec (.replayInject c) s = .next ((specReplayInject.begun c s).complete (specReplayInject.job c s) 0x1005)) ∧
      (specReplayRun.accepts c s → exec (.replayRun c) s = .next ((specReplayRun.begun c s).complete (specReplayRun.job c s) 0x1005))) ∧
    (s.authFor c.fn p = true → s.follower p = false → s.bit (Reg.DBG_PNL_CTL_REPLAY p) = true →
      (specReplayInject.accepts c s → (∀ a n, s.dmaFail c.fn a n = none) →
        let b := specReplayInject.begun c s
        let j := specReplayInject.job c s
        let img := Spool.ofImage (s.hostRead (c.fld 0 8) 128)
        let pos := c.fld 8 4
        (img.generation ≠ s.rd (Reg.PNL_WGT_GEN_GEN p) → exec (.replayInject c) s = .next (b.complete j 0x1006)) ∧
        (img.generation = s.rd (Reg.PNL_WGT_GEN_GEN p) → img.tokens ≤ pos → exec (.replayInject c) s = .next (b.complete j 0x1007)) ∧
        (∀ i, img.generation = s.rd (Reg.PNL_WGT_GEN_GEN p) → pos < img.tokens → s.freeSpool p = some i →
          s.histFree p 0 img.tokens = true → ∃ u : State, exec (.replayInject c) s = .next (u.completeD j St.OK i 0) ∧
            (u.spool i).st = SP.admitted ∧ (u.spool i).panel = p ∧ (u.spool i).tokens = img.tokens ∧ (u.spool i).kvTokens = 0 ∧
            (u.spool i).seed = img.seed ∧ (u.spool i).sampler = img.sampler ∧ (u.spool i).generation = img.generation ∧
            (u.spool i).replayPos = some pos ∧ (∀ k, k ≠ i → u.spool k = s.spool k) ∧ u.hostMem = s.hostMem)) ∧
      (specReplayRun.accepts c s → let i := c.fld 0 2
        s.spoolOwner i = some p → (s.spool i).st ≠ SP.free →
        (64 < c.fld 40 1 → (s.spool i).replayPos.isSome →
          exec (.replayRun c) s = .next ((specReplayRun.begun c s).complete (specReplayRun.job c s) 0x1006)) ∧
        (∀ pos, (s.spool i).replayPos = some pos → c.fld 40 1 = 0 → (s.spool i).home = none → s.dmaFail c.fn (c.fld 32 8) 0 = none →
          let s1 := s.updSpool i (fun x => { x with home := some (c.fld 4 2 % max 1 (s.groups p)) })
          (s1.replayOk p i pos c [] = true → pos + c.fld 16 4 ≤ (s.spool i).tokens → ∃ (u : State) (r : Replay),
            exec (.replayRun c) s = .next u ∧ (u.serve p).replay = some r ∧ r.job = s.nextJob ∧ r.spool = i ∧ r.c = c.fld 8 8 ∧
            r.slot = c.fld 4 2 ∧ r.n = c.fld 16 4 ∧ u.jobs = (specReplayRun.begun c s).jobs ∧ u.csr = s.csr ∧ u.hostMem = s.hostMem) ∧
          (s1.replayOk p i pos c [] = true → (s.spool i).tokens < pos + c.fld 16 4 → ∃ u : State,
            exec (.replayRun c) s = .next (u.complete (specReplayRun.job c s) 0x1007) ∧ u.serves = s.serves))))) ∧
  (∀ (t : Nat) (s : State),
    (s.panelOfTile t = none → exec (.haltAtCycle t) s = .next s) ∧
    (∀ p, s.panelOfTile t = some p → let x := s.tile t
      let due : Prop := s.bit (Reg.DBG_PNL_STAT_HALT_ARMED p) = true ∧ s.isLive p = true ∧ t ∈ s.runTiles p ∧ x.run = true ∧ x.halted = false ∧
        s.rd (Reg.DBG_PNL_STAT_HALT_AT p) ≤ x.cy
      (¬ due → exec (.haltAtCycle t) s = .next s) ∧
      (due → (∃ v ∈ s.runTiles p, v ≠ t ∧ (s.tile v).halted = false) →
        exec (.haltAtCycle t) s = .next (s.updTile t (fun x => { x with halted := true }))) ∧
      (due → (∀ v ∈ s.runTiles p, v ≠ t → (s.tile v).halted = true) → s.replaying p = none →
        (s.panel p).haltAt = some (s.rd (Reg.DBG_PNL_STAT_HALT_AT p)) → ∃ u : State, exec (.haltAtCycle t) s = .next u ∧
          u.bit (Reg.DBG_PNL_STAT_HALTED p) = true ∧ (u.panel p).haltAt = none ∧ ∀ v ∈ s.runTiles p, (u.tile v).halted = true)))

/-- The canonical form is the model's own; it holds where the machine starts. -/
def Obligations.ResetStoresAreCanonical : Prop := State.reset.Canon

/-- The invariant, over every command and the idle step. -/
def Obligations.EveryStepKeepsTheStoresCanonical : Prop := ∀ s t : State, s.Canon → step s = .next t → t.Canon

/-- No command is turned away by the model: what the spec refuses completes with a status code, and events whose condition does not hold leave
the state (log entry 4). -/
def Obligations.EveryCommandCompletes : Prop :=
  (∀ (c : Instr) (s : State), ∃ t : State, exec c s = .next t ∧ t.pending = s.pending) ∧
  (∀ s : State, ∃ t : State, step s = .next t ∧ t.pending = s.pending.tail)
end

