-- ==== Sys2Proof/Laws/Store.lean ====
section
/-! SUPPORT. Laws of the sparse stores: what a read after a write gives, and that every operation keeps the canonical form. -/

namespace Sys2Proof.Machine

variable {α : Type}

/-! ## Reads after writes -/

@[simp] theorem sget_nil (d : α) (k : Nat) : sget d [] k = d := rfl

theorem sget_sdel_same (d : α) (m : Store α) (k : Nat) : sget d (sdel m k) k = d := by
  induction m with
  | nil => rfl
  | cons e r ih =>
    obtain ⟨i, v⟩ := e
    unfold sdel
    split
    · exact ih
    · rename_i h; simp [sget, h, ih]

theorem sget_sdel_ne (d : α) (m : Store α) {k j : Nat} (h : j ≠ k) : sget d (sdel m k) j = sget d m j := by
  induction m with
  | nil => rfl
  | cons e r ih =>
    obtain ⟨i, v⟩ := e
    unfold sdel
    split
    · rename_i hk; subst hk; simp [sget, h, ih]
    · simp [sget, ih]

theorem sget_sins_same (d : α) (m : Store α) (k : Nat) (v : α) (h : ∀ e ∈ m, e.1 ≠ k) : sget d (sins k v m) k = v := by
  induction m with
  | nil => simp [sins, sget]
  | cons e r ih =>
    obtain ⟨i, w⟩ := e
    have hi : i ≠ k := h (i, w) (by simp)
    unfold sins
    split
    · simp [sget]
    · simp [sget, Ne.symm hi, ih (fun e he => h e (by simp [he]))]

theorem sget_sins_ne (d : α) (m : Store α) {k j : Nat} (v : α) (h : j ≠ k) : sget d (sins k v m) j = sget d m j := by
  induction m with
  | nil => simp [sins, sget, h]
  | cons e r ih =>
    obtain ⟨i, w⟩ := e
    unfold sins
    split <;> simp [sget, h, ih]

theorem sdel_keys (m : Store α) (k : Nat) : ∀ e ∈ sdel m k, e.1 ≠ k ∧ e ∈ m := by
  induction m with
  | nil => simp [sdel]
  | cons e r ih =>
    obtain ⟨i, w⟩ := e
    unfold sdel
    split
    · intro x hx; exact ⟨(ih x hx).1, by simp [(ih x hx).2]⟩
    · rename_i hk
      intro x hx
      rcases List.mem_cons.mp hx with rfl | hx
      · exact ⟨fun h => hk h.symm, by simp⟩
      · exact ⟨(ih x hx).1, by simp [(ih x hx).2]⟩

variable [DecidableEq α]

/-- A read at the key written gives the value written. -/
@[simp] theorem sget_sset_same (d : α) (m : Store α) (k : Nat) (v : α) : sget d (sset d m k v) k = v := by
  unfold sset
  split
  · rename_i h; subst h; exact sget_sdel_same _ _ _
  · exact sget_sins_same _ _ _ _ (fun e he => (sdel_keys _ _ e he).1)

/-- A read at another key gives what was there, whatever an unlisted key reads as. -/
theorem sget_sset_ne (c d : α) (m : Store α) {k j : Nat} (v : α) (h : j ≠ k) : sget c (sset d m k v) j = sget c m j := by
  unfold sset
  split
  · exact sget_sdel_ne _ _ h
  · rw [sget_sins_ne _ _ _ h, sget_sdel_ne _ _ h]

theorem sget_sset (d : α) (m : Store α) (k j : Nat) (v : α) : sget d (sset d m k v) j = if j = k then v else sget d m j := by
  split
  · rename_i h; subst h; simp
  · rename_i h; exact sget_sset_ne _ _ _ _ h

/-! ## The canonical form -/

/-- Every key of the store exceeds `b`. -/
def Above (b : Nat) (m : Store α) : Prop := ∀ e ∈ m, b < e.1

omit [DecidableEq α] in
theorem rising_cons {e : Nat × α} {m : Store α} : Rising (e :: m) ↔ Above e.1 m ∧ Rising m := by
  obtain ⟨i, v⟩ := e
  induction m generalizing i v with
  | nil => simp [Rising, Above]
  | cons f r ih =>
    obtain ⟨j, w⟩ := f
    constructor
    · rintro ⟨h1, h2⟩
      refine ⟨?_, h2⟩
      intro x hx
      rcases List.mem_cons.mp hx with rfl | hx
      · exact h1
      · exact Nat.lt_trans h1 (((ih j w).mp h2).1 x hx)
    · rintro ⟨h1, h2⟩
      exact ⟨h1 (j, w) (by simp), h2⟩

omit [DecidableEq α] in
/-- A part of a rising list rises. -/
theorem rising_filter (p : Nat × α → Bool) {m : Store α} (h : Rising m) : Rising (m.filter p) := by
  induction m with
  | nil => simp [Rising]
  | cons e r ih =>
    obtain ⟨ha, hr⟩ := rising_cons.mp h
    simp only [List.filter_cons]
    split
    · exact rising_cons.mpr ⟨fun x hx => ha x ((List.mem_filter.mp hx).1), ih hr⟩
    · exact ih hr

omit [DecidableEq α] in
theorem sdel_eq_filter (m : Store α) (k : Nat) : sdel m k = m.filter (fun e => k ≠ e.1) := by
  induction m with
  | nil => rfl
  | cons e r ih =>
    obtain ⟨i, v⟩ := e
    unfold sdel
    split
    · rename_i h; subst h; simpa using ih
    · rename_i h; simp [h, ih]

omit [DecidableEq α] in
theorem above_sins {b k : Nat} {v : α} {m : Store α} (hk : b < k) (h : Above b m) : Above b (sins k v m) := by
  induction m with
  | nil => intro x hx; simp [sins] at hx; subst hx; exact hk
  | cons e r ih =>
    obtain ⟨i, w⟩ := e
    unfold sins
    split
    · intro x hx
      rcases List.mem_cons.mp hx with rfl | hx
      · exact hk
      · exact h x hx
    · intro x hx
      rcases List.mem_cons.mp hx with rfl | hx
      · exact h (i, w) (by simp)
      · exact ih (fun y hy => h y (by simp [hy])) x hx

omit [DecidableEq α] in
theorem rising_sins {k : Nat} {v : α} {m : Store α} (h : Rising m) (hk : ∀ e ∈ m, e.1 ≠ k) : Rising (sins k v m) := by
  induction m with
  | nil => simp [sins, Rising]
  | cons e r ih =>
    obtain ⟨i, w⟩ := e
    obtain ⟨ha, hr⟩ := rising_cons.mp h
    unfold sins
    split
    · rename_i hlt
      refine rising_cons.mpr ⟨?_, h⟩
      intro x hx
      rcases List.mem_cons.mp hx with rfl | hx
      · exact hlt
      · exact Nat.lt_trans hlt (ha x hx)
    · rename_i hlt
      have hik : i < k := Nat.lt_of_le_of_ne (Nat.le_of_not_lt hlt) (hk (i, w) (by simp))
      exact rising_cons.mpr ⟨above_sins hik ha, ih hr (fun y hy => hk y (by simp [hy]))⟩

/-- A write keeps keys rising. -/
theorem rising_sset (d : α) {m : Store α} (k : Nat) (v : α) (h : Rising m) : Rising (sset d m k v) := by
  have hd : Rising (sdel m k) := by rw [sdel_eq_filter]; exact rising_filter _ h
  unfold sset
  split
  · exact hd
  · exact rising_sins hd (fun e he => (sdel_keys _ _ e he).1)

omit [DecidableEq α] in
theorem mem_sins {k : Nat} {v : α} {m : Store α} {e : Nat × α} (h : e ∈ sins k v m) : e = (k, v) ∨ e ∈ m := by
  induction m with
  | nil => simp [sins] at h; exact Or.inl h
  | cons f r ih =>
    obtain ⟨i, w⟩ := f
    unfold sins at h
    split at h
    · rcases List.mem_cons.mp h with rfl | h
      · exact Or.inl rfl
      · exact Or.inr h
    · rcases List.mem_cons.mp h with rfl | h
      · exact Or.inr (by simp)
      · rcases ih h with h | h
        · exact Or.inl h
        · exact Or.inr (by simp [h])

omit [DecidableEq α] in
theorem canonical_nil (d : α) : Canonical d ([] : Store α) := ⟨trivial, by simp⟩

omit [DecidableEq α] in
/-- A part of a canonical store is canonical. -/
theorem canonical_filter {d : α} (p : Nat × α → Bool) {m : Store α} (h : Canonical d m) : Canonical d (m.filter p) :=
  ⟨rising_filter p h.1, fun e he => h.2 e ((List.mem_filter.mp he).1)⟩

omit [DecidableEq α] in
theorem canonical_sdel {d : α} {m : Store α} (k : Nat) (h : Canonical d m) : Canonical d (sdel m k) := by
  rw [sdel_eq_filter]; exact canonical_filter _ h

/-- A write keeps the canonical form. -/
theorem canonical_sset {d : α} {m : Store α} (k : Nat) (v : α) (h : Canonical d m) : Canonical d (sset d m k v) := by
  refine ⟨rising_sset d k v h.1, ?_⟩
  unfold sset
  split
  · intro e he; exact h.2 e (sdel_keys _ _ e he).2
  · rename_i hv
    intro e he
    rcases mem_sins he with rfl | he
    · exact hv
    · exact h.2 e (sdel_keys _ _ e he).2

/-- A change of every value keeps the canonical form. -/
theorem canonical_smap {d : α} (f : Nat → α → α) {m : Store α} (h : Canonical d m) : Canonical d (smap d f m) := by
  have key : ∀ m : Store α, Rising m → Rising (smap d f m) ∧ (∀ e ∈ smap d f m, e.2 ≠ d ∧ ∃ x ∈ m, x.1 = e.1) := by
    intro m
    induction m with
    | nil => intro _; exact ⟨trivial, by simp [smap]⟩
    | cons e r ih =>
      obtain ⟨i, v⟩ := e
      intro hm
      obtain ⟨ha, hr⟩ := rising_cons.mp hm
      obtain ⟨h1, h2⟩ := ih hr
      unfold smap
      split
      · exact ⟨h1, fun x hx => ⟨(h2 x hx).1, (h2 x hx).2.imp (fun y hy => ⟨by simp [hy.1], hy.2⟩)⟩⟩
      · rename_i hv
        refine ⟨rising_cons.mpr ⟨?_, h1⟩, ?_⟩
        · intro x hx
          obtain ⟨y, hy, he⟩ := (h2 x hx).2
          exact he ▸ ha y hy
        · intro x hx
          rcases List.mem_cons.mp hx with rfl | hx
          · exact ⟨hv, ⟨(i, v), by simp, rfl⟩⟩
          · exact ⟨(h2 x hx).1, (h2 x hx).2.imp (fun y hy => ⟨by simp [hy.1], hy.2⟩)⟩
  exact ⟨(key m h.1).1, fun e he => ((key m h.1).2 e he).1⟩

omit [DecidableEq α] in
theorem rising_append {m n : Store α} (hm : Rising m) (hn : Rising n) (h : ∀ x ∈ m, ∀ y ∈ n, x.1 < y.1) : Rising (m ++ n) := by
  induction m with
  | nil => exact hn
  | cons e r ih =>
    obtain ⟨ha, hr⟩ := rising_cons.mp hm
    refine rising_cons.mpr ⟨?_, ih hr (fun x hx y hy => h x (by simp [hx]) y hy)⟩
    intro x hx
    rcases List.mem_append.mp hx with hx | hx
    · exact ha x hx
    · exact h e (by simp) x hx

theorem sblock_spec (d : α) (l : List α) (k : Nat) :
    Rising (sblock d k l) ∧ ∀ e ∈ sblock d k l, e.2 ≠ d ∧ k ≤ e.1 ∧ e.1 < k + l.length := by
  induction l generalizing k with
  | nil => exact ⟨trivial, by simp [sblock]⟩
  | cons v vs ih =>
    obtain ⟨h1, h2⟩ := ih (k + 1)
    unfold sblock
    split
    · refine ⟨h1, fun e he => ?_⟩
      obtain ⟨a, b, c⟩ := h2 e he
      exact ⟨a, by omega, by simp only [List.length_cons]; omega⟩
    · rename_i hv
      refine ⟨rising_cons.mpr ⟨fun e he => ?_, h1⟩, fun e he => ?_⟩
      · have := (h2 e he).2.1
        show k < e.1
        omega
      · rcases List.mem_cons.mp he with rfl | he
        · exact ⟨hv, Nat.le_refl _, by simp⟩
        · obtain ⟨a, b, c⟩ := h2 e he
          exact ⟨a, by omega, by simp only [List.length_cons]; omega⟩

/-! ## Blocks: what a read after a write of many keys gives -/

omit [DecidableEq α] in
theorem sget_of_unlisted (d : α) {m : Store α} {k : Nat} (h : ∀ e ∈ m, e.1 ≠ k) : sget d m k = d := by
  induction m with
  | nil => rfl
  | cons e r ih =>
    unfold sget
    rw [if_neg (fun hk => h e (by simp) hk.symm)]
    exact ih (fun x hx => h x (by simp [hx]))

omit [DecidableEq α] in
theorem sget_append_right (d : α) {m : Store α} (n : Store α) {k : Nat} (h : ∀ e ∈ m, e.1 ≠ k) : sget d (m ++ n) k = sget d n k := by
  induction m with
  | nil => rfl
  | cons e r ih =>
    show (if k = e.1 then e.2 else sget d (r ++ n) k) = _
    rw [if_neg (fun hk => h e (by simp) hk.symm)]
    exact ih (fun x hx => h x (by simp [hx]))

omit [DecidableEq α] in
theorem sget_append_left (d : α) (m : Store α) {n : Store α} {k : Nat} (h : ∀ e ∈ n, e.1 ≠ k) : sget d (m ++ n) k = sget d m k := by
  induction m with
  | nil => exact sget_of_unlisted d h
  | cons e r ih =>
    show (if k = e.1 then e.2 else sget d (r ++ n) k) = (if k = e.1 then e.2 else sget d r k)
    rw [ih]

omit [DecidableEq α] in
/-- A part that keeps every entry of a key reads there as the whole. -/
theorem sget_filter (d : α) (p : Nat × α → Bool) (m : Store α) {k : Nat} (h : ∀ v, p (k, v) = true) : sget d (m.filter p) k = sget d m k := by
  induction m with
  | nil => rfl
  | cons e r ih =>
    obtain ⟨i, v⟩ := e
    rw [List.filter_cons]
    by_cases hp : p (i, v) = true
    · rw [if_pos hp]; simp only [sget, ih]
    · rw [if_neg hp, ih]
      have : k ≠ i := fun hk => hp (hk ▸ h v)
      simp [sget, this]

/-- A block reads as its list. -/
theorem sget_sblock (d : α) (l : List α) (k j : Nat) : sget d (sblock d k l) j = if k ≤ j then l.getD (j - k) d else d := by
  induction l generalizing k with
  | nil => simp [sblock]
  | cons v vs ih =>
    have step : sget d (sblock d k (v :: vs)) j = if j = k then v else sget d (sblock d (k + 1) vs) j := by
      by_cases hv : v = d
      · rw [sblock, if_pos hv]
        split
        · rename_i hj; subst hj; rw [ih, if_neg (by omega), hv]
        · rfl
      · rw [sblock, if_neg hv]; rfl
    rw [step, ih]
    by_cases h : j = k
    · subst h; simp
    · by_cases h2 : k ≤ j
      · have h3 : k + 1 ≤ j := by omega
        have h4 : j - k = (j - (k + 1)) + 1 := by omega
        rw [if_neg h, if_pos h3, if_pos h2, h4, List.getD_cons_succ]
      · rw [if_neg h, if_neg (by omega), if_neg h2]

/-- A read after a write of a list: the list's entry in its range, the old entry elsewhere. -/
theorem sget_ssetList (d : α) (m : Store α) (k : Nat) (l : List α) (j : Nat) :
    sget d (ssetList d m k l) j = if k ≤ j ∧ j < k + l.length then l.getD (j - k) d else sget d m j := by
  have hb := sblock_spec d l k
  unfold ssetList
  by_cases h1 : j < k
  · rw [if_neg (by omega), sget_append_left, sget_append_left, sget_filter]
    · simp [h1]
    · intro e he; have := (hb.2 e he).2.1; omega
    · intro e he; have := (List.mem_filter.mp he).2; simp at this; omega
  · by_cases h2 : j < k + l.length
    · rw [if_pos ⟨by omega, h2⟩, sget_append_left, sget_append_right, sget_sblock, if_pos (by omega)]
      · intro e he; have := (List.mem_filter.mp he).2; simp at this; omega
      · intro e he; have := (List.mem_filter.mp he).2; simp at this; omega
    · rw [if_neg (by omega), sget_append_right, sget_filter]
      · simp; omega
      · intro e he
        rcases List.mem_append.mp he with he | he
        · have := (List.mem_filter.mp he).2; simp at this; omega
        · have := (hb.2 e he).2.2; omega

omit [DecidableEq α] in
/-- A read of many keys is the reads of each. -/
theorem sgetList_eq (d : α) (m : Store α) (k n : Nat) : sgetList d m k n = (List.range n).map (fun i => sget d m (k + i)) := by
  unfold sgetList
  refine List.map_congr_left (fun i hi => sget_filter d _ m (fun v => ?_))
  have := List.mem_range.mp hi
  simp; omega

omit [DecidableEq α] in
@[simp] theorem sgetList_length (d : α) (m : Store α) (k n : Nat) : (sgetList d m k n).length = n := by simp [sgetList_eq]

/-- A block reads back as it was written. -/
theorem sgetList_ssetList_same (d : α) (m : Store α) (k : Nat) (l : List α) : sgetList d (ssetList d m k l) k l.length = l := by
  rw [sgetList_eq]
  apply List.ext_getElem
  · simp
  · intro i h1 h2
    simp only [List.getElem_map, List.getElem_range]
    rw [sget_ssetList, if_pos (by omega), Nat.add_sub_cancel_left, List.getD_eq_getElem?_getD, List.getElem?_eq_getElem h2]; rfl

/-- A block reads as before where another was written. -/
theorem sgetList_ssetList_ne (d : α) (m : Store α) (k : Nat) (l : List α) (j n : Nat) (h : j + n ≤ k ∨ k + l.length ≤ j) :
    sgetList d (ssetList d m k l) j n = sgetList d m j n := by
  rw [sgetList_eq, sgetList_eq]
  refine List.map_congr_left (fun i hi => ?_)
  have := List.mem_range.mp hi
  rw [sget_ssetList, if_neg (by omega)]

omit [DecidableEq α] in
/-- An erased range reads as unlisted, and every other key as before. -/
theorem sget_seraseRange (d : α) (m : Store α) (lo hi j : Nat) :
    sget d (seraseRange m lo hi) j = if lo ≤ j ∧ j < hi then d else sget d m j := by
  induction m with
  | nil => simp [seraseRange, sget]
  | cons e r ih =>
    obtain ⟨i, v⟩ := e
    unfold seraseRange
    split
    · rename_i h
      rw [ih]
      by_cases hj : lo ≤ j ∧ j < hi
      · simp [hj]
      · have : j ≠ i := fun h2 => hj (h2 ▸ h)
        simp [hj, sget, this]
    · rename_i h
      simp only [sget]
      by_cases hj : j = i
      · subst hj; simp [h]
      · simp [hj, ih]

/-- A write of a block keeps the canonical form. -/
theorem canonical_ssetList {d : α} {m : Store α} (k : Nat) (l : List α) (h : Canonical d m) : Canonical d (ssetList d m k l) := by
  obtain ⟨b1, b2⟩ := sblock_spec d l k
  unfold ssetList
  refine ⟨?_, ?_⟩
  · refine rising_append (rising_append (rising_filter _ h.1) b1 ?_) (rising_filter _ h.1) ?_
    · intro x hx y hy
      have h1 := (List.mem_filter.mp hx).2
      have h2 := (b2 y hy).2.1
      simp at h1
      omega
    · intro x hx y hy
      have h2 := (List.mem_filter.mp hy).2
      simp at h2
      rcases List.mem_append.mp hx with hx | hx
      · have h1 := (List.mem_filter.mp hx).2
        simp at h1
        omega
      · have := (b2 x hx).2.2
        omega
  · intro e he
    rcases List.mem_append.mp he with he | he
    · rcases List.mem_append.mp he with he | he
      · exact h.2 e ((List.mem_filter.mp he).1)
      · exact (b2 e he).1
    · exact h.2 e ((List.mem_filter.mp he).1)

omit [DecidableEq α] in
/-- Erasing a range keeps the canonical form. -/
theorem canonical_seraseRange {d : α} {m : Store α} (lo hi : Nat) (h : Canonical d m) : Canonical d (seraseRange m lo hi) := by
  have e : seraseRange m lo hi = m.filter (fun e => !(decide (lo ≤ e.1) && decide (e.1 < hi))) := by
    clear h
    induction m with
    | nil => rfl
    | cons e r ih =>
      obtain ⟨i, v⟩ := e
      unfold seraseRange
      split
      · rename_i h; simp [h.1, h.2, ih]
      · rename_i h
        simp only [not_and] at h
        by_cases h1 : lo ≤ i
        · simp [h1, h h1, ih]
        · simp [h1, ih]
  rw [e]; exact canonical_filter _ h

end Sys2Proof.Machine
end

