-- ==== Sys2Proof/Laws/State.lean ====
section
/-! SUPPORT. Laws of State: each basic update says what it does to each field and to each accessor. -/

namespace Sys2Proof.Machine

variable (s : State)

/-! ### wr -/

@[simp] theorem State.wr_part (f : Fld) (v : Nat) : (s.wr f v).part = s.part := rfl
@[simp] theorem State.wr_csr (f : Fld) (v : Nat) : (s.wr f v).csr = sset f.reset s.csr f.key (v % 2 ^ f.w) := rfl
@[simp] theorem State.wr_clk (f : Fld) (v : Nat) : (s.wr f v).clk = s.clk := rfl
@[simp] theorem State.wr_tiles (f : Fld) (v : Nat) : (s.wr f v).tiles = s.tiles := rfl
@[simp] theorem State.wr_bobs (f : Fld) (v : Nat) : (s.wr f v).bobs = s.bobs := rfl
@[simp] theorem State.wr_panels (f : Fld) (v : Nat) : (s.wr f v).panels = s.panels := rfl
@[simp] theorem State.wr_noc (f : Fld) (v : Nat) : (s.wr f v).noc = s.noc := rfl
@[simp] theorem State.wr_ports (f : Fld) (v : Nat) : (s.wr f v).ports = s.ports := rfl
@[simp] theorem State.wr_fab (f : Fld) (v : Nat) : (s.wr f v).fab = s.fab := rfl
@[simp] theorem State.wr_knots (f : Fld) (v : Nat) : (s.wr f v).knots = s.knots := rfl
@[simp] theorem State.wr_homes (f : Fld) (v : Nat) : (s.wr f v).homes = s.homes := rfl
@[simp] theorem State.wr_integ (f : Fld) (v : Nat) : (s.wr f v).integ = s.integ := rfl
@[simp] theorem State.wr_queues (f : Fld) (v : Nat) : (s.wr f v).queues = s.queues := rfl
@[simp] theorem State.wr_fns (f : Fld) (v : Nat) : (s.wr f v).fns = s.fns := rfl
@[simp] theorem State.wr_hostMem (f : Fld) (v : Nat) : (s.wr f v).hostMem = s.hostMem := rfl
@[simp] theorem State.wr_dmaBad (f : Fld) (v : Nat) : (s.wr f v).dmaBad = s.dmaBad := rfl
@[simp] theorem State.wr_jobs (f : Fld) (v : Nat) : (s.wr f v).jobs = s.jobs := rfl
@[simp] theorem State.wr_heldEntries (f : Fld) (v : Nat) : (s.wr f v).heldEntries = s.heldEntries := rfl
@[simp] theorem State.wr_nextJob (f : Fld) (v : Nat) : (s.wr f v).nextJob = s.nextJob := rfl
@[simp] theorem State.wr_turn (f : Fld) (v : Nat) : (s.wr f v).turn = s.turn := rfl
@[simp] theorem State.wr_tileGo (f : Fld) (v : Nat) : (s.wr f v).tileGo = s.tileGo := rfl
@[simp] theorem State.wr_bobGo (f : Fld) (v : Nat) : (s.wr f v).bobGo = s.bobGo := rfl
@[simp] theorem State.wr_wgts (f : Fld) (v : Nat) : (s.wr f v).wgts = s.wgts := rfl
@[simp] theorem State.wr_serves (f : Fld) (v : Nat) : (s.wr f v).serves = s.serves := rfl
@[simp] theorem State.wr_spools (f : Fld) (v : Nat) : (s.wr f v).spools = s.spools := rfl
@[simp] theorem State.wr_admitSeq (f : Fld) (v : Nat) : (s.wr f v).admitSeq = s.admitSeq := rfl
@[simp] theorem State.wr_chainEpisode (f : Fld) (v : Nat) : (s.wr f v).chainEpisode = s.chainEpisode := rfl
@[simp] theorem State.wr_qareaFirst (f : Fld) (v : Nat) : (s.wr f v).qareaFirst = s.qareaFirst := rfl
@[simp] theorem State.wr_qareaPages (f : Fld) (v : Nat) : (s.wr f v).qareaPages = s.qareaPages := rfl
@[simp] theorem State.wr_twin (f : Fld) (v : Nat) : (s.wr f v).twin = s.twin := rfl
@[simp] theorem State.wr_power (f : Fld) (v : Nat) : (s.wr f v).power = s.power := rfl
@[simp] theorem State.wr_boot (f : Fld) (v : Nat) : (s.wr f v).boot = s.boot := rfl
@[simp] theorem State.wr_out (f : Fld) (v : Nat) : (s.wr f v).out = s.out := rfl
@[simp] theorem State.wr_free (f : Fld) (v : Nat) : (s.wr f v).free = s.free := rfl
@[simp] theorem State.wr_pending (f : Fld) (v : Nat) : (s.wr f v).pending = s.pending := rfl
@[simp] theorem State.wr_tile (f : Fld) (v : Nat) (j : Nat) : (s.wr f v).tile j = s.tile j := rfl
@[simp] theorem State.wr_bob (f : Fld) (v : Nat) (j : Nat) : (s.wr f v).bob j = s.bob j := rfl
@[simp] theorem State.wr_panel (f : Fld) (v : Nat) (j : Nat) : (s.wr f v).panel j = s.panel j := rfl
@[simp] theorem State.wr_port (f : Fld) (v : Nat) (j : Nat) : (s.wr f v).port j = s.port j := rfl
@[simp] theorem State.wr_knot (f : Fld) (v : Nat) (j : Nat) : (s.wr f v).knot j = s.knot j := rfl
@[simp] theorem State.wr_queue (f : Fld) (v : Nat) (j : Nat) : (s.wr f v).queue j = s.queue j := rfl
@[simp] theorem State.wr_fnc (f : Fld) (v : Nat) (j : Nat) : (s.wr f v).fnc j = s.fnc j := rfl
@[simp] theorem State.wr_home (f : Fld) (v : Nat) (j : Nat) : (s.wr f v).home j = s.home j := rfl
@[simp] theorem State.wr_wgt (f : Fld) (v : Nat) (j : Nat) : (s.wr f v).wgt j = s.wgt j := rfl
@[simp] theorem State.wr_serve (f : Fld) (v : Nat) (j : Nat) : (s.wr f v).serve j = s.serve j := rfl
@[simp] theorem State.wr_spool (f : Fld) (v : Nat) (j : Nat) : (s.wr f v).spool j = s.spool j := rfl

/-! ### setTile -/

@[simp] theorem State.setTile_part (t : Nat) (x : Tile) : (s.setTile t x).part = s.part := rfl
@[simp] theorem State.setTile_csr (t : Nat) (x : Tile) : (s.setTile t x).csr = s.csr := rfl
@[simp] theorem State.setTile_clk (t : Nat) (x : Tile) : (s.setTile t x).clk = s.clk := rfl
@[simp] theorem State.setTile_tiles (t : Nat) (x : Tile) : (s.setTile t x).tiles = sset {} s.tiles t x := rfl
@[simp] theorem State.setTile_bobs (t : Nat) (x : Tile) : (s.setTile t x).bobs = s.bobs := rfl
@[simp] theorem State.setTile_panels (t : Nat) (x : Tile) : (s.setTile t x).panels = s.panels := rfl
@[simp] theorem State.setTile_noc (t : Nat) (x : Tile) : (s.setTile t x).noc = s.noc := rfl
@[simp] theorem State.setTile_ports (t : Nat) (x : Tile) : (s.setTile t x).ports = s.ports := rfl
@[simp] theorem State.setTile_fab (t : Nat) (x : Tile) : (s.setTile t x).fab = s.fab := rfl
@[simp] theorem State.setTile_knots (t : Nat) (x : Tile) : (s.setTile t x).knots = s.knots := rfl
@[simp] theorem State.setTile_homes (t : Nat) (x : Tile) : (s.setTile t x).homes = s.homes := rfl
@[simp] theorem State.setTile_integ (t : Nat) (x : Tile) : (s.setTile t x).integ = s.integ := rfl
@[simp] theorem State.setTile_queues (t : Nat) (x : Tile) : (s.setTile t x).queues = s.queues := rfl
@[simp] theorem State.setTile_fns (t : Nat) (x : Tile) : (s.setTile t x).fns = s.fns := rfl
@[simp] theorem State.setTile_hostMem (t : Nat) (x : Tile) : (s.setTile t x).hostMem = s.hostMem := rfl
@[simp] theorem State.setTile_dmaBad (t : Nat) (x : Tile) : (s.setTile t x).dmaBad = s.dmaBad := rfl
@[simp] theorem State.setTile_jobs (t : Nat) (x : Tile) : (s.setTile t x).jobs = s.jobs := rfl
@[simp] theorem State.setTile_heldEntries (t : Nat) (x : Tile) : (s.setTile t x).heldEntries = s.heldEntries := rfl
@[simp] theorem State.setTile_nextJob (t : Nat) (x : Tile) : (s.setTile t x).nextJob = s.nextJob := rfl
@[simp] theorem State.setTile_turn (t : Nat) (x : Tile) : (s.setTile t x).turn = s.turn := rfl
@[simp] theorem State.setTile_tileGo (t : Nat) (x : Tile) : (s.setTile t x).tileGo = s.tileGo := rfl
@[simp] theorem State.setTile_bobGo (t : Nat) (x : Tile) : (s.setTile t x).bobGo = s.bobGo := rfl
@[simp] theorem State.setTile_wgts (t : Nat) (x : Tile) : (s.setTile t x).wgts = s.wgts := rfl
@[simp] theorem State.setTile_serves (t : Nat) (x : Tile) : (s.setTile t x).serves = s.serves := rfl
@[simp] theorem State.setTile_spools (t : Nat) (x : Tile) : (s.setTile t x).spools = s.spools := rfl
@[simp] theorem State.setTile_admitSeq (t : Nat) (x : Tile) : (s.setTile t x).admitSeq = s.admitSeq := rfl
@[simp] theorem State.setTile_chainEpisode (t : Nat) (x : Tile) : (s.setTile t x).chainEpisode = s.chainEpisode := rfl
@[simp] theorem State.setTile_qareaFirst (t : Nat) (x : Tile) : (s.setTile t x).qareaFirst = s.qareaFirst := rfl
@[simp] theorem State.setTile_qareaPages (t : Nat) (x : Tile) : (s.setTile t x).qareaPages = s.qareaPages := rfl
@[simp] theorem State.setTile_twin (t : Nat) (x : Tile) : (s.setTile t x).twin = s.twin := rfl
@[simp] theorem State.setTile_power (t : Nat) (x : Tile) : (s.setTile t x).power = s.power := rfl
@[simp] theorem State.setTile_boot (t : Nat) (x : Tile) : (s.setTile t x).boot = s.boot := rfl
@[simp] theorem State.setTile_out (t : Nat) (x : Tile) : (s.setTile t x).out = s.out := rfl
@[simp] theorem State.setTile_free (t : Nat) (x : Tile) : (s.setTile t x).free = s.free := rfl
@[simp] theorem State.setTile_pending (t : Nat) (x : Tile) : (s.setTile t x).pending = s.pending := rfl
@[simp] theorem State.setTile_bob (t : Nat) (x : Tile) (j : Nat) : (s.setTile t x).bob j = s.bob j := rfl
@[simp] theorem State.setTile_panel (t : Nat) (x : Tile) (j : Nat) : (s.setTile t x).panel j = s.panel j := rfl
@[simp] theorem State.setTile_port (t : Nat) (x : Tile) (j : Nat) : (s.setTile t x).port j = s.port j := rfl
@[simp] theorem State.setTile_knot (t : Nat) (x : Tile) (j : Nat) : (s.setTile t x).knot j = s.knot j := rfl
@[simp] theorem State.setTile_queue (t : Nat) (x : Tile) (j : Nat) : (s.setTile t x).queue j = s.queue j := rfl
@[simp] theorem State.setTile_fnc (t : Nat) (x : Tile) (j : Nat) : (s.setTile t x).fnc j = s.fnc j := rfl
@[simp] theorem State.setTile_home (t : Nat) (x : Tile) (j : Nat) : (s.setTile t x).home j = s.home j := rfl
@[simp] theorem State.setTile_wgt (t : Nat) (x : Tile) (j : Nat) : (s.setTile t x).wgt j = s.wgt j := rfl
@[simp] theorem State.setTile_serve (t : Nat) (x : Tile) (j : Nat) : (s.setTile t x).serve j = s.serve j := rfl
@[simp] theorem State.setTile_spool (t : Nat) (x : Tile) (j : Nat) : (s.setTile t x).spool j = s.spool j := rfl
@[simp] theorem State.setTile_rd (t : Nat) (x : Tile) (g : Fld) : (s.setTile t x).rd g = s.rd g := rfl
@[simp] theorem State.setTile_bit (t : Nat) (x : Tile) (g : Fld) : (s.setTile t x).bit g = s.bit g := rfl
@[simp] theorem State.setTile_now (t : Nat) (x : Tile) : (s.setTile t x).now = s.now := rfl

/-! ### setBob -/

@[simp] theorem State.setBob_part (b : Nat) (x : Bobbin) : (s.setBob b x).part = s.part := rfl
@[simp] theorem State.setBob_csr (b : Nat) (x : Bobbin) : (s.setBob b x).csr = s.csr := rfl
@[simp] theorem State.setBob_clk (b : Nat) (x : Bobbin) : (s.setBob b x).clk = s.clk := rfl
@[simp] theorem State.setBob_tiles (b : Nat) (x : Bobbin) : (s.setBob b x).tiles = s.tiles := rfl
@[simp] theorem State.setBob_bobs (b : Nat) (x : Bobbin) : (s.setBob b x).bobs = sset {} s.bobs b x := rfl
@[simp] theorem State.setBob_panels (b : Nat) (x : Bobbin) : (s.setBob b x).panels = s.panels := rfl
@[simp] theorem State.setBob_noc (b : Nat) (x : Bobbin) : (s.setBob b x).noc = s.noc := rfl
@[simp] theorem State.setBob_ports (b : Nat) (x : Bobbin) : (s.setBob b x).ports = s.ports := rfl
@[simp] theorem State.setBob_fab (b : Nat) (x : Bobbin) : (s.setBob b x).fab = s.fab := rfl
@[simp] theorem State.setBob_knots (b : Nat) (x : Bobbin) : (s.setBob b x).knots = s.knots := rfl
@[simp] theorem State.setBob_homes (b : Nat) (x : Bobbin) : (s.setBob b x).homes = s.homes := rfl
@[simp] theorem State.setBob_integ (b : Nat) (x : Bobbin) : (s.setBob b x).integ = s.integ := rfl
@[simp] theorem State.setBob_queues (b : Nat) (x : Bobbin) : (s.setBob b x).queues = s.queues := rfl
@[simp] theorem State.setBob_fns (b : Nat) (x : Bobbin) : (s.setBob b x).fns = s.fns := rfl
@[simp] theorem State.setBob_hostMem (b : Nat) (x : Bobbin) : (s.setBob b x).hostMem = s.hostMem := rfl
@[simp] theorem State.setBob_dmaBad (b : Nat) (x : Bobbin) : (s.setBob b x).dmaBad = s.dmaBad := rfl
@[simp] theorem State.setBob_jobs (b : Nat) (x : Bobbin) : (s.setBob b x).jobs = s.jobs := rfl
@[simp] theorem State.setBob_heldEntries (b : Nat) (x : Bobbin) : (s.setBob b x).heldEntries = s.heldEntries := rfl
@[simp] theorem State.setBob_nextJob (b : Nat) (x : Bobbin) : (s.setBob b x).nextJob = s.nextJob := rfl
@[simp] theorem State.setBob_turn (b : Nat) (x : Bobbin) : (s.setBob b x).turn = s.turn := rfl
@[simp] theorem State.setBob_tileGo (b : Nat) (x : Bobbin) : (s.setBob b x).tileGo = s.tileGo := rfl
@[simp] theorem State.setBob_bobGo (b : Nat) (x : Bobbin) : (s.setBob b x).bobGo = s.bobGo := rfl
@[simp] theorem State.setBob_wgts (b : Nat) (x : Bobbin) : (s.setBob b x).wgts = s.wgts := rfl
@[simp] theorem State.setBob_serves (b : Nat) (x : Bobbin) : (s.setBob b x).serves = s.serves := rfl
@[simp] theorem State.setBob_spools (b : Nat) (x : Bobbin) : (s.setBob b x).spools = s.spools := rfl
@[simp] theorem State.setBob_admitSeq (b : Nat) (x : Bobbin) : (s.setBob b x).admitSeq = s.admitSeq := rfl
@[simp] theorem State.setBob_chainEpisode (b : Nat) (x : Bobbin) : (s.setBob b x).chainEpisode = s.chainEpisode := rfl
@[simp] theorem State.setBob_qareaFirst (b : Nat) (x : Bobbin) : (s.setBob b x).qareaFirst = s.qareaFirst := rfl
@[simp] theorem State.setBob_qareaPages (b : Nat) (x : Bobbin) : (s.setBob b x).qareaPages = s.qareaPages := rfl
@[simp] theorem State.setBob_twin (b : Nat) (x : Bobbin) : (s.setBob b x).twin = s.twin := rfl
@[simp] theorem State.setBob_power (b : Nat) (x : Bobbin) : (s.setBob b x).power = s.power := rfl
@[simp] theorem State.setBob_boot (b : Nat) (x : Bobbin) : (s.setBob b x).boot = s.boot := rfl
@[simp] theorem State.setBob_out (b : Nat) (x : Bobbin) : (s.setBob b x).out = s.out := rfl
@[simp] theorem State.setBob_free (b : Nat) (x : Bobbin) : (s.setBob b x).free = s.free := rfl
@[simp] theorem State.setBob_pending (b : Nat) (x : Bobbin) : (s.setBob b x).pending = s.pending := rfl
@[simp] theorem State.setBob_tile (b : Nat) (x : Bobbin) (j : Nat) : (s.setBob b x).tile j = s.tile j := rfl
@[simp] theorem State.setBob_panel (b : Nat) (x : Bobbin) (j : Nat) : (s.setBob b x).panel j = s.panel j := rfl
@[simp] theorem State.setBob_port (b : Nat) (x : Bobbin) (j : Nat) : (s.setBob b x).port j = s.port j := rfl
@[simp] theorem State.setBob_knot (b : Nat) (x : Bobbin) (j : Nat) : (s.setBob b x).knot j = s.knot j := rfl
@[simp] theorem State.setBob_queue (b : Nat) (x : Bobbin) (j : Nat) : (s.setBob b x).queue j = s.queue j := rfl
@[simp] theorem State.setBob_fnc (b : Nat) (x : Bobbin) (j : Nat) : (s.setBob b x).fnc j = s.fnc j := rfl
@[simp] theorem State.setBob_home (b : Nat) (x : Bobbin) (j : Nat) : (s.setBob b x).home j = s.home j := rfl
@[simp] theorem State.setBob_wgt (b : Nat) (x : Bobbin) (j : Nat) : (s.setBob b x).wgt j = s.wgt j := rfl
@[simp] theorem State.setBob_serve (b : Nat) (x : Bobbin) (j : Nat) : (s.setBob b x).serve j = s.serve j := rfl
@[simp] theorem State.setBob_spool (b : Nat) (x : Bobbin) (j : Nat) : (s.setBob b x).spool j = s.spool j := rfl
@[simp] theorem State.setBob_rd (b : Nat) (x : Bobbin) (g : Fld) : (s.setBob b x).rd g = s.rd g := rfl
@[simp] theorem State.setBob_bit (b : Nat) (x : Bobbin) (g : Fld) : (s.setBob b x).bit g = s.bit g := rfl
@[simp] theorem State.setBob_now (b : Nat) (x : Bobbin) : (s.setBob b x).now = s.now := rfl

/-! ### setPanel -/

@[simp] theorem State.setPanel_part (p : Nat) (x : Panel) : (s.setPanel p x).part = s.part := rfl
@[simp] theorem State.setPanel_csr (p : Nat) (x : Panel) : (s.setPanel p x).csr = s.csr := rfl
@[simp] theorem State.setPanel_clk (p : Nat) (x : Panel) : (s.setPanel p x).clk = s.clk := rfl
@[simp] theorem State.setPanel_tiles (p : Nat) (x : Panel) : (s.setPanel p x).tiles = s.tiles := rfl
@[simp] theorem State.setPanel_bobs (p : Nat) (x : Panel) : (s.setPanel p x).bobs = s.bobs := rfl
@[simp] theorem State.setPanel_panels (p : Nat) (x : Panel) : (s.setPanel p x).panels = sset {} s.panels p x := rfl
@[simp] theorem State.setPanel_noc (p : Nat) (x : Panel) : (s.setPanel p x).noc = s.noc := rfl
@[simp] theorem State.setPanel_ports (p : Nat) (x : Panel) : (s.setPanel p x).ports = s.ports := rfl
@[simp] theorem State.setPanel_fab (p : Nat) (x : Panel) : (s.setPanel p x).fab = s.fab := rfl
@[simp] theorem State.setPanel_knots (p : Nat) (x : Panel) : (s.setPanel p x).knots = s.knots := rfl
@[simp] theorem State.setPanel_homes (p : Nat) (x : Panel) : (s.setPanel p x).homes = s.homes := rfl
@[simp] theorem State.setPanel_integ (p : Nat) (x : Panel) : (s.setPanel p x).integ = s.integ := rfl
@[simp] theorem State.setPanel_queues (p : Nat) (x : Panel) : (s.setPanel p x).queues = s.queues := rfl
@[simp] theorem State.setPanel_fns (p : Nat) (x : Panel) : (s.setPanel p x).fns = s.fns := rfl
@[simp] theorem State.setPanel_hostMem (p : Nat) (x : Panel) : (s.setPanel p x).hostMem = s.hostMem := rfl
@[simp] theorem State.setPanel_dmaBad (p : Nat) (x : Panel) : (s.setPanel p x).dmaBad = s.dmaBad := rfl
@[simp] theorem State.setPanel_jobs (p : Nat) (x : Panel) : (s.setPanel p x).jobs = s.jobs := rfl
@[simp] theorem State.setPanel_heldEntries (p : Nat) (x : Panel) : (s.setPanel p x).heldEntries = s.heldEntries := rfl
@[simp] theorem State.setPanel_nextJob (p : Nat) (x : Panel) : (s.setPanel p x).nextJob = s.nextJob := rfl
@[simp] theorem State.setPanel_turn (p : Nat) (x : Panel) : (s.setPanel p x).turn = s.turn := rfl
@[simp] theorem State.setPanel_tileGo (p : Nat) (x : Panel) : (s.setPanel p x).tileGo = s.tileGo := rfl
@[simp] theorem State.setPanel_bobGo (p : Nat) (x : Panel) : (s.setPanel p x).bobGo = s.bobGo := rfl
@[simp] theorem State.setPanel_wgts (p : Nat) (x : Panel) : (s.setPanel p x).wgts = s.wgts := rfl
@[simp] theorem State.setPanel_serves (p : Nat) (x : Panel) : (s.setPanel p x).serves = s.serves := rfl
@[simp] theorem State.setPanel_spools (p : Nat) (x : Panel) : (s.setPanel p x).spools = s.spools := rfl
@[simp] theorem State.setPanel_admitSeq (p : Nat) (x : Panel) : (s.setPanel p x).admitSeq = s.admitSeq := rfl
@[simp] theorem State.setPanel_chainEpisode (p : Nat) (x : Panel) : (s.setPanel p x).chainEpisode = s.chainEpisode := rfl
@[simp] theorem State.setPanel_qareaFirst (p : Nat) (x : Panel) : (s.setPanel p x).qareaFirst = s.qareaFirst := rfl
@[simp] theorem State.setPanel_qareaPages (p : Nat) (x : Panel) : (s.setPanel p x).qareaPages = s.qareaPages := rfl
@[simp] theorem State.setPanel_twin (p : Nat) (x : Panel) : (s.setPanel p x).twin = s.twin := rfl
@[simp] theorem State.setPanel_power (p : Nat) (x : Panel) : (s.setPanel p x).power = s.power := rfl
@[simp] theorem State.setPanel_boot (p : Nat) (x : Panel) : (s.setPanel p x).boot = s.boot := rfl
@[simp] theorem State.setPanel_out (p : Nat) (x : Panel) : (s.setPanel p x).out = s.out := rfl
@[simp] theorem State.setPanel_free (p : Nat) (x : Panel) : (s.setPanel p x).free = s.free := rfl
@[simp] theorem State.setPanel_pending (p : Nat) (x : Panel) : (s.setPanel p x).pending = s.pending := rfl
@[simp] theorem State.setPanel_tile (p : Nat) (x : Panel) (j : Nat) : (s.setPanel p x).tile j = s.tile j := rfl
@[simp] theorem State.setPanel_bob (p : Nat) (x : Panel) (j : Nat) : (s.setPanel p x).bob j = s.bob j := rfl
@[simp] theorem State.setPanel_port (p : Nat) (x : Panel) (j : Nat) : (s.setPanel p x).port j = s.port j := rfl
@[simp] theorem State.setPanel_knot (p : Nat) (x : Panel) (j : Nat) : (s.setPanel p x).knot j = s.knot j := rfl
@[simp] theorem State.setPanel_queue (p : Nat) (x : Panel) (j : Nat) : (s.setPanel p x).queue j = s.queue j := rfl
@[simp] theorem State.setPanel_fnc (p : Nat) (x : Panel) (j : Nat) : (s.setPanel p x).fnc j = s.fnc j := rfl
@[simp] theorem State.setPanel_home (p : Nat) (x : Panel) (j : Nat) : (s.setPanel p x).home j = s.home j := rfl
@[simp] theorem State.setPanel_wgt (p : Nat) (x : Panel) (j : Nat) : (s.setPanel p x).wgt j = s.wgt j := rfl
@[simp] theorem State.setPanel_serve (p : Nat) (x : Panel) (j : Nat) : (s.setPanel p x).serve j = s.serve j := rfl
@[simp] theorem State.setPanel_spool (p : Nat) (x : Panel) (j : Nat) : (s.setPanel p x).spool j = s.spool j := rfl
@[simp] theorem State.setPanel_rd (p : Nat) (x : Panel) (g : Fld) : (s.setPanel p x).rd g = s.rd g := rfl
@[simp] theorem State.setPanel_bit (p : Nat) (x : Panel) (g : Fld) : (s.setPanel p x).bit g = s.bit g := rfl
@[simp] theorem State.setPanel_now (p : Nat) (x : Panel) : (s.setPanel p x).now = s.now := rfl

/-! ### setPort -/

@[simp] theorem State.setPort_part (n : Nat) (x : Port) : (s.setPort n x).part = s.part := rfl
@[simp] theorem State.setPort_csr (n : Nat) (x : Port) : (s.setPort n x).csr = s.csr := rfl
@[simp] theorem State.setPort_clk (n : Nat) (x : Port) : (s.setPort n x).clk = s.clk := rfl
@[simp] theorem State.setPort_tiles (n : Nat) (x : Port) : (s.setPort n x).tiles = s.tiles := rfl
@[simp] theorem State.setPort_bobs (n : Nat) (x : Port) : (s.setPort n x).bobs = s.bobs := rfl
@[simp] theorem State.setPort_panels (n : Nat) (x : Port) : (s.setPort n x).panels = s.panels := rfl
@[simp] theorem State.setPort_noc (n : Nat) (x : Port) : (s.setPort n x).noc = s.noc := rfl
@[simp] theorem State.setPort_ports (n : Nat) (x : Port) : (s.setPort n x).ports = sset {} s.ports n x := rfl
@[simp] theorem State.setPort_fab (n : Nat) (x : Port) : (s.setPort n x).fab = s.fab := rfl
@[simp] theorem State.setPort_knots (n : Nat) (x : Port) : (s.setPort n x).knots = s.knots := rfl
@[simp] theorem State.setPort_homes (n : Nat) (x : Port) : (s.setPort n x).homes = s.homes := rfl
@[simp] theorem State.setPort_integ (n : Nat) (x : Port) : (s.setPort n x).integ = s.integ := rfl
@[simp] theorem State.setPort_queues (n : Nat) (x : Port) : (s.setPort n x).queues = s.queues := rfl
@[simp] theorem State.setPort_fns (n : Nat) (x : Port) : (s.setPort n x).fns = s.fns := rfl
@[simp] theorem State.setPort_hostMem (n : Nat) (x : Port) : (s.setPort n x).hostMem = s.hostMem := rfl
@[simp] theorem State.setPort_dmaBad (n : Nat) (x : Port) : (s.setPort n x).dmaBad = s.dmaBad := rfl
@[simp] theorem State.setPort_jobs (n : Nat) (x : Port) : (s.setPort n x).jobs = s.jobs := rfl
@[simp] theorem State.setPort_heldEntries (n : Nat) (x : Port) : (s.setPort n x).heldEntries = s.heldEntries := rfl
@[simp] theorem State.setPort_nextJob (n : Nat) (x : Port) : (s.setPort n x).nextJob = s.nextJob := rfl
@[simp] theorem State.setPort_turn (n : Nat) (x : Port) : (s.setPort n x).turn = s.turn := rfl
@[simp] theorem State.setPort_tileGo (n : Nat) (x : Port) : (s.setPort n x).tileGo = s.tileGo := rfl
@[simp] theorem State.setPort_bobGo (n : Nat) (x : Port) : (s.setPort n x).bobGo = s.bobGo := rfl
@[simp] theorem State.setPort_wgts (n : Nat) (x : Port) : (s.setPort n x).wgts = s.wgts := rfl
@[simp] theorem State.setPort_serves (n : Nat) (x : Port) : (s.setPort n x).serves = s.serves := rfl
@[simp] theorem State.setPort_spools (n : Nat) (x : Port) : (s.setPort n x).spools = s.spools := rfl
@[simp] theorem State.setPort_admitSeq (n : Nat) (x : Port) : (s.setPort n x).admitSeq = s.admitSeq := rfl
@[simp] theorem State.setPort_chainEpisode (n : Nat) (x : Port) : (s.setPort n x).chainEpisode = s.chainEpisode := rfl
@[simp] theorem State.setPort_qareaFirst (n : Nat) (x : Port) : (s.setPort n x).qareaFirst = s.qareaFirst := rfl
@[simp] theorem State.setPort_qareaPages (n : Nat) (x : Port) : (s.setPort n x).qareaPages = s.qareaPages := rfl
@[simp] theorem State.setPort_twin (n : Nat) (x : Port) : (s.setPort n x).twin = s.twin := rfl
@[simp] theorem State.setPort_power (n : Nat) (x : Port) : (s.setPort n x).power = s.power := rfl
@[simp] theorem State.setPort_boot (n : Nat) (x : Port) : (s.setPort n x).boot = s.boot := rfl
@[simp] theorem State.setPort_out (n : Nat) (x : Port) : (s.setPort n x).out = s.out := rfl
@[simp] theorem State.setPort_free (n : Nat) (x : Port) : (s.setPort n x).free = s.free := rfl
@[simp] theorem State.setPort_pending (n : Nat) (x : Port) : (s.setPort n x).pending = s.pending := rfl
@[simp] theorem State.setPort_tile (n : Nat) (x : Port) (j : Nat) : (s.setPort n x).tile j = s.tile j := rfl
@[simp] theorem State.setPort_bob (n : Nat) (x : Port) (j : Nat) : (s.setPort n x).bob j = s.bob j := rfl
@[simp] theorem State.setPort_panel (n : Nat) (x : Port) (j : Nat) : (s.setPort n x).panel j = s.panel j := rfl
@[simp] theorem State.setPort_knot (n : Nat) (x : Port) (j : Nat) : (s.setPort n x).knot j = s.knot j := rfl
@[simp] theorem State.setPort_queue (n : Nat) (x : Port) (j : Nat) : (s.setPort n x).queue j = s.queue j := rfl
@[simp] theorem State.setPort_fnc (n : Nat) (x : Port) (j : Nat) : (s.setPort n x).fnc j = s.fnc j := rfl
@[simp] theorem State.setPort_home (n : Nat) (x : Port) (j : Nat) : (s.setPort n x).home j = s.home j := rfl
@[simp] theorem State.setPort_wgt (n : Nat) (x : Port) (j : Nat) : (s.setPort n x).wgt j = s.wgt j := rfl
@[simp] theorem State.setPort_serve (n : Nat) (x : Port) (j : Nat) : (s.setPort n x).serve j = s.serve j := rfl
@[simp] theorem State.setPort_spool (n : Nat) (x : Port) (j : Nat) : (s.setPort n x).spool j = s.spool j := rfl
@[simp] theorem State.setPort_rd (n : Nat) (x : Port) (g : Fld) : (s.setPort n x).rd g = s.rd g := rfl
@[simp] theorem State.setPort_bit (n : Nat) (x : Port) (g : Fld) : (s.setPort n x).bit g = s.bit g := rfl
@[simp] theorem State.setPort_now (n : Nat) (x : Port) : (s.setPort n x).now = s.now := rfl

/-! ### setKnot -/

@[simp] theorem State.setKnot_part (k : Nat) (x : Knot) : (s.setKnot k x).part = s.part := rfl
@[simp] theorem State.setKnot_csr (k : Nat) (x : Knot) : (s.setKnot k x).csr = s.csr := rfl
@[simp] theorem State.setKnot_clk (k : Nat) (x : Knot) : (s.setKnot k x).clk = s.clk := rfl
@[simp] theorem State.setKnot_tiles (k : Nat) (x : Knot) : (s.setKnot k x).tiles = s.tiles := rfl
@[simp] theorem State.setKnot_bobs (k : Nat) (x : Knot) : (s.setKnot k x).bobs = s.bobs := rfl
@[simp] theorem State.setKnot_panels (k : Nat) (x : Knot) : (s.setKnot k x).panels = s.panels := rfl
@[simp] theorem State.setKnot_noc (k : Nat) (x : Knot) : (s.setKnot k x).noc = s.noc := rfl
@[simp] theorem State.setKnot_ports (k : Nat) (x : Knot) : (s.setKnot k x).ports = s.ports := rfl
@[simp] theorem State.setKnot_fab (k : Nat) (x : Knot) : (s.setKnot k x).fab = s.fab := rfl
@[simp] theorem State.setKnot_knots (k : Nat) (x : Knot) : (s.setKnot k x).knots = sset {} s.knots k x := rfl
@[simp] theorem State.setKnot_homes (k : Nat) (x : Knot) : (s.setKnot k x).homes = s.homes := rfl
@[simp] theorem State.setKnot_integ (k : Nat) (x : Knot) : (s.setKnot k x).integ = s.integ := rfl
@[simp] theorem State.setKnot_queues (k : Nat) (x : Knot) : (s.setKnot k x).queues = s.queues := rfl
@[simp] theorem State.setKnot_fns (k : Nat) (x : Knot) : (s.setKnot k x).fns = s.fns := rfl
@[simp] theorem State.setKnot_hostMem (k : Nat) (x : Knot) : (s.setKnot k x).hostMem = s.hostMem := rfl
@[simp] theorem State.setKnot_dmaBad (k : Nat) (x : Knot) : (s.setKnot k x).dmaBad = s.dmaBad := rfl
@[simp] theorem State.setKnot_jobs (k : Nat) (x : Knot) : (s.setKnot k x).jobs = s.jobs := rfl
@[simp] theorem State.setKnot_heldEntries (k : Nat) (x : Knot) : (s.setKnot k x).heldEntries = s.heldEntries := rfl
@[simp] theorem State.setKnot_nextJob (k : Nat) (x : Knot) : (s.setKnot k x).nextJob = s.nextJob := rfl
@[simp] theorem State.setKnot_turn (k : Nat) (x : Knot) : (s.setKnot k x).turn = s.turn := rfl
@[simp] theorem State.setKnot_tileGo (k : Nat) (x : Knot) : (s.setKnot k x).tileGo = s.tileGo := rfl
@[simp] theorem State.setKnot_bobGo (k : Nat) (x : Knot) : (s.setKnot k x).bobGo = s.bobGo := rfl
@[simp] theorem State.setKnot_wgts (k : Nat) (x : Knot) : (s.setKnot k x).wgts = s.wgts := rfl
@[simp] theorem State.setKnot_serves (k : Nat) (x : Knot) : (s.setKnot k x).serves = s.serves := rfl
@[simp] theorem State.setKnot_spools (k : Nat) (x : Knot) : (s.setKnot k x).spools = s.spools := rfl
@[simp] theorem State.setKnot_admitSeq (k : Nat) (x : Knot) : (s.setKnot k x).admitSeq = s.admitSeq := rfl
@[simp] theorem State.setKnot_chainEpisode (k : Nat) (x : Knot) : (s.setKnot k x).chainEpisode = s.chainEpisode := rfl
@[simp] theorem State.setKnot_qareaFirst (k : Nat) (x : Knot) : (s.setKnot k x).qareaFirst = s.qareaFirst := rfl
@[simp] theorem State.setKnot_qareaPages (k : Nat) (x : Knot) : (s.setKnot k x).qareaPages = s.qareaPages := rfl
@[simp] theorem State.setKnot_twin (k : Nat) (x : Knot) : (s.setKnot k x).twin = s.twin := rfl
@[simp] theorem State.setKnot_power (k : Nat) (x : Knot) : (s.setKnot k x).power = s.power := rfl
@[simp] theorem State.setKnot_boot (k : Nat) (x : Knot) : (s.setKnot k x).boot = s.boot := rfl
@[simp] theorem State.setKnot_out (k : Nat) (x : Knot) : (s.setKnot k x).out = s.out := rfl
@[simp] theorem State.setKnot_free (k : Nat) (x : Knot) : (s.setKnot k x).free = s.free := rfl
@[simp] theorem State.setKnot_pending (k : Nat) (x : Knot) : (s.setKnot k x).pending = s.pending := rfl
@[simp] theorem State.setKnot_tile (k : Nat) (x : Knot) (j : Nat) : (s.setKnot k x).tile j = s.tile j := rfl
@[simp] theorem State.setKnot_bob (k : Nat) (x : Knot) (j : Nat) : (s.setKnot k x).bob j = s.bob j := rfl
@[simp] theorem State.setKnot_panel (k : Nat) (x : Knot) (j : Nat) : (s.setKnot k x).panel j = s.panel j := rfl
@[simp] theorem State.setKnot_port (k : Nat) (x : Knot) (j : Nat) : (s.setKnot k x).port j = s.port j := rfl
@[simp] theorem State.setKnot_queue (k : Nat) (x : Knot) (j : Nat) : (s.setKnot k x).queue j = s.queue j := rfl
@[simp] theorem State.setKnot_fnc (k : Nat) (x : Knot) (j : Nat) : (s.setKnot k x).fnc j = s.fnc j := rfl
@[simp] theorem State.setKnot_home (k : Nat) (x : Knot) (j : Nat) : (s.setKnot k x).home j = s.home j := rfl
@[simp] theorem State.setKnot_wgt (k : Nat) (x : Knot) (j : Nat) : (s.setKnot k x).wgt j = s.wgt j := rfl
@[simp] theorem State.setKnot_serve (k : Nat) (x : Knot) (j : Nat) : (s.setKnot k x).serve j = s.serve j := rfl
@[simp] theorem State.setKnot_spool (k : Nat) (x : Knot) (j : Nat) : (s.setKnot k x).spool j = s.spool j := rfl
@[simp] theorem State.setKnot_rd (k : Nat) (x : Knot) (g : Fld) : (s.setKnot k x).rd g = s.rd g := rfl
@[simp] theorem State.setKnot_bit (k : Nat) (x : Knot) (g : Fld) : (s.setKnot k x).bit g = s.bit g := rfl
@[simp] theorem State.setKnot_now (k : Nat) (x : Knot) : (s.setKnot k x).now = s.now := rfl

/-! ### setQueue -/

@[simp] theorem State.setQueue_part (q : Nat) (x : Queue) : (s.setQueue q x).part = s.part := rfl
@[simp] theorem State.setQueue_csr (q : Nat) (x : Queue) : (s.setQueue q x).csr = s.csr := rfl
@[simp] theorem State.setQueue_clk (q : Nat) (x : Queue) : (s.setQueue q x).clk = s.clk := rfl
@[simp] theorem State.setQueue_tiles (q : Nat) (x : Queue) : (s.setQueue q x).tiles = s.tiles := rfl
@[simp] theorem State.setQueue_bobs (q : Nat) (x : Queue) : (s.setQueue q x).bobs = s.bobs := rfl
@[simp] theorem State.setQueue_panels (q : Nat) (x : Queue) : (s.setQueue q x).panels = s.panels := rfl
@[simp] theorem State.setQueue_noc (q : Nat) (x : Queue) : (s.setQueue q x).noc = s.noc := rfl
@[simp] theorem State.setQueue_ports (q : Nat) (x : Queue) : (s.setQueue q x).ports = s.ports := rfl
@[simp] theorem State.setQueue_fab (q : Nat) (x : Queue) : (s.setQueue q x).fab = s.fab := rfl
@[simp] theorem State.setQueue_knots (q : Nat) (x : Queue) : (s.setQueue q x).knots = s.knots := rfl
@[simp] theorem State.setQueue_homes (q : Nat) (x : Queue) : (s.setQueue q x).homes = s.homes := rfl
@[simp] theorem State.setQueue_integ (q : Nat) (x : Queue) : (s.setQueue q x).integ = s.integ := rfl
@[simp] theorem State.setQueue_queues (q : Nat) (x : Queue) : (s.setQueue q x).queues = sset {} s.queues q x := rfl
@[simp] theorem State.setQueue_fns (q : Nat) (x : Queue) : (s.setQueue q x).fns = s.fns := rfl
@[simp] theorem State.setQueue_hostMem (q : Nat) (x : Queue) : (s.setQueue q x).hostMem = s.hostMem := rfl
@[simp] theorem State.setQueue_dmaBad (q : Nat) (x : Queue) : (s.setQueue q x).dmaBad = s.dmaBad := rfl
@[simp] theorem State.setQueue_jobs (q : Nat) (x : Queue) : (s.setQueue q x).jobs = s.jobs := rfl
@[simp] theorem State.setQueue_heldEntries (q : Nat) (x : Queue) : (s.setQueue q x).heldEntries = s.heldEntries := rfl
@[simp] theorem State.setQueue_nextJob (q : Nat) (x : Queue) : (s.setQueue q x).nextJob = s.nextJob := rfl
@[simp] theorem State.setQueue_turn (q : Nat) (x : Queue) : (s.setQueue q x).turn = s.turn := rfl
@[simp] theorem State.setQueue_tileGo (q : Nat) (x : Queue) : (s.setQueue q x).tileGo = s.tileGo := rfl
@[simp] theorem State.setQueue_bobGo (q : Nat) (x : Queue) : (s.setQueue q x).bobGo = s.bobGo := rfl
@[simp] theorem State.setQueue_wgts (q : Nat) (x : Queue) : (s.setQueue q x).wgts = s.wgts := rfl
@[simp] theorem State.setQueue_serves (q : Nat) (x : Queue) : (s.setQueue q x).serves = s.serves := rfl
@[simp] theorem State.setQueue_spools (q : Nat) (x : Queue) : (s.setQueue q x).spools = s.spools := rfl
@[simp] theorem State.setQueue_admitSeq (q : Nat) (x : Queue) : (s.setQueue q x).admitSeq = s.admitSeq := rfl
@[simp] theorem State.setQueue_chainEpisode (q : Nat) (x : Queue) : (s.setQueue q x).chainEpisode = s.chainEpisode := rfl
@[simp] theorem State.setQueue_qareaFirst (q : Nat) (x : Queue) : (s.setQueue q x).qareaFirst = s.qareaFirst := rfl
@[simp] theorem State.setQueue_qareaPages (q : Nat) (x : Queue) : (s.setQueue q x).qareaPages = s.qareaPages := rfl
@[simp] theorem State.setQueue_twin (q : Nat) (x : Queue) : (s.setQueue q x).twin = s.twin := rfl
@[simp] theorem State.setQueue_power (q : Nat) (x : Queue) : (s.setQueue q x).power = s.power := rfl
@[simp] theorem State.setQueue_boot (q : Nat) (x : Queue) : (s.setQueue q x).boot = s.boot := rfl
@[simp] theorem State.setQueue_out (q : Nat) (x : Queue) : (s.setQueue q x).out = s.out := rfl
@[simp] theorem State.setQueue_free (q : Nat) (x : Queue) : (s.setQueue q x).free = s.free := rfl
@[simp] theorem State.setQueue_pending (q : Nat) (x : Queue) : (s.setQueue q x).pending = s.pending := rfl
@[simp] theorem State.setQueue_tile (q : Nat) (x : Queue) (j : Nat) : (s.setQueue q x).tile j = s.tile j := rfl
@[simp] theorem State.setQueue_bob (q : Nat) (x : Queue) (j : Nat) : (s.setQueue q x).bob j = s.bob j := rfl
@[simp] theorem State.setQueue_panel (q : Nat) (x : Queue) (j : Nat) : (s.setQueue q x).panel j = s.panel j := rfl
@[simp] theorem State.setQueue_port (q : Nat) (x : Queue) (j : Nat) : (s.setQueue q x).port j = s.port j := rfl
@[simp] theorem State.setQueue_knot (q : Nat) (x : Queue) (j : Nat) : (s.setQueue q x).knot j = s.knot j := rfl
@[simp] theorem State.setQueue_fnc (q : Nat) (x : Queue) (j : Nat) : (s.setQueue q x).fnc j = s.fnc j := rfl
@[simp] theorem State.setQueue_home (q : Nat) (x : Queue) (j : Nat) : (s.setQueue q x).home j = s.home j := rfl
@[simp] theorem State.setQueue_wgt (q : Nat) (x : Queue) (j : Nat) : (s.setQueue q x).wgt j = s.wgt j := rfl
@[simp] theorem State.setQueue_serve (q : Nat) (x : Queue) (j : Nat) : (s.setQueue q x).serve j = s.serve j := rfl
@[simp] theorem State.setQueue_spool (q : Nat) (x : Queue) (j : Nat) : (s.setQueue q x).spool j = s.spool j := rfl
@[simp] theorem State.setQueue_rd (q : Nat) (x : Queue) (g : Fld) : (s.setQueue q x).rd g = s.rd g := rfl
@[simp] theorem State.setQueue_bit (q : Nat) (x : Queue) (g : Fld) : (s.setQueue q x).bit g = s.bit g := rfl
@[simp] theorem State.setQueue_now (q : Nat) (x : Queue) : (s.setQueue q x).now = s.now := rfl

/-! ### setFn -/

@[simp] theorem State.setFn_part (f : Nat) (x : PcieFn) : (s.setFn f x).part = s.part := rfl
@[simp] theorem State.setFn_csr (f : Nat) (x : PcieFn) : (s.setFn f x).csr = s.csr := rfl
@[simp] theorem State.setFn_clk (f : Nat) (x : PcieFn) : (s.setFn f x).clk = s.clk := rfl
@[simp] theorem State.setFn_tiles (f : Nat) (x : PcieFn) : (s.setFn f x).tiles = s.tiles := rfl
@[simp] theorem State.setFn_bobs (f : Nat) (x : PcieFn) : (s.setFn f x).bobs = s.bobs := rfl
@[simp] theorem State.setFn_panels (f : Nat) (x : PcieFn) : (s.setFn f x).panels = s.panels := rfl
@[simp] theorem State.setFn_noc (f : Nat) (x : PcieFn) : (s.setFn f x).noc = s.noc := rfl
@[simp] theorem State.setFn_ports (f : Nat) (x : PcieFn) : (s.setFn f x).ports = s.ports := rfl
@[simp] theorem State.setFn_fab (f : Nat) (x : PcieFn) : (s.setFn f x).fab = s.fab := rfl
@[simp] theorem State.setFn_knots (f : Nat) (x : PcieFn) : (s.setFn f x).knots = s.knots := rfl
@[simp] theorem State.setFn_homes (f : Nat) (x : PcieFn) : (s.setFn f x).homes = s.homes := rfl
@[simp] theorem State.setFn_integ (f : Nat) (x : PcieFn) : (s.setFn f x).integ = s.integ := rfl
@[simp] theorem State.setFn_queues (f : Nat) (x : PcieFn) : (s.setFn f x).queues = s.queues := rfl
@[simp] theorem State.setFn_fns (f : Nat) (x : PcieFn) : (s.setFn f x).fns = sset {} s.fns f x := rfl
@[simp] theorem State.setFn_hostMem (f : Nat) (x : PcieFn) : (s.setFn f x).hostMem = s.hostMem := rfl
@[simp] theorem State.setFn_dmaBad (f : Nat) (x : PcieFn) : (s.setFn f x).dmaBad = s.dmaBad := rfl
@[simp] theorem State.setFn_jobs (f : Nat) (x : PcieFn) : (s.setFn f x).jobs = s.jobs := rfl
@[simp] theorem State.setFn_heldEntries (f : Nat) (x : PcieFn) : (s.setFn f x).heldEntries = s.heldEntries := rfl
@[simp] theorem State.setFn_nextJob (f : Nat) (x : PcieFn) : (s.setFn f x).nextJob = s.nextJob := rfl
@[simp] theorem State.setFn_turn (f : Nat) (x : PcieFn) : (s.setFn f x).turn = s.turn := rfl
@[simp] theorem State.setFn_tileGo (f : Nat) (x : PcieFn) : (s.setFn f x).tileGo = s.tileGo := rfl
@[simp] theorem State.setFn_bobGo (f : Nat) (x : PcieFn) : (s.setFn f x).bobGo = s.bobGo := rfl
@[simp] theorem State.setFn_wgts (f : Nat) (x : PcieFn) : (s.setFn f x).wgts = s.wgts := rfl
@[simp] theorem State.setFn_serves (f : Nat) (x : PcieFn) : (s.setFn f x).serves = s.serves := rfl
@[simp] theorem State.setFn_spools (f : Nat) (x : PcieFn) : (s.setFn f x).spools = s.spools := rfl
@[simp] theorem State.setFn_admitSeq (f : Nat) (x : PcieFn) : (s.setFn f x).admitSeq = s.admitSeq := rfl
@[simp] theorem State.setFn_chainEpisode (f : Nat) (x : PcieFn) : (s.setFn f x).chainEpisode = s.chainEpisode := rfl
@[simp] theorem State.setFn_qareaFirst (f : Nat) (x : PcieFn) : (s.setFn f x).qareaFirst = s.qareaFirst := rfl
@[simp] theorem State.setFn_qareaPages (f : Nat) (x : PcieFn) : (s.setFn f x).qareaPages = s.qareaPages := rfl
@[simp] theorem State.setFn_twin (f : Nat) (x : PcieFn) : (s.setFn f x).twin = s.twin := rfl
@[simp] theorem State.setFn_power (f : Nat) (x : PcieFn) : (s.setFn f x).power = s.power := rfl
@[simp] theorem State.setFn_boot (f : Nat) (x : PcieFn) : (s.setFn f x).boot = s.boot := rfl
@[simp] theorem State.setFn_out (f : Nat) (x : PcieFn) : (s.setFn f x).out = s.out := rfl
@[simp] theorem State.setFn_free (f : Nat) (x : PcieFn) : (s.setFn f x).free = s.free := rfl
@[simp] theorem State.setFn_pending (f : Nat) (x : PcieFn) : (s.setFn f x).pending = s.pending := rfl
@[simp] theorem State.setFn_tile (f : Nat) (x : PcieFn) (j : Nat) : (s.setFn f x).tile j = s.tile j := rfl
@[simp] theorem State.setFn_bob (f : Nat) (x : PcieFn) (j : Nat) : (s.setFn f x).bob j = s.bob j := rfl
@[simp] theorem State.setFn_panel (f : Nat) (x : PcieFn) (j : Nat) : (s.setFn f x).panel j = s.panel j := rfl
@[simp] theorem State.setFn_port (f : Nat) (x : PcieFn) (j : Nat) : (s.setFn f x).port j = s.port j := rfl
@[simp] theorem State.setFn_knot (f : Nat) (x : PcieFn) (j : Nat) : (s.setFn f x).knot j = s.knot j := rfl
@[simp] theorem State.setFn_queue (f : Nat) (x : PcieFn) (j : Nat) : (s.setFn f x).queue j = s.queue j := rfl
@[simp] theorem State.setFn_home (f : Nat) (x : PcieFn) (j : Nat) : (s.setFn f x).home j = s.home j := rfl
@[simp] theorem State.setFn_wgt (f : Nat) (x : PcieFn) (j : Nat) : (s.setFn f x).wgt j = s.wgt j := rfl
@[simp] theorem State.setFn_serve (f : Nat) (x : PcieFn) (j : Nat) : (s.setFn f x).serve j = s.serve j := rfl
@[simp] theorem State.setFn_spool (f : Nat) (x : PcieFn) (j : Nat) : (s.setFn f x).spool j = s.spool j := rfl
@[simp] theorem State.setFn_rd (f : Nat) (x : PcieFn) (g : Fld) : (s.setFn f x).rd g = s.rd g := rfl
@[simp] theorem State.setFn_bit (f : Nat) (x : PcieFn) (g : Fld) : (s.setFn f x).bit g = s.bit g := rfl
@[simp] theorem State.setFn_now (f : Nat) (x : PcieFn) : (s.setFn f x).now = s.now := rfl

/-! ### setHome -/

@[simp] theorem State.setHome_part (h : Nat) (x : List KnotOp) : (s.setHome h x).part = s.part := rfl
@[simp] theorem State.setHome_csr (h : Nat) (x : List KnotOp) : (s.setHome h x).csr = s.csr := rfl
@[simp] theorem State.setHome_clk (h : Nat) (x : List KnotOp) : (s.setHome h x).clk = s.clk := rfl
@[simp] theorem State.setHome_tiles (h : Nat) (x : List KnotOp) : (s.setHome h x).tiles = s.tiles := rfl
@[simp] theorem State.setHome_bobs (h : Nat) (x : List KnotOp) : (s.setHome h x).bobs = s.bobs := rfl
@[simp] theorem State.setHome_panels (h : Nat) (x : List KnotOp) : (s.setHome h x).panels = s.panels := rfl
@[simp] theorem State.setHome_noc (h : Nat) (x : List KnotOp) : (s.setHome h x).noc = s.noc := rfl
@[simp] theorem State.setHome_ports (h : Nat) (x : List KnotOp) : (s.setHome h x).ports = s.ports := rfl
@[simp] theorem State.setHome_fab (h : Nat) (x : List KnotOp) : (s.setHome h x).fab = s.fab := rfl
@[simp] theorem State.setHome_knots (h : Nat) (x : List KnotOp) : (s.setHome h x).knots = s.knots := rfl
@[simp] theorem State.setHome_homes (h : Nat) (x : List KnotOp) : (s.setHome h x).homes = sset [] s.homes h x := rfl
@[simp] theorem State.setHome_integ (h : Nat) (x : List KnotOp) : (s.setHome h x).integ = s.integ := rfl
@[simp] theorem State.setHome_queues (h : Nat) (x : List KnotOp) : (s.setHome h x).queues = s.queues := rfl
@[simp] theorem State.setHome_fns (h : Nat) (x : List KnotOp) : (s.setHome h x).fns = s.fns := rfl
@[simp] theorem State.setHome_hostMem (h : Nat) (x : List KnotOp) : (s.setHome h x).hostMem = s.hostMem := rfl
@[simp] theorem State.setHome_dmaBad (h : Nat) (x : List KnotOp) : (s.setHome h x).dmaBad = s.dmaBad := rfl
@[simp] theorem State.setHome_jobs (h : Nat) (x : List KnotOp) : (s.setHome h x).jobs = s.jobs := rfl
@[simp] theorem State.setHome_heldEntries (h : Nat) (x : List KnotOp) : (s.setHome h x).heldEntries = s.heldEntries := rfl
@[simp] theorem State.setHome_nextJob (h : Nat) (x : List KnotOp) : (s.setHome h x).nextJob = s.nextJob := rfl
@[simp] theorem State.setHome_turn (h : Nat) (x : List KnotOp) : (s.setHome h x).turn = s.turn := rfl
@[simp] theorem State.setHome_tileGo (h : Nat) (x : List KnotOp) : (s.setHome h x).tileGo = s.tileGo := rfl
@[simp] theorem State.setHome_bobGo (h : Nat) (x : List KnotOp) : (s.setHome h x).bobGo = s.bobGo := rfl
@[simp] theorem State.setHome_wgts (h : Nat) (x : List KnotOp) : (s.setHome h x).wgts = s.wgts := rfl
@[simp] theorem State.setHome_serves (h : Nat) (x : List KnotOp) : (s.setHome h x).serves = s.serves := rfl
@[simp] theorem State.setHome_spools (h : Nat) (x : List KnotOp) : (s.setHome h x).spools = s.spools := rfl
@[simp] theorem State.setHome_admitSeq (h : Nat) (x : List KnotOp) : (s.setHome h x).admitSeq = s.admitSeq := rfl
@[simp] theorem State.setHome_chainEpisode (h : Nat) (x : List KnotOp) : (s.setHome h x).chainEpisode = s.chainEpisode := rfl
@[simp] theorem State.setHome_qareaFirst (h : Nat) (x : List KnotOp) : (s.setHome h x).qareaFirst = s.qareaFirst := rfl
@[simp] theorem State.setHome_qareaPages (h : Nat) (x : List KnotOp) : (s.setHome h x).qareaPages = s.qareaPages := rfl
@[simp] theorem State.setHome_twin (h : Nat) (x : List KnotOp) : (s.setHome h x).twin = s.twin := rfl
@[simp] theorem State.setHome_power (h : Nat) (x : List KnotOp) : (s.setHome h x).power = s.power := rfl
@[simp] theorem State.setHome_boot (h : Nat) (x : List KnotOp) : (s.setHome h x).boot = s.boot := rfl
@[simp] theorem State.setHome_out (h : Nat) (x : List KnotOp) : (s.setHome h x).out = s.out := rfl
@[simp] theorem State.setHome_free (h : Nat) (x : List KnotOp) : (s.setHome h x).free = s.free := rfl
@[simp] theorem State.setHome_pending (h : Nat) (x : List KnotOp) : (s.setHome h x).pending = s.pending := rfl
@[simp] theorem State.setHome_tile (h : Nat) (x : List KnotOp) (j : Nat) : (s.setHome h x).tile j = s.tile j := rfl
@[simp] theorem State.setHome_bob (h : Nat) (x : List KnotOp) (j : Nat) : (s.setHome h x).bob j = s.bob j := rfl
@[simp] theorem State.setHome_panel (h : Nat) (x : List KnotOp) (j : Nat) : (s.setHome h x).panel j = s.panel j := rfl
@[simp] theorem State.setHome_port (h : Nat) (x : List KnotOp) (j : Nat) : (s.setHome h x).port j = s.port j := rfl
@[simp] theorem State.setHome_knot (h : Nat) (x : List KnotOp) (j : Nat) : (s.setHome h x).knot j = s.knot j := rfl
@[simp] theorem State.setHome_queue (h : Nat) (x : List KnotOp) (j : Nat) : (s.setHome h x).queue j = s.queue j := rfl
@[simp] theorem State.setHome_fnc (h : Nat) (x : List KnotOp) (j : Nat) : (s.setHome h x).fnc j = s.fnc j := rfl
@[simp] theorem State.setHome_wgt (h : Nat) (x : List KnotOp) (j : Nat) : (s.setHome h x).wgt j = s.wgt j := rfl
@[simp] theorem State.setHome_serve (h : Nat) (x : List KnotOp) (j : Nat) : (s.setHome h x).serve j = s.serve j := rfl
@[simp] theorem State.setHome_spool (h : Nat) (x : List KnotOp) (j : Nat) : (s.setHome h x).spool j = s.spool j := rfl
@[simp] theorem State.setHome_rd (h : Nat) (x : List KnotOp) (g : Fld) : (s.setHome h x).rd g = s.rd g := rfl
@[simp] theorem State.setHome_bit (h : Nat) (x : List KnotOp) (g : Fld) : (s.setHome h x).bit g = s.bit g := rfl
@[simp] theorem State.setHome_now (h : Nat) (x : List KnotOp) : (s.setHome h x).now = s.now := rfl

/-! ### setWgt -/

@[simp] theorem State.setWgt_part (p : Nat) (x : Wgt) : (s.setWgt p x).part = s.part := rfl
@[simp] theorem State.setWgt_csr (p : Nat) (x : Wgt) : (s.setWgt p x).csr = s.csr := rfl
@[simp] theorem State.setWgt_clk (p : Nat) (x : Wgt) : (s.setWgt p x).clk = s.clk := rfl
@[simp] theorem State.setWgt_tiles (p : Nat) (x : Wgt) : (s.setWgt p x).tiles = s.tiles := rfl
@[simp] theorem State.setWgt_bobs (p : Nat) (x : Wgt) : (s.setWgt p x).bobs = s.bobs := rfl
@[simp] theorem State.setWgt_panels (p : Nat) (x : Wgt) : (s.setWgt p x).panels = s.panels := rfl
@[simp] theorem State.setWgt_noc (p : Nat) (x : Wgt) : (s.setWgt p x).noc = s.noc := rfl
@[simp] theorem State.setWgt_ports (p : Nat) (x : Wgt) : (s.setWgt p x).ports = s.ports := rfl
@[simp] theorem State.setWgt_fab (p : Nat) (x : Wgt) : (s.setWgt p x).fab = s.fab := rfl
@[simp] theorem State.setWgt_knots (p : Nat) (x : Wgt) : (s.setWgt p x).knots = s.knots := rfl
@[simp] theorem State.setWgt_homes (p : Nat) (x : Wgt) : (s.setWgt p x).homes = s.homes := rfl
@[simp] theorem State.setWgt_integ (p : Nat) (x : Wgt) : (s.setWgt p x).integ = s.integ := rfl
@[simp] theorem State.setWgt_queues (p : Nat) (x : Wgt) : (s.setWgt p x).queues = s.queues := rfl
@[simp] theorem State.setWgt_fns (p : Nat) (x : Wgt) : (s.setWgt p x).fns = s.fns := rfl
@[simp] theorem State.setWgt_hostMem (p : Nat) (x : Wgt) : (s.setWgt p x).hostMem = s.hostMem := rfl
@[simp] theorem State.setWgt_dmaBad (p : Nat) (x : Wgt) : (s.setWgt p x).dmaBad = s.dmaBad := rfl
@[simp] theorem State.setWgt_jobs (p : Nat) (x : Wgt) : (s.setWgt p x).jobs = s.jobs := rfl
@[simp] theorem State.setWgt_heldEntries (p : Nat) (x : Wgt) : (s.setWgt p x).heldEntries = s.heldEntries := rfl
@[simp] theorem State.setWgt_nextJob (p : Nat) (x : Wgt) : (s.setWgt p x).nextJob = s.nextJob := rfl
@[simp] theorem State.setWgt_turn (p : Nat) (x : Wgt) : (s.setWgt p x).turn = s.turn := rfl
@[simp] theorem State.setWgt_tileGo (p : Nat) (x : Wgt) : (s.setWgt p x).tileGo = s.tileGo := rfl
@[simp] theorem State.setWgt_bobGo (p : Nat) (x : Wgt) : (s.setWgt p x).bobGo = s.bobGo := rfl
@[simp] theorem State.setWgt_wgts (p : Nat) (x : Wgt) : (s.setWgt p x).wgts = sset {} s.wgts p x := rfl
@[simp] theorem State.setWgt_serves (p : Nat) (x : Wgt) : (s.setWgt p x).serves = s.serves := rfl
@[simp] theorem State.setWgt_spools (p : Nat) (x : Wgt) : (s.setWgt p x).spools = s.spools := rfl
@[simp] theorem State.setWgt_admitSeq (p : Nat) (x : Wgt) : (s.setWgt p x).admitSeq = s.admitSeq := rfl
@[simp] theorem State.setWgt_chainEpisode (p : Nat) (x : Wgt) : (s.setWgt p x).chainEpisode = s.chainEpisode := rfl
@[simp] theorem State.setWgt_qareaFirst (p : Nat) (x : Wgt) : (s.setWgt p x).qareaFirst = s.qareaFirst := rfl
@[simp] theorem State.setWgt_qareaPages (p : Nat) (x : Wgt) : (s.setWgt p x).qareaPages = s.qareaPages := rfl
@[simp] theorem State.setWgt_twin (p : Nat) (x : Wgt) : (s.setWgt p x).twin = s.twin := rfl
@[simp] theorem State.setWgt_power (p : Nat) (x : Wgt) : (s.setWgt p x).power = s.power := rfl
@[simp] theorem State.setWgt_boot (p : Nat) (x : Wgt) : (s.setWgt p x).boot = s.boot := rfl
@[simp] theorem State.setWgt_out (p : Nat) (x : Wgt) : (s.setWgt p x).out = s.out := rfl
@[simp] theorem State.setWgt_free (p : Nat) (x : Wgt) : (s.setWgt p x).free = s.free := rfl
@[simp] theorem State.setWgt_pending (p : Nat) (x : Wgt) : (s.setWgt p x).pending = s.pending := rfl
@[simp] theorem State.setWgt_tile (p : Nat) (x : Wgt) (j : Nat) : (s.setWgt p x).tile j = s.tile j := rfl
@[simp] theorem State.setWgt_bob (p : Nat) (x : Wgt) (j : Nat) : (s.setWgt p x).bob j = s.bob j := rfl
@[simp] theorem State.setWgt_panel (p : Nat) (x : Wgt) (j : Nat) : (s.setWgt p x).panel j = s.panel j := rfl
@[simp] theorem State.setWgt_port (p : Nat) (x : Wgt) (j : Nat) : (s.setWgt p x).port j = s.port j := rfl
@[simp] theorem State.setWgt_knot (p : Nat) (x : Wgt) (j : Nat) : (s.setWgt p x).knot j = s.knot j := rfl
@[simp] theorem State.setWgt_queue (p : Nat) (x : Wgt) (j : Nat) : (s.setWgt p x).queue j = s.queue j := rfl
@[simp] theorem State.setWgt_fnc (p : Nat) (x : Wgt) (j : Nat) : (s.setWgt p x).fnc j = s.fnc j := rfl
@[simp] theorem State.setWgt_home (p : Nat) (x : Wgt) (j : Nat) : (s.setWgt p x).home j = s.home j := rfl
@[simp] theorem State.setWgt_serve (p : Nat) (x : Wgt) (j : Nat) : (s.setWgt p x).serve j = s.serve j := rfl
@[simp] theorem State.setWgt_spool (p : Nat) (x : Wgt) (j : Nat) : (s.setWgt p x).spool j = s.spool j := rfl
@[simp] theorem State.setWgt_rd (p : Nat) (x : Wgt) (g : Fld) : (s.setWgt p x).rd g = s.rd g := rfl
@[simp] theorem State.setWgt_bit (p : Nat) (x : Wgt) (g : Fld) : (s.setWgt p x).bit g = s.bit g := rfl
@[simp] theorem State.setWgt_now (p : Nat) (x : Wgt) : (s.setWgt p x).now = s.now := rfl

/-! ### setServe -/

@[simp] theorem State.setServe_part (p : Nat) (x : Serve) : (s.setServe p x).part = s.part := rfl
@[simp] theorem State.setServe_csr (p : Nat) (x : Serve) : (s.setServe p x).csr = s.csr := rfl
@[simp] theorem State.setServe_clk (p : Nat) (x : Serve) : (s.setServe p x).clk = s.clk := rfl
@[simp] theorem State.setServe_tiles (p : Nat) (x : Serve) : (s.setServe p x).tiles = s.tiles := rfl
@[simp] theorem State.setServe_bobs (p : Nat) (x : Serve) : (s.setServe p x).bobs = s.bobs := rfl
@[simp] theorem State.setServe_panels (p : Nat) (x : Serve) : (s.setServe p x).panels = s.panels := rfl
@[simp] theorem State.setServe_noc (p : Nat) (x : Serve) : (s.setServe p x).noc = s.noc := rfl
@[simp] theorem State.setServe_ports (p : Nat) (x : Serve) : (s.setServe p x).ports = s.ports := rfl
@[simp] theorem State.setServe_fab (p : Nat) (x : Serve) : (s.setServe p x).fab = s.fab := rfl
@[simp] theorem State.setServe_knots (p : Nat) (x : Serve) : (s.setServe p x).knots = s.knots := rfl
@[simp] theorem State.setServe_homes (p : Nat) (x : Serve) : (s.setServe p x).homes = s.homes := rfl
@[simp] theorem State.setServe_integ (p : Nat) (x : Serve) : (s.setServe p x).integ = s.integ := rfl
@[simp] theorem State.setServe_queues (p : Nat) (x : Serve) : (s.setServe p x).queues = s.queues := rfl
@[simp] theorem State.setServe_fns (p : Nat) (x : Serve) : (s.setServe p x).fns = s.fns := rfl
@[simp] theorem State.setServe_hostMem (p : Nat) (x : Serve) : (s.setServe p x).hostMem = s.hostMem := rfl
@[simp] theorem State.setServe_dmaBad (p : Nat) (x : Serve) : (s.setServe p x).dmaBad = s.dmaBad := rfl
@[simp] theorem State.setServe_jobs (p : Nat) (x : Serve) : (s.setServe p x).jobs = s.jobs := rfl
@[simp] theorem State.setServe_heldEntries (p : Nat) (x : Serve) : (s.setServe p x).heldEntries = s.heldEntries := rfl
@[simp] theorem State.setServe_nextJob (p : Nat) (x : Serve) : (s.setServe p x).nextJob = s.nextJob := rfl
@[simp] theorem State.setServe_turn (p : Nat) (x : Serve) : (s.setServe p x).turn = s.turn := rfl
@[simp] theorem State.setServe_tileGo (p : Nat) (x : Serve) : (s.setServe p x).tileGo = s.tileGo := rfl
@[simp] theorem State.setServe_bobGo (p : Nat) (x : Serve) : (s.setServe p x).bobGo = s.bobGo := rfl
@[simp] theorem State.setServe_wgts (p : Nat) (x : Serve) : (s.setServe p x).wgts = s.wgts := rfl
@[simp] theorem State.setServe_serves (p : Nat) (x : Serve) : (s.setServe p x).serves = sset {} s.serves p x := rfl
@[simp] theorem State.setServe_spools (p : Nat) (x : Serve) : (s.setServe p x).spools = s.spools := rfl
@[simp] theorem State.setServe_admitSeq (p : Nat) (x : Serve) : (s.setServe p x).admitSeq = s.admitSeq := rfl
@[simp] theorem State.setServe_chainEpisode (p : Nat) (x : Serve) : (s.setServe p x).chainEpisode = s.chainEpisode := rfl
@[simp] theorem State.setServe_qareaFirst (p : Nat) (x : Serve) : (s.setServe p x).qareaFirst = s.qareaFirst := rfl
@[simp] theorem State.setServe_qareaPages (p : Nat) (x : Serve) : (s.setServe p x).qareaPages = s.qareaPages := rfl
@[simp] theorem State.setServe_twin (p : Nat) (x : Serve) : (s.setServe p x).twin = s.twin := rfl
@[simp] theorem State.setServe_power (p : Nat) (x : Serve) : (s.setServe p x).power = s.power := rfl
@[simp] theorem State.setServe_boot (p : Nat) (x : Serve) : (s.setServe p x).boot = s.boot := rfl
@[simp] theorem State.setServe_out (p : Nat) (x : Serve) : (s.setServe p x).out = s.out := rfl
@[simp] theorem State.setServe_free (p : Nat) (x : Serve) : (s.setServe p x).free = s.free := rfl
@[simp] theorem State.setServe_pending (p : Nat) (x : Serve) : (s.setServe p x).pending = s.pending := rfl
@[simp] theorem State.setServe_tile (p : Nat) (x : Serve) (j : Nat) : (s.setServe p x).tile j = s.tile j := rfl
@[simp] theorem State.setServe_bob (p : Nat) (x : Serve) (j : Nat) : (s.setServe p x).bob j = s.bob j := rfl
@[simp] theorem State.setServe_panel (p : Nat) (x : Serve) (j : Nat) : (s.setServe p x).panel j = s.panel j := rfl
@[simp] theorem State.setServe_port (p : Nat) (x : Serve) (j : Nat) : (s.setServe p x).port j = s.port j := rfl
@[simp] theorem State.setServe_knot (p : Nat) (x : Serve) (j : Nat) : (s.setServe p x).knot j = s.knot j := rfl
@[simp] theorem State.setServe_queue (p : Nat) (x : Serve) (j : Nat) : (s.setServe p x).queue j = s.queue j := rfl
@[simp] theorem State.setServe_fnc (p : Nat) (x : Serve) (j : Nat) : (s.setServe p x).fnc j = s.fnc j := rfl
@[simp] theorem State.setServe_home (p : Nat) (x : Serve) (j : Nat) : (s.setServe p x).home j = s.home j := rfl
@[simp] theorem State.setServe_wgt (p : Nat) (x : Serve) (j : Nat) : (s.setServe p x).wgt j = s.wgt j := rfl
@[simp] theorem State.setServe_spool (p : Nat) (x : Serve) (j : Nat) : (s.setServe p x).spool j = s.spool j := rfl
@[simp] theorem State.setServe_rd (p : Nat) (x : Serve) (g : Fld) : (s.setServe p x).rd g = s.rd g := rfl
@[simp] theorem State.setServe_bit (p : Nat) (x : Serve) (g : Fld) : (s.setServe p x).bit g = s.bit g := rfl
@[simp] theorem State.setServe_now (p : Nat) (x : Serve) : (s.setServe p x).now = s.now := rfl

/-! ### setSpool -/

@[simp] theorem State.setSpool_part (i : Nat) (x : Spool) : (s.setSpool i x).part = s.part := rfl
@[simp] theorem State.setSpool_csr (i : Nat) (x : Spool) : (s.setSpool i x).csr = s.csr := rfl
@[simp] theorem State.setSpool_clk (i : Nat) (x : Spool) : (s.setSpool i x).clk = s.clk := rfl
@[simp] theorem State.setSpool_tiles (i : Nat) (x : Spool) : (s.setSpool i x).tiles = s.tiles := rfl
@[simp] theorem State.setSpool_bobs (i : Nat) (x : Spool) : (s.setSpool i x).bobs = s.bobs := rfl
@[simp] theorem State.setSpool_panels (i : Nat) (x : Spool) : (s.setSpool i x).panels = s.panels := rfl
@[simp] theorem State.setSpool_noc (i : Nat) (x : Spool) : (s.setSpool i x).noc = s.noc := rfl
@[simp] theorem State.setSpool_ports (i : Nat) (x : Spool) : (s.setSpool i x).ports = s.ports := rfl
@[simp] theorem State.setSpool_fab (i : Nat) (x : Spool) : (s.setSpool i x).fab = s.fab := rfl
@[simp] theorem State.setSpool_knots (i : Nat) (x : Spool) : (s.setSpool i x).knots = s.knots := rfl
@[simp] theorem State.setSpool_homes (i : Nat) (x : Spool) : (s.setSpool i x).homes = s.homes := rfl
@[simp] theorem State.setSpool_integ (i : Nat) (x : Spool) : (s.setSpool i x).integ = s.integ := rfl
@[simp] theorem State.setSpool_queues (i : Nat) (x : Spool) : (s.setSpool i x).queues = s.queues := rfl
@[simp] theorem State.setSpool_fns (i : Nat) (x : Spool) : (s.setSpool i x).fns = s.fns := rfl
@[simp] theorem State.setSpool_hostMem (i : Nat) (x : Spool) : (s.setSpool i x).hostMem = s.hostMem := rfl
@[simp] theorem State.setSpool_dmaBad (i : Nat) (x : Spool) : (s.setSpool i x).dmaBad = s.dmaBad := rfl
@[simp] theorem State.setSpool_jobs (i : Nat) (x : Spool) : (s.setSpool i x).jobs = s.jobs := rfl
@[simp] theorem State.setSpool_heldEntries (i : Nat) (x : Spool) : (s.setSpool i x).heldEntries = s.heldEntries := rfl
@[simp] theorem State.setSpool_nextJob (i : Nat) (x : Spool) : (s.setSpool i x).nextJob = s.nextJob := rfl
@[simp] theorem State.setSpool_turn (i : Nat) (x : Spool) : (s.setSpool i x).turn = s.turn := rfl
@[simp] theorem State.setSpool_tileGo (i : Nat) (x : Spool) : (s.setSpool i x).tileGo = s.tileGo := rfl
@[simp] theorem State.setSpool_bobGo (i : Nat) (x : Spool) : (s.setSpool i x).bobGo = s.bobGo := rfl
@[simp] theorem State.setSpool_wgts (i : Nat) (x : Spool) : (s.setSpool i x).wgts = s.wgts := rfl
@[simp] theorem State.setSpool_serves (i : Nat) (x : Spool) : (s.setSpool i x).serves = s.serves := rfl
@[simp] theorem State.setSpool_spools (i : Nat) (x : Spool) : (s.setSpool i x).spools = sset {} s.spools i x := rfl
@[simp] theorem State.setSpool_admitSeq (i : Nat) (x : Spool) : (s.setSpool i x).admitSeq = s.admitSeq := rfl
@[simp] theorem State.setSpool_chainEpisode (i : Nat) (x : Spool) : (s.setSpool i x).chainEpisode = s.chainEpisode := rfl
@[simp] theorem State.setSpool_qareaFirst (i : Nat) (x : Spool) : (s.setSpool i x).qareaFirst = s.qareaFirst := rfl
@[simp] theorem State.setSpool_qareaPages (i : Nat) (x : Spool) : (s.setSpool i x).qareaPages = s.qareaPages := rfl
@[simp] theorem State.setSpool_twin (i : Nat) (x : Spool) : (s.setSpool i x).twin = s.twin := rfl
@[simp] theorem State.setSpool_power (i : Nat) (x : Spool) : (s.setSpool i x).power = s.power := rfl
@[simp] theorem State.setSpool_boot (i : Nat) (x : Spool) : (s.setSpool i x).boot = s.boot := rfl
@[simp] theorem State.setSpool_out (i : Nat) (x : Spool) : (s.setSpool i x).out = s.out := rfl
@[simp] theorem State.setSpool_free (i : Nat) (x : Spool) : (s.setSpool i x).free = s.free := rfl
@[simp] theorem State.setSpool_pending (i : Nat) (x : Spool) : (s.setSpool i x).pending = s.pending := rfl
@[simp] theorem State.setSpool_tile (i : Nat) (x : Spool) (j : Nat) : (s.setSpool i x).tile j = s.tile j := rfl
@[simp] theorem State.setSpool_bob (i : Nat) (x : Spool) (j : Nat) : (s.setSpool i x).bob j = s.bob j := rfl
@[simp] theorem State.setSpool_panel (i : Nat) (x : Spool) (j : Nat) : (s.setSpool i x).panel j = s.panel j := rfl
@[simp] theorem State.setSpool_port (i : Nat) (x : Spool) (j : Nat) : (s.setSpool i x).port j = s.port j := rfl
@[simp] theorem State.setSpool_knot (i : Nat) (x : Spool) (j : Nat) : (s.setSpool i x).knot j = s.knot j := rfl
@[simp] theorem State.setSpool_queue (i : Nat) (x : Spool) (j : Nat) : (s.setSpool i x).queue j = s.queue j := rfl
@[simp] theorem State.setSpool_fnc (i : Nat) (x : Spool) (j : Nat) : (s.setSpool i x).fnc j = s.fnc j := rfl
@[simp] theorem State.setSpool_home (i : Nat) (x : Spool) (j : Nat) : (s.setSpool i x).home j = s.home j := rfl
@[simp] theorem State.setSpool_wgt (i : Nat) (x : Spool) (j : Nat) : (s.setSpool i x).wgt j = s.wgt j := rfl
@[simp] theorem State.setSpool_serve (i : Nat) (x : Spool) (j : Nat) : (s.setSpool i x).serve j = s.serve j := rfl
@[simp] theorem State.setSpool_rd (i : Nat) (x : Spool) (g : Fld) : (s.setSpool i x).rd g = s.rd g := rfl
@[simp] theorem State.setSpool_bit (i : Nat) (x : Spool) (g : Fld) : (s.setSpool i x).bit g = s.bit g := rfl
@[simp] theorem State.setSpool_now (i : Nat) (x : Spool) : (s.setSpool i x).now = s.now := rfl

/-! ### hostWrite -/

@[simp] theorem State.hostWrite_part (a : Nat) (l : List Byte) : (s.hostWrite a l).part = s.part := rfl
@[simp] theorem State.hostWrite_csr (a : Nat) (l : List Byte) : (s.hostWrite a l).csr = s.csr := rfl
@[simp] theorem State.hostWrite_clk (a : Nat) (l : List Byte) : (s.hostWrite a l).clk = s.clk := rfl
@[simp] theorem State.hostWrite_tiles (a : Nat) (l : List Byte) : (s.hostWrite a l).tiles = s.tiles := rfl
@[simp] theorem State.hostWrite_bobs (a : Nat) (l : List Byte) : (s.hostWrite a l).bobs = s.bobs := rfl
@[simp] theorem State.hostWrite_panels (a : Nat) (l : List Byte) : (s.hostWrite a l).panels = s.panels := rfl
@[simp] theorem State.hostWrite_noc (a : Nat) (l : List Byte) : (s.hostWrite a l).noc = s.noc := rfl
@[simp] theorem State.hostWrite_ports (a : Nat) (l : List Byte) : (s.hostWrite a l).ports = s.ports := rfl
@[simp] theorem State.hostWrite_fab (a : Nat) (l : List Byte) : (s.hostWrite a l).fab = s.fab := rfl
@[simp] theorem State.hostWrite_knots (a : Nat) (l : List Byte) : (s.hostWrite a l).knots = s.knots := rfl
@[simp] theorem State.hostWrite_homes (a : Nat) (l : List Byte) : (s.hostWrite a l).homes = s.homes := rfl
@[simp] theorem State.hostWrite_integ (a : Nat) (l : List Byte) : (s.hostWrite a l).integ = s.integ := rfl
@[simp] theorem State.hostWrite_queues (a : Nat) (l : List Byte) : (s.hostWrite a l).queues = s.queues := rfl
@[simp] theorem State.hostWrite_fns (a : Nat) (l : List Byte) : (s.hostWrite a l).fns = s.fns := rfl
@[simp] theorem State.hostWrite_hostMem (a : Nat) (l : List Byte) : (s.hostWrite a l).hostMem = ssetList 0 s.hostMem a l := rfl
@[simp] theorem State.hostWrite_dmaBad (a : Nat) (l : List Byte) : (s.hostWrite a l).dmaBad = s.dmaBad := rfl
@[simp] theorem State.hostWrite_jobs (a : Nat) (l : List Byte) : (s.hostWrite a l).jobs = s.jobs := rfl
@[simp] theorem State.hostWrite_heldEntries (a : Nat) (l : List Byte) : (s.hostWrite a l).heldEntries = s.heldEntries := rfl
@[simp] theorem State.hostWrite_nextJob (a : Nat) (l : List Byte) : (s.hostWrite a l).nextJob = s.nextJob := rfl
@[simp] theorem State.hostWrite_turn (a : Nat) (l : List Byte) : (s.hostWrite a l).turn = s.turn := rfl
@[simp] theorem State.hostWrite_tileGo (a : Nat) (l : List Byte) : (s.hostWrite a l).tileGo = s.tileGo := rfl
@[simp] theorem State.hostWrite_bobGo (a : Nat) (l : List Byte) : (s.hostWrite a l).bobGo = s.bobGo := rfl
@[simp] theorem State.hostWrite_wgts (a : Nat) (l : List Byte) : (s.hostWrite a l).wgts = s.wgts := rfl
@[simp] theorem State.hostWrite_serves (a : Nat) (l : List Byte) : (s.hostWrite a l).serves = s.serves := rfl
@[simp] theorem State.hostWrite_spools (a : Nat) (l : List Byte) : (s.hostWrite a l).spools = s.spools := rfl
@[simp] theorem State.hostWrite_admitSeq (a : Nat) (l : List Byte) : (s.hostWrite a l).admitSeq = s.admitSeq := rfl
@[simp] theorem State.hostWrite_chainEpisode (a : Nat) (l : List Byte) : (s.hostWrite a l).chainEpisode = s.chainEpisode := rfl
@[simp] theorem State.hostWrite_qareaFirst (a : Nat) (l : List Byte) : (s.hostWrite a l).qareaFirst = s.qareaFirst := rfl
@[simp] theorem State.hostWrite_qareaPages (a : Nat) (l : List Byte) : (s.hostWrite a l).qareaPages = s.qareaPages := rfl
@[simp] theorem State.hostWrite_twin (a : Nat) (l : List Byte) : (s.hostWrite a l).twin = s.twin := rfl
@[simp] theorem State.hostWrite_power (a : Nat) (l : List Byte) : (s.hostWrite a l).power = s.power := rfl
@[simp] theorem State.hostWrite_boot (a : Nat) (l : List Byte) : (s.hostWrite a l).boot = s.boot := rfl
@[simp] theorem State.hostWrite_out (a : Nat) (l : List Byte) : (s.hostWrite a l).out = s.out := rfl
@[simp] theorem State.hostWrite_free (a : Nat) (l : List Byte) : (s.hostWrite a l).free = s.free := rfl
@[simp] theorem State.hostWrite_pending (a : Nat) (l : List Byte) : (s.hostWrite a l).pending = s.pending := rfl
@[simp] theorem State.hostWrite_tile (a : Nat) (l : List Byte) (j : Nat) : (s.hostWrite a l).tile j = s.tile j := rfl
@[simp] theorem State.hostWrite_bob (a : Nat) (l : List Byte) (j : Nat) : (s.hostWrite a l).bob j = s.bob j := rfl
@[simp] theorem State.hostWrite_panel (a : Nat) (l : List Byte) (j : Nat) : (s.hostWrite a l).panel j = s.panel j := rfl
@[simp] theorem State.hostWrite_port (a : Nat) (l : List Byte) (j : Nat) : (s.hostWrite a l).port j = s.port j := rfl
@[simp] theorem State.hostWrite_knot (a : Nat) (l : List Byte) (j : Nat) : (s.hostWrite a l).knot j = s.knot j := rfl
@[simp] theorem State.hostWrite_queue (a : Nat) (l : List Byte) (j : Nat) : (s.hostWrite a l).queue j = s.queue j := rfl
@[simp] theorem State.hostWrite_fnc (a : Nat) (l : List Byte) (j : Nat) : (s.hostWrite a l).fnc j = s.fnc j := rfl
@[simp] theorem State.hostWrite_home (a : Nat) (l : List Byte) (j : Nat) : (s.hostWrite a l).home j = s.home j := rfl
@[simp] theorem State.hostWrite_wgt (a : Nat) (l : List Byte) (j : Nat) : (s.hostWrite a l).wgt j = s.wgt j := rfl
@[simp] theorem State.hostWrite_serve (a : Nat) (l : List Byte) (j : Nat) : (s.hostWrite a l).serve j = s.serve j := rfl
@[simp] theorem State.hostWrite_spool (a : Nat) (l : List Byte) (j : Nat) : (s.hostWrite a l).spool j = s.spool j := rfl
@[simp] theorem State.hostWrite_rd (a : Nat) (l : List Byte) (g : Fld) : (s.hostWrite a l).rd g = s.rd g := rfl
@[simp] theorem State.hostWrite_bit (a : Nat) (l : List Byte) (g : Fld) : (s.hostWrite a l).bit g = s.bit g := rfl
@[simp] theorem State.hostWrite_now (a : Nat) (l : List Byte) : (s.hostWrite a l).now = s.now := rfl

/-! ### emit -/

@[simp] theorem State.emit_part (o : Out) : (s.emit o).part = s.part := rfl
@[simp] theorem State.emit_csr (o : Out) : (s.emit o).csr = s.csr := rfl
@[simp] theorem State.emit_clk (o : Out) : (s.emit o).clk = s.clk := rfl
@[simp] theorem State.emit_tiles (o : Out) : (s.emit o).tiles = s.tiles := rfl
@[simp] theorem State.emit_bobs (o : Out) : (s.emit o).bobs = s.bobs := rfl
@[simp] theorem State.emit_panels (o : Out) : (s.emit o).panels = s.panels := rfl
@[simp] theorem State.emit_noc (o : Out) : (s.emit o).noc = s.noc := rfl
@[simp] theorem State.emit_ports (o : Out) : (s.emit o).ports = s.ports := rfl
@[simp] theorem State.emit_fab (o : Out) : (s.emit o).fab = s.fab := rfl
@[simp] theorem State.emit_knots (o : Out) : (s.emit o).knots = s.knots := rfl
@[simp] theorem State.emit_homes (o : Out) : (s.emit o).homes = s.homes := rfl
@[simp] theorem State.emit_integ (o : Out) : (s.emit o).integ = s.integ := rfl
@[simp] theorem State.emit_queues (o : Out) : (s.emit o).queues = s.queues := rfl
@[simp] theorem State.emit_fns (o : Out) : (s.emit o).fns = s.fns := rfl
@[simp] theorem State.emit_hostMem (o : Out) : (s.emit o).hostMem = s.hostMem := rfl
@[simp] theorem State.emit_dmaBad (o : Out) : (s.emit o).dmaBad = s.dmaBad := rfl
@[simp] theorem State.emit_jobs (o : Out) : (s.emit o).jobs = s.jobs := rfl
@[simp] theorem State.emit_heldEntries (o : Out) : (s.emit o).heldEntries = s.heldEntries := rfl
@[simp] theorem State.emit_nextJob (o : Out) : (s.emit o).nextJob = s.nextJob := rfl
@[simp] theorem State.emit_turn (o : Out) : (s.emit o).turn = s.turn := rfl
@[simp] theorem State.emit_tileGo (o : Out) : (s.emit o).tileGo = s.tileGo := rfl
@[simp] theorem State.emit_bobGo (o : Out) : (s.emit o).bobGo = s.bobGo := rfl
@[simp] theorem State.emit_wgts (o : Out) : (s.emit o).wgts = s.wgts := rfl
@[simp] theorem State.emit_serves (o : Out) : (s.emit o).serves = s.serves := rfl
@[simp] theorem State.emit_spools (o : Out) : (s.emit o).spools = s.spools := rfl
@[simp] theorem State.emit_admitSeq (o : Out) : (s.emit o).admitSeq = s.admitSeq := rfl
@[simp] theorem State.emit_chainEpisode (o : Out) : (s.emit o).chainEpisode = s.chainEpisode := rfl
@[simp] theorem State.emit_qareaFirst (o : Out) : (s.emit o).qareaFirst = s.qareaFirst := rfl
@[simp] theorem State.emit_qareaPages (o : Out) : (s.emit o).qareaPages = s.qareaPages := rfl
@[simp] theorem State.emit_twin (o : Out) : (s.emit o).twin = s.twin := rfl
@[simp] theorem State.emit_power (o : Out) : (s.emit o).power = s.power := rfl
@[simp] theorem State.emit_boot (o : Out) : (s.emit o).boot = s.boot := rfl
@[simp] theorem State.emit_out (o : Out) : (s.emit o).out = s.out ++ [o] := rfl
@[simp] theorem State.emit_free (o : Out) : (s.emit o).free = s.free := rfl
@[simp] theorem State.emit_pending (o : Out) : (s.emit o).pending = s.pending := rfl
@[simp] theorem State.emit_tile (o : Out) (j : Nat) : (s.emit o).tile j = s.tile j := rfl
@[simp] theorem State.emit_bob (o : Out) (j : Nat) : (s.emit o).bob j = s.bob j := rfl
@[simp] theorem State.emit_panel (o : Out) (j : Nat) : (s.emit o).panel j = s.panel j := rfl
@[simp] theorem State.emit_port (o : Out) (j : Nat) : (s.emit o).port j = s.port j := rfl
@[simp] theorem State.emit_knot (o : Out) (j : Nat) : (s.emit o).knot j = s.knot j := rfl
@[simp] theorem State.emit_queue (o : Out) (j : Nat) : (s.emit o).queue j = s.queue j := rfl
@[simp] theorem State.emit_fnc (o : Out) (j : Nat) : (s.emit o).fnc j = s.fnc j := rfl
@[simp] theorem State.emit_home (o : Out) (j : Nat) : (s.emit o).home j = s.home j := rfl
@[simp] theorem State.emit_wgt (o : Out) (j : Nat) : (s.emit o).wgt j = s.wgt j := rfl
@[simp] theorem State.emit_serve (o : Out) (j : Nat) : (s.emit o).serve j = s.serve j := rfl
@[simp] theorem State.emit_spool (o : Out) (j : Nat) : (s.emit o).spool j = s.spool j := rfl
@[simp] theorem State.emit_rd (o : Out) (g : Fld) : (s.emit o).rd g = s.rd g := rfl
@[simp] theorem State.emit_bit (o : Out) (g : Fld) : (s.emit o).bit g = s.bit g := rfl
@[simp] theorem State.emit_now (o : Out) : (s.emit o).now = s.now := rfl

/-! ### drawn -/

@[simp] theorem State.drawn_part : (s.drawn).part = s.part := rfl
@[simp] theorem State.drawn_csr : (s.drawn).csr = s.csr := rfl
@[simp] theorem State.drawn_clk : (s.drawn).clk = s.clk := rfl
@[simp] theorem State.drawn_tiles : (s.drawn).tiles = s.tiles := rfl
@[simp] theorem State.drawn_bobs : (s.drawn).bobs = s.bobs := rfl
@[simp] theorem State.drawn_panels : (s.drawn).panels = s.panels := rfl
@[simp] theorem State.drawn_noc : (s.drawn).noc = s.noc := rfl
@[simp] theorem State.drawn_ports : (s.drawn).ports = s.ports := rfl
@[simp] theorem State.drawn_fab : (s.drawn).fab = s.fab := rfl
@[simp] theorem State.drawn_knots : (s.drawn).knots = s.knots := rfl
@[simp] theorem State.drawn_homes : (s.drawn).homes = s.homes := rfl
@[simp] theorem State.drawn_integ : (s.drawn).integ = s.integ := rfl
@[simp] theorem State.drawn_queues : (s.drawn).queues = s.queues := rfl
@[simp] theorem State.drawn_fns : (s.drawn).fns = s.fns := rfl
@[simp] theorem State.drawn_hostMem : (s.drawn).hostMem = s.hostMem := rfl
@[simp] theorem State.drawn_dmaBad : (s.drawn).dmaBad = s.dmaBad := rfl
@[simp] theorem State.drawn_jobs : (s.drawn).jobs = s.jobs := rfl
@[simp] theorem State.drawn_heldEntries : (s.drawn).heldEntries = s.heldEntries := rfl
@[simp] theorem State.drawn_nextJob : (s.drawn).nextJob = s.nextJob := rfl
@[simp] theorem State.drawn_turn : (s.drawn).turn = s.turn := rfl
@[simp] theorem State.drawn_tileGo : (s.drawn).tileGo = s.tileGo := rfl
@[simp] theorem State.drawn_bobGo : (s.drawn).bobGo = s.bobGo := rfl
@[simp] theorem State.drawn_wgts : (s.drawn).wgts = s.wgts := rfl
@[simp] theorem State.drawn_serves : (s.drawn).serves = s.serves := rfl
@[simp] theorem State.drawn_spools : (s.drawn).spools = s.spools := rfl
@[simp] theorem State.drawn_admitSeq : (s.drawn).admitSeq = s.admitSeq := rfl
@[simp] theorem State.drawn_chainEpisode : (s.drawn).chainEpisode = s.chainEpisode := rfl
@[simp] theorem State.drawn_qareaFirst : (s.drawn).qareaFirst = s.qareaFirst := rfl
@[simp] theorem State.drawn_qareaPages : (s.drawn).qareaPages = s.qareaPages := rfl
@[simp] theorem State.drawn_twin : (s.drawn).twin = s.twin := rfl
@[simp] theorem State.drawn_power : (s.drawn).power = s.power := rfl
@[simp] theorem State.drawn_boot : (s.drawn).boot = s.boot := rfl
@[simp] theorem State.drawn_out : (s.drawn).out = s.out := rfl
@[simp] theorem State.drawn_free : (s.drawn).free = s.free + 1 := rfl
@[simp] theorem State.drawn_pending : (s.drawn).pending = s.pending := rfl
@[simp] theorem State.drawn_tile (j : Nat) : (s.drawn).tile j = s.tile j := rfl
@[simp] theorem State.drawn_bob (j : Nat) : (s.drawn).bob j = s.bob j := rfl
@[simp] theorem State.drawn_panel (j : Nat) : (s.drawn).panel j = s.panel j := rfl
@[simp] theorem State.drawn_port (j : Nat) : (s.drawn).port j = s.port j := rfl
@[simp] theorem State.drawn_knot (j : Nat) : (s.drawn).knot j = s.knot j := rfl
@[simp] theorem State.drawn_queue (j : Nat) : (s.drawn).queue j = s.queue j := rfl
@[simp] theorem State.drawn_fnc (j : Nat) : (s.drawn).fnc j = s.fnc j := rfl
@[simp] theorem State.drawn_home (j : Nat) : (s.drawn).home j = s.home j := rfl
@[simp] theorem State.drawn_wgt (j : Nat) : (s.drawn).wgt j = s.wgt j := rfl
@[simp] theorem State.drawn_serve (j : Nat) : (s.drawn).serve j = s.serve j := rfl
@[simp] theorem State.drawn_spool (j : Nat) : (s.drawn).spool j = s.spool j := rfl
@[simp] theorem State.drawn_rd (g : Fld) : (s.drawn).rd g = s.rd g := rfl
@[simp] theorem State.drawn_bit (g : Fld) : (s.drawn).bit g = s.bit g := rfl
@[simp] theorem State.drawn_now : (s.drawn).now = s.now := rfl

/-! ### Reads of what was written -/

@[simp] theorem State.setTile_tile_same (t : Nat) (x : Tile) : (s.setTile t x).tile t = x := by
  simp [State.tile]
theorem State.setTile_tile_ne (t : Nat) (x : Tile) {j : Nat} (hj : j ≠ t) : (s.setTile t x).tile j = s.tile j := by
  simp [State.tile, sget_sset_ne _ _ _ _ hj]
@[simp] theorem State.setBob_bob_same (b : Nat) (x : Bobbin) : (s.setBob b x).bob b = x := by
  simp [State.bob]
theorem State.setBob_bob_ne (b : Nat) (x : Bobbin) {j : Nat} (hj : j ≠ b) : (s.setBob b x).bob j = s.bob j := by
  simp [State.bob, sget_sset_ne _ _ _ _ hj]
@[simp] theorem State.setPanel_panel_same (p : Nat) (x : Panel) : (s.setPanel p x).panel p = x := by
  simp [State.panel]
theorem State.setPanel_panel_ne (p : Nat) (x : Panel) {j : Nat} (hj : j ≠ p) : (s.setPanel p x).panel j = s.panel j := by
  simp [State.panel, sget_sset_ne _ _ _ _ hj]
@[simp] theorem State.setPort_port_same (n : Nat) (x : Port) : (s.setPort n x).port n = x := by
  simp [State.port]
theorem State.setPort_port_ne (n : Nat) (x : Port) {j : Nat} (hj : j ≠ n) : (s.setPort n x).port j = s.port j := by
  simp [State.port, sget_sset_ne _ _ _ _ hj]
@[simp] theorem State.setKnot_knot_same (k : Nat) (x : Knot) : (s.setKnot k x).knot k = x := by
  simp [State.knot]
theorem State.setKnot_knot_ne (k : Nat) (x : Knot) {j : Nat} (hj : j ≠ k) : (s.setKnot k x).knot j = s.knot j := by
  simp [State.knot, sget_sset_ne _ _ _ _ hj]
@[simp] theorem State.setQueue_queue_same (q : Nat) (x : Queue) : (s.setQueue q x).queue q = x := by
  simp [State.queue]
theorem State.setQueue_queue_ne (q : Nat) (x : Queue) {j : Nat} (hj : j ≠ q) : (s.setQueue q x).queue j = s.queue j := by
  simp [State.queue, sget_sset_ne _ _ _ _ hj]
@[simp] theorem State.setFn_fnc_same (f : Nat) (x : PcieFn) : (s.setFn f x).fnc f = x := by
  simp [State.fnc]
theorem State.setFn_fnc_ne (f : Nat) (x : PcieFn) {j : Nat} (hj : j ≠ f) : (s.setFn f x).fnc j = s.fnc j := by
  simp [State.fnc, sget_sset_ne _ _ _ _ hj]
@[simp] theorem State.setHome_home_same (h : Nat) (x : List KnotOp) : (s.setHome h x).home h = x := by
  simp [State.home]
theorem State.setHome_home_ne (h : Nat) (x : List KnotOp) {j : Nat} (hj : j ≠ h) : (s.setHome h x).home j = s.home j := by
  simp [State.home, sget_sset_ne _ _ _ _ hj]
@[simp] theorem State.setWgt_wgt_same (p : Nat) (x : Wgt) : (s.setWgt p x).wgt p = x := by
  simp [State.wgt]
theorem State.setWgt_wgt_ne (p : Nat) (x : Wgt) {j : Nat} (hj : j ≠ p) : (s.setWgt p x).wgt j = s.wgt j := by
  simp [State.wgt, sget_sset_ne _ _ _ _ hj]
@[simp] theorem State.setServe_serve_same (p : Nat) (x : Serve) : (s.setServe p x).serve p = x := by
  simp [State.serve]
theorem State.setServe_serve_ne (p : Nat) (x : Serve) {j : Nat} (hj : j ≠ p) : (s.setServe p x).serve j = s.serve j := by
  simp [State.serve, sget_sset_ne _ _ _ _ hj]
@[simp] theorem State.setSpool_spool_same (i : Nat) (x : Spool) : (s.setSpool i x).spool i = x := by
  simp [State.spool]
theorem State.setSpool_spool_ne (i : Nat) (x : Spool) {j : Nat} (hj : j ≠ i) : (s.setSpool i x).spool j = s.spool j := by
  simp [State.spool, sget_sset_ne _ _ _ _ hj]

/-- A register field reads as the value last written, reduced to its width. -/
@[simp] theorem State.wr_rd_same (f : Fld) (v : Nat) : (s.wr f v).rd f = v % 2 ^ f.w := by
  simp [State.rd]

/-- A write of one field leaves fields at other places as they are. -/
theorem State.wr_rd_ne (f g : Fld) (v : Nat) (h : g.key ≠ f.key) : (s.wr f v).rd g = s.rd g := by
  simp [State.rd, sget_sset_ne _ _ _ _ h]

theorem State.wr_bit_ne (f g : Fld) (v : Nat) (h : g.key ≠ f.key) : (s.wr f v).bit g = s.bit g := by
  simp [State.bit, State.wr_rd_ne _ _ _ _ h]

/-- Counting another field leaves STI_COUNT as it is. -/
theorem State.wr_now (f : Fld) (v : Nat) (h : Reg.STI_COUNT_COUNT.key ≠ f.key) : (s.wr f v).now = s.now := by
  simp [State.now, State.wr_rd_ne _ _ _ _ h]

end Sys2Proof.Machine
end

