-- ==== Sys2Proof/Laws/Cmd.lean ====
section
/-! SUPPORT. Laws of host commands: what performing one is when no twin mirrors it. -/

namespace Sys2Proof.Machine

/-- A change of a panel no twin takes part in is made at once. -/
theorem State.mirrored_direct {s : State} {p : Nat} (f : State → State) (h : s.direct p = true) : s.mirrored p f = f s := by
  unfold State.direct at h
  simp only [State.mirrored, h, if_true]

/-- A command that names no mirrored panel is performed as it is. -/
theorem CmdSpec.perform_unmirrored {k : CmdSpec} {c : Cmd} {s : State} (idx : Option Nat) (h : s.unmirrored c = true) :
    k.perform idx c s = k.runAt idx c s := by
  unfold State.unmirrored at h
  unfold CmdSpec.perform
  split
  · rename_i p hp
    rw [hp] at h
    exact State.mirrored_direct _ h
  · rfl

/-- A command that passes the checks of orders 1 to 5 has the effect of its chapter, on the state with its job taken. -/
theorem CmdSpec.run_of_check {k : CmdSpec} {c : Cmd} {s : State} (h : k.check c s = St.OK) (hd : (k.needs c s).all s.domOn = true) :
    k.run c s = k.body (k.job c s) (k.begun c s) := by
  have hd2 : (k.needs c s).all (s.startJob k.opcode none c).domOn = true := hd
  simp only [CmdSpec.run, CmdSpec.runAt, h, CmdSpec.job, CmdSpec.begun, State.whenOn, hd2, ne_eq, not_true_eq_false, if_false, if_true]

/-- The same of a command that a twin might mirror and does not. -/
theorem CmdSpec.perform_of_accepts {k : CmdSpec} {c : Cmd} {s : State} (h : k.accepts c s) :
    k.perform none c s = k.body (k.job c s) (k.begun c s) := by
  rw [CmdSpec.perform_unmirrored none h.2.1]
  exact CmdSpec.run_of_check h.1 h.2.2

/-- One that fails a check completes with the code of the first check that fails (R424). -/
theorem CmdSpec.run_of_check_ne {k : CmdSpec} {c : Cmd} {s : State} (h : k.check c s ≠ St.OK) :
    k.run c s = (k.begun c s).complete (k.job c s) (k.check c s) := by
  simp only [CmdSpec.run, CmdSpec.runAt, CmdSpec.job, CmdSpec.begun, ne_eq, h, not_false_eq_true, if_true]

/-! ### What taking a command leaves -/

@[simp] theorem CmdSpec.begun_csr (k : CmdSpec) (c : Cmd) (s : State) : (k.begun c s).csr = s.csr := rfl
@[simp] theorem CmdSpec.begun_rd (k : CmdSpec) (c : Cmd) (s : State) (f : Fld) : (k.begun c s).rd f = s.rd f := rfl
@[simp] theorem CmdSpec.begun_bit (k : CmdSpec) (c : Cmd) (s : State) (f : Fld) : (k.begun c s).bit f = s.bit f := rfl
@[simp] theorem CmdSpec.job_cmd (k : CmdSpec) (c : Cmd) (s : State) : (k.job c s).cmd = c := rfl

end Sys2Proof.Machine
end

