-- ==== Sys2Proof/Laws/Log.lean ====
section
/-! SUPPORT. Laws of interrupts, the fault log and events: what they leave, and what the newest entry says. -/

namespace Sys2Proof.Machine

variable (s : State)

/-! ### Counters -/

theorem State.stick_rd_ne (f g : Fld) (n : Nat) (h : g.key ≠ f.key) : (s.stick f n).rd g = s.rd g := State.wr_rd_ne s f g _ h
theorem State.wrap_rd_ne (f g : Fld) (n : Nat) (h : g.key ≠ f.key) : (s.wrap f n).rd g = s.rd g := State.wr_rd_ne s f g _ h
@[simp] theorem State.stick_rd_same (f : Fld) (n : Nat) : (s.stick f n).rd f = min (s.rd f + n) (2 ^ f.w - 1) := by
  have h : min (s.rd f + n) (2 ^ f.w - 1) < 2 ^ f.w := by
    have := Nat.two_pow_pos f.w
    omega
  simp [State.stick, Nat.mod_eq_of_lt h]
@[simp] theorem State.wrap_rd_same (f : Fld) (n : Nat) : (s.wrap f n).rd f = (s.rd f + n) % 2 ^ f.w := by
  simp [State.wrap]

/-- A write of one field changes nothing but the registers. -/
theorem State.wr_frame (f : Fld) (v : Nat) : s.wr f v = { s with csr := (s.wr f v).csr } := rfl

/-! ### Interrupts -/

/-- A signal is a message out or a pending bit: nothing else changes (R400, R407). -/
theorem State.signal_frame (fn v : Nat) :
    s.signal fn v = { s with out := (s.signal fn v).out, fns := (s.signal fn v).fns } := by
  unfold State.signal; dsimp only
  split <;> rfl

@[simp] theorem State.signal_csr (fn v : Nat) : (s.signal fn v).csr = s.csr := by unfold State.signal; dsimp only; split <;> rfl
@[simp] theorem State.signal_rd (fn v : Nat) (f : Fld) : (s.signal fn v).rd f = s.rd f := by simp [State.rd]
@[simp] theorem State.signal_now (fn v : Nat) : (s.signal fn v).now = s.now := by simp [State.now]
@[simp] theorem State.signal_integ (fn v : Nat) : (s.signal fn v).integ = s.integ := by unfold State.signal; dsimp only; split <;> rfl

/-! ### The fault log -/

/-- The registers an entry of the fault log writes. -/
def logRegs : List Fld := [Reg.INT_FLOG_HEAD_SEQ, Reg.INT_FLOG_TAIL_SEQ, Reg.INT_FLOG_STAT_LOST]

/-- `t` is `s` but for its registers, its fault log, its messages out and its functions. -/
def LogsOnly (s t : State) : Prop := t = { s with csr := t.csr, integ := t.integ, out := t.out, fns := t.fns }

theorem LogsOnly.refl : LogsOnly s s := rfl

theorem LogsOnly.wr {s t : State} (f : Fld) (v : Nat) (h : LogsOnly s t) : LogsOnly s (t.wr f v) := by
  unfold LogsOnly
  exact congrArg (fun x : State => { x with csr := (t.wr f v).csr }) h

theorem LogsOnly.integ {s t : State} (i : Integ) (h : LogsOnly s t) : LogsOnly s { t with integ := i } := by
  unfold LogsOnly
  exact congrArg (fun x : State => { x with integ := i }) h

theorem LogsOnly.signal {s t : State} (fn v : Nat) (h : LogsOnly s t) : LogsOnly s (t.signal fn v) := by
  unfold LogsOnly
  rw [State.signal_frame t fn v]
  exact congrArg (fun x : State => { x with out := (t.signal fn v).out, fns := (t.signal fn v).fns }) h

theorem LogsOnly.log {s t : State} (code : Code) (p : Option Nat) (d0 d1 : W64) (h : LogsOnly s t) : LogsOnly s (t.log code p d0 d1) := by
  unfold State.log; dsimp only
  split <;> split
  · exact ((((h.integ _).wr _ _).wr _ _).wr _ _).signal _ _
  · exact ((h.integ _).wr _ _).signal _ _
  · exact (((h.integ _).wr _ _).wr _ _).wr _ _
  · exact (h.integ _).wr _ _

theorem LogsOnly.event {s t : State} (v : Nat) (code : Code) (p : Option Nat) (d0 d1 : Nat) (h : LogsOnly s t) :
    LogsOnly s (t.event v code p d0 d1) := (h.log code p _ _).signal 0 v

/-- An entry changes the log, its registers and, when the ring was empty, what a signal changes (R299). -/
theorem State.log_frame (code : Code) (p : Option Nat) (d0 d1 : W64) :
    s.log code p d0 d1 = { s with csr := (s.log code p d0 d1).csr, integ := (s.log code p d0 d1).integ
                                  out := (s.log code p d0 d1).out, fns := (s.log code p d0 d1).fns } :=
  (LogsOnly.refl s).log code p d0 d1

theorem State.log_rd_ne (code : Code) (p : Option Nat) (d0 d1 : W64) (f : Fld) (h : ∀ g ∈ logRegs, f.key ≠ g.key) :
    (s.log code p d0 d1).rd f = s.rd f := by
  have h1 := h Reg.INT_FLOG_HEAD_SEQ (by simp [logRegs])
  have h2 := h Reg.INT_FLOG_TAIL_SEQ (by simp [logRegs])
  have h3 := h Reg.INT_FLOG_STAT_LOST (by simp [logRegs])
  unfold State.log; dsimp only
  split <;> split <;> simp [State.stick, State.wrap, State.wr_rd_ne _ _ _ _ h1, State.wr_rd_ne _ _ _ _ h2, State.wr_rd_ne _ _ _ _ h3] <;> rfl

/-- The entry written is the newest. -/
theorem State.log_newest (code : Code) (p : Option Nat) (d0 d1 : W64) :
    (s.log code p d0 d1).newest = ⟨code, p, s.rd Reg.INT_FLOG_HEAD_SEQ, s.now, d0, d1⟩ := by
  have hh : (s.log code p d0 d1).rd Reg.INT_FLOG_HEAD_SEQ = (s.rd Reg.INT_FLOG_HEAD_SEQ + 1) % 2 ^ 32 := by
    unfold State.log; dsimp only
    have k1 : Reg.INT_FLOG_HEAD_SEQ.key ≠ Reg.INT_FLOG_TAIL_SEQ.key := by decide
    have k2 : Reg.INT_FLOG_HEAD_SEQ.key ≠ Reg.INT_FLOG_STAT_LOST.key := by decide
    split <;> split <;> simp [State.stick_rd_ne _ _ _ _ k2, State.wrap_rd_ne _ _ _ _ k1] <;> rfl
  have hi : (s.log code p d0 d1).integ.log = sset ⟨0, none, 0, 0, 0, 0⟩ s.integ.log (s.rd Reg.INT_FLOG_HEAD_SEQ % 4096)
      ⟨code, p, s.rd Reg.INT_FLOG_HEAD_SEQ, s.now, d0, d1⟩ := by
    unfold State.log; dsimp only
    split <;> split <;> simp [State.stick, State.wrap]
  unfold State.newest
  rw [hh, hi]
  have : ((s.rd Reg.INT_FLOG_HEAD_SEQ + 1) % 2 ^ 32 + 2 ^ 32 - 1) % 2 ^ 32 % 4096 = s.rd Reg.INT_FLOG_HEAD_SEQ % 4096 := by omega
  rw [this, sget_sset_same]

/-! ### Events -/

/-- An event is a log entry and a signal to the physical function. -/
theorem State.event_frame (v : Nat) (code : Code) (p : Option Nat) (d0 d1 : Nat) :
    s.event v code p d0 d1 = { s with csr := (s.event v code p d0 d1).csr, integ := (s.event v code p d0 d1).integ
                                      out := (s.event v code p d0 d1).out, fns := (s.event v code p d0 d1).fns }  :=
  (LogsOnly.refl s).event v code p d0 d1

theorem State.event_rd_ne (v : Nat) (code : Code) (p : Option Nat) (d0 d1 : Nat) (f : Fld) (h : ∀ g ∈ logRegs, f.key ≠ g.key) :
    (s.event v code p d0 d1).rd f = s.rd f := by
  unfold State.event State.logN
  rw [State.signal_rd]
  exact State.log_rd_ne s code p _ _ f h

theorem State.event_newest (v : Nat) (code : Code) (p : Option Nat) (d0 d1 : Nat) :
    (s.event v code p d0 d1).newest = ⟨code, p, s.rd Reg.INT_FLOG_HEAD_SEQ, s.now, BitVec.ofNat 64 d0, BitVec.ofNat 64 d1⟩ := by
  have h := State.log_newest s code p (BitVec.ofNat 64 d0) (BitVec.ofNat 64 d1)
  unfold State.event State.logN
  unfold State.newest at h ⊢
  rw [State.signal_rd, State.signal_integ]
  exact h

end Sys2Proof.Machine
end

