-- ==== Sys2Proof/Laws/Units.lean ====
section
/-! SUPPORT. Laws of the operations that the units share: waking a domain, a home's queue, the flash, and the stitch unit's order. -/

namespace Sys2Proof.Machine

variable (s : State)

/-! ### Waking a domain -/

/-- Beginning to wake a domain changes the wakes in progress only. -/
theorem State.beginWake_frame (d ns : Nat) : s.beginWake d ns = { s with power := (s.beginWake d ns).power } := by
  unfold State.beginWake
  split <;> rfl

theorem State.demand_frame (d : Nat) : s.demand d = { s with power := (s.demand d).power } := State.beginWake_frame s d _

@[simp] theorem State.demand_csr (d : Nat) : (s.demand d).csr = s.csr := by rw [State.demand_frame]
@[simp] theorem State.demand_tiles (d : Nat) : (s.demand d).tiles = s.tiles := by rw [State.demand_frame]
@[simp] theorem State.demand_bobs (d : Nat) : (s.demand d).bobs = s.bobs := by rw [State.demand_frame]
@[simp] theorem State.demand_noc (d : Nat) : (s.demand d).noc = s.noc := by rw [State.demand_frame]
@[simp] theorem State.demand_ports (d : Nat) : (s.demand d).ports = s.ports := by rw [State.demand_frame]
@[simp] theorem State.demand_rd (d : Nat) (f : Fld) : (s.demand d).rd f = s.rd f := by rw [State.demand_frame]; rfl

/-- A domain that is Active is not woken. -/
theorem State.demand_of_on {d : Nat} (h : s.domOn d = true) : s.demand d = s := by
  simp only [State.demand, State.beginWake, h, Bool.true_or, if_true]

/-- Another domain's wake is as it was. -/
theorem State.demand_waking_ne {d e : Nat} (h : e ≠ d) : sget none (s.demand d).power.waking e = sget none s.power.waking e := by
  simp only [State.demand, State.beginWake]
  split
  · rfl
  · dsimp only
    rw [sget_sset_ne _ _ _ _ h]

/-- What reaches domains that are all Active is done at once. -/
theorem State.whenOn_of_on {job : Nat} {ds : List Nat} (f : State → State) (h : ds.all s.domOn = true) : s.whenOn job ds f = f s := by
  simp only [State.whenOn, h, if_true]

/-- Waking several domains changes the wakes in progress only. -/
theorem State.demands_frame (ds : List Nat) :
    ds.foldl (fun s d => s.demand d) s = { s with power := (ds.foldl (fun s d => s.demand d) s).power } := by
  induction ds generalizing s with
  | nil => rfl
  | cons d ds ih =>
    rw [List.foldl_cons, ih, State.demand_frame]

/-- What reaches a domain that is not Active waits, and changes the wakes in progress only. -/
theorem State.whenOn_of_off {job : Nat} {ds : List Nat} (f : State → State) (h : ds.all s.domOn = false) :
    s.whenOn job ds f = { s with power := (s.whenOn job ds f).power } := by
  simp only [State.whenOn, h, Bool.false_eq_true, if_false]
  rw [State.demands_frame]

/-! ### A home's queue -/

@[simp] theorem State.setHomeWaits_same (h : Nat) (l : List (Nat × KnotOp)) : (s.setHomeWaits h l).homeWaits h = l := by
  simp [State.setHomeWaits, State.homeWaits]

@[simp] theorem State.setHomeWaits_home (h k : Nat) (l : List (Nat × KnotOp)) : (s.setHomeWaits h l).home k = s.home k := rfl
@[simp] theorem State.setHomeWaits_flights (h : Nat) (l : List (Nat × KnotOp)) : (s.setHomeWaits h l).noc.flights = s.noc.flights := rfl
@[simp] theorem State.setHomeWaits_csr (h : Nat) (l : List (Nat × KnotOp)) : (s.setHomeWaits h l).csr = s.csr := rfl

/-- Letting waiting operations in changes the home's queue and the waiting operations only. -/
theorem State.settleHome_frame (h n : Nat) : State.settleHome h n s =
    { s with homes := (State.settleHome h n s).homes, noc := { s.noc with homeWait := (State.settleHome h n s).noc.homeWait } } := by
  induction n generalizing s with
  | zero => rfl
  | succ n ih =>
    unfold State.settleHome
    split
    · rfl
    · split
      · exact ih _
      · rfl

/-- So does an operation of a host-die source. -/
theorem State.hostEnter_frame (h : Nat) (o : KnotOp) : State.hostEnter h o s =
    { s with homes := (State.hostEnter h o s).homes, noc := { s.noc with homeWait := (State.hostEnter h o s).noc.homeWait } } :=
  State.settleHome_frame _ h 8

/-- While its clocks are stopped a home takes no waiting operation. -/
theorem State.settleHome_stopped (h n : Nat) (hs : s.homeStopped h = true) : State.settleHome h n s = s := by
  cases n with
  | zero => rfl
  | succ n =>
    unfold State.settleHome
    split
    · rfl
    · simp [hs]

/-! ### The flash -/

@[simp] theorem State.flashWrite_csr (a : Nat) (bs : List Byte) : (s.flashWrite a bs).csr = s.csr := rfl
@[simp] theorem State.flashWrite_hostMem (a : Nat) (bs : List Byte) : (s.flashWrite a bs).hostMem = s.hostMem := rfl
@[simp] theorem State.flashErase_csr (lo hi : Nat) : (s.flashErase lo hi).csr = s.csr := rfl
@[simp] theorem State.flashErase_hostMem (lo hi : Nat) : (s.flashErase lo hi).hostMem = s.hostMem := rfl

/-- What was written is read. -/
theorem State.flashRead_flashWrite (a : Nat) (bs : List Byte) : (s.flashWrite a bs).flashRead a bs.length = bs :=
  sgetList_ssetList_same 0xFF s.boot.flash a bs

/-! ### The stitch unit's order -/

/-- An event is in turn exactly when no event above it in the table of R26 is due. -/
theorem State.inTurn_iff (k : Nat) : s.inTurn k = true ↔ ∀ j < k, s.eventDue j = false := by
  simp [State.inTurn]

end Sys2Proof.Machine
end

