-- ==== Sys2Proof/Tests/Slice0.lean ====
section
/-! SUPPORT. Tests of the model and, for every statement with hypotheses, a state and operands that meet them together. -/

-- one theorem after another: many at once ask for more memory than the check has
set_option Elab.async false

namespace Sys2Proof.Tests

open Sys2Proof Sys2Proof.Machine

/-! ## Small states -/

/-- The state after reset with some register fields changed. -/
def regs (l : List (Fld × Nat)) (s : State := State.reset) : State := l.foldl (fun s f => s.wr f.1 f.2) s

/-- Fields that give panel `p` the rows of a mask, with state `st`. -/
def part (p rows st : Nat) : List (Fld × Nat) :=
  [(Reg.PNL_PART_CFG_ENABLE p, 1), (Reg.PNL_PART_ROWS_ROWS p, rows), (Reg.PNL_STATE_STATE p, st), (Reg.PNL_PART_CFG_TENANT p, 1)]

/-- A state in which panel `p` runs a step. -/
def running (p : Nat) (r : Run) (s : State) : State := { s with panels := sset {} s.panels p { run := some r } }

/-- A command of the PF with parameter bytes `par` and, where it has one, a panel. -/
def pf (len par : Nat) (panel : Nat := 0xFF) : Cmd := { len := BitVec.ofNat 8 len, par := BitVec.ofNat 384 par, panel := BitVec.ofNat 8 panel }

/-! ## The queue and the format of commands -/

/-- One term for every check of well-formedness, which the check refuses. -/
theorem test_ill_formed_terms_are_refused :
    ([.mnop 1088, .xferUp 4352, .flitReceive 24 {}, .flitReceive 0 { body := List.replicate 241 0 }, .marginWarn 64 0, .stepLaunch 16,
      .bufferedWritePerform 0 false 32, .spMergeWriteback 0 65536, .sendSlotFree 0 4, .bobMergeWriteback 0 131072, .packetInjection 16384,
      .linkPacketIngress 0 3, .signalOp 1089, .hostKnotWaitTimeout 65536 0, .pageRefetchDone 1048576, .layerRelease 0 512,
      .fwBatchReturn 0 32 [], .stepInputDeadline 0 65536, .requestDeadline 16384, .doorbell 17 0 0, .ringFetch 16384, .domainWakeComplete 84,
      .powerGovernorDecision { temps := List.replicate 84 0 }, .watchdogExpiry 4, .watchdogKick (some 4) 0,
      .bootFirmwareStart [1088] true true true, .pairActive (some { coord := 1024 }), .registerWrite { off := 0x4000000 } 0,
      .configurationRequest 0 (.numVfs 17), .stitchRole { fn := 17 }, .stitchRole { sq := 16384 }] : List Instr).all (fun i => !i.wf) = true := by
  decide +kernel

/-- And well-formed ones are not. -/
theorem test_well_formed_terms_are_taken :
    ([.mnop 1087, .xferUp 4351, .flitReceive 23 {}, .marginWarn 63 0, .doorbell 16 16383 0, .stitchRole {}] : List Instr).all (fun i => i.wf) = true := by
  decide +kernel

/-- A command that waits runs, and the one behind it waits on. -/
theorem test_step_takes_front :
    (step { State.reset with pending := [.trimWindow, .acquireConverged] } = exec .trimWindow { State.reset with pending := [.acquireConverged] }) := rfl

/-! ## Tiles that issue one operation -/

/-- A bundle with slot word `w` in slot `k` alone. -/
def bund (k w : Nat) : Nat := 2 ^ k + w * 2 ^ slotLo k

/-- Panel 0 runs a step on the rows of tile 0, whose bundle at its program counter is `b`. -/
def tileSt (b : Nat) (x : Tile := {}) : State :=
  let s := running 0 { startIn := 0 } (regs (part 0 (2 ^ 32 - 1) PS.running))
  { s with tiles := sset {} [] 0 { x with run := true, imem := x.imem.writeWord Space.imem x.pc (bytesOf 32 b) } }

/-- Every slot word of a list issues in slot `k` of tile 0. -/
def allIssue (k : Nat) (x : Tile) (ws : List Nat) : Bool := ws.all (fun w => (tileSt (bund k w) x).issues 0 k (w % 256))

/-- Tile 0's flights of a word in slot 3, read from words that check. -/
def checked (lo n : Nat) (x : Tile := {}) : Tile :=
  { x with scr := (List.range n).foldl (fun m i => m.writeWord Space.scratch (lo + i) (bytesOf 32 0)) x.scr }

/-! ## Witnesses: stitch time -/

theorem wit_StepRunsTheFrontCommand : step { State.reset with pending := [.timeInReturn] } = exec .timeInReturn State.reset := rfl

theorem wit_ResetLeavesTheStatedValues :
    State.reset.gradeHolds = true ∧ ∀ g ∈ gradeRows, 2 ^ g.disabled - 1 < 2 ^ 64 ∧ rowsSet (2 ^ g.disabled - 1) = g.disabled := by decide +kernel

theorem wit_IdleStepPassesOneEdge :
    State.reset.boot.update = none ∧ (∀ t, (State.reset.tile t).loads = [] ∧ (State.reset.tile t).lstores = []) ∧ State.reset.bobs = [] ∧
    ({ State.reset with boot := { update := some ⟨1, 0, 0, 0, []⟩ } } : State).boot.update.isSome = true ∧
    State.reset.pending = [] ∧ State.reset.power.on = true ∧ ({ State.reset with power := { on := false } } : State).power.on = false ∧
    State.reset.clk.inWindow = false ∧ (∀ p, (State.reset.panel p).run = none) ∧
    ({ State.reset with clk := { inWindow := true } } : State).clk.inWindow = true ∧
    edgesPer10 (State.reset.rd Reg.STI_CLK_POINT) ≤ 20 + 10 ∧ ¬ edgesPer10 (State.reset.rd Reg.STI_CLK_POINT) ≤ 13 + 10 :=
  ⟨rfl, fun _ => ⟨rfl, rfl⟩, rfl, rfl, rfl, rfl, rfl, rfl, fun _ => rfl, rfl, by decide, by decide⟩

theorem wit_StitchSetNeedsAFreerunMaster :
    specStitchSet.accepts (pf 8 5) (regs [(Reg.STI_CTL_ROLE, 1)]) ∧ (regs [(Reg.STI_CTL_ROLE, 1)]).rd Reg.STI_CTL_ROLE = 1 ∧
    (regs [(Reg.STI_CTL_ROLE, 1)]).rd Reg.STI_STATUS_STATE = SS.freerun ∧
    (specStitchSet.begun (pf 8 5) (regs [(Reg.STI_CTL_ROLE, 1)])).stitchArmed = false ∧
    specStitchSet.accepts (pf 8 5) State.reset ∧ State.reset.rd Reg.STI_CTL_ROLE ≠ 1 := by
  unfold CmdSpec.accepts; decide +kernel

theorem wit_StitchTimeFollowsTheMaster :
    specStitchRole.accepts (pf 1 3) State.reset ∧ 2 < (pf 1 3).fld 0 1 ∧ specStitchRole.accepts (pf 1 2) State.reset ∧ (pf 1 2).fld 0 1 = 2 ∧
    (let s := { regs [(Reg.STI_STATUS_STATE, 1)] with clk := { conv := 64, fromFreerun := true } }
     s.sst = SS.acquire ∧ 64 ≤ s.clk.conv ∧ s.clk.fromFreerun = true) ∧
    (let s := { regs [(Reg.STI_STATUS_STATE, 2), (Reg.STI_COUNT_COUNT, 100000)] with clk := { master := some 1 } }
     s.pathLost = true ∧ s.rd Reg.STI_CTL_ROLE ≠ 2 ∧ s.sst = SS.locked) ∧
    (let s := { regs [(Reg.STI_CTL_ROLE, 2), (Reg.STI_COUNT_COUNT, 100000)] with clk := { master := some 1 } }
     s.rd Reg.STI_CTL_ROLE = 2 ∧ s.pathLost = true) ∧
    (let s := { regs [(Reg.STI_STATUS_STATE, 3), (Reg.STI_COUNT_COUNT, 10000000)] with clk := { lostAt := some 0 } }
     s.sst = SS.holdover ∧ s.lasted 0 (max 1 (s.rd Reg.STI_CTL_HOLD_MS) * 1000000) = true) ∧
    State.reset.clk.sentAt = none ∧ ({ State.reset with clk := { sentAt := some 0 } } : State).lasted 0 4000 = false ∧
    State.reset.portPresent 0 = true ∧ (regs [(Reg.LNK_PSTAT_STATE 0, LS.active)]).lst 0 = LS.active ∧ State.reset.lst 0 ≠ LS.active := by
  unfold CmdSpec.accepts; decide +kernel

theorem wit_ClockWindowsAndMargins :
    (let s := regs [(Reg.STI_CLK_PEND, 1)]
     s.bit Reg.STI_CLK_PEND = true ∧ s.clk.inWindow = false ∧ reached s.now (BitVec.ofNat 64 (s.rd Reg.STI_CLK_WIN_WIN_START)) = true ∧
       s.inTurn Ev.governor = true ∧ s.stepping = false ∧ (running 0 {} s).stepping = true) ∧
    (let s := { regs [(Reg.STI_COUNT_COUNT, 1500)] with clk := { inWindow := true } }
     s.clk.inWindow = true ∧ s.lasted (BitVec.ofNat 64 (s.rd Reg.STI_CLK_WIN_WIN_START)) 1500 = true) ∧
    (let s := { State.reset with part := { a1 := false }, clk := { trimAt := some 0 } }
     s.part.a1 = false ∧ s.clk.trimAt = some 0 ∧ reached s.now 0 = true ∧ s.inTurn Ev.governor = true ∧ s.stepping = false ∧ s.clk.inWindow = false ∧ s.clk.inTrim = false ∧
       (running 0 {} s).stepping = true) ∧
    (let s := { regs [(Reg.STI_COUNT_COUNT, 200)] with part := { a1 := false }, clk := { trimAt := some 0, inTrim := true } }
     s.clk.inTrim = true ∧ reached s.now (0 + 200) = true ∧ reached 199 (0 + 200) = false) ∧ State.reset.part.a1 = true ∧
    (3 < State.reset.rd (Reg.STI_MARGIN_WARN_PS 0) ∧ State.reset.rowDisabled 0 = false ∧ State.reset.rd (Reg.STI_MARGIN_VSTEPS 0) < 8 ∧
      8 ≤ (regs [(Reg.STI_MARGIN_VSTEPS 0, 8)]).rd (Reg.STI_MARGIN_VSTEPS 0) ∧ State.reset.rd (Reg.STI_MARGIN_WARN_PS 0) ≤ 20) ∧
    (let s := { State.reset with clk := { vAsk := [0] } }
     s.clk.vAsk.contains 0 = true ∧ s.rd (Reg.STI_MARGIN_VSTEPS 0) < 8 ∧ s.panelOfRow 0 = none) ∧
    (let s := running 0 {} (regs (part 0 1 PS.running))
     s.panelOfRow 0 = some 0 ∧ (s.panel 0).run = some {} ∧ s.rowDisabled 0 = false ∧ 7 < s.rd (Reg.STI_MARGIN_CRIT_PS 0)) := by
  decide +kernel

/-! ## Witnesses: bobbins -/

/-- The state of `tileSt` with bobbin 0 as given and its tile far enough in its step for every queued descriptor. -/
def bobSt (b : Bobbin) : State := { tileSt 0 { cy := 1000 } with bobs := sset {} [] 0 b }

/-- A bobbin whose step queue begins with a descriptor of one opcode. -/
def queued (n : Nat) : Bobbin := { stepQ := [⟨BitVec.ofNat 512 n, .step 1, 0⟩] }

/-- Tile 0 posts the descriptor in V0, whose first word is `d`, to bobbin 0, whose step queue is `q`. -/
def posting (d : Nat) (q : List Desc) : State :=
  { tileSt (bund 3 0x20) { vreg := [(0, BitVec.ofNat 32 d)] } with bobs := sset {} [] 0 { stepQ := q } }

theorem wit_StepDescriptorsRunInOrder :
    ([0x43, 0x44].all fun d => (posting d []).issues 0 3 0x20 && natOf ((((posting d []).tile 0).vbytes 0).take 64) = d) = true ∧
    dTier 0x43 < (posting 0x43 []).tiers ∧ (posting 0x43 []).checkDesc 0 true ((posting 0x43 []).panelOfTile 0) 0x43 = St.OK ∧
    descDsts 0x43 = [] ∧ (posting 0x44 []).checkDesc 0 true ((posting 0x44 []).panelOfTile 0) 0x44 ≠ St.OK ∧
    8 ≤ ((posting 0x43 (List.replicate 8 ⟨0x43, .step 0, 0⟩)).bob 0).stepQ.length ∧
    ([0x01, 0x02, 0x03, 0x04, 0x05, 0x10, 0x11, 0x20, 0x30, 0x40, 0x41, 0x43].all fun op =>
      (bobSt (queued op)).stepReady 0 op = some (op, 1, 2)) = true ∧
    State.reset.stepReady 0 0x01 = none ∧
    (bobSt (queued 0x10)).cbOk 0 0x10 = true ∧ (bobSt (queued 0x20)).cbOk 0 0x20 = true ∧ (bobSt (queued 0x30)).listCode 0 0x30 = St.OK ∧
    (let n := 0x30 + 2 ^ 145
     let s := bobSt { queued n with list := [(0, 200)] }
     s.stepReady 0 0x30 = some (n, 1, 2) ∧ s.listCode 0 n ≠ St.OK) ∧
    (bobSt (queued 0x01)).bob 0 = queued 0x01 ∧ (queued 0x01).masked (0x01 + 0xFFFF * 2 ^ 32) = false ∧
    ([0x10, 0x20].all fun op => let n := op + 13 * 2 ^ 168
     (bobSt (queued n)).stepReady 0 op = some (n, 1, 2) && !(bobSt (queued n)).cbOk 0 n) = true := by decide +kernel

theorem wit_ServiceDescriptorsAndBobbinRows :
    ([0x11, 0x40, 0x41, 0x42, 0x43].all fun op => let s := bobSt { svcQ := [⟨BitVec.ofNat 512 op, .svc none 0, 0⟩] }
      (s.bob 0).svcQ.map (fun d => dOp d.d.toNat) = [op] && s.bobActive 0 && s.bobOn 0 && s.portsIdle 0 op) = true ∧
    State.reset.bobActive 4000 = false ∧ (regs [(Reg.PWR_DOM_STATE 64, 1)]).bobOn 0 = false ∧
    (let n := 0x41 + 0xFFFF * 2 ^ 32 + 3 * 2 ^ 128 + 64 * 2 ^ 148 + 64 * 2 ^ 164
     dOp n = 0x41 ∧ ({} : Bobbin).masked n = false ∧ dOff n % 64 = 0 ∧ dLen n % 64 = 0 ∧ dLen n = 64) ∧
    (let s := bobSt { merge := [⟨5, BitVec.allOnes 64, 7⟩] }
     ((s.bob 0).mergeOf 5).isSome = true ∧ s.bobOn 0 = true ∧ s.writePortBusy 0 = false) ∧ ({ State.reset with clk := { inWindow := true } } : State).clk.inWindow = true ∧
    (let f : Flight := { pkt := { op := 1 }, loc := .eject (epBob 0) }
     let s := { State.reset with noc := { flights := [f] } }
     s.bobOn 0 = true ∧ s.ejected (epBob 0) (fun _ => true) = some (0, f) ∧ f.pkt.op ≠ POp.write) ∧
    (let f : Flight := { pkt := { op := POp.write, len := 2, payload := bytesOf 128 (64 * 2 ^ 36) }, loc := .eject (epBob 0) }
     let s := { State.reset with noc := { flights := [f] } }
     let v := leAt f.pkt.payload 0 8
     s.bobOn 0 = true ∧ s.ejected (epBob 0) (fun _ => true) = some (0, f) ∧ f.pkt.op = POp.write ∧ bits v 36 10 = 64 ∧ 64 ≤ 64 * f.pkt.len - 8 ∧
       bits v 20 16 % 64 = 0 ∧ bits v 46 18 = 0 ∧ f.pkt.tenant = 0 ∧ (s.bob 0).inboundUsed + 64 ≤ 4096 ∧
       4096 < ({ inbound := [⟨0, List.replicate 4096 0, none, none⟩] } : Bobbin).inboundUsed + 64 ∧
       (∀ g ∈ pageSpan (bits v 0 20) (bits v 20 16) (bits v 36 10), s.bobOfPage g = some 0 ∧ s.isRetired g = false)) ∧
    (let s := bobSt { inbound := [⟨64, List.replicate 200 1, none, none⟩] }
     (s.bob 0).inbound = [⟨64, List.replicate 200 1, none, none⟩] ∧ s.writePortBusy 0 = false ∧ s.bobOn 0 = true) := by decide +kernel

theorem wit_ServiceDescriptorsAndBobbinRows_results :
    (∀ w ∈ [false, true], let s := { regs [] with bobGo := some (0, w, false) }
     s.bobGo = some (0, w, false) ∧ s.bobSel 0 = some 0 ∧ s.windowPermitted 0 (bobTile 0) = true ∧ s.rd Reg.BOB_MEM_ADDR_SPACE = 0 ∧
       s.rd Reg.BOB_MEM_ADDR_INDEX ≤ 131071 ∧ s.bobOn 0 = true) ∧
    (let r : BobResult := { at_ := 2, dreg := some 3 }
     let s := bobSt { results := [r] }
     r.acts ((s.tile 0).cy / 2) (s.tile 0) s.clk.edge = true ∧ ({ r with at_ := 501 } : BobResult).acts ((s.tile 0).cy / 2) (s.tile 0) s.clk.edge = false) ∧
    (let s := { regs [(Reg.BOB_SEL_SITE, 31)] with bobGo := some (0, true, false) }
     s.bobGo = some (0, true, false) ∧ s.bobSel 0 = none) ∧
    (let s := regs [(Reg.INT_PATROL_CTL_ENABLE, 1)]
     s.bit Reg.INT_PATROL_CTL_ENABLE = true ∧ s.bobActive 0 = true ∧ s.bobOn 0 = true ∧ s.readPortBusy 0 = false ∧ s.integ.patrolDone.contains 0 = false) ∧
    (regs [(Reg.INT_PATROL_CTL_ENABLE, 0)]).bit Reg.INT_PATROL_CTL_ENABLE = false := by decide +kernel

/-! ## Witnesses: tile operations -/

theorem wit_ScalarOperationsPutOneResultInFlight :
    allIssue 4 {} [0x01, 0x03, 0x04, 0x05, 0x06, 0x07, 0x08, 0x09, 0x0A, 0x0B, 0x0C, 0x10, 0x11, 0x12, 0x02, 0x0E, 0x00,
      0x04 + 31 * 2 ^ 8, 0x12 + 5 * 2 ^ 23, 0x0E + 5 * 2 ^ 23] = true := by decide +kernel

theorem wit_LaneOperationsWriteGuardedLanes :
    [1, 2].all (fun k => allIssue k {} ([0x01, 0x02, 0x03, 0x04, 0x05, 0x06, 0x07, 0x08, 0x19, 0x1A, 0x1E] ++
      [0x01, 0x03, 0x05, 0x08, 0x09, 0x0A, 0x10, 0x11, 0x12, 0x13, 0x14, 0x15, 0x16, 0x1D].map (fun op => op + 3 * 2 ^ 32))) = true := by
  decide +kernel

theorem wit_VectorUnitPutsItsResultsInFlight :
    [1, 2].all (fun k => allIssue k {} [0x20, 0x21, 0x22, 0x18, 0x18 + 3 * 2 ^ 32 + 5 * 2 ^ 34, 0x1F, 0x1B + 2 ^ 31, 0x1C, 0x24,
      0x24 + 2 ^ 31 + 9 * 2 ^ 34, 0x25, 0x25 + 2 ^ 31 + 520 * 2 ^ 34, 0x26, 0x00]) = true ∧
    allIssue 2 {} [0x30, 0x30 + 2 ^ 34, 0x31, 0x32, 0x33, 0x34] = true := by decide +kernel

theorem wit_StoresWriteExactlyTheirBytes :
    allIssue 3 {} [0x02, 0x04, 0x08, 0x09, 0x0A, 0x08 + (2 ^ 17) * 2 ^ 18, 0x02 + 2 ^ 54 + 31 * 2 ^ 46] = true := by decide +kernel

theorem wit_LoadsPutTheirBytesInFlight :
    let x := checked 0 128 { sreg := [(1, 32), (2, 64), (3, 128)] }
    allIssue 3 x [0x01, 0x03, 0x05, 0x06, 0x07, 0x0B + 2 ^ 36, 0x0C + 2 * 2 ^ 36, 0x0D + 3 * 2 ^ 36] = true ∧
    (spWords (x.addr 0x05 64) 4096).all (fun v => x.scr.syndrome Space.scratch 0 v = 0) = true ∧
    ([0x0B + 2 ^ 36, 0x0C + 2 * 2 ^ 36, 0x0D + 3 * 2 ^ 36].all fun w => (List.range (ttK (w % 256))).all fun i =>
      (spWords ((x.addr w 64 + i * x.ttStride w) % spSize) (ttRow (w % 256))).all fun v => x.scr.syndrome Space.scratch 0 v = 0) = true := by
  decide +kernel

theorem wit_LSlotMovesReadoutsAndLanes :
    let x := checked 0 36 { sreg := [(1, 16), (2, 4096)] }
    allIssue 3 x [0x0E, 0x0F, 0x10, 0x11, 0x12 + 2 * 2 ^ 13 + 2 ^ 46, 0x13, 0x00] = true ∧ x.lsaddN (0x12 + 2 ^ 46) = 16 ∧
    (spWords (x.laneAddr 0) (18 * 64)).all (fun v => x.scr.syndrome Space.scratch 0 v = 0) = true ∧
    overlaps (x.addr (0x12 + 2 * 2 ^ 13 + 2 ^ 46) 64) (18 * 16) (x.laneAddr 0) (18 * 16) = false := by decide +kernel

theorem wit_MSlotPassesReadoutsAndRamp :
    allIssue 0 {} [0x10, 0x10 + 11 * 2 ^ 8 + 11 * 2 ^ 12, 0x11, 0x20, 0x01, 0x00] = true ∧
    (tileSt 0 { latchValid := true, ramp := .warm }).issues 0 0 0 = false ∧
    (let y : Tile := { ramp := .up }; y.ramp = .up ∧ y.rampAt + 32 ≤ 32) ∧
    (let y : Tile := { ramp := .warm, arrayFree := 64 }; y.ramp = .warm ∧ y.rampAt < y.arrayFree ∧ y.arrayFree ≤ 64) ∧
    (let y : Tile := { ramp := .down }; y.ramp = .down ∧ y.rampAt + 32 ≤ 32) := by decide +kernel

theorem wit_NSlotControlSendsWindowsAndKnots :
    let x : Tile := { sreg := [(1, 64 * 2 ^ 36)] }
    allIssue 4 {} [0x20, 0x21, 0x22, 0x2F, 0x32, 0x40 + 2 ^ 32, 0x43, 0x41 + 2 ^ 8 + 2 ^ 32, 0x42 + 2 ^ 8 + 2 ^ 32] = true ∧
    allIssue 4 x [0x30 + 2 ^ 14 + 2 ^ 27] = true ∧ x.freeSlot = some 0 ∧
    ({ x with sends := [(0, 1), (1, 2), (2, 3), (3, 4)] } : Tile).freeSlot = none ∧
    allIssue 4 { x with sends := [(0, 1), (1, 2), (2, 3), (3, 4)] } [0x30 + 2 ^ 14 + 2 ^ 27] = true ∧
    (let y : Tile := { sreg := [(1, 512 * 2 ^ 21)], wins := [(1, { isOpen := true, knot := 7 })] }
     let w (k : Nat) := 0x31 + 2 ^ 16 + 2 ^ 21 + k * 2 ^ 30
     ∀ k ∈ [7, 8], let s := tileSt (bund 4 (w k)) y
       s.issuable 0 4 0x31 = true ∧ (s.tile 0).operandsOk ((s.tile 0).bundle (s.tile 0).pc) = true ∧
       (∀ d ∈ (slotInfo 4 (w k)).dsts, ((s.tile 0).closeWin s.clk.edge (bits (w k) 26 4)).pendingDest d = false) ∧
       (s.tile 0).wins.any (fun v => v.1 ≠ bits (w k) 26 4 && v.2.isOpen && v.2.knot = bits (w k) 30 16) = decide (k = 7)) ∧
    ({ waits := [⟨1, 0⟩] } : Tile).waits.any (fun v => v.pd = 1) = true := by decide +kernel

theorem wit_TileResultsHoldsAndLimits :
    (let x : Tile := { inflight := [⟨kS 1, [(0, 7, 2 ^ 64 - 1)], 10, 9, 4⟩] }
     let ready := x.inflight.filter (x.ripe 10)
     ready.find? (collides ready) = none ∧ ready = [⟨kS 1, [(0, 7, 2 ^ 64 - 1)], 10, 9, 4⟩]) ∧
    (let r : Result := ⟨kS 1, [(0, 7, 2 ^ 64 - 1)], 10, 9, 4⟩
     let x : Tile := { inflight := [r, { r with slot := 3 }] }
     (x.inflight.filter (x.ripe 10)).find? (collides (x.inflight.filter (x.ripe 10))) = some r) ∧
    (let s := { tileSt (bund 4 (0x04 + 2 ^ 13)) { absent := [(kS 1, 0)] } with clk := { edge := 1 } }
     let x := s.tile 0
     s.panelOfTile 0 = some 0 ∧ (s.panel 0).run = some { startIn := 0 } ∧ s.isLive 0 = true ∧ s.pst 0 = PS.running ∧ x.run = true ∧ x.held = false ∧
       s.stopped 0 0 = false ∧ s.clk.inWindow = false ∧ x.slots = 0#5 ∧ x.ended = false ∧ x.imem.syndrome Space.imem 0 x.pc = 0#16 ∧
       bundleLegal (x.bundle x.pc) = true ∧ x.owes s.clk.edge = false ∧ 0 < s.lateCause 0 (x.bundle x.pc) ∧ s.lateCause 0 (x.bundle x.pc) < 8) ∧
    (let s := { tileSt 0 { lateSince := some 0 } with csr := (regs [(Reg.STI_COUNT_COUNT, 2000000), (Reg.LAT_FREEZE_LIMIT_LIMIT_US, 1000)]).csr }
     (s.tile 0).lateSince = some 0#64 ∧ (s.tile 0).run = true ∧ s.rd Reg.LAT_FREEZE_LIMIT_LIMIT_US ≠ 0 ∧
       stDiff 0 s.now > (s.rd Reg.LAT_FREEZE_LIMIT_LIMIT_US * 1000 : Nat)) ∧
    (regs [(Reg.LAT_FREEZE_LIMIT_LIMIT_US, 0)]).rd Reg.LAT_FREEZE_LIMIT_LIMIT_US = 0 ∧ (State.reset.tile 0).lateSince = none ∧
    (let s := tileSt 0 { cy := 1 }; s.panelOfTile 0 = some 0 ∧ (s.panel 0).run = some { startIn := 0 } ∧ (s.tile 0).run = true ∧ 0 < (s.tile 0).cy) ∧
    (tileSt 0 { cy := 2 ^ 40 - 1 }).tile 0 = { (tileSt 0).tile 0 with cy := 2 ^ 40 - 1 } ∧
    (let s := { tileSt 0 { maskIn := some (0, 5#512) } with clk := { edge := 1 } }
     (s.tile 0).maskIn = some (0, 5#512) ∧ 0 < s.clk.edge ∧ 0 < s.tiers ∧ (tileSt 0).clk.edge ≤ 0) ∧
    (let x : Tile := { sends := [(2, 3)] }; sget 0 x.sends 2 = 3 ∧ sget 0 x.sends 1 = 0) ∧
    State.reset.noc.flights.any (fun f => f.ofSlot (State.reset.feid (epTile 0)) 2 0) = false ∧
    ({ pkt := {}, slot := 3, loc := .inject 0 } : Flight).ofSlot 0 2 0 = true := by decide +kernel

theorem wit_TilePortsWindowsAndTheTileWindow_sums :
    ([({ word := 33, mask := BitVec.allOnes 32, data := 9#256, since := 0, id := 0, rmw := true, fp := true } : BufWrite),
        { word := 33, mask := 1#32, data := 0#256, since := 0, id := 0, rmw := true, lanes := [(1050, 5#144)] }].all fun b =>
      ({ netBuf := [b] } : Tile).portBuf false == [b] && b.rmw && (b.fp || (b.lanes == [(1050, 5#144)] && decide (1050 < spSize)))) = true ∧
    ({ State.reset with clk := { inWindow := true } } : State).clk.inWindow = true := by decide +kernel

theorem wit_TilePortsWindowsAndTheTileWindow :
    (let b : BufWrite := { word := 33, mask := 1#32, data := 9#256, since := 0, id := 0 }
     let x : Tile := { netBuf := [b] }
     (x.portBuf false).find? (fun b => b.word % 32 = 1) = some b ∧ x.orphanWord 0 b.id = false ∧ x.lstores = [] ∧ x.resv.contains (1, 0) = false ∧
       x.vertBuf = [] ∧ (x.mergeFull b.word).isNone = true ∧ b.rmw = false ∧ (∀ b ∈ x.portBuf false, b.word % 32 ≠ 0)) ∧
    (({ merge := [⟨5, BitVec.allOnes 32, 7⟩] } : Tile).mergeOf 5).isSome = true ∧ ({} : Tile).resv.contains (5, 0) = false ∧
    (let f : Flight := { pkt := { op := 0, knot := 9, knv := true }, loc := .eject (epTile 0) }
     let s := { State.reset with noc := { flights := [f] } }
     s.tileOn 0 = true ∧ s.ejected (epTile 0) Packet.isData = some (0, f) ∧ f.taken ≠ 1 ∧ (s.tile 0).wins = []) ∧
    (let f : Flight := { pkt := { op := 0, knot := 9, knv := true, len := 1, payload := bytesOf 64 5 }, loc := .eject (epTile 0) }
     let v : Window := { isOpen := true, knot := 9, dk := true, len := 64 }
     let s := { tileSt 0 { wins := [(0, v)] } with noc := { flights := [f] } }
     let x := s.tile 0
     s.tileOn 0 = true ∧ s.ejected (epTile 0) Packet.isData = some (0, f) ∧ f.taken ≠ 1 ∧
       x.wins.find? (fun v => v.2.takes s.clk.edge f.pkt.knot && f.pkt.knv) = some (0, v) ∧ v.mode = 0 ∧ f.pkt.op = POp.write ∧
       512 * ((f.pkt.rtag + 2 ^ 32 - v.tag) % 2 ^ 24) < v.len ∧
       512 * ((f.pkt.rtag + 2 ^ 32 - v.tag) % 2 ^ 24) + f.pkt.payload.length < v.len + 64 ∧ f.pkt.payload ≠ [] ∧
       x.done.all (fun d => d.id ≠ x.nextId) = true ∧ x.netAt ≠ some s.clk.edge) ∧
    (let s := tileSt 0 { tabIn := [{ word := 0, mask := 1#32, data := 0#256, since := 0, id := 0 }] }
     s.ejected (epTile 0) Packet.isData = none ∧ s.tileOn 0 = true ∧ (s.tile 0).netIn = [] ∧ (s.tile 0).netAt ≠ some s.clk.edge ∧
       (s.tile 0).tabIn ≠ []) ∧
    State.reset.ejected (epTile 0) Packet.isData = none ∧ (regs [(Reg.PWR_DOM_STATE 0, 1)]).tileOn 0 = false ∧
    (let s := { regs [(Reg.TILE_SEL_SITE, 31)] with tileGo := some (0, false, false) }
     s.tileGo = some (0, false, false) ∧ s.tileSel 0 = none) ∧
    (let s := { tileSt 0 with tileGo := some (0, false, false) }
     s.tileSel 0 = some 0 ∧ s.windowPermitted 0 0 = false) ∧
    (∀ sp ∈ [4, 0], let s := { regs [(Reg.TILE_MEM_ADDR_SPACE, sp)] with tileGo := some (0, false, false) }
      s.tileSel 0 = some 0 ∧ s.windowPermitted 0 0 = true ∧ s.tileOn 0 = true ∧ (s.tile 0).merge = [] ∧
        s.rd Reg.TILE_MEM_ADDR_SPACE = sp ∧ s.rd Reg.TILE_MEM_ADDR_INDEX < 32) := by decide +kernel

/-! ## Witnesses: the network -/

/-- The state after reset with packets in the network, a directory bank, and panel 0 on all rows. -/
def netSt (fl : List Flight) (bank : Store (Option (BitVec 64)) := []) : State :=
  { regs (part 0 (2 ^ 32 - 1) PS.running) with noc := { flights := fl, bank0 := bank } }

/-- A knot operation in flight, with `kop` in its first bits. -/
def knotPkt (kop : Nat) (dst : Nat := 1) : Packet :=
  { dst := dst, op := POp.knot, len := 1, knot := 1, knv := true, dloc := dlocOf dst, payload := bytesOf 64 kop }

/-- A packet that needs no lookup: a congestion echo to tile 1 of this device. -/
def selfPkt : Packet := { dst := 1, src := epHost 64, tc := 1, ce := true, op := POp.ctrl }

theorem wit_PacketsEnterCrossAndLeave :
    State.reset.nextOut 0 = none ∧ State.reset.clk.inWindow = false ∧ ({ State.reset with clk := { inWindow := true } } : State).clk.inWindow = true ∧
    (let f : Flight := { pkt := { dst := 5 }, loc := .inject 0 }
     let s := netSt [f]
     s.nextOut 0 = some (0, f) ∧ s.headOf 0 true = some (0, f) ∧ s.mayLeave 0 (0, f) = true ∧
       s.fate 0 f.pkt = .drop St.UNKNOWN_FEID ∧ s.panelOfEp 0 = some 0 ∧ s.isLive 0 = true) ∧
    (let f : Flight := { pkt := { dst := 16384, ce := true, op := POp.ctrl, tc := 1 }, loc := .inject 0 }
     let s := netSt [f]
     s.nextOut 0 = some (0, f) ∧ s.fate 0 f.pkt = .noRoute 1 0) ∧
    (let f : Flight := { pkt := selfPkt, loc := .inject (epHost 64) }
     let s := netSt [f]
     s.nextOut (epHost 64) = some (0, f) ∧ (match s.fate (epHost 64) f.pkt with | .go p none => p.op != POp.sadd | _ => false) = true) ∧
    (let f : Flight := { pkt := knotPkt 0 5, loc := .buf .x true (posOfTile 0) }
     let s := netSt [f]
     s.noc.flights[0]? = some f ∧ f.loc.inRings = true ∧ (s.nextHop f).any (fun h => s.granted 0 f h.1 h.2) = true ∧ f.pkt.sound = true ∧
       (let g : Flight := { f with pkt := { f.pkt with bad := true } }; g.pkt.sound = false) ∧ (Loc.eject 0).stored = true ∧ (Loc.eject 0).inRings = false ∧ f.taken = 0) ∧
    (let g : Packet := { dst := 5, op := POp.sadd, len := 1, payload := bytesOf 64 1 }
     combines g g = true ∧ State.reset.bit Reg.FAB_NOC_CTL_COMB_DIS = false) ∧
    (let f : Flight := { pkt := knotPkt 0, loc := .entry (posOfTile 0), out := some 2 }
     f.loc.inRings = true ∧ State.reset.nextHop f = none ∧ State.reset.arrived f = true ∧ State.reset.egressDead 2 = true ∧ (regs [(Reg.LNK_PSTAT_STATE 2, 4)]).egressDead 2 = false ∧
       State.reset.roomFor (.egress 2) 1 = true) ∧
    (let f : Flight := { pkt := knotPkt 0, loc := .eject 1 }
     (netSt [f]).noc.flights[0]? = some f ∧ f.pkt.kop < 6 ∧ ((netSt [f]).home (homeOfEp 1)).length < 8 ∧ (netSt [f]).homeTurn (homeOfEp 1) f = true) ∧
    (let f : Flight := { pkt := { dst := 1, op := 0, dloc := dlocOf 1 }, loc := .entry (posOfTile 1) }
     let s := netSt [f]
     s.arrived f = true ∧ s.ejectCheck 1 f.pkt = none ∧ (epOfDloc f.pkt.dloc).getD 8472 = 1 ∧ s.roomFor (.eject 1) 1 = true ∧
       s.ejectCheck 1 { f.pkt with dst := 2 } = some St.STALE_ROUTE) := by
  decide +kernel

theorem wit_CongestionEchoesAndRates :
    State.reset.noc.flights[0]? = none ∧
    (let f : Flight := { pkt := { dst := 1, ce := true, tc := 1, op := POp.ctrl, dloc := dlocOf 1 }, loc := .entry (posOfTile 1) }
     let s := netSt [f]
     (epOfDloc f.pkt.dloc).getD 8472 = 1 ∧ f.busy ≤ s.clk.edge ∧ s.arrived f = true ∧ s.ejectCheck 1 f.pkt = none) ∧
    State.reset.now = State.reset.noc.restoredAt ∧
    (let s := { regs [(Reg.STI_COUNT_COUNT, 100000), (Reg.FAB_ECN_CTL_RESTORE_US, 10)] with noc := { rates := [(1, 32768)] } }
     s.now.toNat % (max 1 (s.rd Reg.FAB_ECN_CTL_RESTORE_US) * 1000) = 0 ∧ s.now ≠ s.noc.restoredAt ∧ s.noc.rates.map (fun v => v.2) = [32768]) ∧
    Canonical 65536 [(1, 32768)] := by
  refine ⟨by decide +kernel, by decide +kernel, by decide +kernel, by decide +kernel, ⟨trivial, by decide⟩⟩

/-- The PF as a bus master. -/
def master (s : State := State.reset) : State := { s with fns := sset {} s.fns 0 { bme := true } }

theorem wit_RouteDirectoryIsWrittenAndSwapped :
    (let c := pf 16 (64 + 2 ^ 64)
     specRdirWrite.check c master = St.OK ∧ 1 ≤ c.fld 8 4 ∧ c.fld 8 4 ≤ 65536 ∧ c.fld 0 8 % 64 = 0 ∧ master.noc.upd = none ∧
       master.noc.swapJob = none ∧ master.dmaFail c.fn (c.fld 0 8) (8 * c.fld 8 4) = none ∧
       State.reset.dmaFail c.fn (c.fld 0 8) (8 * c.fld 8 4) = some 64) ∧
    specRdirWrite.check (pf 16 0) State.reset = St.OK ∧
    specRdirWrite.check (pf 16 (64 + 2 ^ 64)) { State.reset with noc := { upd := some ⟨1, St.OK, 0⟩ } } = St.OK ∧
    specRdirCopy.check (pf 0 0) State.reset = St.OK ∧
    (let c := pf 8 5000
     specRdirSwap.check c State.reset = St.OK ∧ BitVec.ofNat 64 (c.fld 0 8) ≠ 0 ∧ 1000 ≤ stDiff State.reset.now (BitVec.ofNat 64 (c.fld 0 8))) ∧
    (let c := pf 8 500
     specRdirSwap.check c State.reset = St.OK ∧ stDiff State.reset.now (BitVec.ofNat 64 (c.fld 0 8)) < 1000) ∧
    (let s := { State.reset with noc := { swapJob := some 3 } }
     specRdirSwap.check (pf 8 0) s = St.OK ∧ BitVec.ofNat 64 ((pf 8 0).fld 0 8) = 0 ∧ s.noc.swapJob = some 3 ∧
       reached s.now (BitVec.ofNat 64 (s.rd Reg.FAB_RDIR_SWAP_AT_STITCH)) = true ∧ s.rd Reg.FAB_RDIR_STAT_ACTIVE < 2) := by decide +kernel

/-! ## Witnesses: ports and links -/

/-- Port `n` in a state of its machine, with what it holds. -/
def portSt (n st : Nat) (x : Port := {}) (l : List (Fld × Nat) := []) : State :=
  let s := regs ((Reg.LNK_PSTAT_STATE n, st) :: l)
  { s with ports := sset {} s.ports n x }

theorem wit_FlitsAreAcceptedInOrder :
    State.reset.portUp 0 = true ∧ (regs [(Reg.PWR_DOM_STATE (domOfPort 0), 1)]).portUp 0 = false ∧
    (portSt 0 LS.down).lst 0 ≠ LS.active ∧ (portSt 0 LS.active).lst 0 = LS.active ∧
    (let s := portSt 0 LS.seamed {} [(Reg.LNK_SEAM_VALID 0, 1), (Reg.LNK_SEAM_PORT_B 0, 1)]
     s.portUp 0 = true ∧ s.lst 0 = LS.seamed ∧ s.seamPartner 0 = some 1 ∧ (portSt 0 LS.seamed).seamPartner 0 = none) ∧
    (portSt 0 LS.param).phase 0 = some 1 ∧ (portSt 0 LS.active).phase 0 = none ∧
    (let f : Flit := { vl := 1 }
     (if State.reset.bit Reg.FAB_NOC_CTL_COMB_DIS then none else joinPair (rxPackets (flitUnits f).length 0 (flitUnits f))) = none) ∧
    (let g : Packet := { dst := 5, op := POp.sadd, tc := 1, len := 1, payload := bytesOf 64 1 }
     joinPair (rxPackets (g.units ++ g.units).length 0 (g.units ++ g.units)) ≠ none) ∧
    (let f : Flit := { vl := 1 }
     f.corr = [] ∧ f.uncorr = false ∧ f.corrupt = false ∧ f.ftype = 0 ∧ f.vl ≠ 3 ∧ f.nak = false ∧ f.fseq.toNat = ((portSt 0 LS.active).port 0).expect ∧
       flitsHeld (((portSt 0 LS.active).port 0).rx f.vl.toNat) < vlBuffers f.vl.toNat) ∧
    (∀ e ∈ [true, false], let x : Port := { expect := 7, episode := e }; x.expect ≠ 0 ∧ x.episode = e) ∧
    ((portSt 0 LS.active { nakIn := true }).port 0).nakIn = true ∧ ((portSt 0 LS.active).port 0).nakIn = false ∧
    (let s := portSt 0 LS.active { episode := true } [(Reg.STI_COUNT_COUNT, 5000), (Reg.LNK_PRTT_RTT_NS 0, 1000)]
     (s.lst 0 = LS.active ∧ (s.port 0).episode = true ∧ s.lasted (s.port 0).nakAt (2 * s.rd (Reg.LNK_PRTT_RTT_NS 0)) = true) ∧
       s.rd Reg.LNK_CTL_NAK_LIMIT > (s.port 0).naksSent + 1) := by decide +kernel

theorem wit_PortsTrainAndFall :
    (let s := portSt 0 LS.elec
     s.portUp 0 = true ∧ s.lst 0 = LS.elec ∧ s.phase 0 = some 2 ∧ (portSt 0 LS.active).phase 0 = none ∧
       (s.part.a1 = true ∧ s.bit Reg.LNK_CTL_X4_EN = true ∨ (regs [(Reg.LNK_CTL_X4_EN, 1)]).bit Reg.LNK_CTL_X4_EN = true)) ∧
    (portSt 0 LS.align).lst 0 = LS.align ∧ (portSt 0 LS.align).phase 0 = some 0 ∧ straightOrder ≠ reversedOrder ∧ (0 : BitVec 24) ≠ straightOrder ∧ (0 : BitVec 24) ≠ reversedOrder ∧
    (portSt 0 LS.param).lst 0 = LS.param ∧ (portSt 0 LS.param).phase 0 = some 1 ∧
    (∀ b ∈ [true, false], let f : TrainFlit := { retrain := b, echo := some 5 }
      f.retrain = b ∧ f.echo = some 5 ∧ ({} : TrainFlit).echo = none) ∧ (portSt 0 LS.param).rd (Reg.LNK_PRTT_RTT_NS 0) = 0 ∧
    (let s := portSt 0 LS.retrain { sub := 1, sentDone := true, recvDone := true }
     s.phase 0 = some 1 ∧ (s.port 0).sentDone = true ∧ (s.port 0).recvDone = true) ∧
    (∀ e ∈ [(LS.elec, trainLimit LS.elec), (LS.align, trainLimit LS.align), (LS.param, trainLimit LS.param), (LS.retrain, 100000000),
        (LS.down, max 1 (State.reset.rd Reg.LNK_CTL_RETRY_MS) * 1000000)],
      (portSt 0 e.1).lst 0 = e.1 ∧ (portSt 0 e.1).lasted 0 e.2 = false ∧
        (portSt 0 e.1 {} [(Reg.STI_COUNT_COUNT, 10 ^ 12)]).lasted 0 e.2 = true) ∧
    (∀ k ∈ [0, 1, 2], let s := portSt 0 LS.down { retry := true, sub := k } [(Reg.STI_COUNT_COUNT, 10 ^ 9)]
      let x := s.port 0
      x.retry = true ∧ s.lasted x.stateAt (trainLimit (if x.sub = 0 then LS.align else if x.sub = 1 then LS.param else LS.elec)) = true) ∧
    (let s := portSt 0 LS.down {} [(Reg.STI_COUNT_COUNT, 10 ^ 12)]
     (s.port 0).retry = false ∧ s.lasted (s.port 0).retryAt (max 1 (s.rd Reg.LNK_CTL_RETRY_MS) * 1000000) = true ∧ s.domOn (domOfPort 0) = true) ∧
    (∀ k ∈ [0, 1], let s := portSt 0 LS.retrain { sub := k } [(Reg.STI_COUNT_COUNT, 10 ^ 9)]
      (s.port 0).sub = k ∧ s.lasted (s.port 0).stateAt (trainLimit LS.align) = true) := by decide +kernel

theorem wit_PortsSendFlitsAndPassPackets :
    (let p : Packet := { dst := 5, tc := 1, len := 1, payload := bytesOf 64 3 }
     let s := portSt 0 LS.active { tx1 := p.units } [(Reg.LNK_PCRED_VL1 0, 4)]
     (s.port 0).ctrlOut = [] ∧ (s.port 0).replayAt = none ∧ (s.port 0).replay = [] ∧ (s.takeEgress 0).pickVl 0 = some 1) ∧
    (∀ c ∈ [[1], [2]], ((portSt 0 LS.active { ctrlOut := [c] }).port 0).ctrlOut = [c]) ∧
    (∀ e ∈ [(LS.param, 1), (LS.align, 0)], (portSt 0 e.1).portUp 0 = true ∧ (portSt 0 e.1).phase 0 = some e.2) ∧
    State.reset.rd Reg.DEV_BOOT_STAT_STAGE ≠ 5 ∧ (portSt 0 LS.down).phase 0 = none ∧
    (let p : Packet := { dst := 5, tc := 1, len := 1, payload := bytesOf 64 3 }
     let s := portSt 0 LS.active { rx1 := p.units }
     s.portUp 0 = true ∧ s.clk.inWindow = false ∧ s.waitingIn 0 1 = none ∧ frontPacket (((s.port 0).takeFront 1 0).rx 1) = some (p, 6) ∧
       p.bad = false ∧ s.loaderIn 0 p = some p ∧ p.vl = 1) ∧
    frontPacket (((portSt 0 LS.active).port 0).takeFront 1 0 |>.rx 1) = none ∧
    (let p : Packet := { dst := 5, tc := 0, len := 1, payload := bytesOf 64 3 }
     let s := portSt 0 LS.active {} [(Reg.FAB_PORTMAP_ROLE 0, Role.loader)]
     s.role? 0 = some Role.loader ∧ s.loaderIn 0 p = none) ∧
    (let s := portSt 0 LS.active { rx1 := ⟨true, false, List.replicate 16 1, 0⟩ :: List.replicate 5 ⟨false, false, List.replicate 16 0, 0⟩ }
     (frontPacket (((s.port 0).takeFront 1 0).rx 1)).map (fun v => v.1.bad) = some true) ∧
    (let p : Packet := { dst := 5, tc := 1, len := 1, payload := bytesOf 64 3 }
     let f : Flight := { pkt := { p with dloc := dlocOf 5 }, loc := .ingress 0 }
     let s0 := portSt 0 LS.active { rx1 := f.pkt.units }
     let s := { s0 with noc := { flights := [f] } }
     s.waitingIn 0 1 = some (0, f) ∧ frontPacket ((s.port 0).rx 1) = some (f.pkt, 6) ∧ f.busy ≤ s.clk.edge ∧ f.pkt.op ≠ POp.sadd ∧ s.egress f.pkt = .go f.pkt none ∧
       s.limHolds 0 f.pkt = false ∧ s.granted 0 f (s.entryLoc f (s.attachPos 0)) 3 = true) ∧
    (portSt 0 LS.seamed).lst 0 = LS.seamed ∧
    (∀ st ∈ [LS.active, LS.down], let s := portSt 0 st { offline := true, offJobs := [4] }
     (s.port 0).offline = true ∧ s.lst 0 = st ∧ (s.port 0).sentAll = true ∧ s.portDrained 0 = true) ∧
    (({ q1 := [({ dst := 1 }, 0)], offline := true } : Port)).sentAll = false := by decide +kernel

theorem wit_PortsAndSeamsByCommand :
    (∀ m ∈ [0, 1, 2, 3, 4], specPortSet.check (pf 2 (256 * m)) State.reset = St.OK ∧ (pf 2 (256 * m)).fld 0 1 = 0 ∧ (pf 2 (256 * m)).fld 1 1 = m) ∧
    State.reset.lst 0 ≠ LS.seamed ∧
    (∀ st ∈ [LS.active, LS.retrain, LS.down], let s := portSt 0 st { offJobs := [4] }
     specPortSet.check (pf 2 512) s = St.OK ∧ s.lst 0 = st ∧ (s.port 0).offJobs = [4]) ∧
    (let s := portSt 0 LS.off {} [(Reg.LNK_PSTAT_STATE 1, LS.off), (Reg.LNK_PSTAT_STATE 4, LS.off)]
     specSeamOpen.check (pf 8 (256 + 9 * 2 ^ 32)) s = St.OK ∧ s.lst 0 = LS.off ∧ s.lst 1 = LS.off ∧ s.seamsOf 0 < 2 ∧ s.freeSeam = some 0 ∧
       specSeamOpen.check (pf 8 (4 * 256)) s = St.OK ∧ s.lst 4 = LS.off) ∧
    (let s := portSt 0 LS.seamed {} [(Reg.LNK_PSTAT_STATE 1, LS.seamed), (Reg.LNK_SEAM_VALID 0, 1), (Reg.LNK_SEAM_PORT_B 0, 1), (Reg.LNK_SEAM_JOB 0, 9)]
     specSeamClose.check (pf 8 (9 * 2 ^ 32)) s = St.OK ∧ s.bit (Reg.LNK_SEAM_VALID 0) = true ∧ s.rd (Reg.LNK_SEAM_JOB 0) = (pf 8 (9 * 2 ^ 32)).fld 4 4 ∧
       s.rd (Reg.LNK_SEAM_PORT_A 0) < 24 ∧ s.rd (Reg.LNK_SEAM_PORT_B 0) < 24 ∧ (∀ m, m < 12 → m ≠ 0 → s.bit (Reg.LNK_SEAM_VALID m) = false)) ∧
    specSeamOpen.check (pf 8 256) (portSt 0 LS.active) = St.OK ∧ (portSt 0 LS.active).lst 0 ≠ LS.off := by decide +kernel

/-! ## Witnesses: the fabric -/

theorem wit_DiscoveryFollowsIdentityFrames :
    (let s := portSt 0 LS.active
     s.portPresent 0 = true ∧ s.lst 0 = LS.active ∧ (s.port 0).identAt = none) ∧
    (let s := portSt 0 LS.active { identAt := some 0, lastIdent := (portSt 0 LS.active).ident 0 }
     s.lasted 0 (max 1 (s.rd Reg.FAB_CTL_IDENT_US) * 1000) = false ∧ (s.port 0).lastIdent = s.ident 0) ∧
    (let f : IdentFrame := { rootSerial := 9, valid := true, role := 0, coord := 1 }
     State.reset.adopts f = true ∧
     let s := portSt 0 LS.active {} [(Reg.FAB_ROOT_SERIAL_SERIAL, 9), (Reg.FAB_STAT_DSTATE, 1), (Reg.FAB_PORTMAP_ROLE 0, 0)]
     s.adopts f = false ∧ s.rd Reg.FAB_STAT_DSTATE ≠ 0 ∧ s.role? 0 = some 0 ∧ s.bit (Reg.FAB_PORTMAP_MISWIRED 0) = false ∧ f.valid = true ∧
       s.sameRoot f = true ∧ s.passes 0 0 f = true ∧ s.passes 0 0 { f with coord := 2 } = false) ∧
    (∀ c ∈ [true, false], let f : IdentFrame := { rootSerial := 9, valid := false }
      let s := portSt 0 LS.active { checked := c } [(Reg.FAB_ROOT_SERIAL_SERIAL, 9), (Reg.FAB_STAT_DSTATE, 1), (Reg.FAB_PORTMAP_ROLE 0, 0)]
      s.adopts f = false ∧ s.rd Reg.FAB_STAT_DSTATE ≠ 0 ∧ s.role? 0 = some 0 ∧ f.valid = false ∧ (s.port 0).checked = c ∧
        s.bit (Reg.FAB_PORTMAP_MISWIRED 0) = false) ∧
    State.reset.fab.firstActive = none ∧
    (let s := { regs [(Reg.STI_COUNT_COUNT, 2000000)] with part := { rootSel := true }, fab := { firstActive := some 0 } }
     s.fab.firstActive = some 0#64 ∧ s.part.rootSel = true ∧ s.fab.strapDone = false ∧ s.lasted 0 1000000 = true ∧ s.clk.roleSet = false) ∧
    (let s := { regs [(Reg.STI_COUNT_COUNT, 20000)] with fab := { candAt := some 0, cands := [⟨1, 0, 0, 0⟩] } }
     s.fab.candAt = some 0#64 ∧ bestCand s.fab.cands = some ⟨1, 0, 0, 0⟩ ∧ s.rd Reg.FAB_STAT_DSTATE = 0 ∧ s.lasted 0 20000 = true ∧
       s.lasted 1 20000 = false) ∧
    (let s := regs [(Reg.STI_COUNT_COUNT, 1000000), (Reg.FAB_STAT_DSTATE, 1)]
     s.rd Reg.FAB_STAT_DSTATE = 1 ∧ s.lasted s.fab.checkAt 1000000 = true) ∧
    (let s := { regs [(Reg.STI_COUNT_COUNT, 10000000)] with fab := { rootAt := some 0 } }
     s.rd Reg.FAB_STAT_DSTATE = 0 ∧ s.lasted 0 10000000 = true) := by decide +kernel

theorem wit_FabricCommands :
    specFabDiscover.check (pf 5 11) State.reset = St.OK ∧ 10 < (pf 5 11).fld 0 1 ∧
    (∀ v ∈ [0, 1], let c := pf 5 (3 + 2 ^ 16 + v * 2 ^ 32)
      specFabDiscover.check c State.reset = St.OK ∧ c.fld 0 1 ≤ 10 ∧ c.fld 2 2 < 2 ^ c.fld 0 1 ∧ c.fld 1 1 ≤ 4 ∧ c.fld 1 1 ≤ c.fld 0 1 ∧
        c.fld 4 1 % 2 = v ∧ ∀ p, p < 16 → State.reset.pst p = PS.empty) ∧
    (regs (part 0 1 PS.running)).pst 0 = PS.running ∧
    (let c := pf 3 (9 * 256 + 2 ^ 16)
     specFabPortRole.check c State.reset = St.OK ∧ isRole (c.fld 1 1) = true ∧ c.fld 2 1 < 4 ∧ State.reset.inService 0 = false ∧
       ∀ k, k < 24 → ¬ (State.reset.rd (Reg.FAB_PORTMAP_ROLE k) = 9 ∧ State.reset.rd (Reg.FAB_PORTMAP_MEMBER k) = 1)) ∧
    (let s := portSt 0 LS.active { checked := true } [(Reg.FAB_PORTMAP_ROLE 0, 2)]
     specFabPortRole.check (pf 3 (9 * 256 + 2 ^ 16)) s = St.OK ∧ s.inService 0 = true) ∧
    specFabPortRole.check (pf 3 (4 * 2 ^ 16)) State.reset = St.OK ∧ specFabPortService.check (pf 2 256) State.reset = St.OK ∧
    specFabPortService.check (pf 2 512) State.reset = St.OK := by decide +kernel

/-! ## Witnesses: knots -/

/-- Knot 0, of panel 0 with tenant 1, with its home's queue and its own contents. -/
def knotSt (os : List KnotOp) (x : Knot := {}) (ts : Store Tile := []) : State :=
  { regs (part 0 (2 ^ 32 - 1) PS.running) with homes := sset [] [] 0 os, knots := sset {} [] 0 x, tiles := ts }

theorem wit_KnotOperationsAtTheHome :
    (knotSt []).knotOwner 0 = some 0 ∧ (knotSt []).tenant 0 = 1 ∧ (knotSt []).knotHome 0 = 0 ∧ State.reset.frontOp 0 0 false = none ∧
    (∀ k ∈ [0, 5, 1, 2, 3, 4], let o : KnotOp := { kop := k, knot := 0, value := 1, tenant := 1 }
      (knotSt [o]).frontOp 0 k false = some o ∧ (knotSt [{ o with tenant := 2 }]).frontOp 0 k false = some { o with tenant := 2 } ∧
      ({ State.reset with homes := [(0, [o])] } : State).frontOp 0 k false = some o ∧ State.reset.knotOwner 0 = none) ∧
    (let o : KnotOp := { kop := 0, knot := 0, value := 1, tenant := 1, src := 4352 }
     ((knotSt [o]).knot 0).stuck = false ∧ ((knotSt [o]).knot 0).count + o.value < 2 ^ 32 ∧ (knotSt [o]).opPanel o = none ∧
       (knotSt [o]).opPanel { o with panel := some 0 } = some 0 ∧ (knotSt [o]).isLive 0 = true ∧ (knotSt [o]).isLive 3 = false) ∧
    (let s := { knotSt [] { count := 2 ^ 32 - 1 } with csr := (regs (part 0 (2 ^ 32 - 1) PS.stopped)).csr }
     2 ^ 32 ≤ (s.knot 0).count + 1 ∧ (s.knot 0).stuck = false ∧ s.isLive 0 = false ∧ s.knotOwner 0 = some 0) ∧
    ((knotSt [] { stuck := true }).knot 0).stuck = true ∧
    (let o : KnotOp := { kop := 1, knot := 0, value := 2, tenant := 1, token := 3 }
     let s := knotSt [o] {} [(0, { waits := [⟨3, 0⟩] })]
     s.orphan o = false ∧ (s.knot 0).waiters = [] ∧ s.entriesAt 0 < s.entriesOf 0 ∧ s.maySet { o with kop := 4 } = true ∧
       s.maySet { o with kop := 4, panel := some 3 } = false ∧ (s.knot 0).count + 1 < o.value ∧ 1 ≤ (s.knot 0).count + 1) := by decide +kernel

theorem wit_GrantsRefusalsAndTimeouts :
    State.reset.answerAt 0 6 = none ∧ State.reset.answerAt 0 7 = none ∧
    (∀ k ∈ [6, 7], let f : Flight := { pkt := { knotPkt (k + 3 * 2 ^ 8) 0 with knot := 0 }, loc := .eject 0 }
      let s0 := knotSt [] {} [(0, { waits := [⟨f.pkt.knotOp.token, 0⟩] })]
      let s := { s0 with noc := { flights := [f] } }
      s.answerAt 0 k = some (0, f) ∧ ((s.tile 0).endWait f.pkt.knotOp.token f.pkt.knot).isSome = true ∧
        ({} : Tile).endWait f.pkt.knotOp.token f.pkt.knot = none) ∧
    (∀ k ∈ [6, 7], let f : Flight := { pkt := knotPkt k, loc := .eject (epHost 0) }
      let s := { State.reset with noc := { flights := [f] }, jobs := [{ id := 9, opcode := 0x0602, cmd := {}, cq := 0, idx := none, token := some f.pkt.knotOp.token }] }
      s.answerAt (epHost 0) k = some (0, f) ∧ s.waitJob f.pkt.knotOp.token = some 9) ∧
    (let w : Waiter := { feid := 4352, all := false, n := 1, prio := 0, token := 1, at_ := 0, timeout := some 5, job := some 1 }
     let s := { knotSt [] { waiters := [w] } with csr := (regs ((Reg.STI_COUNT_COUNT, 5) :: part 0 (2 ^ 32 - 1) PS.running)).csr }
     (s.knot 0).waiters.find? (fun w => w.job = some 1) = some w ∧ w.timeout = some 5 ∧ reached s.now 5 = true ∧
       s.removing (s.knotHome 0) 1 = false ∧ s.inTurn Ev.knotTimeout = true) ∧
    (let w : Waiter := { feid := 4352, all := false, n := 1, prio := 0, token := 1, at_ := 0, job := some 1 }
     let o : KnotOp := { kop := 7, knot := 0, job := some 1, remove := true }
     (knotSt [o]).frontOp 0 7 true = some o ∧ ((knotSt [o] { waiters := [w] }).knot 0).waiters.any (fun w => w.job = o.job) = true ∧
       ((knotSt [o]).knot 0).waiters.any (fun w => w.job = o.job) = false) ∧
    (let w : Waiter := { feid := 3, all := false, n := 1, prio := 0, token := 1, at_ := 0 }
     let s := { knotSt [] { waiters := [w] } with csr := (regs [(Reg.STI_COUNT_COUNT, 5000), (Reg.DBG_KNOT_CTL_LEND_US, 5)]).csr }
     (s.knot 0).waiters[0]? = some w ∧ (s.srcTile w.feid).isSome = true ∧ w.lent = false ∧ s.rd Reg.DBG_KNOT_CTL_LEND_US ≠ 0 ∧
       s.rd Reg.DBG_KNOT_CTL_LEND_US * 1000 ≤ (s.now - w.at_).toNat) := by decide +kernel

theorem wit_GrantsRefusalsAndTimeouts_hosts :
    ∀ k ∈ [6, 7], ∀ e ∈ [0, 5], let f : Flight := { pkt := knotPkt k, loc := .eject (epHost e) }
      let s := { State.reset with noc := { flights := [f] } }
      s.answerAt (epHost e) k = some (0, f) ∧ 1088 ≤ epHost e ∧ s.waitJob f.pkt.knotOp.token = none ∧ (epHost e = epHost 0 ↔ e = 0) := by
  decide +kernel

theorem wit_HostCommandsOnKnots :
    (let s := knotSt []
     specKnotSignal.check (pf 8 (2 ^ 32)) s = St.OK ∧ 1 ≤ (pf 8 (2 ^ 32)).fld 4 4 ∧ specKnotSignal.check (pf 8 0) s = St.OK ∧
     specKnotWait.check (pf 16 (2 ^ 32)) s = St.OK ∧ (pf 16 (2 ^ 32)).fld 8 1 ≤ 3 ∧ specKnotWaitall.check (pf 16 (2 ^ 32)) s = St.OK ∧
     (pf 16 (2 ^ 32)).fld 4 2 = 1 ∧ specKnotBroadcast.check (pf 2 0) s = St.OK ∧ specKnotSet.check (pf 8 0) s = St.OK ∧
     specKnotRead.check (pf 2 0) s = St.OK ∧ (pf 2 0).fld 0 2 = 0 ∧ (pf 2 0).pnl = none ∧ s.knotOwner 0 = some 0) ∧
    (let s := knotSt []
     specKnotRead.check (pf 2 0 1) s = St.OK ∧ (pf 2 0 1).pnl = some 1 ∧ specKnotSet.check (pf 8 0 1) s = St.OK) ∧
    (let s := { knotSt [] with csr := (regs ((Reg.DBG_AUTH_STAT_PF_AUTH, 1) :: part 0 (2 ^ 32 - 1) PS.running)).csr }
     specKnotSet.check (pf 8 0) s = St.OK ∧ (s.rd Reg.DBG_AUTH_STAT_PF_AUTH).testBit 0 = true ∧ s.knotOwner 0 = some 0) ∧
    specKnotRead.check (pf 2 0) State.reset = St.OK ∧ State.reset.knotOwner 0 = none ∧ (knotSt []).rd Reg.DBG_AUTH_STAT_PF_AUTH = 0 := by
  decide +kernel

/-! ## Witnesses: integrity -/

theorem wit_FillsAndRetirements :
    specMemFill.check (pf 12 4) State.reset = St.OK ∧ State.reset.fillRefused (pf 12 4) = some St.INTEGRITY_REFUSED ∧
    specMemFill.check (pf 12 (2 ^ 64)) State.reset = St.OK ∧ State.reset.fillRefused (pf 12 (2 ^ 64)) = none ∧
    (let f : FillJob := { job := 3, pages := [(5, 6)], tiles := [] }
     let s := { State.reset with integ := { fills := [f] } }
     s.integ.fills.find? (fun f => f.job = 3) = some f ∧ s.bobOfPage 5 = some 0 ∧ s.bobOn 0 = true ∧
       s.integ.fills.find? (fun f => f.job = 4) = none) ∧
    (regs [(Reg.PWR_DOM_STATE 64, 1)]).bobOn 0 = false ∧ State.reset.tileOn 0 = true ∧
    (let c := pf 8 (5 * 2 ^ 32)
     specMemRetire.check c State.reset = St.OK ∧ c.fld 0 1 = 0 ∧ c.fld 1 1 = 0 ∧ State.reset.retireOwner 0 5 = some none) ∧
    (∀ k ∈ [0, 1, 2], State.reset.retireOwner k 1 = some none) ∧ State.reset.retireOwner 3 1 = none ∧
    specMemRetire.check (pf 8 (256 + 5 * 2 ^ 32)) State.reset = St.OK ∧ (knotSt []).pst 0 ≠ PS.empty ∧
    ((knotSt []).retireOwner 0 5) = some (some 0) ∧ specMemRetire.check (pf 8 (256 + 5 * 2 ^ 32)) (knotSt []) = St.OK := by decide +kernel

theorem wit_FillsAndRetirements_pages :
    (let c := pf 12 (5 * 2 ^ 32 + 2 ^ 64)
     let d := fillDesc (bobTier 0) (5, 1)
     specMemFill.check c State.reset = St.OK ∧ State.reset.fillRefused c = none ∧ c.fld 0 1 = 0 ∧ c.fld 8 4 = 1 ∧
       State.reset.bobOfPage (c.fld 4 4) = some 0 ∧ (State.reset.bob 0).svcQ.length < 16 ∧ (State.reset.bob 0).svcHold = [] ∧
       State.reset.checkDesc 0 false c.pnl d.toNat = St.OK) ∧
    (∀ n ∈ [0, 1], ({ job := 3, pages := [], tiles := [0], left := n } : FillJob).left = n ∧ [0].all State.reset.tileOn = true ∧
      [0].all (regs [(Reg.PWR_DOM_STATE 0, 1)]).tileOn = false) := by decide +kernel

theorem wit_FaultLogKeepsTheNewest :
    State.reset.rd Reg.INT_FLOG_HEAD_SEQ = 0 ∧ State.reset.rd Reg.INT_FLOG_TAIL_SEQ = 0 ∧
    (let s := regs [(Reg.INT_FLOG_HEAD_SEQ, 4096)]
     (s.rd Reg.INT_FLOG_HEAD_SEQ + 2 ^ 32 - s.rd Reg.INT_FLOG_TAIL_SEQ) % 2 ^ 32 = 4096) ∧
    (let s := regs [(Reg.INT_FLOG_HEAD_SEQ, 4095)]
     (s.rd Reg.INT_FLOG_HEAD_SEQ + 2 ^ 32 - s.rd Reg.INT_FLOG_TAIL_SEQ) % 2 ^ 32 = 4095) ∧
    (let s := { State.reset with fns := [(0, { msixOn := true, unmasked := [0] })] }
     (s.fnc 0).msixOn = true ∧ 0 ∈ (s.fnc 0).unmasked) ∧ (State.reset.fnc 0).msixOn = false ∧
    (let s := regs [(Reg.INT_FLOG_HEAD_SEQ, 5), (Reg.DEV_BOOT_STAT_STAGE, BS.ready)]
     s.reachable 0 = true ∧ s.stage ≠ BS.waitPush ∧ (s.rd Reg.INT_FLOG_HEAD_SEQ + 2 ^ 32 - 3) % 2 ^ 32 ≤ 4096 ∧
       ¬ (s.rd Reg.INT_FLOG_HEAD_SEQ + 2 ^ 32 - 9) % 2 ^ 32 ≤ 4096) := by decide +kernel

/-! ## Witnesses: weights -/

/-- A signed manifest of model 3, generation 5: one device, one layer, one segment of 64 zero bytes (R300 to R304). -/
def mfImage : List Byte := bytesOf 416
  0xf7d739ca5ef3722a3c25aa94769c9ddadee5d17d75fcebd249fe9a44573ca1c0aad819a11366b517b1e0a83e2012432c971050bd3efaebe1e1a23858e7d59e012af4a131cecd50f646e06c8d69ee049595cccf243aa32282bec6fae8367cd129bedeb6978ebaba4a4c8869036162440c1b287320bce48f3c8b381a70c3f2133ad2c099709326686c637c453b8daa16c500000000000000400001000000000000bdd43788ed7ea94778d72ded06b682bca2c6b180aaf1d7af8f4f5c78ad85ad9d3db48e8058a6643b5bc00cb683eb83120000000000000040000000010000000000000000000000000000000000000000000000000000000000000000000000008741db24782054fca50dd92d97a93ced727c6554ae1ef585ef68d5ca7db1175cc9f3365a510bbe333de41992afd2307a81f1bc0273dc760c16aae8914e05ae4482757f2f52be47ffe5c15689bc817774644af0dd813039f73bbfdcef55f9606400000000000000000000000000000000000000000000000000000000000000000000000000000001000000010000000500000000000000030001000154464e4d

/-- SHA-384 of its public key, as the six words of the partition entry. -/
def mfKeyHash : List (Fld × Nat) := [(Reg.PNL_PART_KEY_HASH 0 0, 0x53d85f5cef5d2631), (Reg.PNL_PART_KEY_HASH 0 1, 0x6d008811ae1ddf8d), (Reg.PNL_PART_KEY_HASH 0 2, 0x91972d83b7236c47), (Reg.PNL_PART_KEY_HASH 0 3, 0x179f1f2e361e5dea), (Reg.PNL_PART_KEY_HASH 0 4, 0x3fd396ee383a3dba), (Reg.PNL_PART_KEY_HASH 0 5, 0xbe560ae471ad77c0)]

/-- Panel 0 STOPPED, with a 1 × 1 pattern at handle 0, its weights in a state, and host memory that holds the manifest at 8192, one HOST
source at 4096 and, at 16384, the manifest with a bit of its signature changed. -/
def wgtSt (wst : Nat) (w : Wgt := {}) (l : List (Fld × Nat) := []) (st : Nat := PS.stopped) : State :=
  let s := regs (part 0 (2 ^ 32 - 1) st ++ mfKeyHash ++ [(Reg.BOB_PNL_SPLIT_KV_FIRST 0, 64), (Reg.PNL_WGT_STATE_STATE 0, wst)] ++ l)
  { s with
    fns := sset {} s.fns 0 { bme := true }
    panels := sset {} s.panels 0 { patterns := [(0, { tiles := [0], entries := [(100, 100)] })] }
    wgts := sset {} s.wgts 0 w
    hostMem := ssetList 0 (ssetList 0 (ssetList 0 [] 4096 (bytesOf 16 (0x10000 * 2 ^ 64))) 8192 mfImage) 16384
      (mfImage.dropLast ++ [(mfImage.getLast?.getD 0) ^^^ 1]) }

/-- A MODEL_LOAD of the manifest at `a`, placement handle 0, one source. -/
def loadCmd (a place : Nat) : Cmd := pf 32 (a + 416 * 2 ^ 64 + place * 2 ^ 96 + 2 ^ 104 + 4096 * 2 ^ 128) 0

/-- Its segment, where the placement puts it. -/
def mfSegment : Segment := { bob := 0, lpage := 0, npages := 1, bytes := 64, off := 0, digest := digest384 (List.replicate 64 0) }

theorem mfImage_length : mfImage.length = 416 := by decide +kernel

/-- Host memory as a state of `wgtSt` holds it. -/
theorem wgtSt_hostRead (wst : Nat) (w : Wgt) (l : List (Fld × Nat)) (st : Nat) : (wgtSt wst w l st).hostRead 8192 416 = mfImage := by
  show sgetList 0 (ssetList 0 (ssetList 0 _ 8192 mfImage) 16384 _) 8192 416 = mfImage
  rw [sgetList_ssetList_ne _ _ _ _ _ _ (Or.inl (by decide)), ← mfImage_length]
  exact sgetList_ssetList_same ..

theorem mfImage_signed : manifestOk mfImage 416 0 = true ∧ State.manifestSigned (wgtSt WS.none) 0 mfImage = true := by decide +kernel

theorem wit_manifest_passes :
    (wgtSt WS.none).manifestAt (loadCmd 8192 0) 0 8192 416 4096 1 0 0 mfImage [{ addr := 0x10000 }] [mfSegment] := by
  refine ⟨by decide, by decide, by decide, by decide +kernel, by decide +kernel, by decide, by decide, by decide +kernel,
    (wgtSt_hostRead ..).symm, mfImage_signed.1, mfImage_signed.2, by decide +kernel, by decide +kernel⟩

theorem wit_ModelsAreLoadedAndVerified :
    specModelLoad.accepts (loadCmd 8192 0) (wgtSt WS.none {} [] PS.running) ∧
    specModelUnload.accepts (pf 0 0 0) (wgtSt WS.none {} [] PS.running) ∧
    specModelLoad.accepts (loadCmd 8192 0) (wgtSt WS.none) ∧ specModelLoad.accepts (loadCmd 8192 0) (wgtSt WS.ready) ∧
    specModelUnload.accepts (pf 0 0 0) (wgtSt WS.refit) ∧ specModelUnload.accepts (pf 0 0 0) (wgtSt WS.ready) ∧
    (loadCmd 8192 0).pnl = some 0 ∧ (wgtSt WS.none).pst 0 = PS.stopped ∧ (wgtSt WS.none {} [] PS.running).pst 0 = PS.running ∧
    (wgtSt WS.ready).wst 0 = WS.ready ∧ (wgtSt WS.none).wst 0 = WS.none ∧
    (let c := loadCmd 8192 0
     c.fld 0 8 = 8192 ∧ c.fld 8 4 = 416 ∧ c.fld 12 1 = 0 ∧ c.fld 13 1 = 1 ∧ c.fld 14 2 = 0 ∧ c.fld 16 8 = 4096) ∧
    (manifestOk mfImage 416 1 = false ∧ (wgtSt WS.none).placeSegs 0 9 mfImage 0 = none ∧ (loadCmd 8192 9).fld 12 1 = 9 ∧
      let bad := mfImage.dropLast ++ [(mfImage.getLast?.getD 0) ^^^ 1]
      manifestOk bad 416 0 = true ∧ (wgtSt WS.none).manifestSigned 0 bad = false) ∧
    (∀ n ∈ [0, 3], let g := { mfSegment with st := 1, refetches := n }
      let s0 := wgtSt WS.loading { segs := [g] } [(Reg.PNL_WGT_STATE_SHARD 0, SH.fetching)]
      let s := { s0 with bobs := sset {} [] 0 { mem := { written := [(0, 1)] } } }
      (s.wgt 0).segs[0]? = some g ∧ (s.wgt 0).reqs = [] ∧ ((s.zeroTail g).bob 0).anyBad 0 0 64 = false ∧
        digest384 (((s.zeroTail g).bob 0).bytes 0 64) = g.digest ∧ g.digest ≠ 0 ∧ s.rd Reg.PNL_WGT_CTL_REFETCH_MAX = 3) ∧
    (let s := wgtSt WS.loading { deadline := some 0 } [(Reg.PNL_WGT_STATE_SHARD 0, SH.fetching)]
     (s.wgt 0).deadline = some 0#64 ∧ s.wst 0 = WS.loading ∧ s.shard 0 = SH.fetching ∧ reached s.now 0 = true) ∧
    (∀ w ∈ [WS.loading, WS.refit], let s := wgtSt w {} [(Reg.PNL_WGT_STATE_SHARD 0, SH.verified), (Reg.PNL_WGT_STATE_HEAD 0, 1),
        (Reg.PNL_WGT_MODEL_MODEL_ID 0, 3), (Reg.PNL_WGT_GEN_GEN 0, 5), (Reg.PNL_WGT_GEN_NEW_GEN 0, 6), (Reg.PNL_WGT_STATE_DEVICES 0, 1)]
      s.wst 0 = w ∧ s.isHead 0 = true ∧ (3 : W64).toNat = s.rd (Reg.PNL_WGT_MODEL_MODEL_ID 0) ∧ (5 : W32).toNat = s.rd (Reg.PNL_WGT_GEN_GEN 0) ∧
        (6 : W32).toNat = s.rd (Reg.PNL_WGT_GEN_NEW_GEN 0) ∧ s.shard 0 = SH.verified ∧
        (nins 0 (s.wgt 0).reported).length = s.rd (Reg.PNL_WGT_STATE_DEVICES 0)) := by unfold CmdSpec.accepts; decide +kernel

theorem wit_ModelsAreLoadedAndVerified_early :
    (let s := wgtSt WS.none { early := [⟨0, 0, 3, 5⟩] }
     (s.wgt 0).early = [⟨0, 0, 3, 5⟩] ∧ (3 : Nat) = mfModel mfImage ∧ (5 : Nat) = mfGen mfImage ∧ (loadCmd 8192 0).fld 14 2 = 0 ∧ s.direct 0 = true) ∧
    (let s := wgtSt WS.none
     s.wst 0 ≠ WS.loading ∧ s.direct 0 = true ∧ (s.wgt 0).early = []) := by decide +kernel

theorem wit_RefitsBeginReleaseAndEnd_awaiting :
    ∀ n ∈ [2, 3], let s := wgtSt WS.ready { awaiting := true } [(Reg.PNL_WGT_STATE_HEAD 0, 1), (Reg.PNL_WGT_MODEL_MODEL_ID 0, 3),
        (Reg.PNL_WGT_GEN_GEN 0, 5), (Reg.PNL_WGT_STATE_DEVICES 0, n)]
      s.wst 0 = WS.ready ∧ (s.wgt 0).awaiting = true ∧ s.isHead 0 = true ∧ (3 : W64).toNat = s.rd (Reg.PNL_WGT_MODEL_MODEL_ID 0) ∧
        (5 : W32).toNat = s.rd (Reg.PNL_WGT_GEN_GEN 0) ∧ 1 < s.rd (Reg.PNL_WGT_STATE_DEVICES 0) ∧ s.direct 0 = true ∧
        ((nins 0 (nins 1 (s.wgt 0).reported)).length = s.rd (Reg.PNL_WGT_STATE_DEVICES 0) ↔ n = 2) := by decide +kernel

theorem wit_IngestEngineFetchesPages_asleep :
    let s := wgtSt WS.loading { segs := [mfSegment] } [(Reg.PWR_DOM_STATE 64, 1)]
    s.bobOn mfSegment.bob = false ∧ (wgtSt WS.loading).bobOn mfSegment.bob = true ∧ (wgtSt WS.loading).direct 0 = true := by decide +kernel

theorem wit_IngestEngineFetchesPages :
    (let g := { mfSegment with st := 1, todo := [(0, none)] }
     let s := wgtSt WS.loading { segs := [g], sources := [{ addr := 0x10000 }] }
     let v := ((s.takeRefetches 0).wave 0).tellHead 0
     v.nextRequest 0 = some (0, 0, 0) ∧ (v.wgt 0).segAt 0 = some g ∧ ((v.wgt 0).sourcesOf 0)[0]? = some { addr := 0x10000 }) ∧
    (wgtSt WS.loading).nextRequest 0 = none ∧
    (let g := { mfSegment with st := 1 }
     let r : IngestReq := { id := 1, seg := 0, page := 0, src := some 0, source := { addr := 0x10000 }, sentAt := 0, off := 0, len := 64 }
     let s := wgtSt WS.loading { segs := [g], reqs := [r] } [(Reg.STI_COUNT_COUNT, 5000000)]
     (s.wgt 0).reqs.find? (fun r => r.id = 1 && !r.source.fabric) = some r ∧ (s.wgt 0).segAt r.seg = some g ∧ r.count = 0 ∧
       s.dmaFail r.fn (0x10000 + r.off) r.len = none ∧ ({ s with fns := [] } : State).dmaFail 0 0x10000 64 = some 0x10000 ∧
       max 1 (s.rd Reg.PNL_WGT_CTL_REQ_TIMEOUT_US) * 1000 ≤ (s.now - r.sentAt).toNat ∧ g.refetches + 1 ≤ s.rd Reg.PNL_WGT_CTL_REFETCH_MAX ∧
       (s.wgt 0).reqs.find? (fun r => r.id = 2) = none) ∧
    (∀ t ∈ [1, 2], let f : Flight := { pkt := { tenant := t, len := 2, payload := bytesOf 128 1 }, loc := .eject (epHost 16) }
      let r : IngestReq := { id := 1, seg := 0, page := 0, src := some 0, source := { fabric := true }, sentAt := 0, off := 0, len := 64 }
      let s0 := wgtSt WS.loading { segs := [mfSegment], reqs := [r] }
      let s := { s0 with noc := { flights := [f] } }
      s.replyAt 0 = some (0, f) ∧ s.tenant 0 = 1 ∧
        (s.wgt 0).reqs.find? (fun r => r.id = leAt f.pkt.payload 0 4 && r.source.fabric) = some r ∧ (replyData r f.pkt).isSome = true) ∧
    (let x := { mfSegment with st := 2, want := [0] }
     let s := { wgtSt WS.ready { segs := [x] } with integ := { refetch := [0] } }
     s.panelOfPage 0 = some 0 ∧ ((s.wgt 0).segs ++ (s.wgt 0).old).find? (fun x => x.want.any (fun k => s.pageOf x.bob (x.lpage + k) = 0)) = some x ∧ x.st = 2 ∧
       0 ∈ s.integ.refetch ∧ State.reset.panelOfPage 0 = none ∧
       (let y := { wgtSt WS.ready { segs := [mfSegment] } with integ := { refetch := [0] } }
        (y.wgt 0).segs.all (fun x => x.want = []) = true ∧ (y.wgt 0).segs.any (fun x => (y.segPageIds x).contains 0) = true ∧
          (y.wgt 0).segs.any (fun x => (y.segPageIds x).contains 64) = false ∧ y.panelOfPage 64 = some 0) ∧ ({ x with st := 1 } : Segment).st ≠ 2) := by decide +kernel

theorem wit_IngestEngineFetchesPages_commands :
    (let c := pf 9 (4096 + 2 ^ 64) 0
     let s := wgtSt WS.ready
     specModelSource.accepts c s ∧ c.pnl = some 0 ∧ c.fld 8 1 = 1 ∧ s.dmaFail c.fn (c.fld 0 8) (16 * c.fld 8 1) = none ∧
       sourcesOf (s.hostRead (c.fld 0 8) (16 * c.fld 8 1)) (c.fld 8 1) = some [{ addr := 0x10000 }]) ∧
    (let c := pf 16 (2 ^ 16 + 4096 * 2 ^ 64) 0
     let s := wgtSt WS.ready {} [(Reg.PNL_WGT_PROG_LAYERS 0, 1)]
     specWgtRelease.accepts c s ∧ (s.pattern? 0 (c.fld 0 1)).isSome = true ∧ c.fld 1 1 = 0 ∧ s.wst 0 = WS.ready ∧
       c.fld 2 2 = s.rd (Reg.PNL_WGT_PROG_LAYERS 0) ∧ s.dmaFail c.fn (c.fld 8 8) (4 * c.fld 2 2) = none ∧
       specWgtRelease.accepts c (wgtSt WS.refit) ∧ specWgtRelease.accepts c (wgtSt WS.none)) ∧
    (let s := wgtSt WS.ready
     specRefitJournal.accepts (pf 8 64 0) s ∧ specRefitJournal.accepts (pf 8 65 0) s ∧
       s.dmaFail 0 64 (s.wgt 0).journal.bytes.length = none ∧
       ({ s with fns := [] } : State).dmaFail 0 64 (s.wgt 0).journal.bytes.length = some 64) := by unfold CmdSpec.accepts; decide +kernel

/-- A MODEL_REFIT with barrier stitch `b`. -/
def refitCmd (b : Nat) : Cmd := pf 32 (8192 + 416 * 2 ^ 64 + 2 ^ 104 + b * 2 ^ 128 + 4096 * 2 ^ 192) 0

theorem wit_RefitsBeginReleaseAndEnd :
    (let s (n : Nat) := wgtSt WS.ready { segs := [mfSegment] } [(Reg.PNL_WGT_MODEL_MODEL_ID 0, n), (Reg.PNL_WGT_PROG_LAYERS 0, 1),
        (Reg.PNL_WGT_STATE_DEVICES 0, 1), (Reg.PNL_WGT_GEN_GEN 0, 4)]
     let m := mfImage
     specModelRefit.accepts (refitCmd 100000) (s 3) ∧ (s 3).wst 0 = WS.ready ∧ (refitCmd 5).fld 12 1 ≤ 1 ∧
       (mfModel m = 3 ∧ mfLayers m = 1 ∧ mfDevices m = 1 ∧ mfGen m = 5) ∧ (s 2).rd (Reg.PNL_WGT_MODEL_MODEL_ID 0) = 2 ∧
       100000 ≤ stDiff (s 3).now (BitVec.ofNat 64 ((refitCmd 100000).fld 16 8)) ∧
       stDiff (s 3).now (BitVec.ofNat 64 ((refitCmd 99999).fld 16 8)) < 100000 ∧
       [mfSegment].any (fun g => ((s 3).wgt 0).segs.any (fun o => o.layer ≠ g.layer)) = false) ∧
    (let s := wgtSt WS.stopped { journal := { digest := digest384 mfImage } }
     specRefitResume.accepts (refitCmd 0) s ∧ s.wst 0 = WS.stopped ∧ (s.wgt 0).place = 0 ∧ s.rd (Reg.PNL_WGT_STATE_DEV_INDEX 0) = 0 ∧
       digest384 mfImage = (s.wgt 0).journal.digest ∧ (0 : BitVec 384) ≠ digest384 mfImage) ∧
    specRefitResume.accepts (refitCmd 0) (wgtSt WS.ready) ∧ specRefitResume.accepts (refitCmd 0) (wgtSt WS.stopped {} [] PS.running) ∧
    (let s := wgtSt WS.refit
     s.wst 0 = WS.refit ∧ (s.wgt 0).barrierHit = false ∧ reached s.now (BitVec.ofNat 64 (s.rd (Reg.PNL_WGT_BARRIER_STITCH 0))) = true) ∧
    (let s0 := wgtSt WS.refit { barrierHit := true, lastOld := some 0, releases := [⟨0, 0, [10]⟩] }
     let s := { s0 with panels := sset {} s0.panels 0 { run := some { startIn := 0, tiles := [0] } }, tiles := [(0, { cy := 11 })] }
     s.passedRelease 0 0 = true ∧ s.passedRelease 0 1 = false ∧ (s.wgt 0).barrierHit = true) := by unfold CmdSpec.accepts; decide +kernel

theorem wit_manifest_passes_for_a_refit :
    (wgtSt WS.ready { segs := [mfSegment] } [(Reg.PNL_WGT_MODEL_MODEL_ID 0, 3), (Reg.PNL_WGT_PROG_LAYERS 0, 1), (Reg.PNL_WGT_STATE_DEVICES 0, 1),
      (Reg.PNL_WGT_GEN_GEN 0, 4)]).manifestAt (refitCmd 100000) 0 8192 416 4096 1 0 0 mfImage [{ addr := 0x10000 }] [mfSegment] := by
  refine ⟨by decide, by decide, by decide, by decide +kernel, by decide +kernel, by decide, by decide, by decide +kernel,
    (wgtSt_hostRead ..).symm, mfImage_signed.1, by decide +kernel, by decide +kernel, by decide +kernel⟩

/-! ## Witnesses: the serving engine -/

/-- A 257-entry tokenizer without merges: each byte is its own token. -/
def byteTok : Tokenizer :=
  { vocab := 257, merges := [], eos := [256], bos := 256, classes := [], matrix := [], bases := List.range 256, ofs := [], blob := [], bytes := 3436, digest := 1 }

/-- A parameter block for ring address 1 MiB, ring size 4096, queue 1, `n` stop sequences of one byte. -/
def paramBlk (n : Nat) : List Byte :=
  bytesOf 64 (0x3F800000 * 2 ^ 64 + 0x3F800000 * 2 ^ 128 + 2 ^ 20 * 2 ^ 256 + 4096 * 2 ^ 320 + 1 * 2 ^ 352 + n * 2 ^ 368) ++
  (List.range n).flatMap (fun _ => bytesOf 72 1)

/-- Panel 0 with two spools, four history pages, one token lane, one bucket's pattern and a byte tokenizer. -/
def srvSt (v : Serve := {}) (sp : Store Spool := []) (l : List (Fld × Nat) := []) (st : Nat := PS.running) : State :=
  let s := regs (part 0 (2 ^ 32 - 1) st ++ [(Reg.PNL_PART_HIST_SPOOL_COUNT 0, 2), (Reg.PNL_PART_HIST_HIST_PAGES 0, 4), (Reg.GSE_KV_LANES 0, 1),
    (Reg.BOB_PNL_SPLIT_KV_FIRST 0, 64), (Reg.QCFG_CFG_ENABLE 1, 1), (Reg.QCFG_CFG_TYPE 1, 2), (Reg.PNL_PART_RANGE_Q_BASE 0, 1), (Reg.PNL_PART_RANGE_Q_COUNT 0, 1), (Reg.PNL_WGT_STATE_STATE 0, WS.ready), (Reg.PNL_WGT_STATE_HEAD 0, 1)] ++ l)
  { s with
    fns := sset {} (sset {} s.fns 0 { bme := true }) 1 { bme := true }
    panels := sset {} s.panels 0 { patterns := [(0, { tiles := [0], entries := [(100, 100)], ranges := [{tile := 0, key := 7, start := 0, len := 65536, shared := true}] })] }
    serves := sset {} s.serves 0 v
    spools := sp
    hostMem := ssetList 0 (ssetList 0 [] 4096 (paramBlk 1)) 8192 [104, 105] }

/-- A bucket that the panel of `srvSt` admits, and the panel with it and with the byte tokenizer. -/
def srvBucket : Bucket := ⟨0, 0, 6, 1, 64, 8, false, 7⟩

def srvOk : State := srvSt { tok := some byteTok, buckets := [(0, some srvBucket)] }

/-- The request whose parameter block is at `a`: two bytes of text at 8192, `n` tokens to generate, option byte `o`. -/
def submitCmd (a n : Nat) (o : Nat := 0) : Cmd := pf 44 (8192 + 2 * 2 ^ 64 + o * 2 ^ 96 + n * 2 ^ 256 + a * 2 ^ 288) 0

theorem wit_SpoolSubmitAdmitsARequest :
    (∀ c ∈ [submitCmd 4096 10, submitCmd 4096 0, submitCmd 4096 10 0x30], specSpoolSubmit.accepts c srvOk) ∧
    (submitCmd 4096 10).pnl = some 0 ∧ srvOk.pst 0 ≠ PS.empty ∧ srvOk.follower 0 = false ∧ srvOk.direct 0 = true ∧
    (srvSt {} [] [(Reg.DBG_PNL_CTL_REPLAY 0, 1)]).bit (Reg.DBG_PNL_CTL_REPLAY 0) = true ∧
    srvOk.bit (Reg.DBG_PNL_CTL_REPLAY 0) = false ∧
    bits ((submitCmd 4096 10 0x30).fld 12 1) 4 2 = 3 ∧ bits ((submitCmd 4096 10).fld 12 1) 4 2 = 0 ∧
    maxNewOk ((submitCmd 4096 0).fld 32 4) = false ∧ maxNewOk ((submitCmd 4096 10).fld 32 4) = true ∧ maxNewOk (2 ^ 24) = false ∧
    (srvSt {} [(0, { st := 1 }), (1, { st := 1 })]).freeSpool 0 = none ∧ (srvSt {} [(0, { st := 1 })]).freeSpool 0 = some 1 ∧
    srvOk.dmaFail 0 4096 64 = none ∧ srvOk.dmaFail 0 4096 136 = none ∧ srvOk.dmaFail 0 8192 2 = none ∧
    srvOk.hostRead 4096 136 = paramBlk 1 ∧ srvOk.hostRead 8192 2 = [104, 105] ∧
    ((srvSt {}).serve 0).tok = none ∧ (srvOk.serve 0).tok = some byteTok ∧
    byteTok.encode [104, 105] false = [104, 105] ∧ byteTok.encode [] false = [] ∧
    srvOk.paramOk 0 (paramBlk 1) = true ∧ srvOk.paramOk 0 (bytesOf 64 0) = false ∧
    (srvSt {}).fitsBucket 0 2 10 = false ∧ srvOk.fitsBucket 0 2 10 = true ∧ srvOk.fitsBucket 0 502 10 = true ∧
    srvOk.fitsBucket 0 503 10 = false ∧
    stopFit 1 ((srvSt {} [] [(Reg.GSE_CAP2_STOP_SLOTS, 0)]).rd Reg.GSE_CAP2_STOP_SLOTS) [] 0 = none ∧
    stopFit 1 (srvOk.rd Reg.GSE_CAP2_STOP_SLOTS) srvOk.stopRuns 0 = some 0 ∧
    srvOk.histFree 0 0 12 = true ∧ (srvSt {} [] [(Reg.PNL_PART_HIST_HIST_PAGES 0, 0)]).histFree 0 0 12 = false := by unfold CmdSpec.accepts; decide +kernel

theorem wit_SpoolCommandsActOnTheirSpool :
    (let s := srvOk
     specSpoolAppend.accepts (pf 24 0 0) s ∧ specSpoolCancel.accepts (pf 2 0 0) s ∧ specSpoolClose.accepts (pf 2 0 0) s ∧
       specSpoolRead.accepts (pf 16 0 0) s ∧ specSpoolAck.accepts (pf 16 0 0) s ∧ s.direct 0 = true ∧ s.pst 0 ≠ PS.empty ∧
       (srvSt {} [] [(Reg.PNL_WGT_STATE_HEAD 0, 0)]).follower 0 = true ∧ s.follower 0 = false ∧
       s.spoolOwner 2 = none ∧ s.spoolOwner 1 = some 0 ∧ (s.spool 0).st = SP.free ∧ s.bit (Reg.DBG_PNL_CTL_REPLAY 0) = false) ∧
    (let c := pf 24 (8192 * 2 ^ 64 + 2 * 2 ^ 128 + 10 * 2 ^ 160) 0
     ∀ st ∈ [SP.idle, SP.parking, SP.parked, SP.cold], let s := { srvOk with spools := [(0, { st := st, tokens := 5, hist := [0] })] }
       specSpoolAppend.accepts c s ∧ c.pnl = some 0 ∧ s.spoolOwner (c.fld 0 2) = some 0 ∧ (s.spool 0).st = st ∧
       maxNewOk (c.fld 20 4) = true ∧ s.dmaFail 0 (c.fld 8 8) (c.fld 16 4) = none ∧ s.hostRead (c.fld 8 8) (c.fld 16 4) = [104, 105] ∧
       s.fitsBucket 0 7 (c.fld 20 4) = true ∧ s.histFree 0 1 17 = true ∧
       byteTok.encode [104, 105] false = [104, 105] ∧ (s.serve 0).tok = some byteTok) ∧
    SP.admitted ∉ [SP.idle, SP.parking, SP.parked, SP.cold] ∧
    (let k : Pick := { spool := 0, slot := 0, n := 1, pos := 4, sample := true, dec := true, masked := false }
     let t : AnnStep := { bucket := srvBucket, picks := [k] }
     let s := srvSt { steps := [t] } [(0, { st := SP.decode })]
     specSpoolCancel.accepts (pf 2 0 0) s ∧ (s.spool 0).st ≠ SP.done ∧ (s.spool 0).st ≠ SP.cancelling ∧ s.heldByStep 0 0 = true ∧
       (srvSt { steps := [{ t with endAt := some 0#64 }] } [(0, { st := SP.decode })]).heldByStep 0 0 = false) ∧
    (let s := { srvOk with spools := [(0, { st := SP.idle, pend := [1], outBytes := 4096 })] }
     specSpoolAck.accepts (pf 16 0 0) s ∧ (s.spool 0).outPos.toNat < 1 ∧ 0 ≤ (s.spool 0).outPos.toNat ∧
       s.dmaFail 0 4096 ((s.spool 0).image (s.inStep 0 0)).length = none ∧
       ({ s with fns := [] } : State).dmaFail 0 4096 128 = some 4096 ∧ ((s.spool 0).image (s.inStep 0 0)).length = 128) := by unfold CmdSpec.accepts; decide +kernel

theorem wit_SpoolCommandsActOnTheirSpool_moves :
    (∀ st ∈ [SP.parking, SP.unparking], let s := { srvOk with spools := [(0, { st := st })] }
      specSpoolClose.check (pf 2 0 0) s = St.OK ∧ (s.spool 0).st = st ∧ s.heldByStep 0 0 = false) ∧
    (∀ e ∈ [0, 1], let s := { srvOk with spools := [(0, { st := SP.cold, expired := some (BitVec.ofNat 64 e, 1, 4) })] }
      (s.spool 0).st = SP.cold ∧ (s.spool 0).expired = some (BitVec.ofNat 64 e, 1, 4) ∧ (BitVec.ofNat 64 e = s.now ↔ e = 0)) ∧
    (let s := { srvOk with spools := [(0, { st := SP.idle, pend := [1, 2], outBytes := 4096, outAddr := 65536, outPos := 4095, acked := 1 })] }
     let x := s.spool 0
     let room := x.outBytes - (x.outPos - 4095).toNat
     let off := x.outPos.toNat % max 1 x.outBytes
     let fits := min x.pend.length room
     specSpoolAck.check (pf 16 (4095 * 2 ^ 64) 0) s = St.OK ∧ (pf 16 (4095 * 2 ^ 64) 0).fld 8 8 ≤ x.outPos.toNat ∧ fits = 2 ∧ min fits (x.outBytes - off) = 1 ∧
       s.dmaFail (x.panel + 1) (x.outAddr + off) 1 = none ∧ s.dmaFail (x.panel + 1) x.outAddr 1 = none ∧ s.twin.capture = false ∧ s.direct x.panel = true) ∧
    (∀ n ∈ [0, 1], (srvSt { commitAt := some (BitVec.ofNat 64 n) }).cancelStitch 0 = (if n = 0 then 1 else 0)) := by decide +kernel

/-- A tokenizer image of 257 tokens of one byte each, without merges (R356). -/
def tokImage : List Byte :=
  bytesOf 64 (0x4B4F5447 + 2 ^ 32 + 257 * 2 ^ 64 + 257 * 2 ^ 128 + (2 ^ 160 - 1) * 2 ^ 160) ++ List.replicate 288 0 ++
  (List.range 256).flatMap (bytesOf 4) ++ (List.range 258).flatMap (bytesOf 4) ++ List.replicate 260 65

/-- Words one after the other. -/
def words : Nat → List Byte → List Nat
  | 0, _ => []
  | n + 1, b => natOf (b.take 4) :: words n (b.drop 4)

theorem words4_eq (b : List Byte) (n : Nat) : ∀ o, words4 b o n = words n (b.drop o) := by
  induction n with
  | zero => intro o; rfl
  | succ n ih =>
    intro o
    have h : words4 b o (n + 1) = leAt (b.drop o) 0 4 :: words4 b (o + 4) n := by
      simp only [words4, List.range_succ_eq_map, List.map_cons, List.map_map, Function.comp_def, Nat.mul_zero, Nat.add_zero, List.cons.injEq, true_and]
      exact List.map_congr_left fun i _ => by congr 2; omega
    rw [h, ih]
    simp [words, leAt, List.drop_drop]

theorem test_a_tokenizer_image_passes : (tokCheck tokImage).isSome = true := by
  have h0 : tokHeader tokImage = true := by decide +kernel
  have h1 : (tokParse tokImage).ofs = List.range 258 := by
    show words4 _ _ _ = _
    rw [words4_eq]; decide +kernel
  have h2 : (tokParse tokImage).blob = List.replicate 257 65 := by decide +kernel
  have h3 : (tokParse tokImage).vocab = 257 := by decide +kernel
  have h4 : (tokParse tokImage).bases = List.range 256 := by
    show words4 _ _ _ = _
    rw [words4_eq]; decide +kernel
  have h5 : (tokParse tokImage).eos = [noToken, noToken, noToken, noToken] := by decide +kernel
  have h6 : (tokParse tokImage).bos = noToken := by decide +kernel
  have h7 : (tokParse tokImage).merges = [] := by decide +kernel
  have h8 : (tokParse tokImage).tablesOk = true := by
    unfold Tokenizer.tablesOk
    rw [h1, h2, h3, h4, h5, h6, h7]
    decide +kernel
  simp [tokCheck, h0, h8]

theorem tokImage_read (s : State) : ({ s with hostMem := ssetList 0 [] 16384 tokImage } : State).hostRead 16384 2668 = tokImage := by
  have h : tokImage.length = 2668 := by decide +kernel
  show sgetList 0 (ssetList 0 [] 16384 tokImage) 16384 2668 = tokImage
  rw [← h]
  exact sgetList_ssetList_same ..

theorem tokImage_bytes : ∃ t, tokCheck tokImage = some t ∧ t.bytes = 2668 := by
  obtain ⟨t, h⟩ := Option.isSome_iff_exists.mp test_a_tokenizer_image_passes
  refine ⟨t, h, ?_⟩
  unfold tokCheck at h
  split at h
  · rw [← Option.some.inj h]; show tokImage.length = 2668; decide +kernel
  · simp at h

theorem wit_ServingTablesAreSetWhileStopped :
    (let s := srvSt {}
     specBucketSet.accepts (pf 20 0 0) s ∧ specTokenizerLoad.accepts (pf 12 0 0) s ∧ specParkAreaSet.accepts (pf 12 0 0) s ∧
       (pf 20 0 0).pnl = some 0 ∧ s.pst 0 = PS.running ∧ s.direct 0 = true ∧ s.follower 0 = false) ∧
    (let s := srvSt {} [] [] PS.stopped
     let c (n : Nat) := pf 20 n 0
     s.pst 0 = PS.stopped ∧ s.follower 0 = false ∧ s.direct 0 = true ∧ specBucketSet.accepts (c 32) s ∧ 31 < (c 32).fld 0 1 ∧
       1 < (c 0x200).fld 1 1 ∧ (c 31).fld 0 1 ≤ 31 ∧ (c 31).fld 1 1 = 0) ∧
    (let c (dep g : Nat) := pf 20 (31 + 2 ^ 8 + g * 2 ^ 32 + 1 * 2 ^ 48 + 64 * 2 ^ 64 + 8 * 2 ^ 96 + dep * 2 ^ 112 + 7 * 2 ^ 128) 0
     let k (c : Cmd) : Bucket := ⟨c.fld 2 1, c.fld 3 1, c.fld 4 2, c.fld 6 2, c.fld 8 4, c.fld 12 2, c.fld 14 1 = 1, c.fld 16 4⟩
     let s := srvSt {} [] [] PS.stopped
     let z := srvSt {} [] [(Reg.PNL_CFG_STRICT 0, 1)] PS.stopped
     specBucketSet.accepts (c 1 6) s ∧ (c 1 6).fld 1 1 = 1 ∧ (c 1 6).fld 0 1 = 31 ∧ s.bucketOk 0 (k (c 1 6)) = true ∧
       s.bucketOk 0 (k (c 1 5)) = false ∧ (k (c 1 6)).dep = true ∧ (k (c 0 6)).dep = false ∧ s.strict 0 = false ∧ z.strict 0 = true ∧
       z.bucketOk 0 (k (c 1 6)) = true) ∧
    (let s0 := srvSt {} [] [] PS.stopped
     let s := { s0 with hostMem := ssetList 0 [] 16384 tokImage }
     let c (n : Nat) := pf 12 (16384 + n * 2 ^ 64) 0
     s.pst 0 = PS.stopped ∧ s.follower 0 = false ∧ specTokenizerLoad.accepts (c 33554433) s ∧ 33554432 < (c 33554433).fld 8 4 ∧
       (c 2668).fld 8 4 = 2668 ∧ s.dmaFail 0 ((c 2668).fld 0 8) 33554432 = none ∧
       s.tokStore 0 = [] ∧ 2668 ≤ s.rd Reg.GSE_CAP2_TOK_STORE_MIB * 1048576 ∧
       (let z := srvSt {} [] [(Reg.GSE_CAP2_TOK_STORE_MIB, 0)] PS.stopped
        z.rd Reg.GSE_CAP2_TOK_STORE_MIB * 1048576 < 2668 ∧ z.tokStore 0 = [])) ∧
    (let s := srvSt {} [] [] PS.stopped
     let c (a n : Nat) := pf 12 (a + n * 2 ^ 64) 0
     specParkAreaSet.accepts (c 65536 1) s ∧ (c 1 1).fld 8 4 ≠ 0 ∧ (c 1 1).fld 0 8 % 65536 ≠ 0 ∧ 1048576 < (c 0 1048577).fld 8 4 ∧
       (c 1 0).fld 8 4 = 0 ∧ (c 65536 1048576).fld 0 8 % 65536 = 0 ∧ (c 65536 1048576).fld 8 4 ≤ 1048576) := by unfold CmdSpec.accepts; decide +kernel

/-! ## Witnesses: steps of the engine -/

/-- Panel 0's engine with messages in front of it. -/
def engSt (v : Serve) (fl : List (Nat × List Byte)) (sp : Store Spool := []) (l : List (Fld × Nat) := []) : State :=
  let s := srvSt v sp ([(Reg.GSE_PCFG_ENABLE 0, 1), (Reg.PNL_WGT_STATE_DEVICES 0, 1)] ++ l)
  { s with noc := { flights := fl.map (fun f => { pkt := { op := f.1, len := 1, payload := f.2 }, loc := .eject (epHost 32) }) } }

/-- Slot 0 of spool 0: its fifth token, sampled. -/
def pick0 : Pick := { spool := 0, slot := 0, n := 1, pos := 4, sample := true, dec := true, masked := false }

def step0 : AnnStep := { q := 1, l := 100000, span := 1000, c := 0, bucket := srvBucket, picks := [pick0] }

/-- One list of one candidate, token 65 with logit 1. -/
def cand0 : List Byte := bytesOf 24 (1 + 2 ^ 40 + 2 ^ 48 + 2 ^ 80 + (0x3F800000 + 65 * 2 ^ 32) * 2 ^ 128)

theorem wit_StepsAreAnnounced :
    (let s := engSt {} []
     s.direct 0 = true ∧ s.canAnnounce 0 = true ∧ s.reloads 0 = [] ∧ s.wst 0 = WS.ready ∧
       (s.serve 0).policyGen = s.rd (Reg.PNL_WGT_GEN_GEN 0) ∧ (s.serve 0).replay = none ∧ (s.serve 0).redo = [] ∧
       s.bit (Reg.DBG_PNL_CTL_REPLAY 0) = false ∧ s.rd (Reg.GSE_PCFG_MODE 0) = 0 ∧ (srvSt {}).canAnnounce 0 = false ∧
       (engSt {} [] [] [(Reg.DBG_PNL_CTL_REPLAY 0, 1)]).bit (Reg.DBG_PNL_CTL_REPLAY 0) = true ∧
       (engSt {} [] [] [(Reg.DBG_PNL_CTL_REPLAY 0, 1)]).canAnnounce 0 = true) ∧
    (let s := engSt {} [] [] [(Reg.GSE_PCFG_MODE 0, 1)]
     s.rd (Reg.GSE_PCFG_MODE 0) ≠ 0 ∧ s.canAnnounce 0 = true ∧ (s.serve 0).fwAt = none ∧
       ((engSt { fwAt := some 0#64 } [] [] [(Reg.GSE_PCFG_MODE 0, 1)]).serve 0).fwAt.isSome = true) ∧
    (let s := engSt { fwAt := some 0#64, buckets := [(0, some srvBucket)] } [] [(0, { st := SP.decode, tokens := 5, kvTokens := 4, blocks := [64], home := some 0 })]
     s.canAnnounce 0 = true ∧ (s.serve 0).redo = [] ∧ s.direct 0 = true ∧ (s.serve 0).fwAt.isSome = true ∧
       (s.buckets 0).find? (fun b => b.1 = 0) = some (0, srvBucket) ∧ (s.buckets 0).find? (fun b => b.1 = 1) = none ∧
       s.fwChoice 0 (s.chooseL 0 0) [(0, 0, 2)] srvBucket = none ∧ (s.fwChoice 0 (s.chooseL 0 0) [(0, 0, 1)] srvBucket).isSome = true ∧
       (engSt { redo := [step0] } []).serve 0 ≠ (engSt {} []).serve 0) ∧
    (let s := engSt { fwAt := some 0#64 } [] [] [(Reg.STI_COUNT_COUNT, 2 ^ 40)]
     (s.serve 0).fwAt = some 0#64 ∧ s.canAnnounce 0 = true ∧ s.direct 0 = true ∧
       reached s.now (0 + BitVec.ofNat 64 (1000 * s.rd Reg.GSE_CTL2_FW_BUDGET_US)) = true ∧
       reached (engSt { fwAt := some 0#64 } [] [] [(Reg.GSE_CTL2_FW_BUDGET_US, 5)]).now (0 + BitVec.ofNat 64 5000) = false) := by
  decide +kernel

theorem wit_StepsAreAnnounced_choices :
    (let s := engSt { fwAt := some 0#64, fwPick := some (0, []) } [] [] [(Reg.GSE_PCFG_MODE 0, 1)]
     (s.serve 0).fwAt.isSome = true ∧ (s.serve 0).fwPick = some (0, []) ∧ s.canAnnounce 0 = true) ∧
    (∀ c ∈ [0, 2 ^ 40], let s := engSt { fwAt := some 0#64, redo := [step0] } [] [] [(Reg.STI_COUNT_COUNT, c)]
      (s.serve 0).fwAt = some 0#64 ∧ (s.serve 0).fwPick = none ∧ (s.serve 0).redo ≠ [] ∧ s.fwInTime 0 = decide (c = 0)) := by decide +kernel

/-- A message of kind `k` of step 1, part 0, with a body. -/
def msgOf (k : Nat) (body : List Byte) : List Byte := bytesOf 16 (k + 2 ^ 8) ++ body

/-- An ANNOUNCE body for stitch `l`, with panel 0's KV geometry. -/
def annBody (l : Nat) : List Byte :=
  bytesOf 48 (l + 0 * 2 ^ 64 + 0 * 2 ^ 128 + 1 * 2 ^ 176 + (1 + 3 * 2 ^ 16 + 64 * 2 ^ 32) * 2 ^ 192)

def launch0 : Launch := { q := 1, l := 100000, c := 0, gen := 0, handle := 0, entry := 0, slots := 1, at_ := 0, coord := 0, bucket := srvBucket }

theorem wit_EngineMessagesBuildLaunches :
    (∀ k ∈ [1, 2, 3, 4, 5, 6], (engSt {} []).ejected (epHost 32) (fun x => x.op = POp.ctrl && msgKind x.payload = k) = none) ∧
    (let s (l : Nat) (r : List (Fld × Nat)) := engSt {} [(POp.ctrl, msgOf 1 (annBody l))] [] r
     let b (l : Nat) := (msgOf 1 (annBody l)).drop 16
     ((s 50000 []).ejected (epHost 32) (fun x => x.op = POp.ctrl && msgKind x.payload = 1)).isSome = true ∧
       ((s 0 []).serve 0).staleHeads.contains 0 = false ∧
       stDiff (s 0 []).now (BitVec.ofNat 64 (leAt (b 50000) 0 8)) = 50000 ∧ stDiff (s 0 []).now (BitVec.ofNat 64 (leAt (b 49999) 0 8)) < 50000 ∧
       (s 0 [(Reg.PNL_WGT_STATE_DEVICES 0, 2)]).unlocked 0 = true ∧ (s 0 []).unlocked 0 = false ∧
       (leAt (b 50000) 24 2 = (s 0 []).lanes 0 ∧ leAt (b 50000) 26 2 = (s 0 []).groups 0 ∧ leAt (b 50000) 28 1 = (s 0 []).kvFirst 0 ∧
         leAt (b 50000) 29 1 = (s 0 []).rd (Reg.GSE_KV_TPP_CODE 0)) ∧
       leAt (b 50000) 29 1 ≠ (s 0 [(Reg.GSE_KV_TPP_CODE 0, 1)]).rd (Reg.GSE_KV_TPP_CODE 0) ∧
       (s 0 []).pst 0 ≠ PS.draining ∧ (s 0 [(Reg.PNL_STATE_STATE 0, PS.draining)]).pst 0 = PS.draining) ∧
    (∀ k ∈ [2, 3, 4, 5], let s := engSt { launches := [launch0] } [(POp.ctrl, msgOf k (bytesOf 64 5))]
      (s.serve 0).launches = [launch0] ∧ launch0.q = msgQ (msgOf k (bytesOf 64 5)) ∧
        (s.ejected (epHost 32) (fun x => x.op = POp.ctrl && msgKind x.payload = k)).isSome = true ∧ (s.serve 0).staleHeads.contains 0 = false ∧
        msgPart (msgOf k (bytesOf 64 5)) ≠ 0xFF ∧ 0 < min ((bytesOf 64 5).length / 16) (min 31 (launch0.slots - 31 * msgPart (msgOf k [])))) ∧
    (∀ e ∈ [0, 1], let bs := msgOf 6 (bytesOf 48 (1 + e * 2 ^ 16))
      let s0 := engSt { steps := [step0] } [(POp.ctrl, bs)]
      let s := { s0 with wgts := sset {} s0.wgts 0 { members := [(0, 0)] } }
      s.direct 0 = true ∧ s.isHead 0 = true ∧ (s.ejected (epHost 32) (fun x => x.op = POp.ctrl && msgKind x.payload = 6)).isSome = true ∧
        (s.wgt 0).members.find? (fun m => m.2 = feidCoord 0) = some (0, 0) ∧ (∃ t ∈ (s.serve 0).steps, t.q = leAt (bs.drop 16) 0 2) ∧
        leAt (bs.drop 16) 2 1 = e ∧ leAt (bs.drop 16) 5 1 = 0) ∧
    (let s := engSt { launches := [launch0] } [] [] [(Reg.STI_COUNT_COUNT, 100000)]
     (s.serve 0).launches.find? (fun l => l.q = 0) = none ∧ (s.serve 0).launches.find? (fun l => l.q = 1) = some launch0 ∧
       reached s.now (launch0.l - BitVec.ofNat 64 (s.rd Reg.GSE_CTL_TABLE_ST)) = true ∧ launch0.complete (s.tpp 0) = false ∧
       ({ launch0 with mask := some 0#512, recs := [(0, some 0#128)] } : Launch).complete (s.tpp 0) = true ∧
       reached (engSt {} []).now (launch0.l - BitVec.ofNat 64 ((engSt {} []).rd Reg.GSE_CTL_TABLE_ST)) = false) ∧
    (let s := engSt { steps := [step0] } [] [(0, { st := SP.decode, tokens := 4 })] [(Reg.STI_COUNT_COUNT, 100000)]
     (s.serve 0).steps.find? (fun t => t.q = 0) = none ∧ (s.serve 0).steps = [step0] ∧ step0.q = 1 ∧ step0.inputsShut = false ∧
       reached s.now (step0.l - BitVec.ofNat 64 (s.rd Reg.GSE_CTL_TABLE_ST + 2000)) = true ∧ s.direct 0 = true ∧
       (s.spool 0).tokens ≤ pick0.pos ∧ reached (engSt {} []).now (step0.l - BitVec.ofNat 64 ((engSt {} []).rd Reg.GSE_CTL_TABLE_ST + 2000)) = false) := by
  decide +kernel

theorem wit_EngineMessagesBuildLaunches_reports :
    (∀ k ∈ [0, 1, RK.lost, RK.retired, RK.recovering], let bs := msgOf 6 (bytesOf 48 (1 + k * 2 ^ 16))
      let s0 := engSt { steps := [step0] } [(POp.ctrl, bs)]
      let s := { s0 with wgts := sset {} s0.wgts 0 { members := [(0, 0)] } }
      s.isHead 0 = true ∧ (s.ejected (epHost 32) (fun x => x.op = POp.ctrl && msgKind x.payload = 6)).isSome = true ∧
        (s.wgt 0).members.find? (fun m => m.2 = feidCoord 0) = some (0, 0) ∧ leAt (bs.drop 16) 2 1 = k ∧ msgPart bs = 0 ∧
        leAt (bs.drop 16) 0 2 = step0.q) ∧
    (∀ e ∈ [0, 1], leAt ((msgOf 6 (bytesOf 48 (1 + e * 2 ^ 40))).drop 16) 5 1 = e) ∧
    leAt ((msgOf 6 (bytesOf 48 (1 + St.CHECK_UNWRITTEN.toNat * 2 ^ 24 + 2 ^ 40))).drop 16) 3 2 = St.CHECK_UNWRITTEN.toNat := by decide +kernel

theorem wit_EngineMessagesBuildLaunches_late :
    (∀ k ∈ [RK.lost, RK.window], let bs := msgOf 6 (bytesOf 48 (1 + k * 2 ^ 16))
      (∀ v ∈ [({} : Serve), { steps := [{ step0 with q := 2, was := [1] }] }],
        let s0 := engSt v [(POp.ctrl, bs)]
        let s := { s0 with wgts := sset {} s0.wgts 0 { members := [(0, 0)] } }
        s.isHead 0 = true ∧ (s.wgt 0).members.find? (fun m => m.2 = feidCoord 0) = some (0, 0) ∧ leAt (bs.drop 16) 2 1 = k ∧
          (∀ t ∈ (s.serve 0).steps, t.q ≠ leAt (bs.drop 16) 0 2) ∧ s.replacement 0 1 = v.steps.head?)) ∧
    (let s := engSt { redo := [{ step0 with q := 2, was := [1] }] } []
     s.replacement 0 1 = none ∧ ∃ t ∈ (s.serve 0).redo, t.q = 1 ∨ 1 ∈ t.was) ∧
    (leAt ((msgOf 6 (bytesOf 48 (1 + 2 * 2 ^ 40))).drop 16) 5 1).testBit 0 = false ∧
    (leAt ((msgOf 6 (bytesOf 48 (1 + 2 * 2 ^ 40))).drop 16) 5 1).testBit 1 = true ∧
    (let m := bytesOf 16 (5 + 2 ^ 8 + 0xFF * 2 ^ 24) ++ bytesOf 64 9
     ∀ q ∈ [msgQ m, msgQ m + 1], ∀ n ∈ [0, 4], let s := running 0 { q := q, startIn := n } (engSt {} [(POp.ctrl, m)])
       (s.ejected (epHost 32) (fun x => x.op = POp.ctrl && msgKind x.payload = 5)).isSome = true ∧ msgPart m = 0xFF ∧
         (s.panel 0).run = some { q := q, startIn := n } ∧ 0 ∈ s.tilesOf 0) ∧
    (let l : Launch := { launch0 with recs := [(0, some (BitVec.ofNat 128 (3 * 2 ^ 40)))] }
     l.slotAt 0 = some 0 ∧ l.slotAt 2 = some 0 ∧ l.slotAt 3 = none) := by decide +kernel

theorem wit_ListsAreSampledAndStepsCommit :
    (let s := engSt { steps := [step0], tok := some byteTok } [(POp.write, cand0)] [(0, { st := SP.decode, tokens := 5, kvTokens := 4 })] [(Reg.GSE_TOK_VOCAB 0, 257)]
     s.direct 0 = true ∧ (engSt {} []).ejected (epHost 32) (fun k => k.op = POp.write) = none ∧
       (s.ejected (epHost 32) (fun k => k.op = POp.write)).map (fun e => (e.1, e.2.pkt.payload)) = some (0, cand0) ∧
       (s.serve 0).steps.find? (fun t => t.q = leAt cand0 0 2) = some step0 ∧ ((engSt {} []).serve 0).steps.find? (fun t => t.q = leAt cand0 0 2) = none ∧
       step0.picks.find? (fun k => k.slot = leAt cand0 2 2 && k.sample) = some pick0 ∧
       step0.picks.find? (fun k => k.slot = 1 && k.sample) = none ∧ candOk cand0 = true ∧ candOk [] = false ∧
       candRecs cand0 = [(0, 1, 0, 0x3F800000 + 65 * 2 ^ 32)] ∧ (sget {} step0.lists 0).recs = [] ∧
       (let m : CandList := { nparts := [1], recs := candRecs cand0 }
        m.complete = true ∧ ({ nparts := [2], recs := candRecs cand0 } : CandList).complete = false ∧ pick0.masked = false ∧
          badList (s.rd (Reg.GSE_TOK_VOCAB 0)) m.cands = false ∧ badList 65 m.cands = true) ∧
       (s.histGet 0 (pick0.pos + pick0.n) 0).2.1 = false ∧ smpWindow (s.spool 0).sampler.toNat = 0) ∧
    (let s := engSt { steps := [{ step0 with endAt := some 0#64 }] } [] [] [(Reg.STI_COUNT_COUNT, 2 ^ 40)]
     s.direct 0 = true ∧ ∃ t ∈ (s.serve 0).steps, t.endAt = some 0#64 ∧
       reached s.now (0 + BitVec.ofNat 64 (1000 * max 1 (s.rd Reg.GSE_SAMP_CTL_TIMEOUT_US))) = true ∧
       ∃ k ∈ t.picks, k.sample = true ∧ k.masked = false ∧ sget none t.tokens k.slot = none ∧ k.spool = 0) ∧
    ((engSt {} []).serve 0).steps = [] ∧
    (let t : AnnStep := { step0 with endAt := some 0#64, tokens := [(0, some 65)] }
     let s := engSt { steps := [t] } [] [(0, { st := SP.decode, tokens := 5, kvTokens := 4 })]
     s.isHead 0 = true ∧ (s.serve 0).steps = [t] ∧ t.endAt.isSome = true ∧ t.sampled = true ∧ s.dropDue 0 = false ∧ s.direct 0 = true ∧
       t.picks = [pick0] ∧ sget none t.tokens pick0.slot = some 65 ∧ (s.spool 0).kvTokens = pick0.pos ∧ t.replay = false ∧
       step0.endAt = none ∧ step0.sampled = false ∧
       s.cancelAhead 0 = false ∧ (engSt { steps := [t], cancelAt := some 1#64 } []).cancelAhead 0 = true ∧
       ({ s with spools := [(0, { st := SP.decode, deadline := 1 })] } : State).dropDue 0 = false ∧
       ({ (engSt { steps := [t] } [] [] [(Reg.STI_COUNT_COUNT, 2)]) with spools := [(0, { st := SP.decode, deadline := 1 })] } : State).dropDue 0 = true) := by
  decide +kernel

theorem wit_FollowersCommitAndSpoolsEnd :
    (let s := engSt { endedC := [3] } [] [] [(Reg.PNL_WGT_STATE_HEAD 0, 0)]
     s.isHead 0 = false ∧ (s.serve 0).endedC = [3] ∧ ((engSt {} []).serve 0).endedC = []) ∧
    (∀ pol ∈ [0, 1, 2], let s := engSt { steps := [step0] } [] [(0, { st := SP.decode, deadline := 1, dlPolicy := pol })] [(Reg.STI_COUNT_COUNT, 2)]
      s.spoolOwner 0 = some 0 ∧ s.direct 0 = true ∧ (s.spool 0).st ≠ SP.free ∧ (s.spool 0).st < SP.cancelling ∧ (s.spool 0).deadline ≠ 0 ∧
        (s.spool 0).dlDone = false ∧ reached s.now (s.spool 0).deadline = true ∧ s.heldByStep 0 0 = true ∧ s.spoolOwner 2 = none) ∧
    (let s := engSt {} [] [(0, { st := SP.done, cq := 1 })]
     s.spoolOwner 0 = some 0 ∧ s.direct 0 = true ∧ (s.spool 0).st = SP.done ∧ (s.spool 0).pend = [] ∧ s.recordHeld 0 = false ∧
       s.qused (s.spool 0).cq < s.qcap (s.spool 0).cq ∧
       (let z := engSt {} [] [(0, { st := SP.done, cq := 1 })] [(Reg.QCFG_CFG_DEPTH_LOG2 1, 0), (Reg.QCFG_PROD_PROD 1, 1)]
        z.qcap 1 ≤ z.qused 1)) := by
  decide +kernel

theorem wit_ListsAreSampledAndStepsCommit_followersAndTurns :
    (let s := engSt { endedC := [7] } [] [] [(Reg.PNL_WGT_STATE_HEAD 0, 0)]
     s.isHead 0 = false ∧ (s.serve 0).endedC = [7] ∧ s.rd (Reg.PNL_STEP_COUNT 0) ≠ min (7 + 1) (2 ^ 48 - 1) ∧
       min (2 ^ 48 - 2 + 1) (2 ^ 48 - 1) = 2 ^ 48 - 1 ∧ ((engSt {} []).serve 0).endedC = []) ∧
    (∀ pol ∈ [0, 1, 2], let s := engSt {} [] [(0, { st := SP.decode, deadline := 5, dlPolicy := pol })] [(Reg.STI_COUNT_COUNT, 5)]
      s.spoolOwner 0 = some 0 ∧ s.direct 0 = true ∧ s.onStandby 0 = false ∧ (s.spool 0).st ≠ SP.free ∧ (s.spool 0).st < SP.cancelling ∧
        (s.spool 0).deadline ≠ 0 ∧ (s.spool 0).dlDone = false ∧ s.armedDue (s.spool 0).admitAt (s.spool 0).deadline = true ∧
        s.inTurn Ev.deadline = true ∧ (s.spool 0).dlPolicy = pol) ∧
    (let s := engSt {} [] [(0, { st := SP.done, cq := 1 }), (1, { st := SP.done, replayPos := some 1 })]
     s.spoolOwner 0 = some 0 ∧ s.direct 0 = true ∧ s.onStandby 0 = false ∧ (s.spool 0).st = SP.done ∧ (s.spool 0).pend = [] ∧
       s.recordHeld 0 = false ∧ s.qused (s.spool 0).cq < s.qcap (s.spool 0).cq ∧ (s.spool 1).replayPos.isSome = true) ∧
    (let s := engSt {} [] [] [(Reg.FAB_TWIN_PMAP_MIRROR 0, 1), (Reg.FAB_TWIN_STAT_STATE, 4)]
     s.spoolOwner 0 = some 0 ∧ s.onStandby 0 = true) ∧
    ((engSt {} [(POp.write, cand0)]).noc.flights.map (fun f => f.pkt.knv)) = [false] := by decide +kernel

theorem wit_SpoolsAreParkedAndUnparked :
    (engSt {} [] [] [(Reg.STI_COUNT_COUNT, 999)]).now.toNat % 1000 ≠ 0 ∧
    (let s := engSt {} [] [(0, { st := SP.idle, idleLim := 1, tokens := 5 })] [(Reg.STI_COUNT_COUNT, 1000000)]
     s.now.toNat % 1000 = 0 ∧ (∀ p < 16, s.direct p = true) ∧ (s.spool 0).st = SP.idle ∧
       reached s.now ((s.spool 0).idleAt + BitVec.ofNat 64 ((s.spool 0).idleLim * 1000000)) = true) ∧
    (∀ failed ∈ [true, false], let m : Move := { pages := 1, done := [0], bytes := 65536, failed := failed }
      let s (st : Nat) := engSt {} [] [(0, { st := st, move := some m, parkPages := 1, kvTokens := 4, tokens := 5, blocks := [64] })]
      (s SP.parking).spoolOwner 0 = some 0 ∧ (s 5).direct 0 = true ∧ ((s SP.parking).spool 0).st = SP.parking ∧
        ((s SP.parking).spool 0).move = some m ∧ m.pages ≤ m.done.length ∧ m.pages * 65536 ≤ m.bytes ∧ m.failed = failed ∧
        (s SP.parking).staleKv 0 0 = false ∧ ((s SP.unparking).spool 0).st = SP.unparking ∧
        ({ m with done := [] } : Move).done.length < m.pages ∧ ({ m with bytes := 65535 } : Move).bytes < m.pages * 65536) ∧
    (let s := engSt {} [] [(0, { st := SP.parked, parkExpiry := 7, tokens := 5 })] [(Reg.STI_COUNT_COUNT, 7)]
     s.spoolOwner 0 = some 0 ∧ s.direct 0 = true ∧ (s.spool 0).st = SP.parked ∧ s.onStandby 0 = false ∧
       s.armedDue (s.spool 0).parkedAt (s.spool 0).parkExpiry = true ∧ s.inTurn Ev.parkExpiry = true ∧
       reached (engSt {} [] [] [(Reg.STI_COUNT_COUNT, 6)]).now 7 = false) ∧
    (let s := engSt { policyGen := 1 } [] [(0, { st := SP.unparking })] [(Reg.PNL_WGT_GEN_GEN 0, 1)]
     s.staleKv 0 0 = true) := by
  decide +kernel

/-! ## Witnesses: panels -/

/-- Panel 0 in a state, with all rows, and the PF's commands may use host memory. -/
def pnlSt (st : Nat) (l : List (Fld × Nat) := []) (rows : Nat := 2 ^ 32 - 1) : State := master (regs (part 0 rows st ++ l))

theorem wit_PanelCommandsNeedTheirState :
    (let c := pf 0 0 0
     ∀ st ∈ [PS.empty, PS.running, PS.stopped, PS.draining], let s := pnlSt st
       s.pst 0 = st ∧ s.direct 0 = true ∧ c.pnl = some 0 ∧ specPanelStart.accepts c s ∧ specPanelStop.accepts (pf 1 0 0) s ∧
       specPanelReset.accepts c s ∧ specPanelSuspend.accepts (pf 4 0 0) s ∧ specPanelRestore.accepts (pf 4 0 0) s ∧
       specPanelCtxRelease.accepts (pf 4 0 0) s) ∧
    (pf 0 0).pnl = none ∧ specPanelStart.accepts (pf 0 0) State.reset ∧ PS.running ∉ [PS.stopped] := by unfold CmdSpec.accepts; decide +kernel

theorem wit_PanelsStartStopAndReset :
    (let s := pnlSt PS.stopped
     specPanelStart.accepts (pf 0 0 0) s ∧ (pf 0 0 0).pnl = some 0 ∧ s.direct 0 = true ∧ s.pst 0 = PS.stopped ∧
       (specPanelStart.begun (pf 0 0 0) s).mixedLayers 0 = false ∧ (specPanelStart.begun (pf 0 0 0) s).bucketsOk 0 = true ∧
       (let z := pnlSt PS.stopped [(Reg.PNL_WGT_PROG_LAYERS 0, 2)]
        ({ z with wgts := sset {} z.wgts 0 { tags := [(0, 1)] } } : State).mixedLayers 0 = true) ∧
       (let z := pnlSt PS.stopped
        ({ z with serves := sset {} z.serves 0 { buckets := [(0, some { srvBucket with maxSlots := 9 }), (1, some srvBucket)] } } : State).bucketsOk 0
          = false)) ∧
    (∀ st ∈ [PS.running, PS.frozen, PS.faulted], let s := pnlSt st
      s.pst 0 = st ∧ s.direct 0 = true ∧ (pf 1 1 0).fld 0 1 = 1 ∧ (pf 1 0 0).fld 0 1 ≠ 1 ∧ specPanelStop.accepts (pf 1 1 0) s ∧
        specPanelStop.accepts (pf 1 0 0) s ∧ specPanelReset.accepts (pf 0 0 0) s ∧ s.pst 0 ≠ PS.empty ∧ s.pst 0 ≤ 6) ∧
    (let s0 := pnlSt PS.draining
     let s := { s0 with panels := sset {} s0.panels 0 { stopJob := some 3 } }
     s.drained 0 = true ∧ s.direct 0 = true ∧ (s.panel 0).stopJob = some 3 ∧ (pnlSt PS.running).drained 0 = false ∧ (running 0 {} s0).drained 0 = false) := by
  unfold CmdSpec.accepts; decide +kernel

/-- Panel 0 with no rows and a park area of `n` pages at 1 MiB, so that a context is its header alone. -/
def ctxSt (st n : Nat) : State :=
  pnlSt st [(Reg.GSE_PARK_BASE_ADDR 0, 2 ^ 20), (Reg.GSE_PARK_CFG_PAGES 0, n)] 0 |> fun s => { s with fns := sset {} s.fns 1 { bme := true } }

/-- The context that such a panel leaves. -/
def ctxImage : List Byte := (ctxSt PS.stopped 2).ctxHead 0 0 []

theorem ctxImage_read (s : State) : ({ s with hostMem := ssetList 0 [] (2 ^ 20) ctxImage } : State).hostRead (2 ^ 20) 4096 = ctxImage := by
  have h : ctxImage.length = 4096 := by decide +kernel
  show sgetList 0 (ssetList 0 [] (2 ^ 20) ctxImage) (2 ^ 20) 4096 = ctxImage
  rw [← h]
  exact sgetList_ssetList_same ..

theorem wit_PanelContextsAreSavedAndRestored :
    (let s := ctxSt PS.stopped 2
     let c := pf 4 0 0
     let b := specPanelSuspend.begun c s
     specPanelSuspend.accepts c s ∧ c.pnl = some 0 ∧ s.direct 0 = true ∧ s.pst 0 = PS.stopped ∧ s.rd (Reg.GSE_PARK_CFG_PAGES 0) ≠ 0 ∧
       b.parkPagesFree 0 (c.fld 0 4) 2 = true ∧ b.ctxMax 0 = 2 ∧ s.parkAddr 0 0 = 2 ^ 20 ∧ b.dmaFail 1 (2 ^ 20) 4096 = none ∧
       (ctxSt PS.stopped 0).rd (Reg.GSE_PARK_CFG_PAGES 0) = 0 ∧ (pf 4 1 0).fld 0 4 = 1 ∧ b.parkPagesFree 0 1 2 = false) ∧
    (∀ st ∈ [PS.stopped, PS.suspended], let s := ctxSt st 2
      let c := pf 4 0 0
      specPanelRestore.accepts c s ∧ specPanelCtxRelease.accepts c s ∧ s.direct 0 = true ∧ s.pst 0 = st ∧ st ≤ 6 ∧
        c.fld 0 4 < s.rd (Reg.GSE_PARK_CFG_PAGES 0) ∧ (specPanelRestore.begun c s).dmaFail 1 (2 ^ 20) ctxHeader = none) ∧
    (specPanelRestore.begun (pf 4 0 0) (ctxSt PS.stopped 2)).ctxHeadOk 0 ctxImage = true ∧
    (specPanelRestore.begun (pf 4 0 0) (ctxSt PS.stopped 2)).ctxHeadOk 0 [] = false ∧
    leAt ctxImage 40 8 = 4096 ∧ 0 + cdiv 4096 65536 ≤ (ctxSt PS.stopped 2).rd (Reg.GSE_PARK_CFG_PAGES 0) ∧
    (specPanelRestore.begun (pf 4 0 0) (ctxSt PS.stopped 2)).dmaFail 1 (2 ^ 20 + ctxHeader) 0 = none ∧
    sha384 [] = slice ctxImage 96 48 ∧ sha384 [] ≠ slice (zeros 4096) 96 48 := by unfold CmdSpec.accepts; decide +kernel

/-- A pattern of one tile whose one bundle is NEND, with the two latency items every step meets (R166, R167, R178). -/
def patImage : List Byte :=
  bytesOf 64 (0x4E525450 + 1 * 2 ^ 32 + 1 * 2 ^ 48 + 1 * 2 ^ 64 + 1 * 2 ^ 80 + 1 * 2 ^ 112 + 1 * 2 ^ 128 + 3 * 2 ^ 160 + 260 * 2 ^ 192) ++
  bytesOf 16 (1 + 1 * 2 ^ 16 + 128 * 2 ^ 64 + 16 * 2 ^ 96) ++ bytesOf 16 (2 + 1 * 2 ^ 16 + 192 * 2 ^ 64 + 64 * 2 ^ 96) ++
  bytesOf 16 (9 + 2 * 2 ^ 16 + 256 * 2 ^ 64 + 4 * 2 ^ 96) ++ bytesOf 16 0 ++
  bytesOf 64 (100 + 50 * 2 ^ 32) ++ bytesOf 32 (1 * 2 ^ 32) ++ bytesOf 32 (2 ^ 4 + 0x2F * 2 ^ 208) ++
  bytesOf 4 (24 + 6 * 2 ^ 8 + 25 * 2 ^ 16 + 16 * 2 ^ 24)

/-- A PATTERN_LOAD of it from 4096, with an option byte. -/
def patCmd (o : Nat := 0) : Cmd := pf 24 (4096 + 260 * 2 ^ 64 + 0xFF * 2 ^ 112 + o * 2 ^ 120) 0

/-- The panel with the image in host memory. -/
def patSt (st : Nat) (l : List (Nat × Pattern) := []) : State :=
  let s := pnlSt st
  { s with hostMem := ssetList 0 [] 4096 patImage, panels := sset {} s.panels 0 { patterns := l } }

def builds (r : Except PFail (Image × Layout)) : Option Nat := match r with
  | .ok y => some y.2.base
  | .error _ => none

theorem wit_PatternsLoadAndUnload :
    (let c := pf 1 0 0
     let s := patSt PS.stopped [(0, {})]
     specPatternUnload.accepts c s ∧ c.pnl = some 0 ∧ s.direct 0 = true ∧ s.pst 0 = PS.stopped ∧ c.fld 0 1 = 0 ∧
       (s.pattern? 0 0).isSome = true ∧ s.wst 0 = WS.none ∧ (patSt PS.stopped).pattern? 0 0 = none ∧ (patSt PS.running).pst 0 ≠ PS.stopped ∧
       (patSt PS.running).isLive 0 = true ∧ (patSt PS.faulted).isLive 0 = false ∧
       (wgtSt WS.ready).pattern? 0 0 ≠ none ∧ (wgtSt WS.ready).wst 0 ≠ WS.none ∧ ((wgtSt WS.ready).wgt 0).place = 0 ∧
       specPatternUnload.accepts c (wgtSt WS.ready)) ∧
    (let c := patCmd
     let s := patSt PS.stopped
     let b := specPatternLoad.begun c s
     specPatternLoad.accepts c s ∧ c.fld 0 8 % 64 = 0 ∧ c.pnl = some 0 ∧ s.direct 0 = true ∧ s.pst 0 = PS.stopped ∧
       bits (c.fld 15 1) 1 1 ≠ 1 ∧ bits ((patCmd 2).fld 15 1) 1 1 = 1 ∧ specPatternLoad.accepts (patCmd 2) s ∧
       (s.panel 0).patterns.length < 32 ∧ 32 ≤ ((patSt PS.stopped ((List.range 32).map (fun k => (k, {})))).panel 0).patterns.length ∧
       s.hostRead (c.fld 0 8) (c.fld 8 4) = patImage ∧ b.dmaFail c.fn (c.fld 0 8) (c.fld 8 4) = none ∧
       builds (b.buildPattern 0 c patImage) = some 0 ∧ builds (b.buildPattern 0 c []) = none ∧
       ({ s with fns := [] } : State).dmaFail 0 4096 256 = some 4096) := by unfold CmdSpec.accepts; decide +kernel

theorem wit_PatternsLoadAndUnload_sharedRanges :
    (let g (t : Nat) : Range := { tile := t, start := 0, len := 64, shared := true, key := 5 }
     let s := patSt PS.stopped [(0, { ranges := [g 0] }), (1, { ranges := [g 1] })]
     s.pattern? 0 0 = some { ranges := [g 0] } ∧ (g 0).shared = true ∧
       ((s.panel 0).patterns.eraseIdx 0).any (fun v => v.2.ranges.any (fun r => r.shared && r.key = (g 0).key)) = true) := by decide +kernel

theorem wit_PatternsLoadAndUnload_asleep :
    let s := (patSt PS.stopped).wr (Reg.PWR_DOM_STATE 0) 1
    let b := specPatternLoad.begun patCmd s
    b.domOn (domOfTile 0) = false ∧ (patSt PS.stopped).domOn (domOfTile 0) = true ∧
      (match b.buildPattern 0 patCmd patImage with | .ok y => some y.2.tiles | .error _ => none) = some [0] := by decide +kernel

theorem wit_StepsLaunchAndEnd_frozen :
    let r : Run := { startIn := 0, tiles := [0] }
    let s := { running 0 r (pnlSt PS.frozen) with tiles := [(0, { ended := true })] }
    (s.panel 0).run = some r ∧ s.isLive 0 = true ∧ s.stepOver r = true ∧ s.pst 0 = PS.frozen := by decide +kernel

theorem wit_StepsLaunchAndEnd :
    (let full : Launch := { launch0 with slots := 0, mask := some 0 }
     let s0 := srvSt { launches := [full] } [] [(Reg.STI_COUNT_COUNT, 100000), (Reg.PNL_WGT_STATE_DEVICES 0, 1)]
     let due (s : State) := sortBy (fun a b => stDiff a.l b.l ≥ 0) ((s.serve 0).launches.filter (fun l => reached s.now l.l))
     due s0 = [full] ∧ s0.inTurn Ev.launch = true ∧ s0.launchRefusal 0 full = St.OK ∧ (s0.pattern? 0 0).isSome = true ∧ due (srvSt { launches := [full] }) = [] ∧
       (let s := srvSt { launches := [launch0] } [] [(Reg.STI_COUNT_COUNT, 100000), (Reg.PNL_WGT_STATE_DEVICES 0, 1)]
        due s = [launch0] ∧ s.inTurn Ev.launch = true ∧ s.launchRefusal 0 launch0 ≠ St.OK)) ∧
    (∀ w ∈ [true, false], let r : Run := { startIn := 0, tiles := [0], unwritten := w }
      let s0 := running 0 r (pnlSt PS.running)
      let s := { s0 with tiles := [(0, { ended := true })] }
      (s.panel 0).run = some r ∧ s.isLive 0 = true ∧ s.stepOver r = true ∧ s0.stepOver r = false ∧ r.unwritten = w ∧
        (pnlSt PS.running).panel 0 = {}) := by decide +kernel

/-! ## Witnesses: the host interface -/

/-- Queue 5 of the PF with a type and a ring at 1 MiB, its completion queue 6, and queue 5's slots and indices: HOST, PROD, READ, RELEASE. -/
def queSt (ty : Nat) (idx : Nat × Nat × Nat × Nat) (slots : Store (BitVec 512) := []) (l : List (Fld × Nat) := []) : State :=
  let s := master (regs ([(Reg.QCFG_CFG_ENABLE 5, 1), (Reg.QCFG_CFG_TYPE 5, ty), (Reg.QCFG_CFG_DEPTH_LOG2 5, 4), (Reg.QCFG_CFG_RING_LOG2 5, 4),
    (Reg.QCFG_CFG_PAIR 5, 6), (Reg.QCFG_CFG_WEIGHT 5, 2), (Reg.QCFG_RING_ADDR 5, 256), (Reg.QCFG_PROD_HOST 5, idx.1), (Reg.QCFG_PROD_PROD 5, idx.2.1),
    (Reg.QCFG_CONS_READ 5, idx.2.2.1), (Reg.QCFG_CONS_RELEASE 5, idx.2.2.2), (Reg.QCFG_CFG_ENABLE 6, 1), (Reg.QCFG_CFG_TYPE 6, 2),
    (Reg.QCFG_CFG_DEPTH_LOG2 6, 4), (Reg.QCFG_CFG_RING_LOG2 6, 4), (Reg.QCFG_RING_ADDR 6, 512)] ++ l))
  { s with queues := sset {} s.queues 5 { slots := slots } }

/-- A command of queue 5. -/
def q5 (c : Cmd) : Cmd := { c with sq := 5 }

theorem wit_CommandsAreCheckedInOrder :
    (let s := queSt 1 (0, 0, 0, 0)
     s.unmirrored (q5 (pf 0 0)) = true ∧ specFwSvnCommit.formOk { q5 (pf 0 0) with rsv := 1 } = false ∧
       specKnotRead.formOk (q5 (pf 2 0)) = true ∧ specKnotRead.formOk (q5 (pf 2 0x10000)) = false ∧
       (let c : Cmd := { q5 (pf 2 0) with cq := 5 }
        c.cq ≠ 0xFFFF ∧ s.isCq c.fn c.cq.toNat = false ∧ specKnotRead.formOk c = true) ∧
       (let c : Cmd := { q5 (pf 2 0) with cq := 6 }
        s.isCq c.fn c.cq.toNat = true) ∧
       (let c : Cmd := { q5 (pf 2 0) with fn := 1 }
        c.fn ≠ 0 ∧ c.panel.toNat + 1 ≠ c.fn ∧ specFwSvnCommit.vf = false ∧ specKnotRead.foreign { c with panel := 0 } (regs (part 1 1 2) s) = true ∧
          specSpoolRead.foreign { c with panel := 0 } (regs (part 1 1 2 ++ [(Reg.PNL_PART_HIST_SPOOL_COUNT 1, 1)]) s) = true ∧
          specKnotRead.formOk c = true) ∧
       (let c := q5 (pf 4 24)
        specPortSet.formOk c = true ∧ c.fn = 0 ∧ c.cq = 0xFFFF ∧ specPortSet.absent c s = true)) ∧
    (let s := queSt 1 (0, 0, 0, 0)
     let c : Cmd := { q5 (pf 2 0) with rsv := 1 }
     specKnotRead.check c s ≠ St.OK ∧ s.twin.capture = false ∧ s.cqOf c = 6 ∧ s.qtype 6 = QT.cq ∧ s.qused 6 < s.qcap 6 ∧
       (let z := queSt 1 (0, 0, 0, 0) [] [(Reg.QCFG_PROD_PROD 6, 16)]
        specKnotRead.check c z ≠ St.OK ∧ z.cqOf c = 6 ∧ z.qcap 6 ≤ z.qused 6) ∧
       s.bit (Reg.QCFG_STAT_STOPPED 6) = false ∧ s.qused 6 < 15 ∧ (queSt 1 (0, 0, 0, 0) [] [(Reg.QCFG_STAT_STOPPED 6, 1)]).bit (Reg.QCFG_STAT_STOPPED 6) = true ∧
       State.reset.cqOf (pf 0 0) < 16384 ∧ State.reset.qtype 0 ≠ QT.cq) := by decide +kernel

/-- The slot of a command with opcode `op`, `len` parameter bytes and reserved word `r`. -/
def cmdSlot (op len : Nat) (r : Nat := 0) : BitVec 512 := BitVec.ofNat 512 (op + 0xFF * 2 ^ 32 + len * 2 ^ 40 + 0xFFFF * 2 ^ 48 + r * 2 ^ 96)

theorem wit_DecoderTakesCommandsInTurn :
    (∀ e ∈ [(0x7777, (none : Option Nat)), (0x0E05, some 0)], let v := cmdSlot e.1 0
      let s := queSt 1 (1, 1, 0, 0) [(0, v)]
      let op := parseCmd (s.queueFn 5) 5 v
      s.nextSq = some 5 ∧ s.pairOk 5 = true ∧ s.qslot 5 (s.qread 5) = some v ∧ ((s.countTurn 5).passPacket 5).twin.tags = [] ∧ op.1 = e.1 ∧
        (op.2.rsv = 0 ∧ op.2.flags.toNat < 4 ∧ op.2.len.toNat ≤ 48 ∧ op.2.par.toNat < 2 ^ (8 * op.2.len.toNat))) ∧
    (specOf 0x7777).isNone = true ∧ (specOf 0x0606).isSome = true ∧
    (let v := cmdSlot 0x0606 2
     let s := queSt 1 (1, 1, 0, 0) [(0, v)]
     let t := (s.countTurn 5).passPacket 5
     let c := (parseCmd 0 5 v).2
     s.nextSq = some 5 ∧ t.unmirrored c = true ∧ t.mirroredSq 5 = none ∧ (specOf 0x0606).map (fun k => k.check c t) = some St.OK ∧
       (specOf 0x0606).map (fun k => k.check { c with rsv := 1 } t) = some St.CMD_FORMAT) ∧
    (let s := queSt 1 (1, 1, 0, 0) [(0, cmdSlot 0x0606 2)] [(Reg.QCFG_CFG_DEPTH_LOG2 5, 5)]
     let z := { s with queues := sset {} s.queues 5 { area := [0] }, bobs := sset {} [] 0 { mem := { written := [(0, 1)], syn := [(0, 1)] } } }
     z.nextSq = some 5 ∧ z.pairOk 5 = true ∧ z.qslot 5 (z.qread 5) = none) ∧
    (let v := cmdSlot 0x0606 2 - 0xFF00000000
     let s := queSt 1 (1, 1, 0, 0) [(0, v)] (part 0 1 2 ++ [(Reg.PNL_PART_RANGE_Q_BASE 0, 5), (Reg.PNL_PART_RANGE_Q_COUNT 0, 2),
       (Reg.FAB_TWIN_STAT_STATE, TW.active), (Reg.FAB_TWIN_PMAP_MIRROR 0, 1)])
     let t := (s.countTurn 5).passPacket 5
     let op := parseCmd (s.queueFn 5) 5 v
     s.nextSq = some 5 ∧ s.pairOk 5 = true ∧ s.qslot 5 (s.qread 5) = some v ∧ t.twin.tags = [] ∧ op.2.pnl = some 0 ∧
       (specOf op.1).map (fun k => k.check op.2 t) = some St.OK ∧ (t.mirroredSq 5).isSome = true ∧ 0x0409 < op.1) ∧
    (let s := queSt 1 (1, 1, 0, 0) [] [(Reg.QCFG_CFG_PAIR 5, 7)]
     s.nextSq = some 5 ∧ s.pairOk 5 = false) ∧
    (let s := { queSt 1 (2, 2, 0, 0) with turn := 5 }
     s.turn ∈ s.enabledQueues ∧ s.decodable s.turn = true ∧ (s.queue s.turn).turn < s.rd (Reg.QCFG_CFG_WEIGHT s.turn)) := by decide +kernel

theorem wit_DecoderTakesCommandsInTurn_waits :
    (let s := queSt 1 (1, 1, 0, 0) [(0, cmdSlot 0x0606 2)] [(Reg.QCFG_CFG_DEPTH_LOG2 5, 5), (Reg.PWR_DOM_STATE 64, 1)]
     let z := { s with queues := sset {} s.queues 5 { area := [0] }, bobs := sset {} [] 0 { mem := { written := [(0, 1)] } } }
     z.nextSq = some 5 ∧ z.pairOk 5 = true ∧ z.asleep 5 (z.qread 5) = some 64) ∧
    (∀ d ∈ [0, 1], let v := cmdSlot 0x0402 24 - 0xFF00000000
      let s := queSt 1 (1, 1, 0, 0) [(0, v)] (part 0 1 2 ++ [(Reg.PWR_DOM_STATE domEngine, d), (Reg.PNL_PART_HIST_SPOOL_COUNT 0, 1)])
      let t := (s.countTurn 5).passPacket 5
      let c := (parseCmd 0 5 v).2
      s.nextSq = some 5 ∧ s.pairOk 5 = true ∧ s.qslot 5 (s.qread 5) = some v ∧ s.asleep 5 (s.qread 5) = none ∧ t.twin.tags = [] ∧ t.mirroredSq 5 = none ∧
        specSpoolAppend.check c t = St.OK ∧ (specSpoolAppend.needs c t).all t.domOn = decide (d = 0)) ∧
    (let v := cmdSlot 0x0606 2 - 0xFF00000000
     let s := queSt 1 (1, 1, 0, 0) [(0, v)] (part 0 1 2 ++ [(Reg.PNL_PART_RANGE_Q_BASE 0, 5), (Reg.PNL_PART_RANGE_Q_COUNT 0, 2),
       (Reg.FAB_TWIN_STAT_STATE, TW.solo), (Reg.FAB_TWIN_PMAP_MIRROR 0, 1)])
     let y : TagEntry := { q := 5, i := 0, tag := 0, status := 0, detail := 0 }
     let z := { s with twin := { tags := [y] } }
     let t := (z.countTurn 5).passPacket 5
     z.nextSq = some 5 ∧ z.pairOk 5 = true ∧ z.qslot 5 (z.qread 5) = some v ∧ (z.queueOwner 5).isSome = true ∧ t.mirroredSq 5 = none ∧
       t.twin.tags.find? (fun y => y.q = 5 && y.i = z.qread 5 && y.tag = (parseCmd (z.queueFn 5) 5 v).2.tag) = some y) := by decide +kernel

theorem wit_an_idle_decoder : ∀ q, q < 16384 → State.reset.decodable q = false := by
  intro q _
  have h : State.reset.bit (Reg.QCFG_CFG_ENABLE q) = false := rfl
  simp [State.decodable, State.qon, h]

theorem wit_RingsMoveEntriesInOrder :
    (let s := queSt 1 (0, 0, 0, 0)
     s.queueFn 5 = 0 ∧ s.qon 5 = true ∧ s.qtype 5 ≠ QT.none ∧ s.hasRing 5 = true ∧ hostFed (s.qtype 5) = true ∧
       d32 16 (s.qhost 5) ≤ s.ringSize 5 ∧ d32 16 (s.qrel 5) ≤ s.ringSize 5 ∧ ¬ d32 17 (s.qhost 5) ≤ s.ringSize 5) ∧
    (let s := queSt 2 (0, 3, 0, 0)
     hostFed (s.qtype 5) = false ∧ s.qhost 5 = 0 ∧ d32 0 (s.qhost 5) ≤ d32 (s.qrel 5) (s.qhost 5) ∧
       ¬ d32 1 (s.qhost 5) ≤ d32 (s.qrel 5) (s.qhost 5)) ∧
    (let s := queSt 1 (1, 0, 0, 0)
     s.qon 5 = true ∧ hostFed (s.qtype 5) = true ∧ s.hasRing 5 = true ∧ s.bit (Reg.QCFG_STAT_STOPPED 5) = false ∧ s.qprod 5 ≠ s.qhost 5 ∧
       s.qused 5 < s.qcap 5 ∧ (s.fnc (s.queueFn 5)).bme = true ∧ d32 (s.qprod 5) (s.qrel 5) < 16 ∧ s.dmaFail (s.queueFn 5) (s.ringAddr 5 0) 64 = none ∧
       ({ s with dmaBad := [(none, s.ringAddr 5 0, s.ringAddr 5 0 + 64)] } : State).dmaFail 0 (s.ringAddr 5 0) 64 ≠ none ∧ (queSt 1 (0, 0, 0, 0)).qprod 5 = (queSt 1 (0, 0, 0, 0)).qhost 5) ∧
    (let s := queSt 2 (0, 1, 0, 0)
     s.qtype 5 = QT.cq ∧ s.qread 5 ≠ s.qprod 5 ∧ s.packetSlots 5 = 1 ∧ d32 (s.qread 5) (s.qhost 5) + 1 ≤ s.ringSize 5 ∧
       s.bit (Reg.QCFG_STAT_STOPPED 5) = false ∧ (s.fnc (s.queueFn 5)).bme = true ∧ s.packetAsleep 5 1 = [] ∧ (s.queue 5).area = [] ∧
       (let z := queSt 2 (0, 1, 0, 0) [] [(Reg.QCFG_CFG_DEPTH_LOG2 5, 5), (Reg.PWR_DOM_STATE 64, 1)]
        ({ z with queues := sset {} z.queues 5 { area := [0] } } : State).packetAsleep 5 1 = [64]) ∧ (s.readPacket 5 1).toBool = true ∧ s.dmaFail 0 (s.ringAddr 5 0) (s.ringEntry 5) = none ∧
       ({ s with dmaBad := [(none, s.ringAddr 5 0, s.ringAddr 5 0 + 64)] } : State).dmaFail 0 (s.ringAddr 5 0) (s.ringEntry 5) ≠ none ∧
       (let z := queSt 2 (0, 1, 0, 0) [] [(Reg.QCFG_CFG_DEPTH_LOG2 5, 5)]
        ({ z with queues := sset {} z.queues 5 { area := [0] }
                  bobs := sset {} [] 0 { mem := { written := [(0, 1)], syn := [(0, 1)] } } } : State).readPacket 5 1 |>.toBool) = false) := by decide +kernel

theorem wit_QueuePacketsArriveAndSignal :
    (∀ st ∈ [0, 1], ∀ prod ∈ [0, 16], let s0 := queSt 3 (0, prod, 0, 0) [] [(Reg.QCFG_CFG_EP 5, 1030), (Reg.QCFG_STAT_STOPPED 5, st)]
      let f : Flight := { pkt := { op := POp.write, len := 1, payload := [1] }, loc := .eject (epHost 1030) }
      let s := { s0 with noc := { flights := [f] } }
      s.qon 5 = true ∧ s.qtype 5 = QT.fabric ∧ s.rd (Reg.QCFG_CFG_EP 5) = 1030 ∧ s.ejected (epHost 1030) (fun _ => true) = some (0, f) ∧
        s0.ejected (epHost 1030) (fun _ => true) = none ∧ s.bit (Reg.QCFG_STAT_STOPPED 5) = decide (st = 1) ∧
        (s.qcap 5 < s.qused 5 + (packetSlotList f.pkt).length ↔ prod = 16) ∧ s.qcap 5 ≤ 65536 ∧ s.qprod 5 < 2 ^ 32) ∧
    (∀ on ∈ [true, false], let s0 := queSt 2 (0, 1, 0, 0) [] [(Reg.QCFG_IRQ_DELAY_US 5, 1), (Reg.QCFG_IRQ_IRQ_EN 5, 1), (Reg.QCFG_IRQ_VECTOR 5, 9),
        (Reg.STI_COUNT_COUNT, 1000)]
      let s := { s0 with queues := sset {} s0.queues 5 { unsig := 1 }, fns := [(0, { msixOn := on, unmasked := [9] })] }
      0 < (s.queue 5).unsig ∧ s.rd (Reg.QCFG_IRQ_DELAY_US 5) = 1 ∧ reached s.now ((s.queue 5).unsigAt + 1000) = true ∧
        s.bit (Reg.QCFG_IRQ_IRQ_EN 5) = true ∧ (s.fnc (s.queueFn 5)).msixOn = on ∧ 9 ∈ (s.fnc (s.queueFn 5)).unmasked ∧
        s.rd (Reg.QCFG_IRQ_VECTOR 5) = 9 ∧ reached (999 : W64) ((s.queue 5).unsigAt + 1000) = false) := by decide +kernel

theorem wit_QueuesAreEnabledAndConsumed :
    (∀ st ∈ [PS.stopped, PS.running], let s := queSt 1 (0, 0, 0, 0) [] (part 0 1 st ++ [(Reg.PNL_PART_RANGE_Q_BASE 0, 5), (Reg.PNL_PART_RANGE_Q_COUNT 0, 2)])
      s.queueOwner 5 = some 0 ∧ s.queueFn 5 = 1 ∧ s.pst 0 = st ∧ s.qon 5 = true) ∧
    (let s := { queSt 1 (0, 0, 0, 0) [] [(Reg.QCFG_CFG_ENABLE 5, 0)] with qareaPages := 1 }
     s.queueOwner 5 = none ∧ s.qon 5 = false ∧ s.enableOk 5 = true ∧
       ({ queSt 1 (0, 0, 0, 0) [] [(Reg.QCFG_CFG_ENABLE 5, 0), (Reg.QCFG_CFG_DEPTH_LOG2 5, 3)] with qareaPages := 1 } : State).enableOk 5 = false) ∧
    (queSt 2 (0, 0, 0, 0)).qon 5 = true ∧ hostFed ((queSt 2 (0, 0, 0, 0)).qtype 5) = false ∧ State.reset.qon 5 = false ∧
    (∀ ar ∈ [0, 1], ∀ mv ∈ [0, 1], ∀ cr ∈ [0, 1], let s := queSt 1 (3, 3, 2, 1) [] [(Reg.QCFG_CFG_AUTO_RELEASE 5, ar), (Reg.QCFG_MARK_MARK_VALID 5, mv),
        (Reg.QCFG_MARK_MARK 5, 1), (Reg.QCFG_CFG_CREDIT_EN 5, cr)]
      s.qon 5 = true ∧ hostFed (s.qtype 5) = true ∧ s.bit (Reg.QCFG_CFG_AUTO_RELEASE 5) = decide (ar = 1) ∧
        s.bit (Reg.QCFG_MARK_MARK_VALID 5) = decide (mv = 1) ∧ s.bit (Reg.QCFG_CFG_CREDIT_EN 5) = decide (cr = 1)) ∧
    (let s := queSt 1 (3, 3, 2, 1) [(2, cmdSlot 0x0606 2)]
     d32 (s.qread 5) (s.qrel 5) < d32 3 (s.qrel 5) ∧ d32 2 (s.qrel 5) ≤ d32 (s.qread 5) (s.qrel 5) ∧ s.qread 5 ≠ s.qprod 5 ∧
       s.deliverable 5 = true ∧ (s.queue 5).area = [] ∧ s.packetAsleep 5 (s.packetSlots 5) = [] ∧ (s.readPacket 5 (s.packetSlots 5)).toBool = true ∧ (queSt 1 (3, 3, 3, 1)).deliverable 5 = false ∧
       (queSt 1 (3, 3, 3, 1)).qread 5 = (queSt 1 (3, 3, 3, 1)).qprod 5) ∧
    (let z := queSt 1 (1, 1, 0, 0) [] [(Reg.QCFG_CFG_DEPTH_LOG2 5, 5)]
     let s := { z with queues := sset {} z.queues 5 { area := [0] }, bobs := sset {} [] 0 { mem := { written := [(0, 1)], syn := [(0, 1)] } } }
     s.deliverable 5 = true ∧ s.packetAsleep 5 (s.packetSlots 5) = [] ∧ (s.readPacket 5 (s.packetSlots 5)).toBool = false ∧
       (s.wr (Reg.PWR_DOM_STATE 64) 1).packetAsleep 5 (s.packetSlots 5) ≠ []) ∧
    (let s := queSt 1 (3, 3, 2, 1)
     let c : Cmd := { pf 8 (5 + 3 * 2 ^ 16) with sq := 7 }
     specQueueCtl.accepts c s ∧ s.unmirrored c = true ∧ c.fld 0 2 = 5 ∧ c.fld 2 1 = 3 ∧ c.fld 0 2 ≠ c.sq ∧ s.queueOwner 5 = none ∧
       ((specQueueCtl.begun c s).qdoOp 5 3 (c.fld 4 4)).isSome = true ∧ ((specQueueCtl.begun c s).qdoOp 5 1 0).isNone = true ∧
       (pf 8 (5 + 5 * 2 ^ 16)).fld 2 1 = 5 ∧ specQueueCtl.accepts (q5 (pf 8 5)) s ∧ (q5 (pf 8 5)).fld 0 2 = (q5 (pf 8 5)).sq) ∧
    (let s := queSt 1 (3, 3, 2, 1) [] (part 0 1 PS.stopped ++ [(Reg.PNL_PART_RANGE_Q_BASE 0, 5), (Reg.PNL_PART_RANGE_Q_COUNT 0, 2)])
     s.queueOwner 5 = some 0 ∧ (∀ c ∈ [pf 8 5 0, pf 8 5], specQueueCtl.accepts c s ∧ c.fld 0 2 = 5) ∧ (pf 8 5 0).pnl = some 0 ∧ (pf 8 5).pnl ≠ some 0) := by unfold CmdSpec.accepts; decide +kernel

theorem wit_HostSideResets :
    (let s := master
     specDevReset.accepts (pf 1 0) s ∧ specDevReset.accepts (pf 1 2) s ∧ s.unmirrored (pf 1 0) = true ∧ 1 < (pf 1 2).fld 0 1 ∧
       (pf 1 1).fld 0 1 ≤ 1 ∧ s.tws = TW.unpaired) ∧
    (∀ q ∈ [5, 6], let s0 := queSt 1 (0, 0, 0, 0)
      let s := { s0 with boot := { s0.boot with resetWait := [(6, 7, true)] } }
      s.boot.resetWait = [(6, (7 : BitVec 512).toNat % 2 ^ 63, true)] ∧ (s.qtype q = QT.cq ↔ q = 6)) ∧
    (∀ cold ∈ [true, false], let s := { regs [(Reg.STI_COUNT_COUNT, 100000)] with boot := { State.reset.boot with resets := [(100000#64, cold)] } }
      s.boot.resets.find? (fun r => reached s.now r.1) = some (100000#64, cold) ∧
        ({ State.reset with boot := s.boot } : State).boot.resets.find? (fun r => reached (99999 : W64) r.1) = none) ∧
    (∀ st ∈ [PS.empty, PS.running, 6], let s := queSt 1 (3, 3, 2, 1) [] (part 15 (2 ^ 31) st ++ [(Reg.PNL_PART_RANGE_Q_BASE 15, 5), (Reg.PNL_PART_RANGE_Q_COUNT 15, 1)])
      s.pst 15 = st ∧ s.pst 15 ≤ 6 ∧ s.enabled 15 = true ∧ s.queueOwner 5 = some 15 ∧ s.queueOwner 6 ≠ some 15 ∧ s.enabled 14 = false ∧
        s.hasRing 5 = true) := by unfold CmdSpec.accepts; decide +kernel

theorem wit_RegistersAreAccessedByTheirRules :
    (let s := master (regs [(Reg.DEV_BOOT_STAT_STAGE, BS.ready)])
     s.reachable 0 = true ∧ s.reachable 1 = false ∧ s.stage ≠ BS.waitPush ∧ (⟨0, .bar0, 4, 8⟩ : RegAccess).ok = false ∧
       (⟨0, .bar0, 4, 4⟩ : RegAccess).ok = true ∧ s.target ⟨0, .bar0, 0x4000000, 8⟩ = .none ∧ s.target ⟨0, .bar0, 0x1000008, 8⟩ = .reg 0x1000008 false ∧
       s.target ⟨0, .bar2, 0, 8⟩ = stitchPage 0 ∧ s.target ⟨0, .bar2, 0x10058, 8⟩ = .mirror 5 1 ∧ s.target ⟨0, .bar0, 0x3010028, 8⟩ = .flog 1 1 ∧
       s.target ⟨0, .bar2, 0x801000, 8⟩ = .pba 0 ∧ s.target ⟨0, .bar0, 0x400028, 8⟩ = .doorbell 5 ∧
       (⟨0, .bar0, 0x400028, 8⟩ : RegAccess).lo = 0 ∧ (⟨0, .bar0, 0x400028, 8⟩ : RegAccess).ok = true ∧ s.pst 0 ≠ PS.stopped ∧
       (regs [(Reg.DEV_LOCK_STAT_LOCKED, 1)]).bit Reg.DEV_LOCK_STAT_LOCKED = true) ∧
    ({ State.reset with power := { on := false } } : State).power.on = false ∧ State.reset.power.on = true ∧
    (regs [(Reg.DEV_BOOT_STAT_STAGE, BS.rom)]).stage ≠ BS.ready ∧ (regs [(Reg.DEV_BOOT_STAT_STAGE, BS.rom)]).stage ≠ BS.waitPush ∧
    (regs [(Reg.DEV_BOOT_STAT_STAGE, BS.ready)]).reachable 1 = false ∧
    ({ regs [(Reg.DEV_BOOT_STAT_STAGE, BS.ready)] with fns := [(0, { numVfs := 16 })] } : State).reachable 16 = true := by decide +kernel

/-! ## Witnesses: power -/

/-- The state after reset with other power, and some register fields. -/
def powSt (w : Power) (l : List (Fld × Nat) := []) : State := { regs l with power := w }

/-- Panel 0 on the first 32 rows in a state, able to launch at stitch `l`, with the domain of row 0 in state `d`. -/
def wakeSt (l : W64) (d : Nat) : State :=
  let s := regs (part 0 (2 ^ 32 - 1) PS.running ++ [(Reg.PWR_DOM_STATE 0, d)])
  { s with serves := sset {} s.serves 0 { launches := [launch0 |> fun x => { x with l := l }] } }

theorem wit_PowerFollowsInputAndDecisions :
    (∀ b ∈ [true, false], ∀ o ∈ [true, false], let s := powSt { lowEp := b, highEp := b, on := o, deferredStart := true }
      s.power.lowEp = b ∧ s.power.highEp = b ∧ s.power.on = o ∧ s.power.deferredStart = true ∧ s.power.pwrEn = true) ∧
    ((39999 < 40000 ∧ 10000 ≤ 10000) ∧ (59000 < 59001 ∧ 1000 ≤ 1000) ∧ ¬ ((39999 < 40000 ∧ 10000 ≤ 9999) ∨ (59000 < 39999 ∧ 1000 ≤ 9999))) ∧
    (let s := powSt { fell := true, on := false, vin := 42000 }
     s.power.fell = true ∧ 249999999 < 250000000 ∧ ¬ (s.power.fell = true ∧ 250000000 < 250000000) ∧ s.power.on = false ∧
       42000 ≤ s.power.vin ∧ s.power.vin ≤ 58000 ∧ (powSt { on := false, vin := 41999 }).power.vin < 42000) ∧
    (let s := powSt { starting := true, on := false }
     s.power.starting = true ∧ s.power.on = false) ∧
    (∀ r ∈ [900, 899], let m : PowerSample := { rail := r }
      let s := regs (part 0 3 PS.stopped ++ [(Reg.DEV_BOOT_STAT_STAGE, 5), (Reg.DEV_ROW_MAP_DISABLED, 2), (Reg.PWR_DOM_HOLD 2, 1)])
      s.power.on = true ∧ s.rd Reg.DEV_BOOT_STAT_STAGE = 5 ∧ s.multipleDue (1000 * max 1 (s.rd Reg.PWR_CTL_DECIDE_US)) s.power.decidedAt = true ∧ s.inTurn Ev.governor = true ∧
        (s.rd Reg.PWR_RAIL_RELEASE_MJ ≤ m.rail % 4096 ↔ r = 900) ∧ (∀ d, d < 84 → s.domPresent d = true) ∧ s.rowDisabled 1 = true ∧
        s.bit (Reg.PWR_DOM_HOLD 2) = true ∧ s.rowDisabled 2 = false ∧ s.rowDisabled 0 = false ∧ s.panelOfRow 0 = some 0 ∧
        (regs [(Reg.STI_COUNT_COUNT, 1)]).multipleDue (1000 * max 1 (s.rd Reg.PWR_CTL_DECIDE_US)) none = false) ∧
    (let s := wakeSt 0 DS.retention
     (s.serve 0).launches.any (fun l => reached (s.now + BitVec.ofNat 64 (s.groupWake 0)) l.l) = true ∧ 0 ∈ s.wakeGroup 0 ∧ 63 ∉ s.wakeGroup 0 ∧
       s.domOn 0 = false ∧ s.domOn 1 = true ∧ sget none s.power.waking 0 = none ∧
       (wakeSt (2 ^ 40) DS.retention).serve 0 ≠ s.serve 0 ∧
       ((wakeSt (2 ^ 40) DS.retention).serve 0).launches.any (fun l => reached (s.now + BitVec.ofNat 64 (s.groupWake 0)) l.l) = false) ∧
    (∀ t ∈ [0, 1], let s := powSt { waking := [(83, some (BitVec.ofNat 64 t))] } [(Reg.PWR_DOM_STATE 83, DS.gated)]
      s.domOn 83 = false ∧ (powSt {}).domOn 83 = true ∧ sget none s.power.waking 83 = some (BitVec.ofNat 64 t) ∧ reached s.now (BitVec.ofNat 64 t) = decide (t = 0)) ∧
    (let s := running 0 {} (regs (part 0 1 PS.running ++ part 1 2 PS.running ++ [(Reg.PWR_PNL_EFFECTIVE_W 0, 100), (Reg.PWR_PNL_EFFECTIVE_W 1, 50),
        (Reg.PNL_PART_CFG_BUDGET_W 1, 40), (Reg.PNL_PART_CFG_BUDGET_W 0, 100)]))
     let live := panels16.filter (fun p => s.isLive p && !s.power.braked.contains p)
     s.power.on = true ∧ 600 ≤ s.rd Reg.PWR_RAIL_BRAKE_MJ ∧ s.rd Reg.PWR_RAIL_BRAKE_MJ < 601 ∧ live = [0, 1] ∧
       live.filter (fun p => s.rd (Reg.PWR_PNL_EFFECTIVE_W p) < [101].getD p 0) = [0] ∧
       live.filter (fun p => s.rd (Reg.PWR_PNL_EFFECTIVE_W p) < [].getD p 0) = [] ∧
       live.filter (fun p => s.rd (Reg.PNL_PART_CFG_BUDGET_W p) < s.rd (Reg.PWR_PNL_EFFECTIVE_W p)) = [1] ∧
       s.pst 0 = PS.running ∧ (s.panel 0).run.isSome = true) ∧
    (let s := regs (part 0 1 PS.stopped)
     let w := s.ceiling32 0 / 32
     specPwrEnvelope.accepts (pf 3 (w + 2 ^ 16) 0) s ∧ specPwrEnvelope.accepts (pf 3 (w + 1) 0) s ∧ (pf 3 (w + 1) 0).pnl = some 0 ∧
       s.unmirrored (pf 3 (w + 1) 0) = true ∧ s.pst 0 ≠ PS.empty ∧ 32 * (pf 3 (w + 2 ^ 16) 0).fld 0 2 ≤ s.ceiling32 0 ∧
       s.ceiling32 0 < 32 * (pf 3 (w + 1) 0).fld 0 2) ∧
    (let s := regs [(Reg.DEV_ROW_MAP_DISABLED, 2), (Reg.PWR_DOM_STATE 83, DS.gated)]
     specPwrHold.accepts (pf 2 84) s ∧ 84 ≤ (pf 2 84).fld 0 1 ∧ specPwrHold.accepts (pf 2 (83 + 2 * 256)) s ∧
       1 < (pf 2 (83 + 2 * 256)).fld 1 1 ∧ specPwrHold.accepts (pf 2 1) s ∧ s.rowDisabled ((pf 2 1).fld 0 1) = true ∧
       specPwrHold.accepts (pf 2 (83 + 256)) s ∧ (pf 2 (83 + 256)).fld 0 1 < 84 ∧ (pf 2 (83 + 256)).fld 1 1 = 1 ∧ (pf 2 83).fld 1 1 = 0 ∧
       s.domOn 83 = false ∧ s.unmirrored (pf 2 83) = true) := by
  unfold CmdSpec.accepts
  refine ⟨?_, ?_, ?_, ?_, ?_, ?_, ?_, ?_, ?_, ?_⟩
  · decide +kernel
  · decide +kernel
  · decide +kernel
  · decide +kernel
  · decide +kernel
  · decide +kernel
  · decide +kernel
  · decide +kernel
  · decide +kernel
  · decide +kernel

theorem wit_PowerFollowsInputAndDecisions_waiters :
    (let j : Job := { id := 9, opcode := 0x0402, cmd := {}, cq := 0, idx := none }
     let s := { powSt { waking := [(83, some 0)], jobsWait := [(9, [83, 0])] } [(Reg.PWR_DOM_STATE 83, DS.gated)] with jobs := [j] }
     sget none s.power.waking 83 = some 0 ∧ reached s.now 0 = true ∧ s.domOn 83 = false ∧ s.queues = [] ∧ s.jobs = [j] ∧ s.power.jobsWait = [(j.id, [83, 0])] ∧
       (∀ e ∈ [83, 0], e = 83 ∨ s.domOn e = true) ∧ (specOf j.opcode).isSome = true ∧ s.unmirrored j.cmd = true ∧ s.mirroredSq j.cmd.sq = none) ∧
    (let s := powSt {}
     s.domOn 83 = true ∧ s.power.jobsWait = [] ∧ s.queues = []) := by decide +kernel

theorem wit_PowerFollowsInputAndDecisions_ballast :
    (let s := powSt { rest := 480000 }
     s.power.iin < s.targetUa ∧ ¬ s.rd Reg.DEV_FEAT_PWR_MAX_INPUT_W * 1000000000 ≤ s.power.vin * s.power.iin ∧
       s.rd Reg.PWR_RAIL_E_MJ < s.rd Reg.PWR_RAIL_TARGET_MJ ∧ s.power.load < s.loadMw) ∧
    (let s := powSt { iin := 3000000, load := 10 ^ 9 }
     s.targetUa ≤ s.power.iin ∧ s.loadMw ≤ s.power.load) ∧
    (let s := powSt { iin := 10 ^ 9 }
     s.rd Reg.DEV_FEAT_PWR_MAX_INPUT_W * 1000000000 ≤ s.power.vin * s.power.iin) := by decide +kernel

/-! ## Witnesses: boot, security and the sideband -/

/-- A signed firmware image with security version 7 and a body of one byte (R451). -/
def fwImage : List Byte := bytesOf 576
  0x65ab40e1bff7176e8c01480290971dd381151c4fc36ed2a37c1f8303548e85ec38b2db4c4b3e75a9d3c38a03e903392f1c4596cbf559dfd0bb58953b3d9d9d8aaea179ec594acdbfcec4a01de984d7d8b80c24cd89d018267e0bf91faabdb12400000000000000000000000000000000000000000000000000000000000000000000000000000000000000000000000000000000000000000000000000000000000000000000000000000000000000003d9f6236478382e1a26fe689cab054984638494bd737254bb86cf6c2ae8f18ff2ca85d828b97bcfcf6658811bed594fb0000000000000000000000000000000000000000000000000000000000000000000000000000000000000000000000000000000000000000000000000000000000000000000000000000000000000000000000000000000000000000000000003e620e48cb4177bc7011dd0af35241c253140b4967eefee6ccd897503c44809ad569429c0ab2265650fc8a0babdc7145f7fd3963acfe957586067977c4c67a138b4f84a6ad5aa5381cd99a854844271dd91b6844a33cee9e3107485abc48d3800000000000000000000000000000000000000000000000000000000000000000000000000000000000000000000000000000000100000007000000014d524946 ++ (zeros 3520 ++ [0xAB])

/-- A signed partition manifest that gives panel 0 the first 32 rows (R386, R387). -/
def pmImage : List Byte := bytesOf 256
  0x6400000000000000000000000000000000000000000000ffffffff000000000000010100000000000000000000000000000000000000000000000000000000000000003e620e48cb4177bc7011dd0af35241c253140b4967eefee6ccd897503c44809ad569429c0ab2265650fc8a0babdc7145f7fd3963acfe957586067977c4c67a138b4f84a6ad5aa5381cd99a854844271dd91b6844a33cee9e3107485abc48d38000000000000000000000000000000000000000000000000000000000000000000000000000000000000000000000000000000000000000000000000154524150 ++ (zeros 1984 ++ bytesOf 96
  0xda8ab8e22e6d1607312dbcbb5b68d3ac4df4816f39be5fb5a8e6d23a1ed57e67f4d49b727d82fd8a5123bd13197e28461c4596cbf559dfd0bb58953b3d9d9d8aaea179ec594acdbfcec4a01de984d7d8b80c24cd89d018267e0bf91faabdb124)

/-- The device with the hash of the key that signs them as the vendor's, in a boot stage, with the image in the flash and, behind the
manifest, in host memory. -/
def fwSt (stage : Nat) (l : List (Fld × Nat) := []) : State :=
  let s := master (regs ([(Reg.DEV_VENDOR_HASH_HASH 0, 0x88d212cf0a254925), (Reg.DEV_VENDOR_HASH_HASH 1, 0xa0cb57ad88443296),
    (Reg.DEV_VENDOR_HASH_HASH 2, 0xa0e599d66b86708), (Reg.DEV_VENDOR_HASH_HASH 3, 0xba2de58760c61a58),
    (Reg.DEV_VENDOR_HASH_HASH 4, 0xea5f43b06911733b), (Reg.DEV_VENDOR_HASH_HASH 5, 0xd90892b7befecc31), (Reg.DEV_BOOT_STAT_STAGE, stage),
    (Reg.DEV_BOOT_PUSH_ADDR_ADDR, 8192), (Reg.DEV_BOOT_PUSH_LEN_LEN, 4097)] ++ l))
  { s with
    boot := { s.boot with flash := ssetList 0xFF [] 0 fwImage }
    hostMem := ssetList 0 (ssetList 0 [] 4096 pmImage) 8192 fwImage }

theorem fwImage_length : fwImage.length = 4097 := by
  show (bytesOf 576 _ ++ (zeros 3520 ++ [0xAB])).length = 4097
  simp only [List.length_append, zeros, List.length_replicate]
  decide +kernel

theorem pmImage_length : pmImage.length = 2336 := by decide +kernel

/-- A shorter read is the front of a longer one. -/
theorem sgetList_take {α : Type} (d : α) (m : Store α) (k n N : Nat) (h : n ≤ N) : sgetList d m k n = (sgetList d m k N).take n := by
  rw [sgetList_eq, sgetList_eq, ← List.map_take, List.take_range, Nat.min_eq_left h]

theorem fwSt_flashRead (g : Nat) (l : List (Fld × Nat)) : (fwSt g l).flashRead 0 4097 = fwImage := by
  show sgetList 0xFF (ssetList 0xFF [] 0 fwImage) 0 4097 = fwImage
  rw [← fwImage_length]
  exact sgetList_ssetList_same ..

theorem fwSt_flashHead (g : Nat) (l : List (Fld × Nat)) (n : Nat) (h : n ≤ 4097) : (fwSt g l).flashRead 0 n = fwImage.take n := by
  rw [← fwSt_flashRead g l]
  exact sgetList_take _ _ _ _ _ h

theorem fwSt_hostRead (g : Nat) (l : List (Fld × Nat)) : (fwSt g l).hostRead 8192 4097 = fwImage ∧ (fwSt g l).hostRead 4096 2336 = pmImage := by
  constructor
  · show sgetList 0 (ssetList 0 _ 8192 fwImage) 8192 4097 = fwImage
    rw [← fwImage_length]
    exact sgetList_ssetList_same ..
  · show sgetList 0 (ssetList 0 (ssetList 0 [] 4096 pmImage) 8192 fwImage) 4096 2336 = pmImage
    rw [sgetList_ssetList_ne _ _ _ _ _ _ (Or.inl (by decide)), ← pmImage_length]
    exact sgetList_ssetList_same ..

theorem fwImage_passes : (fwSt BS.rom).imageCheck fwImage = St.OK ∧ (fwSt BS.waitPush).imageCheck fwImage = St.OK ∧
    (fwSt BS.ready).imageCheck fwImage = St.OK ∧ State.reset.imageCheck [] = St.FW_FORMAT := by decide +kernel

theorem pmImage_passes : (fwSt BS.ready).partCheck pmImage = St.OK ∧ (fwSt BS.ready).partCheck [] = St.PARTITION_SIGNATURE := by decide +kernel

theorem wit_the_flash_image_starts :
    (fwSt BS.rom).boot.flashOk = true ∧ leAt ((fwSt BS.rom).flashRead 0 4) 0 4 = 0x4D524946 ∧ (fwSt BS.rom).flashImage = fwImage ∧
    (fwSt BS.rom).imageCheck (fwSt BS.rom).flashImage = St.OK ∧ (fwSt BS.rom).power.on = true ∧ (fwSt BS.rom).boot.rstLow = false ∧
    (fwSt BS.rom).stage = BS.rom ∧ (fwSt BS.waitPush).stage = BS.waitPush ∧ (fwSt BS.waitPush).dmaFail 0 8192 4097 = none ∧
    (fwSt BS.waitPush).imageCheck ((fwSt BS.waitPush).hostRead 8192 4097) = St.OK ∧
    (fwSt BS.waitPush).rd Reg.DEV_BOOT_PUSH_ADDR_ADDR = 8192 ∧ (fwSt BS.waitPush).rd Reg.DEV_BOOT_PUSH_LEN_LEN = 4097 := by
  have h : (fwSt BS.rom).flashImage = fwImage := by
    show (fwSt BS.rom).flashRead 0 (4096 + min 4128768 (leAt ((fwSt BS.rom).flashRead 0 16) 12 4)) = fwImage
    rw [fwSt_flashHead _ _ 16 (by decide), show 4096 + min 4128768 (leAt (fwImage.take 16) 12 4) = 4097 from by decide +kernel]
    exact fwSt_flashRead ..
  refine ⟨rfl, ?_, h, ?_, rfl, rfl, by decide +kernel, by decide +kernel, by decide +kernel, ?_, by decide +kernel, by decide +kernel⟩
  · rw [fwSt_flashHead _ _ 4 (by decide)]
    decide +kernel
  · rw [h]
    exact fwImage_passes.1
  · rw [(fwSt_hostRead ..).1]
    exact fwImage_passes.2.1

theorem wit_BootSecurityAndSideband :
    (State.reset.boot.flashOk = true ∧ leAt (State.reset.flashRead 0 4) 0 4 ≠ 0x4D524946 ∧ State.reset.stage = BS.rom ∧
      ({ State.reset with boot := { flashOk := false } } : State).boot.flashOk = false ∧ State.reset.dmaFail 0 0 0 = some 0) ∧
    (let s := regs [(Reg.DEV_BOOT_STAT_STAGE, BS.fwInit)]
     s.stage = BS.fwInit ∧ s.power.on = true ∧ (s.placeSpares []).2 = true ∧ (s.placeSpares [0]).2 = true ∧ (s.placeSpares [0, 1]).2 = false ∧
       s.partSource = none) ∧
    (∀ k ∈ [0, 3], ∀ t ∈ [0, 1], let s := { regs [(Reg.STI_COUNT_COUNT, 100000000), (Reg.DEV_BOOT_STAT_STAGE, if t = 0 then BS.ready else BS.waitPush)] with
        boot := { cores := [(k, some (BitVec.ofNat 64 t))] } }
      sget none s.boot.cores k = some (BitVec.ofNat 64 t) ∧ k < 4 ∧ (8 + 1 : BitVec 4).getLsbD k = true ∧
        reached s.now (BitVec.ofNat 64 t + BitVec.ofNat 64 (1000000 * max 10 (s.rd Reg.DEV_WDT_MS))) = decide (t = 0) ∧
        s.stage = (if t = 0 then BS.ready else BS.waitPush)) ∧
    (∀ c ∈ [0, 1], let s := regs [(Reg.DEV_RST_CTL_RST_N_COLD, c)]
      40000 ≤ s.power.vin ∧ s.boot.rstLow = false ∧ s.power.on = true ∧ s.bit Reg.DEV_RST_CTL_RST_N_COLD = decide (c = 1) ∧
        ({ s with boot := { rstLow := true } } : State).boot.rstLow = true) ∧
    (let s := fwSt BS.ready
     let c := pf 12 (8192 + 4097 * 2 ^ 64)
     specFwUpdate.accepts c s ∧ s.unmirrored c = true ∧ c.fld 0 8 = 8192 ∧ c.fld 8 4 = 4097 ∧ s.dmaFail c.fn 8192 4097 = none ∧
       s.boot.flashOk = true ∧ s.boot.flashFail = false ∧ s.flashBad = false ∧
       ({ s with boot := { s.boot with flashFail := true } } : State).flashBad = true) ∧
    (∀ v ∈ [0, 1], let s := fwSt BS.ready
      let c := pf 13 (4096 + 2336 * 2 ^ 64 + v * 2 ^ 96)
      specPartStage.accepts c s ∧ c.fld 0 8 = 4096 ∧ c.fld 8 4 = 2336 ∧ c.fld 12 1 = v ∧ s.dmaFail c.fn 4096 2336 = none ∧
        (pf 13 4096).fld 8 4 ≠ 2336 ∧ specPartStage.accepts (pf 13 4096) s) ∧
    (let s := State.reset
     specFwSvnCommit.accepts (pf 0 0) s ∧ specOwnerKeyFuse.accepts (pf 48 1) s ∧ s.ownerFused = false ∧ s.boot.newOwner = none ∧
       (regs [(Reg.DEV_FUSE_STAT_OWNER_FUSED, 1)]).ownerFused = true) ∧
    (let s := { State.reset with fns := [(0, { bme := true }), (1, { bme := true })] }
     let v : Cmd := { pf 42 (1 * 2 ^ 320) 0 with fn := 1 }
     specAttest.accepts (pf 42 (3 * 2 ^ 320)) s ∧ specAttest.accepts v s ∧ v.fld 40 2 ≠ 0 ∧ v.fn ≠ 0 ∧
       specAttestCert.accepts (pf 8 4096) s ∧ s.twin.capture = false ∧ (∀ n ∈ [0, 464, 31600], s.dmaFail 0 0 n = none) ∧ (s.fnc 0).bme = true ∧ s.dmaBad = []) ∧
    (let s := regs [(Reg.PWR_EVT_TRIP, 1), (Reg.STI_STATUS_TIME_IN_OK, 1), (Reg.DEV_FUSE_STAT_JTAG_DBG_DIS, 0)]
     40000 ≤ s.power.vin ∧ s.timeOut = false ∧ ({ s with power := { on := false, timeIn := true } } : State).timeOut = true ∧ s.alertLow = true ∧ State.reset.alertLow = false ∧ s.rd Reg.PWR_EVT_TRIP ≤ 1 ∧ s.bit Reg.STI_STATUS_TIME_IN_OK = true ∧
       s.bit Reg.DEV_FUSE_STAT_JTAG_DBG_DIS = false ∧ State.reset.bit Reg.DEV_FUSE_STAT_JTAG_DBG_DIS = true ∧ s.rd Reg.DEV_ID_STEPPING = 1) := by
  unfold CmdSpec.accepts
  refine ⟨?_, ?_, ?_, ?_, ?_, ?_, ?_, ?_, ?_⟩
  · decide +kernel
  · decide +kernel
  · decide +kernel
  · decide +kernel
  · decide +kernel
  · decide +kernel
  · decide +kernel
  · decide +kernel
  · decide +kernel

theorem wit_BootSecurityAndSideband_updates :
    (∀ c ∈ [0, 1], let s := regs [(Reg.DEV_BOOT_STAT_STAGE, BS.fwInit), (Reg.DEV_RST_CAUSE_COLD, c)]
      s.stage = BS.fwInit ∧ s.power.on = true ∧ (s.placeSpares []).2 = true ∧ s.bit Reg.DEV_RST_CAUSE_COLD = decide (c = 1)) ∧
    (∀ p ∈ [16, 24], (regs [(Reg.DEV_FEAT_LINK_FABRIC_PORTS, p)]).rd Reg.DEV_FEAT_LINK_FABRIC_PORTS = p) ∧
    (let v : FwJob := ⟨1, 0, 8192, 4097, []⟩
     let s0 := master
     let s := { s0 with boot := { s0.boot with update := some v } }
     s.boot.update = some v ∧ s.power.on = true ∧ s.pending = [] ∧ s.dmaFail v.fn v.at_ v.len = none ∧ s.flashBad = false ∧
       (let d := { s with fns := [] }
        d.dmaFail v.fn v.at_ v.len = some 8192) ∧
       specFwUpdate.accepts (pf 12 (8192 + 4097 * 2 ^ 64)) s ∧ specPartStage.accepts (pf 13 4096) s ∧ specFwSvnCommit.accepts (pf 0 0) s ∧
       specOwnerKeyFuse.accepts (pf 48 1) s) := by
  unfold CmdSpec.accepts; decide +kernel

/-- The update of a program whose digest was taken when it began. -/
theorem wit_BootSecurityAndSideband_digest :
    let v : FwJob := ⟨1, 0, 0, 64, sha384 (imageBytes (master.hostRead 0 64))⟩
    let s := { master with boot := { master.boot with update := some v } }
    s.boot.update = some v ∧ sha384 (imageBytes (s.hostRead v.at_ v.len)) = v.digest := by decide +kernel

/-! ## Witnesses: twins -/

/-- Panel 0 mapped to panel 3 of the twin at coordinate 1, in a state of the pair, with spools 0 and 1 and queue 1. -/
def twSt (tw : Nat) (w : Twin := {}) (sp : Store Spool := []) (l : List (Fld × Nat) := []) (fl : List Flight := []) : State :=
  let s := srvSt {} sp ([(Reg.FAB_TWIN_STAT_STATE, tw), (Reg.FAB_TWIN_STAT_PEER_VALID, 1), (Reg.FAB_TWIN_STAT_PEER_COORD, 1),
    (Reg.FAB_TWIN_PMAP_MIRROR 0, 1), (Reg.FAB_TWIN_PMAP_PEER_PANEL 0, 3), (Reg.GSE_PARK_CFG_PAGES 0, 8), (Reg.LNK_PSTAT_STATE 0, LS.active),
    (Reg.FAB_PORTMAP_ROLE 0, Role.twin), (Reg.FAB_NBR_VALID 0, 1), (Reg.FAB_NBR_COORD 0, 1), (Reg.STI_COUNT_COUNT, 10000)] ++ l)
  { s with twin := w, ports := sset {} s.ports 0 { checked := true }, noc := { flights := fl } }

/-- What the peer reports when every check passes. -/
def peer1 : TwinPeer :=
  { grade := 1, coord := 1, standby := true, panels := [{}, {}, {}, { tenant := 1, qBase := 1, qCount := 1, spoolCount := 2, histPages := 4, parkPages := 8 }] }

/-- A packet of the twin at its agent. -/
def beatPkt (kind last p : Nat) (body : List Byte) : Flight :=
  { pkt := { src := 16384 + epHost 64, op := POp.ctrl, len := 1, payload := bytesOf 16 (kind * 2 ^ 32 + last * 2 ^ 40 + p * 2 ^ 44) ++ body }
    loc := .eject (epHost 64) }

theorem wit_TwinsMirrorAndPromote :
    (∀ t ∈ [TW.unpaired, TW.solo], let s := twSt t
      s.tws = t ∧ s.twin.held = [] ∧ s.pairRefused (some peer1) = none ∧ s.pairRefused none = some 5 ∧
        s.pairRefused (some { peer1 with grade := 2 }) = some 1 ∧ s.pairRefused (some { peer1 with panels := [] }) = some 2 ∧
        s.pairRefused (some { peer1 with standby := false }) = some 5 ∧ s.mappedPanels = [0] ∧ s.spoolOwner 0 = some 0 ∧ s.spoolOwner 2 = none) ∧
    (∀ t ∈ [TW.activeSync, TW.active, TW.standbySync, TW.standby, TW.fenced], let s := twSt t { held := [(0, .bytes 4096 [1])] }
      s.tws = t ∧ s.tws ≠ TW.unpaired ∧ s.paired = true ∧ s.twin.held = [(0, .bytes 4096 [1])] ∧ (twSt t).twin.held = []) ∧
    (let s := twSt TW.standby { panels := [(0, (5, 1, 1, 0))] } [(0, { st := SP.decode, tokens := 5 }), (1, { st := SP.unparking })]
        [(Reg.FAB_TWIN_STAT_MISSES, 3), (Reg.QCFG_CFG_TYPE 1, 1)]
     s.tws = TW.standby ∧ s.rd Reg.FAB_TWIN_STAT_MISSES = 3 ∧ s.mappedPanels = [0] ∧ (s.spool 0).st = SP.decode ∧ (s.spool 1).st = SP.unparking ∧
       s.panelSqs 0 = [1] ∧ (∀ p, p < 16 → s.rd (Reg.PNL_PART_RANGE_Q_BASE p) + s.rd (Reg.PNL_PART_RANGE_Q_COUNT p) ≤ 16384)) ∧
    (∀ k ∈ [1, 8, 9, 0, 15], State.reset.ejected (epHost 64) (fun x => x.op = POp.ctrl && bits (natOf (x.payload.take 16)) 32 8 = k) = none) ∧
    (∀ t ∈ [TW.standby, TW.standbySync], ∀ k ∈ [1, 8, 9], ∀ last ∈ [0, 1], let f := beatPkt k last 3 (bytesOf 48 0)
      let s := twSt t {} [] [] [f]
      s.ejected (epHost 64) (fun x => x.op = POp.ctrl && (1 ≤ bits (natOf (x.payload.take 16)) 32 8 && bits (natOf (x.payload.take 16)) 32 8 ≤ 9))
        = some (0, f) ∧ s.paired = true ∧ s.rd Reg.FAB_TWIN_STAT_PEER_COORD = feidCoord f.pkt.src ∧ s.tws = t ∧
        (natOf (f.pkt.payload.take 16)).testBit 40 = decide (last = 1) ∧ s.twin.group = [] ∧
        s.panelOfPeer (bits (natOf (f.pkt.payload.take 16)) 44 4) = some 0 ∧ (Spool.ofImage (slice (f.pkt.payload.drop 16) 2 128)).st = SP.free ∧
        (Spool.ofImage (bytesOf 128 3)).st ≠ SP.free) ∧
    (∀ a ∈ [0, 1, 2 ^ 32 - 1, 2 ^ 32 - 2], let f := beatPkt 1 1 3 (bytesOf 48 0)
      let s := twSt TW.standby { applied := some a } [] [] [f]
      s.twin.applied = some a ∧ s.twin.ready = [] ∧ s.twin.group = [] ∧ leAt f.pkt.payload 0 4 = 0 ∧ seqLe 0 a = decide (a < 2) ∧
        ((0 : Nat) = (a + 1) % 2 ^ 32 ↔ a = 2 ^ 32 - 1)) ∧
    (let f := beatPkt 1 0 3 (bytesOf 48 0)
     let s := twSt TW.standby { group := [f.pkt.payload] } [] [] [f]
     (∃ r ∈ s.twin.group, recMseq r = leAt f.pkt.payload 0 4) ∧ s.twin.ready = []) ∧
    (∀ t ∈ [TW.active, TW.activeSync, TW.fenced], let f := beatPkt 0 0 0 (bytesOf 48 7)
      let s := twSt t { syncEnd := some 7, held := [(7, .bytes 4096 [1])] } [] [] [f]
      s.ejected (epHost 64) (fun x => x.op = POp.ctrl && bits (natOf (x.payload.take 16)) 32 8 = 0) = some (0, f) ∧ s.paired = true ∧
        s.rd Reg.FAB_TWIN_STAT_PEER_COORD = feidCoord f.pkt.src ∧ s.tws = t ∧ seqLe 7 (leAt f.pkt.payload 16 4) = true) ∧
    (∀ a ∈ [8000, 8001], let g : MirrorGroup := ⟨3, BitVec.ofNat 64 a, false⟩
      let s := twSt TW.active { groups := [g] }
      s.twin.groups.find? (fun g => !g.late) = some g ∧ reached s.now (g.at_ + 2000) = decide (a = 8000) ∧
        (twSt TW.active).twin.groups.find? (fun g => !g.late) = none) ∧
    (∀ t ∈ [TW.active, TW.standby, TW.standbySync], ∀ n ∈ [0, 2, 3], ∀ b ∈ [true, false], ∀ a ∈ [0, 1],
      let s := twSt t { beat := b } [] [(Reg.FAB_TWIN_STAT_MISSES, n), (Reg.FAB_TWIN_CTL_AUTO_PROMOTE, a)]
      s.paired = true ∧ s.multipleDue 10000 s.twin.beatAt = true ∧ s.inTurn Ev.heartbeat = true ∧ s.twin.beat = b ∧ s.rd Reg.FAB_TWIN_STAT_MISSES = n ∧ s.tws = t ∧
        s.bit Reg.FAB_TWIN_CTL_AUTO_PROMOTE = decide (a = 1)) ∧
    (∀ st ∈ [0, 2], let f := beatPkt 15 0 0 (bytesOf 48 st)
      let s := twSt TW.standbySync {} [] [] [f]
      s.ejected (epHost 64) (fun x => x.op = POp.ctrl && bits (natOf (x.payload.take 16)) 32 8 = 15) = some (0, f) ∧ leAt f.pkt.payload 16 1 = st ∧
        s.paired = true ∧ s.rd Reg.FAB_TWIN_STAT_PEER_COORD = feidCoord f.pkt.src) ∧
    (∀ g ∈ [0, 1], let s := engSt {} [(POp.ctrl, bytesOf 16 7 ++ bytesOf 48 (1 + 9 * 2 ^ 64 + g * 2 ^ 192))]
      (s.ejected (epHost 32) (fun k => k.op = POp.ctrl && msgKind k.payload = 7)).isSome = true ∧
        (let b := (bytesOf 16 7 ++ bytesOf 48 (1 + 9 * 2 ^ 64 + g * 2 ^ 192)).drop 16
         leAt b 16 8 = 0 ∧ (leAt b 24 4 = s.rd (Reg.PNL_WGT_GEN_GEN 0) ↔ g = 0) ∧ leAt b 0 8 % 1024 = 1 ∧
           s.rd (Reg.PNL_WGT_STATE_HEAD_COORD 0) ≠ 1) ∧
        (engSt {} []).ejected (epHost 32) (fun k => k.op = POp.ctrl && msgKind k.payload = 7) = none) := by
  refine ⟨?_, ?_, ?_, ?_, ?_, ?_, ?_, ?_, ?_, ?_, ?_, ?_⟩
  · decide +kernel
  · decide +kernel
  · decide +kernel
  · decide +kernel
  · decide +kernel
  · decide +kernel
  · decide +kernel
  · decide +kernel
  · decide +kernel
  · decide +kernel
  · decide +kernel
  · decide +kernel

theorem wit_TwinsMirrorAndPromote_beatsAndShadow :
    (let s := twSt TW.active { beatAt := some 10000 }
     s.twin.beatAt = some 10000 ∧ s.multipleDue 10000 s.twin.beatAt = false ∧ (twSt TW.active { beatAt := some 0 }).multipleDue 10000 (some 0) = true) ∧
    (let s := twSt TW.standby { panels := [(0, (5, 1, 1, 0))] } [] [(Reg.FAB_TWIN_STAT_MISSES, 3), (Reg.PNL_WGT_GEN_GEN 0, 2)]
     s.tws = TW.standby ∧ s.wst 0 = WS.ready ∧ s.rd (Reg.PNL_WGT_GEN_GEN 0) ≠ (sget (0, 0, 0, 0) s.twin.panels 0).2.1) := by decide +kernel

/-! ## Witnesses: debug and replay -/

/-- Panel 0 in a state, its step on tile 0 at step cycle 5, with the PF authorised or not. -/
def dbgSt (st auth : Nat) (pn : Panel := {}) (l : List (Fld × Nat) := []) (x : Tile := { run := true, cy := 5 }) : State :=
  let s := master (regs (part 0 (2 ^ 32 - 1) st ++ [(Reg.DBG_AUTH_STAT_PF_AUTH, auth)] ++ l))
  { s with panels := sset {} s.panels 0 { pn with run := some { startIn := 0, tiles := [0] } }, tiles := sset {} s.tiles 0 x }

/-- A spool image of two tokens and generation 5, and a panel whose replay spool 0 has `n` tokens and position 1. -/
def repImage : List Byte := bytesOf 128 (1 + 2 * 2 ^ 64 + 5 * 2 ^ 320)

def repSt (n : Nat) (l : List (Fld × Nat) := []) : State :=
  let s := srvSt { tok := some byteTok, buckets := [(0, some srvBucket)] } [(0, { st := SP.admitted, tokens := n, replayPos := some 1 })]
    ([(Reg.DBG_PNL_CTL_REPLAY 0, 1), (Reg.DBG_AUTH_STAT_PF_AUTH, 1), (Reg.PNL_WGT_GEN_GEN 0, 5)] ++ l)
  { s with hostMem := ssetList 0 [] 4096 repImage }

theorem wit_DebugAndReplay :
    (∀ a ∈ [0, 1], let s := dbgSt PS.running 0 {} [(Reg.PNL_PART_CFG_ADMIN_DEBUG 0, a)]
      specDbgAuth.accepts (pf 0 0 0) s ∧ specDbgDeauth.accepts (pf 0 0 0) s ∧ (pf 0 0 0).pnl = some 0 ∧ s.unmirrored (pf 0 0 0) = true ∧
        s.pst 0 ≠ PS.empty ∧ s.bit (Reg.PNL_PART_CFG_ADMIN_DEBUG 0) = decide (a = 1) ∧ s.authFor 0 0 = false ∧
        specDbgAuth.check { pf 0 0 0 with fn := 1 } s = St.OK) ∧
    (let s := dbgSt PS.running 0
     specDbgHalt.accepts (pf 16 0 0) s ∧ specDbgResume.accepts (pf 16 0 0) s ∧ specReplaySet.accepts (pf 1 0 0) s ∧
       specReplayInject.accepts (pf 12 0 0) s ∧ specReplayRun.accepts (pf 42 0 0) s) ∧
    (∀ h ∈ [0, 1], let s := dbgSt PS.running 1 {} [(Reg.DBG_PNL_STAT_HALTED 0, h)]
      s.authFor 0 0 = true ∧ s.isLive 0 = true ∧ s.bit (Reg.DBG_PNL_STAT_HALTED 0) = decide (h = 1) ∧ (s.panel 0).haltJob = none ∧ s.runTiles 0 = [0] ∧
        1 < (pf 16 2 0).fld 0 1 ∧ specDbgHalt.accepts (pf 16 2 0) s ∧ 2 ^ 40 ≤ (pf 16 (2 ^ 104) 0).fld 8 8 ∧ s.maxCy 0 = 5 ∧ s.jobs = [] ∧
        specDbgHalt.accepts (pf 16 (1 + 5 * 2 ^ 64) 0) s ∧ s.maxCy 0 ≤ (pf 16 (1 + 5 * 2 ^ 64) 0).fld 8 8 ∧
        (pf 16 (1 + 4 * 2 ^ 64) 0).fld 8 8 < s.maxCy 0 ∧ (pf 16 (1 + 5 * 2 ^ 64) 0).fld 0 1 = 1) ∧
    (dbgSt PS.stopped 1).isLive 0 = false ∧
    (let s := pnlSt PS.running
     specDbgSnap.accepts (pf 8 4096 0) s ∧ (pf 8 4096 0).fld 0 8 = 4096 ∧ (s.fnc 0).bme = true ∧ s.dmaBad = [] ∧ s.dmaFail 0 4096 33000 = none) ∧
    (let s := pnlSt PS.stopped [(Reg.DBG_AUTH_STAT_PF_AUTH, 1)]
     specReplaySet.accepts (pf 1 1 0) s ∧ specReplaySet.accepts (pf 1 2 0) s ∧ s.authFor 0 0 = true ∧ s.pst 0 = PS.stopped ∧
       1 < (pf 1 2 0).fld 0 1 ∧ (pf 1 1 0).fld 0 1 = 1 ∧ (pf 1 0 0).fld 0 1 = 0 ∧ (s.serve 0).replay = none ∧
       (dbgSt PS.running 1).pst 0 ≠ PS.stopped ∧ s.follower 0 = false ∧ s.bit (Reg.DBG_PNL_CTL_REPLAY 0) = false ∧
       specReplayInject.accepts (pf 12 0 0) s ∧ specReplayRun.accepts (pf 42 0 0) s) ∧
    (let s := repSt 3
     specReplayInject.accepts (pf 12 4096 0) s ∧ s.authFor 0 0 = true ∧ s.follower 0 = false ∧ s.bit (Reg.DBG_PNL_CTL_REPLAY 0) = true ∧
       (s.fnc 0).bme = true ∧ s.dmaBad = [] ∧ s.hostRead 4096 128 = repImage ∧ (Spool.ofImage repImage).generation = 5 ∧
       (Spool.ofImage repImage).tokens = 2 ∧ s.rd (Reg.PNL_WGT_GEN_GEN 0) = 5 ∧ (pf 12 (4096 + 2 * 2 ^ 64) 0).fld 8 4 = 2 ∧
       (pf 12 (4096 + 2 ^ 64) 0).fld 8 4 < 2 ∧ s.freeSpool 0 = some 1 ∧ s.histFree 0 0 2 = true ∧
       (repSt 3 [(Reg.PNL_WGT_GEN_GEN 0, 4)]).rd (Reg.PNL_WGT_GEN_GEN 0) ≠ 5) ∧
    (∀ n ∈ [1, 2], let s := repSt n
      let c := pf 42 (5 * 2 ^ 64 + 2 ^ 128) 0
      let s1 := s.updSpool 0 (fun x => { x with home := some (c.fld 4 2 % max 1 (s.groups 0)) })
      specReplayRun.accepts c s ∧ c.fld 0 2 = 0 ∧ s.spoolOwner 0 = some 0 ∧ (s.spool 0).st ≠ SP.free ∧ (s.spool 0).replayPos = some 1 ∧
        c.fld 40 1 = 0 ∧ (s.spool 0).home = none ∧ s.dmaFail 0 0 0 = none ∧ s1.replayOk 0 0 1 c [] = true ∧
        (1 + c.fld 16 4 ≤ (s.spool 0).tokens ↔ n = 2) ∧ specReplayRun.accepts (pf 42 (65 * 2 ^ 320) 0) s ∧
        64 < (pf 42 (65 * 2 ^ 320) 0).fld 40 1) ∧
    (∀ cy ∈ [5, 4], let x : Tile := { run := true, cy := cy }
      let s := dbgSt PS.running 1 { haltAt := some 5 } [(Reg.DBG_PNL_STAT_HALT_ARMED 0, 1), (Reg.DBG_PNL_STAT_HALT_AT 0, 5)] x
      State.reset.panelOfTile 0 = none ∧ s.panelOfTile 0 = some 0 ∧ s.bit (Reg.DBG_PNL_STAT_HALT_ARMED 0) = true ∧ s.isLive 0 = true ∧
        s.runTiles 0 = [0] ∧ (s.tile 0).run = true ∧ (s.tile 0).halted = false ∧ (s.rd (Reg.DBG_PNL_STAT_HALT_AT 0) ≤ (s.tile 0).cy ↔ cy = 5) ∧
        s.replaying 0 = none ∧ (s.panel 0).haltAt = some (s.rd (Reg.DBG_PNL_STAT_HALT_AT 0))) ∧
    (let s0 := dbgSt PS.running 1 { haltAt := some 5 } [(Reg.DBG_PNL_STAT_HALT_ARMED 0, 1), (Reg.DBG_PNL_STAT_HALT_AT 0, 5)]
     let s := { s0 with panels := sset {} s0.panels 0 { run := some { startIn := 0, tiles := [0, 1] } } }
     s.runTiles 0 = [0, 1] ∧ (s.tile 1).halted = false) := by
  unfold CmdSpec.accepts
  refine ⟨?_, ?_, ?_, ?_, ?_, ?_, ?_, ?_, ?_, ?_⟩
  · decide +kernel
  · decide +kernel
  · decide +kernel
  · decide +kernel
  · decide +kernel
  · decide +kernel
  · decide +kernel
  · decide +kernel
  · decide +kernel
  · decide +kernel

/-! ## Witnesses: the invariant -/

theorem wit_EveryStepKeepsTheStoresCanonical : State.reset.Canon ∧ ∃ t : State, step State.reset = .next t :=
  ⟨by constructor <;> first | exact trivial | exact ⟨trivial, by decide⟩, _, rfl⟩

end Sys2Proof.Tests
end

section
/-! PROOF. The stitch count and STITCH_SET (R25). -/

namespace Sys2Proof.Machine

/-! ### What a step of the count leaves -/

section
variable (s : State) (v d : W64)

@[simp] theorem State.moveStamps_rd (f : Fld) : (s.moveStamps d).rd f = s.rd f := rfl
@[simp] theorem State.moveStamps_bobs : (s.moveStamps d).bobs = s.bobs := rfl
@[simp] theorem State.moveStamps_panels : (s.moveStamps d).panels = s.panels := rfl
@[simp] theorem State.moveStamps_hostMem : (s.moveStamps d).hostMem = s.hostMem := rfl
@[simp] theorem State.moveStamps_pending : (s.moveStamps d).pending = s.pending := rfl

@[simp] theorem State.stepCount_now : (s.stepCount v).now = v := by
  have hw : 2 ^ Reg.STI_COUNT_COUNT.w = 2 ^ 64 := rfl
  rw [State.stepCount, State.now, State.wr_rd_same, hw, Nat.mod_eq_of_lt v.isLt, BitVec.ofNat_toNat, BitVec.setWidth_eq]

theorem State.stepCount_regsBut : RegsBut [Reg.STI_COUNT_COUNT] s (s.stepCount v) := by
  intro f hf
  rw [State.stepCount, State.wr_rd_ne (h := hf _ List.mem_cons_self), State.moveStamps_rd]

@[simp] theorem State.stepCount_bobs : (s.stepCount v).bobs = s.bobs := by simp [State.stepCount]
@[simp] theorem State.stepCount_panels : (s.stepCount v).panels = s.panels := by simp [State.stepCount]
@[simp] theorem State.stepCount_hostMem : (s.stepCount v).hostMem = s.hostMem := by simp [State.stepCount]
@[simp] theorem State.stepCount_pending : (s.stepCount v).pending = s.pending := by simp [State.stepCount]
end

/-! ### STITCH_SET -/

/-- Where R25 lets the count be written: a master in FREERUN with no stitch-scheduled event armed. -/
def State.countSettable (s : State) : Prop :=
  s.rd Reg.STI_CTL_ROLE = 1 ∧ s.rd Reg.STI_STATUS_STATE = SS.freerun ∧ s.stitchArmed = false

/-- Taking a command writes no register, so ROLE and STATE may be read before it. -/
theorem CmdSpec.begun_countSettable_iff {k : CmdSpec} {c : Cmd} {s : State} :
    (k.begun c s).countSettable ↔
      s.rd Reg.STI_CTL_ROLE = 1 ∧ s.rd Reg.STI_STATUS_STATE = SS.freerun ∧ (k.begun c s).stitchArmed = false := by
  rw [State.countSettable, CmdSpec.begun_rd, CmdSpec.begun_rd]

theorem specStitchSet_body_of_countSettable {j : Job} {s : State} (h : s.countSettable) :
    specStitchSet.body j s = (s.stepCount (BitVec.ofNat 64 (j.cmd.fld 0 8))).complete j St.OK := by
  obtain ⟨hrole, hfree, harmed⟩ := h
  simp [specStitchSet, hrole, hfree, harmed]

theorem specStitchSet_body_of_not_countSettable {j : Job} {s : State} (h : ¬ s.countSettable) :
    specStitchSet.body j s = s.complete j St.STITCH_SET_REFUSED := by
  have hguard : ¬ ((s.rd Reg.STI_CTL_ROLE = 1 && s.rd Reg.STI_STATUS_STATE = 0 && !s.stitchArmed) = true) := by
    simpa [State.countSettable, and_assoc] using h
  exact if_neg hguard

/-- An accepted STITCH_SET has the effect of its body on the state with its job taken (R423 to R425). -/
theorem exec_stitchSet_of_accepts {c : Cmd} {s : State} (h : specStitchSet.accepts c s) :
    exec (.stitchSet c) s = .next (specStitchSet.body (specStitchSet.job c s) (specStitchSet.begun c s)) :=
  congrArg Host.Outcome.next (CmdSpec.perform_of_accepts h)

/-- Settles O4: what the body of STITCH_SET does where R25 lets the count be written, and where not. -/
theorem stitchSetNeedsAFreerunMaster : Obligations.StitchSetNeedsAFreerunMaster := by
  intro c s hacc j b
  have hexec : exec (.stitchSet c) s = .next (specStitchSet.body j b) := exec_stitchSet_of_accepts hacc
  constructor
  · intro hset
    refine ⟨b.stepCount (BitVec.ofNat 64 (c.fld 0 8)), ?_, b.stepCount_now _, rfl, b.stepCount_regsBut _,
      b.stepCount_bobs _, b.stepCount_panels _, b.stepCount_hostMem _, b.stepCount_pending _⟩
    rw [hexec, specStitchSet_body_of_countSettable (CmdSpec.begun_countSettable_iff.mpr hset), CmdSpec.job_cmd]
  · intro hset
    rw [hexec, specStitchSet_body_of_not_countSettable (mt CmdSpec.begun_countSettable_iff.mp hset)]

end Sys2Proof.Machine
end

section
/-! PROOF. The fault log as a ring, and the host's write of its TAIL (R298, R299, R407). -/

namespace Sys2Proof.Machine

/-! ### What a signal does -/

theorem mem_nins_self (i : Nat) (l : List Nat) : i ∈ nins i l := by
  induction l with
  | nil => exact List.mem_cons_self
  | cons k r ih =>
    unfold nins
    split
    · exact List.mem_cons_self
    · split
      · next hik => exact hik ▸ List.mem_cons_self
      · exact List.mem_cons_of_mem _ ih

section
variable (s : State) (fn v : Nat)

theorem State.signal_of_unmasked (hon : (s.fnc fn).msixOn = true) (hv : v ∈ (s.fnc fn).unmasked) :
    s.signal fn v = s.emit (.msix fn v) :=
  if_pos (by simp [hon, hv])

theorem State.signal_of_masked (h : (s.fnc fn).msixOn = false ∨ v ∉ (s.fnc fn).unmasked) :
    s.signal fn v = s.setFn fn { s.fnc fn with pend := nins v (s.fnc fn).pend } :=
  if_neg (by
    rw [Bool.and_eq_true, List.contains_iff_mem]
    rintro ⟨hon, hv⟩
    rcases h with hoff | hmask
    · exact Bool.false_ne_true (hoff.symm.trans hon)
    · exact hmask hv)
end

/-! ### Writing an entry -/

section
variable (s : State) (code : Code) (p : Option Nat) (d0 d1 : W64)

/-- The entry that the log takes next: SEQ is HEAD, STITCH the count (R298). -/
def State.nextEntry : LogEntry := ⟨code, p, s.rd Reg.INT_FLOG_HEAD_SEQ, s.now, d0, d1⟩

/-- The part of a log write that is the same however full the ring is: the entry at index SEQ mod 4,096, and HEAD advanced (R299). -/
def State.putEntry : State :=
  { s with integ := { s.integ with
      log := sset ⟨0, none, 0, 0, 0, 0⟩ s.integ.log (s.rd Reg.INT_FLOG_HEAD_SEQ % 4096) (s.nextEntry code p d0 d1) } }.wrap
    Reg.INT_FLOG_HEAD_SEQ 1

@[simp] theorem State.putEntry_log : (s.putEntry code p d0 d1).integ.log =
    sset ⟨0, none, 0, 0, 0, 0⟩ s.integ.log (s.rd Reg.INT_FLOG_HEAD_SEQ % 4096) (s.nextEntry code p d0 d1) := rfl
@[simp] theorem State.putEntry_out : (s.putEntry code p d0 d1).out = s.out := rfl
@[simp] theorem State.putEntry_fns : (s.putEntry code p d0 d1).fns = s.fns := rfl
@[simp] theorem State.putEntry_fnc (f : Nat) : (s.putEntry code p d0 d1).fnc f = s.fnc f := rfl

@[simp] theorem State.putEntry_head :
    (s.putEntry code p d0 d1).rd Reg.INT_FLOG_HEAD_SEQ = (s.rd Reg.INT_FLOG_HEAD_SEQ + 1) % 2 ^ 32 :=
  State.wrap_rd_same _ _ _

@[simp] theorem State.putEntry_tail : (s.putEntry code p d0 d1).rd Reg.INT_FLOG_TAIL_SEQ = s.rd Reg.INT_FLOG_TAIL_SEQ :=
  State.wrap_rd_ne _ _ _ _ (by decide)

@[simp] theorem State.putEntry_lost : (s.putEntry code p d0 d1).rd Reg.INT_FLOG_STAT_LOST = s.rd Reg.INT_FLOG_STAT_LOST :=
  State.wrap_rd_ne _ _ _ _ (by decide)

/-- What a full ring does besides: TAIL pushed on, and the overwritten entry counted as lost (R299). -/
def State.pushTail : State := (s.wrap Reg.INT_FLOG_TAIL_SEQ 1).stick Reg.INT_FLOG_STAT_LOST 1

@[simp] theorem State.pushTail_integ : s.pushTail.integ = s.integ := rfl
@[simp] theorem State.pushTail_out : s.pushTail.out = s.out := rfl
@[simp] theorem State.pushTail_fns : s.pushTail.fns = s.fns := rfl

@[simp] theorem State.pushTail_head : s.pushTail.rd Reg.INT_FLOG_HEAD_SEQ = s.rd Reg.INT_FLOG_HEAD_SEQ := by
  rw [State.pushTail, State.stick_rd_ne _ _ _ _ (by decide), State.wrap_rd_ne _ _ _ _ (by decide)]

@[simp] theorem State.pushTail_tail : s.pushTail.rd Reg.INT_FLOG_TAIL_SEQ = (s.rd Reg.INT_FLOG_TAIL_SEQ + 1) % 2 ^ 32 := by
  rw [State.pushTail, State.stick_rd_ne _ _ _ _ (by decide)]
  exact State.wrap_rd_same _ _ _

@[simp] theorem State.pushTail_lost :
    s.pushTail.rd Reg.INT_FLOG_STAT_LOST = min (s.rd Reg.INT_FLOG_STAT_LOST + 1) (2 ^ 32 - 1) := by
  rw [State.pushTail, State.stick_rd_same, State.wrap_rd_ne _ _ _ _ (by decide)]
  rfl

theorem State.log_of_empty (h : s.logUsed = 0) : s.log code p d0 d1 = (s.putEntry code p d0 d1).signal 0 0 := by
  simp [State.log, h, State.putEntry, State.nextEntry]

theorem State.log_of_room (h0 : s.logUsed ≠ 0) (h : s.logUsed < 4096) : s.log code p d0 d1 = s.putEntry code p d0 d1 := by
  simp [State.log, h0, Nat.not_le.mpr h, State.putEntry, State.nextEntry]

theorem State.log_of_full (h : 4096 ≤ s.logUsed) : s.log code p d0 d1 = (s.putEntry code p d0 d1).pushTail := by
  have h0 : s.logUsed ≠ 0 := by omega
  simp [State.log, h0, h, State.pushTail, State.putEntry, State.nextEntry]

/-- Writing an entry into an empty ring signals; into one with room it does no more; into a full one it pushes TAIL on (R299). -/
theorem State.log_cases :
    (s.logUsed = 0 ∧ s.log code p d0 d1 = (s.putEntry code p d0 d1).signal 0 0) ∨
    (s.logUsed ≠ 0 ∧ s.logUsed < 4096 ∧ s.log code p d0 d1 = s.putEntry code p d0 d1) ∨
    (4096 ≤ s.logUsed ∧ s.log code p d0 d1 = (s.putEntry code p d0 d1).pushTail) := by
  by_cases h0 : s.logUsed = 0
  · exact .inl ⟨h0, s.log_of_empty code p d0 d1 h0⟩
  · rcases Nat.lt_or_ge s.logUsed 4096 with h | h
    · exact .inr (.inl ⟨h0, h, s.log_of_room code p d0 d1 h0 h⟩)
    · exact .inr (.inr ⟨h, s.log_of_full code p d0 d1 h⟩)

/-- However full the ring is, the store of entries changes as `putEntry` says. -/
theorem State.log_entries : (s.log code p d0 d1).integ.log =
    sset ⟨0, none, 0, 0, 0, 0⟩ s.integ.log (s.rd Reg.INT_FLOG_HEAD_SEQ % 4096) (s.nextEntry code p d0 d1) := by
  obtain ⟨-, e⟩ | ⟨-, -, e⟩ | ⟨-, e⟩ := s.log_cases code p d0 d1 <;> rw [e] <;> simp

theorem State.log_entry_same :
    sget ⟨0, none, 0, 0, 0, 0⟩ (s.log code p d0 d1).integ.log (s.rd Reg.INT_FLOG_HEAD_SEQ % 4096) = s.nextEntry code p d0 d1 := by
  rw [s.log_entries, sget_sset_same]

theorem State.log_entry_ne (k : Nat) (hk : k ≠ s.rd Reg.INT_FLOG_HEAD_SEQ % 4096) :
    sget ⟨0, none, 0, 0, 0, 0⟩ (s.log code p d0 d1).integ.log k = sget ⟨0, none, 0, 0, 0, 0⟩ s.integ.log k := by
  rw [s.log_entries, sget_sset_ne _ _ _ _ hk]

theorem State.log_head : (s.log code p d0 d1).rd Reg.INT_FLOG_HEAD_SEQ = (s.rd Reg.INT_FLOG_HEAD_SEQ + 1) % 2 ^ 32 := by
  obtain ⟨-, e⟩ | ⟨-, -, e⟩ | ⟨-, e⟩ := s.log_cases code p d0 d1 <;> rw [e] <;> simp

theorem State.log_keeps_tail_and_lost (h : s.logUsed < 4096) :
    (s.log code p d0 d1).rd Reg.INT_FLOG_TAIL_SEQ = s.rd Reg.INT_FLOG_TAIL_SEQ ∧
      (s.log code p d0 d1).rd Reg.INT_FLOG_STAT_LOST = s.rd Reg.INT_FLOG_STAT_LOST := by
  obtain ⟨-, e⟩ | ⟨-, -, e⟩ | ⟨hfull, -⟩ := s.log_cases code p d0 d1
  · rw [e]; simp
  · rw [e]; simp
  · omega

theorem State.log_pushes_tail_of_full (h : 4096 ≤ s.logUsed) :
    (s.log code p d0 d1).rd Reg.INT_FLOG_TAIL_SEQ = (s.rd Reg.INT_FLOG_TAIL_SEQ + 1) % 2 ^ 32 ∧
      (s.log code p d0 d1).rd Reg.INT_FLOG_STAT_LOST = min (s.rd Reg.INT_FLOG_STAT_LOST + 1) (2 ^ 32 - 1) := by
  rw [s.log_of_full code p d0 d1 h]
  simp

theorem State.log_silent_of_nonempty (h : s.logUsed ≠ 0) :
    (s.log code p d0 d1).out = s.out ∧ (s.log code p d0 d1).fns = s.fns := by
  obtain ⟨hempty, -⟩ | ⟨-, -, e⟩ | ⟨-, e⟩ := s.log_cases code p d0 d1
  · exact absurd hempty h
  · rw [e]; simp
  · rw [e]; simp

theorem State.log_sends_of_empty (h : s.logUsed = 0) (hon : (s.fnc 0).msixOn = true) (hv : 0 ∈ (s.fnc 0).unmasked) :
    (s.log code p d0 d1).out = s.out ++ [.msix 0 0] ∧ (s.log code p d0 d1).fns = s.fns := by
  rw [s.log_of_empty code p d0 d1 h, State.signal_of_unmasked (s.putEntry code p d0 d1) 0 0 hon hv]
  simp

theorem State.log_pends_of_empty (h : s.logUsed = 0) (hmask : (s.fnc 0).msixOn = false ∨ 0 ∉ (s.fnc 0).unmasked) :
    (s.log code p d0 d1).out = s.out ∧ 0 ∈ ((s.log code p d0 d1).fnc 0).pend := by
  rw [s.log_of_empty code p d0 d1 h, State.signal_of_masked (s.putEntry code p d0 d1) 0 0 hmask]
  simp [mem_nins_self]
end

/-! ### The host's write of TAIL -/

/-- The access of all 8 bytes of INT_FLOG_TAIL by the physical function. -/
def tailAccess : RegAccess := { off := 0x3000008 }

theorem regFields_flogTail : regFields 0 0x3000008 = [Reg.INT_FLOG_TAIL_SEQ] := by decide +kernel

/-- All 8 bytes are written, so nothing of the old TAIL is left in the new one (R6). -/
theorem bits_merge_tailAccess (old : Nat) (v : W64) : bits (tailAccess.merge old v.toNat) 0 32 = v.toNat % 2 ^ 32 := by
  have hlo : tailAccess.lo = 0 := rfl
  have hwidth : tailAccess.width = 64 := rfl
  simp only [bits, RegAccess.merge, hlo, hwidth]
  omega

section
variable (s : State)

theorem State.target_tailAccess (h : s.stage ≠ BS.waitPush) : s.target tailAccess = .reg 0x3000008 false := by
  simp [State.target, tailAccess, pfBar0, within, h]

theorem State.writeReg_flogTail (v : Nat) : s.writeReg 0 0x3000008 tailAccess v = s.writeTail tailAccess v := by
  have hshown : s.shown 0 0x3000008 = some 0 := rfl
  have htouch : tailAccess.touches Reg.INT_FLOG_TAIL_SEQ = true := by decide
  have hacc : Reg.INT_FLOG_TAIL_SEQ.acc = .rw := rfl
  simp [State.writeReg, hshown, regFields_flogTail, htouch, hacc, State.deadMargin, State.deadPort, configPanel, within]

theorem exec_registerWrite_tailAccess (v : W64) (hr : s.reachable 0 = true) (hs : s.stage ≠ BS.waitPush) :
    exec (.registerWrite tailAccess v) s = .next (s.writeTail tailAccess v.toNat) := by
  have hok : tailAccess.ok = true := by decide
  have hfn : tailAccess.fn = 0 := rfl
  rw [← s.writeReg_flogTail]
  change execRegisterWrite tailAccess v s = _
  simp [execRegisterWrite, hfn, hr, hok, s.target_tailAccess hs]

/-- R299's bounds of TAIL: from HEAD − 4,096 to HEAD. -/
theorem State.writeTail_of_inRange (v : W64) (h : (s.rd Reg.INT_FLOG_HEAD_SEQ + 2 ^ 32 - v.toNat % 2 ^ 32) % 2 ^ 32 ≤ 4096) :
    s.writeTail tailAccess v.toNat = s.wr Reg.INT_FLOG_TAIL_SEQ (v.toNat % 2 ^ 32) := by
  have htouch : tailAccess.touches Reg.INT_FLOG_TAIL_SEQ = true := by decide
  simp only [State.writeTail, bits_merge_tailAccess, htouch, h, decide_true, Bool.and_self, if_true]

theorem State.writeTail_of_outOfRange (v : W64)
    (h : ¬ (s.rd Reg.INT_FLOG_HEAD_SEQ + 2 ^ 32 - v.toNat % 2 ^ 32) % 2 ^ 32 ≤ 4096) : s.writeTail tailAccess v.toNat = s := by
  simp only [State.writeTail, bits_merge_tailAccess, h, decide_false, Bool.and_false, Bool.false_eq_true, if_false]
end

/-- Settles O32: the cases of an empty ring, of one with room and of a full one, and the two cases of the host's TAIL. -/
theorem faultLogKeepsTheNewest : Obligations.FaultLogKeepsTheNewest := by
  constructor
  · intro s code p d0 d1
    exact fun _ _ => ⟨s.log_entry_same code p d0 d1, s.log_entry_ne code p d0 d1, s.log_head code p d0 d1,
      s.log_keeps_tail_and_lost code p d0 d1, s.log_pushes_tail_of_full code p d0 d1, s.log_rd_ne code p d0 d1,
      s.log_silent_of_nonempty code p d0 d1,
      fun hempty => ⟨s.log_sends_of_empty code p d0 d1 hempty, s.log_pends_of_empty code p d0 d1 hempty⟩⟩
  · intro v s hreach hstage t ok
    have hexec := exec_registerWrite_tailAccess s v hreach hstage
    constructor
    · intro hok
      rw [s.writeTail_of_inRange v hok] at hexec
      refine ⟨s.wr Reg.INT_FLOG_TAIL_SEQ t, hexec, ?_, ?_, s.wr_frame _ _⟩
      · exact (s.wr_rd_same _ _).trans (Nat.mod_mod _ _)
      · exact fun f hf => s.wr_rd_ne _ _ _ (hf _ List.mem_cons_self)
    · intro hok
      rwa [s.writeTail_of_outOfRange v hok] at hexec

end Sys2Proof.Machine
end
